-- ==== Sys2Proof/Word.lean ====
section
/-! DEFINITION. Words of the module: bytes, 32-bit register words, the place of a register field in a page, and the access codes of R8. -/

namespace Sys2Proof

/-- One byte. -/
abbrev Byte := BitVec 8

/-- One register word of W0 (R400: naturally aligned 4-byte accesses). -/
abbrev Word := BitVec 32

/-- A master identity (R398, R402, R429 and the identity table of the first-error captures). -/
abbrev Master := BitVec 16

/-- Where a register field lies in its page: byte offset of the first copy of its register, highest and lowest bit,
and the distance between copies (0 where the page holds one). -/
structure Field where
  off : Nat
  hi : Nat
  lo : Nat
  stride : Nat
deriving DecidableEq, Repr

/-- The access codes of register fields (R8). -/
inductive Access where
  | ro | rw | w1c | w1s | wo | rwl | rwp
deriving DecidableEq, Repr

/-- One row of a page's register table: the field, how many copies the page holds, its access code, its reset value
(before the page-dependent values), and whether it is staged (R480) or writable only while its unit is idle. -/
structure FieldRow where
  fld : Field
  count : Nat
  acc : Access
  reset : Nat
  staged : Bool
  idle : Bool
deriving DecidableEq, Repr

end Sys2Proof
end

