-- ==== Sys2Proof/Machine/Bits.lean ====
section
/-! DEFINITION. Bit fields of words, signed readings, byte order, sparse tables and small arithmetic used by every block. -/

namespace Sys2Proof.Machine

/-! ### Fields of a register word -/

/-- The mask of bits hi to lo of a word. -/
def maskOf (hi lo : Nat) : Word := BitVec.ofNat 32 ((2 ^ (hi + 1 - lo) - 1) <<< lo)

/-- Bits hi to lo of a word, as a number. -/
def bitsOf (w : Word) (hi lo : Nat) : Nat := (w.toNat >>> lo) % 2 ^ (hi + 1 - lo)

/-- A word with bits hi to lo replaced by v, taken modulo the field's width. -/
def putBits (w : Word) (hi lo v : Nat) : Word :=
  (w &&& ~~~ maskOf hi lo) ||| (BitVec.ofNat 32 (v <<< lo) &&& maskOf hi lo)

/-- Bit i of a number. -/
def bitAt (n i : Nat) : Bool := n.testBit i

/-- 1 for true, 0 for false. -/
def b2n (b : Bool) : Nat := if b then 1 else 0

/-- A number with bit i set to b. -/
def putBit (n i : Nat) (b : Bool) : Nat :=
  if b then n ||| (1 <<< i) else n - (n &&& (1 <<< i))

/-- The signed reading of the low w bits of a number. -/
def signed (w n : Nat) : Int :=
  let m := n % 2 ^ w
  if m < 2 ^ (w - 1) then (m : Int) else (m : Int) - (2 ^ w : Nat)

/-- The w-bit two's complement code of an integer. -/
def unsignedOf (w : Nat) (z : Int) : Nat := (z % (2 ^ w : Nat)).toNat

/-- An integer clamped to a range. -/
def clampI (lo hi z : Int) : Int := if z < lo then lo else if hi < z then hi else z

/-- A number clamped to a range. -/
def clampN (lo hi n : Nat) : Nat := if n < lo then lo else if hi < n then hi else n

/-- The saturating w-bit signed code of an integer. -/
def satSigned (w : Nat) (z : Int) : Nat :=
  unsignedOf w (clampI (-(2 ^ (w - 1) : Nat)) ((2 ^ (w - 1) : Nat) - 1) z)

/-- Division rounded to the nearest integer, halves up. -/
def roundHalfUp (num : Int) (den : Nat) : Int := (2 * num + den) / (2 * den)

/-- Division rounded up. -/
def ceilDiv (a b : Nat) : Nat := (a + b - 1) / b

/-- The list 0 to n − 1 for which p holds. -/
def below (n : Nat) (p : Nat → Bool) : List Nat := (List.range n).filter p

/-- Apply f for each of 0 to n − 1 in order. -/
def forN {α : Type} (n : Nat) (f : Nat → α → α) (a : α) : α := (List.range n).foldl (fun x i => f i x) a

/-! ### Byte order: every field of the manual's records is little-endian. -/

/-- The number a little-endian list of bytes spells. -/
def ofLE : List Byte → Nat
  | [] => 0
  | b :: bs => b.toNat + 256 * ofLE bs

/-- The n little-endian bytes of a number. -/
def toLE : Nat → Nat → List Byte
  | 0, _ => []
  | n + 1, v => BitVec.ofNat 8 v :: toLE n (v / 256)

/-- The little-endian number at offset o of n bytes in a record. -/
def fieldLE (bs : List Byte) (o n : Nat) : Nat := ofLE ((bs.drop o).take n)

/-! ### Sparse tables

A table lists only the keys whose value differs from what an unlisted key reads as, in strictly rising order. -/

/-- A sparse table. -/
abbrev Tab (α : Type) := List (Nat × α)

/-- What a table holds at a key; d gives what an unlisted key reads as. -/
def tget {α : Type} (d : Nat → α) : Tab α → Nat → α
  | [], k => d k
  | (k', v) :: t, k => if k = k' then v else tget d t k

/-- A table with an entry put at a key, keeping the order. -/
def tput {α : Type} : Tab α → Nat → α → Tab α
  | [], k, v => [(k, v)]
  | (k', v') :: t, k, v =>
    if k = k' then (k, v) :: t else if k < k' then (k, v) :: (k', v') :: t else (k', v') :: tput t k v

/-- A table without any entry at a key. -/
def tdel {α : Type} (t : Tab α) (k : Nat) : Tab α := t.filter fun e => e.1 ≠ k

/-- A table with a value written at a key; writing what an unlisted key reads as removes the entry. -/
def tset {α : Type} [DecidableEq α] (d : Nat → α) (t : Tab α) (k : Nat) (v : α) : Tab α :=
  if v = d k then tdel t k else tput t k v

/-- The canonical form: keys strictly rising, no entry equal to what an unlisted key reads as. -/
def twf {α : Type} [DecidableEq α] (d : Nat → α) : Tab α → Bool
  | [] => true
  | (k, v) :: t => decide (v ≠ d k) && t.all (fun e => decide (k < e.1)) && twf d t

/-! ### CRC-32C (R88): polynomial 0x1EDC_6F41 reflected, all ones at the start, inverted at the end. -/

/-- One bit of the reflected CRC-32C register. -/
def crcBit (c : Nat) : Nat := if c % 2 = 1 then (c / 2) ^^^ 0x82F63B78 else c / 2

/-- One byte of the CRC-32C register. -/
def crcByte (c : Nat) (b : Byte) : Nat :=
  crcBit (crcBit (crcBit (crcBit (crcBit (crcBit (crcBit (crcBit (c ^^^ b.toNat))))))))

/-- The CRC-32C of a list of bytes. -/
def crc32c (bs : List Byte) : Nat := bs.foldl crcByte 0xFFFFFFFF ^^^ 0xFFFFFFFF

end Sys2Proof.Machine
end

