-- ==== Sys2Proof/Machine/Codec.lean ====
section
/-! DEFINITION. The billet codec as functions on bytes: decoding a billet with the cause and position of its first failure
(R87–R97, R500), and the module encoder's fixed choice (R101, R102). -/

namespace Sys2Proof.Machine

/-- A sample: tone T, 0–1023, and object tag G, 0–15 (R87). -/
structure Sample where
  tone : Nat
  tag : Nat
deriving DecidableEq, Repr

/-- The causes of a decode failure (R97). -/
inductive DecodeCause where
  | crc | version | header | repeatRow0 | kRange | residualRange | tagRun | overrun | trailing | rawLength | read
deriving DecidableEq, Repr

/-- The code of a cause (R97). -/
def DecodeCause.code (c : DecodeCause) : Nat :=
  match c with
  | .crc => 1 | .version => 2 | .header => 3 | .repeatRow0 => 4 | .kRange => 5 | .residualRange => 6 | .tagRun => 7
  | .overrun => 8 | .trailing => 9 | .rawLength => 10 | .read => 11

/-- A decode failure with its position (R500). -/
structure DecodeFail where
  cause : DecodeCause
  row : Nat
  col : Nat
deriving DecidableEq, Repr

/-- The 16-bit form of a sample (R88). -/
def Sample.word (x : Sample) : Nat := x.tone % 1024 + 1024 * (x.tag % 16)

/-- The sample a 16-bit word spells; bits [15:14] are taken as 0 (R88, R104). -/
def sampleOfWord (w : Nat) : Sample := ⟨w % 1024, w / 1024 % 16⟩

/-- The check value of a billet (R88). -/
def checkValue (xs : List Sample) : Nat := crc32c (xs.flatMap fun x => toLE 2 x.word)

/-! ### Bit streams -/

/-- The bits of a byte, most significant first (R92). -/
def byteBitsMsb (b : Byte) : List Bool := (List.range 8).map fun i => bitAt b.toNat (7 - i)

/-- The bits of a byte, least significant first (R90). -/
def byteBitsLsb (b : Byte) : List Bool := (List.range 8).map fun i => bitAt b.toNat i

/-- The number n bits spell, most significant first, with the bits left; none where the stream runs out. -/
def takeMsb : Nat → Nat → List Bool → Option (Nat × List Bool)
  | 0, v, bs => some (v, bs)
  | _ + 1, _, [] => none
  | n + 1, v, b :: bs => takeMsb n (2 * v + b2n b) bs

/-- The n bits of a number, most significant first. -/
def putMsb (n v : Nat) : List Bool := (List.range n).map fun i => bitAt v (n - 1 - i)

/-- The number of leading bits equal to b, up to the limit, with the bits left after them. -/
def countBits (b : Bool) : Nat → List Bool → Nat × List Bool
  | 0, bs => (0, bs)
  | _ + 1, [] => (0, [])
  | n + 1, c :: bs => if c = b then let r := countBits b n bs; (r.1 + 1, r.2) else (0, c :: bs)

/-! ### Prediction (R95) -/

/-- The median of three integers. -/
def median3 (a b c : Int) : Int := max (min a b) (min (max a b) c)

/-- The prediction of predictor p from W, N and NW (R95). -/
def predict (p w n nw : Nat) : Nat :=
  match p with
  | 0 => w
  | 1 => n
  | 2 => (median3 w n ((w : Int) + n - nw)).toNat
  | _ => (w + n) / 2

/-- W, N and NW at a position: left is the tone on the left (none at x = 0), above the row above from x − 1 on
(none in row 0) (R95). -/
def neighbours (left : Option Nat) (aboveLeft above : Option Nat) : Nat × Nat × Nat :=
  match left, above with
  | none, none => (512, 512, 512)
  | some w, none => (w, w, w)
  | none, some n => (n, n, n)
  | some w, some n => (w, n, aboveLeft.getD n)

/-- The residual of a code m (R96). -/
def residualOf (m : Nat) : Int := if m % 2 = 0 then (m / 2 : Nat) else -(((m + 1) / 2 : Nat) : Int)

/-- The code m of a residual (R96). -/
def codeOfResidual (e : Int) : Nat := if 0 ≤ e then (2 * e).toNat else (-2 * e - 1).toNat

/-- The tone a prediction and a code give (R96). -/
def toneOf (pred m : Nat) : Nat := (((pred : Int) + residualOf m) % 1024).toNat

/-! ### Decoding -/

/-- The code m read at parameter k: sixteen ones and ten bits, or q ones, a zero and k bits (R96). -/
def takeResidual (k : Nat) (bs : List Bool) : Option (Nat × Bool × List Bool) :=
  let r := countBits true 16 bs
  if r.1 = 16 then (takeMsb 10 0 r.2).map fun v => (v.1, true, v.2)
  else match r.2 with
    | [] => none
    | _ :: rest => (takeMsb k 0 rest).map fun v => (r.1 * 2 ^ k + v.1, false, v.2)

/-- The tones of a PRED row from column x on: n columns are left, above is the row above from x on (R93, R95, R96). -/
def takePred (p k y : Nat) : Nat → Nat → Option Nat → Option Nat → List Nat → List Bool → Except DecodeFail (List Nat × List Bool)
  | 0, _, _, _, _, bs => .ok ([], bs)
  | n + 1, x, left, aboveLeft, above, bs =>
    match takeResidual k bs with
    | none => .error ⟨.overrun, y, x⟩
    | some (m, esc, bs') =>
      if !esc ∧ 1023 < m then .error ⟨.residualRange, y, x⟩
      else
        let v := neighbours left aboveLeft above.head?
        let t := toneOf (predict p v.1 v.2.1 v.2.2) m
        match takePred p k y n (x + 1) (some t) above.head? above.tail bs' with
        | .error e => .error e
        | .ok (ts, r) => .ok (t :: ts, r)

/-- The tones of a RAWROW row from column x on (R93). -/
def takeTones (y : Nat) : Nat → Nat → List Bool → Except DecodeFail (List Nat × List Bool)
  | 0, _, bs => .ok ([], bs)
  | n + 1, x, bs =>
    match takeMsb 10 0 bs with
    | none => .error ⟨.overrun, y, x⟩
    | some (t, bs') =>
      match takeTones y n (x + 1) bs' with
      | .error e => .error e
      | .ok (ts, r) => .ok (t :: ts, r)

/-- The runs of a tag field from column x on; the fuel is the number of columns left at most (R94). A code is read whole before it is
judged: one whose length already passes column 255 and whose bits the stream ends in is an OVERRUN, not a TAG_RUN (DESIGN CHOICE: R500
does not say which is found first, log entry 111). -/
def takeRuns (y : Nat) : Nat → Nat → List Bool → Except DecodeFail (List Nat × List Bool)
  | 0, x, bs => if x = 256 then .ok ([], bs) else .error ⟨.tagRun, y, x⟩
  | fuel + 1, x, bs =>
    if x = 256 then .ok ([], bs)
    else match takeMsb 4 0 bs with
    | none => .error ⟨.overrun, y, 0⟩
    | some (g, b1) =>
      let z := countBits false b1.length b1
      match takeMsb (z.1 + 1) 0 z.2 with
      | none => .error ⟨.overrun, y, 0⟩
      | some (r, b2) =>
        if 256 < x + r then .error ⟨.tagRun, y, x⟩
        else match takeRuns y fuel (x + r) b2 with
        | .error e => .error e
        | .ok (gs, rest) => .ok (List.replicate r g ++ gs, rest)

/-- The tags of a row: BTAG for a single-tag billet, else the tag field (R94). -/
def takeTags (tagmode btag y : Nat) (above : List Nat) (bs : List Bool) : Except DecodeFail (List Nat × List Bool) :=
  if tagmode = 0 then .ok (List.replicate 256 btag, bs)
  else match bs with
    | [] => .error ⟨.overrun, y, 0⟩
    | true :: rest => .ok (above, rest)
    | false :: rest => takeRuns y 256 0 rest

/-- Tones and tags as samples. -/
def zipSamples (ts gs : List Nat) : List Sample := List.zipWith Sample.mk ts gs

/-- One row of a coded billet: above is the row above, empty in row 0 (R93). -/
def takeRow (tagmode btag y : Nat) (above : List Sample) (bs : List Bool) : Except DecodeFail (List Sample × List Bool) :=
  let tagsAbove := if y = 0 then List.replicate 256 btag else above.map Sample.tag
  match takeMsb 2 0 bs with
  | none => .error ⟨.overrun, y, 0⟩
  | some (0, rest) => if y = 0 then .error ⟨.repeatRow0, 0, 0⟩ else .ok (above, rest)
  | some (1, rest) =>
    match takeMsb 10 0 rest with
    | none => .error ⟨.overrun, y, 0⟩
    | some (v, r1) =>
      match takeTags tagmode btag y tagsAbove r1 with
      | .error e => .error e
      | .ok (gs, r2) => .ok (zipSamples (List.replicate 256 v) gs, r2)
  | some (2, rest) =>
    match takeMsb 2 0 rest with
    | none => .error ⟨.overrun, y, 0⟩
    | some (p, r1) =>
      match takeMsb 4 0 r1 with
      | none => .error ⟨.overrun, y, 0⟩
      | some (k, r2) =>
        if 9 < k then .error ⟨.kRange, y, 0⟩
        else match takeTags tagmode btag y tagsAbove r2 with
        | .error e => .error e
        | .ok (gs, r3) =>
          match takePred p k y 256 0 none none (above.map Sample.tone) r3 with
          | .error e => .error e
          | .ok (ts, r4) => .ok (zipSamples ts gs, r4)
  | some (_, rest) =>
    match takeTags tagmode btag y tagsAbove rest with
    | .error e => .error e
    | .ok (gs, r1) =>
      match takeTones y 256 0 r1 with
      | .error e => .error e
      | .ok (ts, r2) => .ok (zipSamples ts gs, r2)

/-- n rows of a coded billet from row y on (R92). -/
def takeRows (tagmode btag : Nat) : Nat → Nat → List Sample → List Bool → Except DecodeFail (List Sample × List Bool)
  | 0, _, _, bs => .ok ([], bs)
  | n + 1, y, above, bs =>
    match takeRow tagmode btag y above bs with
    | .error e => .error e
    | .ok (row, rest) =>
      match takeRows tagmode btag n (y + 1) row rest with
      | .error e => .error e
      | .ok (rows, r) => .ok (row ++ rows, r)

/-- The samples of n groups of 14 bits, least significant first (R90). -/
def takeRaw : Nat → List Bool → List Sample
  | 0, _ => []
  | n + 1, bs =>
    let v := (bs.take 14).foldr (fun b a => b2n b + 2 * a) 0
    ⟨v % 1024, v / 1024⟩ :: takeRaw n (bs.drop 14)

/-- The check of the trailer (R97 code 1). -/
def checkTrailer (bytes : List Byte) (xs : List Sample) : Except DecodeFail (List Sample) :=
  if checkValue xs = ofLE (bytes.drop (bytes.length - 4)) then .ok xs else .error ⟨.crc, 0, 0⟩

/-- The decoding of a coded billet (R91, R92, R97). -/
def decodeCoded (bytes : List Byte) : Except DecodeFail (List Sample) :=
  let b1 := fieldLE bytes 1 1
  let tagmode := b1 / 16 % 4
  if fieldLE bytes 0 1 ≠ 1 then .error ⟨.version, 0, 0⟩
  else if 2 ≤ tagmode ∨ 64 ≤ b1 ∨ fieldLE bytes 2 2 ≠ 0 then .error ⟨.header, 0, 0⟩
  else
    let stream := ((bytes.drop 4).take (bytes.length - 8)).flatMap byteBitsMsb
    match takeRows tagmode (b1 % 16) 64 0 [] stream with
    | .error e => .error e
    | .ok (xs, rest) =>
      if 7 < rest.length ∨ rest.any id then .error ⟨.trailing, 63, 255⟩ else checkTrailer bytes xs

/-- The decoding of a billet of the given bytes, RAW or coded (R89, R90, R97). -/
def decodeBillet (raw : Bool) (bytes : List Byte) : Except DecodeFail (List Sample) :=
  if raw then
    if bytes.length ≠ 28676 then .error ⟨.rawLength, 0, 0⟩
    else checkTrailer bytes (takeRaw 16384 ((bytes.take 28672).flatMap byteBitsLsb))
  else decodeCoded bytes

/-! ### Encoding (R101, R102) -/

/-- The code of m at parameter k (R96). -/
def putResidual (k m : Nat) : List Bool :=
  let q := m / 2 ^ k
  if q ≤ 15 then List.replicate q true ++ [false] ++ putMsb k m else List.replicate 16 true ++ putMsb 10 m

/-- The Exp-Golomb code of a run length r (R94). -/
def putRun (r : Nat) : List Bool :=
  let z := Nat.log2 r
  List.replicate z false ++ putMsb (z + 1) r

/-- The maximal runs of a list: value and length. -/
def runsOf : List Nat → List (Nat × Nat)
  | [] => []
  | g :: gs =>
    match runsOf gs with
    | [] => [(g, 1)]
    | (h, n) :: rest => if g = h then (h, n + 1) :: rest else (g, 1) :: (h, n) :: rest

/-- The tag field of a row (R94, R101). -/
def putTags (tagmode : Nat) (above tags : List Nat) : List Bool :=
  if tagmode = 0 then []
  else if tags = above then [true]
  else false :: (runsOf tags).flatMap fun r => putMsb 4 r.1 ++ putRun r.2

/-- The residual codes of a row at predictor p and parameter k (R95, R96). -/
def putPred (p k : Nat) : Option Nat → Option Nat → List Nat → List Nat → List Bool
  | _, _, _, [] => []
  | left, aboveLeft, above, t :: ts =>
    let v := neighbours left aboveLeft above.head?
    let e := (((t : Int) - predict p v.1 v.2.1 v.2.2 + 512) % 1024) - 512
    putResidual k (codeOfResidual e) ++ putPred p k (some t) above.head? above.tail ts

/-- The candidates of a row in the order of R101. -/
def rowCandidates (tagmode btag y : Nat) (above row : List Sample) : List (List Bool) :=
  let tagsAbove := if y = 0 then List.replicate 256 btag else above.map Sample.tag
  let tones := row.map Sample.tone
  let tf := putTags tagmode tagsAbove (row.map Sample.tag)
  let v := tones.headD 0
  (if 0 < y ∧ row = above then [[false, false]] else [])
    ++ (if tones.all (fun t => t = v) then [[false, true] ++ putMsb 10 v ++ tf] else [])
    ++ (List.range 4).flatMap (fun p => (List.range 10).map fun k =>
        [true, false] ++ putMsb 2 p ++ putMsb 4 k ++ tf ++ putPred p k none none (above.map Sample.tone) tones)
    ++ [[true, true] ++ tf ++ tones.flatMap (putMsb 10)]

/-- The shortest of a list of bit strings, the earliest among equals (R101). -/
def shortest : List (List Bool) → List Bool
  | [] => []
  | [a] => a
  | a :: b :: rest => let m := shortest (b :: rest); if m.length < a.length then m else a

/-- The rows of a billet coded from row y on. -/
def putRows (tagmode btag : Nat) : Nat → Nat → List Sample → List Sample → List Bool
  | 0, _, _, _ => []
  | n + 1, y, above, xs =>
    shortest (rowCandidates tagmode btag y above (xs.take 256)) ++ putRows tagmode btag n (y + 1) (xs.take 256) (xs.drop 256)

/-- Bits packed into bytes, most significant first, padded with zeros (R92). -/
def packMsb : Nat → List Bool → List Byte
  | 0, _ => []
  | n + 1, bs =>
    if bs.isEmpty then []
    else BitVec.ofNat 8 ((List.range 8).foldl (fun a i => 2 * a + b2n (bs.getD i false)) 0) :: packMsb n (bs.drop 8)

/-- Bits packed into bytes, least significant first (R90). -/
def packLsb : Nat → List Bool → List Byte
  | 0, _ => []
  | n + 1, bs =>
    if bs.isEmpty then []
    else BitVec.ofNat 8 ((bs.take 8).foldr (fun b a => b2n b + 2 * a) 0) :: packLsb n (bs.drop 8)

/-- The coded form of a billet, header, stream and trailer (R91, R92, R101). -/
def encodeCoded (xs : List Sample) : List Byte :=
  let g0 := (xs.headD ⟨0, 0⟩).tag
  let tagmode := if xs.all (fun x => x.tag = g0) then 0 else 1
  let stream := putRows tagmode g0 64 0 [] xs
  toLE 1 1 ++ toLE 1 (g0 + 16 * tagmode) ++ toLE 2 0 ++ packMsb stream.length stream ++ toLE 4 (checkValue xs)

/-- The RAW form of a billet (R89, R90). -/
def encodeRaw (xs : List Sample) : List Byte :=
  packLsb 28672 (xs.flatMap fun x => (List.range 14).map fun i => bitAt x.word i) ++ toLE 4 (checkValue xs)

/-- The coded form, none where the encoder reports NOSHRINK (R102). -/
def encodeBillet (xs : List Sample) : Option (List Byte) :=
  let c := encodeCoded xs
  if c.length < 28676 then some c else none

end Sys2Proof.Machine
end

