-- ==== Sys2Proof/Machine/Operands.lean ====
section
/-! DEFINITION. The operand types of the commands: what a message, an edge or a measurement brings into the module from outside.
Indices are bounded by their types; stamps, positions and analogue readings are plain numbers. -/

namespace Sys2Proof.Machine

/-- A PRESS_TIME value (R42): 64 bits, units of 1/1024 ns. -/
abbrev Stamp := BitVec 64

/-- A surface or belt coordinate (R48, R55): 48 bits. -/
abbrev Coord := BitVec 48

/-- A colour station. -/
abbrev StationNo := Fin 8

/-- A page with its Faceplate, by its W0 base div 0x1000 (R474). -/
abbrev PageNo := Fin 192

/-- A link with a head (a station) or a peer (0 PEER_A, 1 PEER_B). -/
inductive LinkId where
  | head (s : StationNo)
  | peer (p : Fin 2)
deriving DecidableEq, Repr

/-- A frame on a link: its channel, type, flags, sequence number, acknowledgement, parameter word and body (R207, R337,
R438). -/
structure Frame where
  ch : Nat
  ftype : Nat
  flags : Nat
  seq : Nat
  ack : Nat
  param : Nat
  body : List Byte
deriving DecidableEq, Repr

/-- The message of a codeword (R195): bits 0 to 5139. -/
abbrev Message := BitVec 5140

/-- The fields of a TS record (R202). -/
structure TsRec where
  tsType : Nat
  laneId : Nat
  station : Nat
  verMin : Nat
  verMax : Nat
  verAgreed : Nat
  reason : Nat
  caps : Nat
  crTable : Nat
  crMgmt : Nat
  lineBufs : Nat
  tablesValid : Nat
  vendor : Nat
  model : Nat
  serial : Nat
  fw : Nat
deriving DecidableEq, Repr

/-- A byte that a stack gives altered, by an error its ECC did not catch (R59, R99): the row, the unit (0 to 2 data, 3 parity), the
offset in it, and the bits that differ. -/
structure Flip where
  row : Nat
  unit : Fin 4
  off : Fin 256
  bits : Byte
deriving DecidableEq, Repr

/-- What the stacks gave a decoder for a billet (R99): its stored bytes, a read the Millpond could not recover, or units with silent
errors. -/
inductive BilletRead where
  | stored
  | unrecoverable
  | silent (flips : List Flip)
deriving DecidableEq, Repr

/-- What the reads of a line met (R111, R134): no uncorrectable error, one at a place in the line store, or one in the warp or the
rendering region at an offset. -/
inductive LineMem where
  | clean
  | store (place : BitVec 32)
  | warp (off : BitVec 15)
  | screen (off : BitVec 20)
deriving DecidableEq, Repr

/-- Which bank of a station a validation has read, the rendering or the warp bank, and the offset of the first uncorrectable error it met
there (R130, R134). -/
structure BankCheck where
  screen : Bool
  uncorr : Option (BitVec 20)
deriving DecidableEq, Repr

/-- When a line was finished, and when the Millrace first read each band that no line had read (R110, R113). -/
structure LineTimes where
  finish : Stamp
  reads : List Stamp
deriving DecidableEq, Repr

/-- An edge of a beam detect input: its stamp, and whether it falls (R161). -/
structure BdEdge where
  time : Stamp
  falling : Bool
deriving DecidableEq, Repr

/-- An uncorrectable codeword: its place after the alignment codeword, and the messages of the other two codewords of its stripe where both
can be used (R200). -/
structure LostCodeword where
  pos : BitVec 8
  others : Option (Message × Message)
deriving DecidableEq, Repr

/-- A tick of an encoder channel at a time (R228). -/
structure EncoderTick where
  chan : Fin 20
  time : Stamp
deriving DecidableEq, Repr

/-- A Z rising edge: the levels of A and B with it, and its stamp (R230). -/
structure IndexEdge where
  a : Bool
  b : Bool
  time : Stamp
deriving DecidableEq, Repr

/-- The voltage of a leg's bootstrap in mV (R265). -/
structure BootLevel where
  leg : Fin 24
  mv : BitVec 16
deriving DecidableEq, Repr

/-- A sample of a lamp's current transformer: the lamp and the magnitude in 0.1 mA (R328). -/
structure CtSample where
  lamp : Fin 8
  peak : BitVec 17
deriving DecidableEq, Repr

/-- The model of a node and its firmware (R337). -/
structure NodeModel where
  code : BitVec 16
  firmware : BitVec 16
deriving DecidableEq, Repr

/-- The SEQ and the FTYPE that a VIOLATION of a node concerns (R337). -/
structure Concerned where
  seq : BitVec 8
  ftype : BitVec 8
deriving DecidableEq, Repr

/-- The class of a sheet, and whether it is opened with PURGE set (R351). -/
structure SheetClass where
  cls : Fin 4
  purge : Bool
deriving DecidableEq, Repr

/-- The node an uplink frame comes from, and the slot of the cycle it came in (R336). -/
structure Uplink where
  node : BitVec 8
  slot : Fin 8
deriving DecidableEq, Repr

/-- The lockstep pair whose tasks were checkpointed, and the longest time between two of its checkpoints, in 0.1 µs (R429). -/
structure Checkpoint where
  pair : Fin 4
  us10 : BitVec 16
deriving DecidableEq, Repr

/-- How a host read completed (R404): with its data, with UR or CA, or poisoned. -/
inductive HostReply where
  | data (bytes : List Byte)
  | error
  | poisoned
deriving DecidableEq, Repr

/-- A W0 access by its address and its size in bytes (R400). -/
structure W0Access where
  addr : BitVec 20
  bytes : BitVec 10
deriving DecidableEq, Repr

/-- A write of the Mask bit of a context's MSI-X table entry (R401). -/
structure MaskWrite where
  ctx : Fin 16
  vector : BitVec 11
  masked : Bool
deriving DecidableEq, Repr

/-- The functions' own state as the host sets it (R395, R401): the Bus Master Enables, the functions whose MSI-X is enabled and not masked as
a whole, and Mask bits written. -/
structure FnConfig where
  busMaster : BitVec 16
  msixOn : BitVec 16
  masks : List MaskWrite
deriving DecidableEq, Repr

/-- A request the module cannot serve (R396, R413): a write or a read, and whether it is one of a kind the module does not support, or
carries another error of Advanced Error Reporting (malformed, poisoned, ECRC). -/
structure BadRequest where
  write : Bool
  aer : Bool
deriving DecidableEq, Repr

/-- A 32-bit or 64-bit AtomicOp (R396). -/
inductive AtomicKind where
  | fetchAdd (v : Nat)
  | swap (v : Nat)
  | cas (compare swap : Nat)
deriving DecidableEq, Repr

/-- A redundant group of R5: the lanes of a station, the stacks, the ECC of the memories, the temperature sensors, the lockstep pairs,
the supply phases. -/
inductive CoveredGroup where
  | lanes (s : StationNo) (k : Fin 3)
  | stacks
  | ecc
  | sensors
  | pairs
  | phases
deriving DecidableEq, Repr

/-- A fault covered by R5, by the member that has failed (R5, R386). -/
inductive CoveredFault where
  | lane (s : StationNo) (k : Fin 3)
  | stack (i : Fin 4)
  | eccBit (line : Option StationNo)
  | sensor (i : Fin 44)
  | pair (p : Fin 4)
  | phase (p : Fin 3)
deriving DecidableEq, Repr

/-- The group of a covered fault. -/
def CoveredFault.group (f : CoveredFault) : CoveredGroup :=
  match f with
  | .lane s k => .lanes s k
  | .stack _ => .stacks
  | .eccBit _ => .ecc
  | .sensor _ => .sensors
  | .pair _ => .pairs
  | .phase _ => .phases

/-- How the start-up self-tests end (R386): all pass, faults of redundant groups of R5, or another failure of a test. -/
inductive SelfTest where
  | pass
  | covered (first : CoveredFault) (more : List CoveredFault)
  | failed (test : BitVec 8)
deriving DecidableEq, Repr

/-- What resets contexts: a function-level reset of one function, or PERST_N, which resets them all (R24, R411). -/
inductive CtxCause where
  | flr (c : Fin 16)
  | perst
deriving DecidableEq, Repr

end Sys2Proof.Machine
end

