-- ==== Sys2Proof/Syntax.lean ====
section
/-! DEFINITION. The commands the module takes: one constructor for each row of the opcode table, with its operands. -/

namespace Sys2Proof
open Sys2Proof.Machine

/-- The commands: writes and reads of registers, messages that arrive, edges, measurements and expiries. -/
inductive Instr where
  /-- MAINS_ON (R382). -/
  | mainsOn (vrms freq : BitVec 16)
  /-- BOOT_IMAGE_SELECT (R384). -/
  | bootImageSelect
  /-- SELF_TEST_DONE (R386). -/
  | selfTestDone (r : SelfTest)
  /-- READY (R382). -/
  | ready
  /-- MODULE_RESET (R387). -/
  | moduleReset (lowNs : BitVec 32)
  /-- RESET_N_RELEASE (R391). -/
  | resetNRelease
  /-- INTERLOCK_OPEN (R33). -/
  | interlockOpen (i : Fin 2)
  /-- INTERLOCK_CLOSE (R33). -/
  | interlockClose (i : Fin 2)
  /-- ESTOP_OPEN (R34). -/
  | estopOpen (i : Fin 2)
  /-- ESTOP_CLOSE (R34). -/
  | estopClose (i : Fin 2)
  /-- COVER_EDGE (R35). -/
  | coverEdge (i : Fin 4) (closed : Bool)
  /-- COMMISSION_PRESS (R427). -/
  | commissionPress (ms : BitVec 16)
  /-- SEAL_CLOSE (R427). -/
  | sealClose
  /-- SEAL_OPEN (R427). -/
  | sealOpen
  /-- PRESENCE_WINDOW_EXPIRE (R427). -/
  | presenceWindowExpire
  /-- PRESENCE_CLOSE (R427). -/
  | presenceClose (m : Master)
  /-- CONTEXT_RESET (R411). -/
  | contextReset (x : CtxCause)
  /-- CONTEXT_RESET_END (R411). -/
  | contextResetEnd (c : Fin 16)
  /-- PCIE_LINK_DOWN (R397). -/
  | pcieLinkDown
  /-- PCIE_LINK_UP (R397). -/
  | pcieLinkUp (speed : BitVec 4) (width : BitVec 5) (flit : Bool)
  /-- VF_ENABLE (R401). -/
  | vfEnable (vf : Bool) (f : FnConfig)
  /-- UNSUPPORTED_REQUEST (R396). -/
  | unsupportedRequest (c : Fin 16) (off : BitVec 26) (w1 : Bool) (r : BadRequest)
  /-- W0_REGISTER_WRITE (R398). -/
  | w0RegisterWrite (m : Master) (x : W0Access) (w : Word)
  /-- W0_UNMAPPED_ACCESS (R475). -/
  | w0UnmappedAccess (m : Master) (a : BitVec 20) (write : Bool)
  /-- VIEW_READ (R399). -/
  | viewRead (c : Fin 16) (off : BitVec 26) (n : BitVec 10) (uncorr : Bool)
  /-- VIEW_WRITE (R399). -/
  | viewWrite (c : Fin 16) (off : BitVec 25) (bytes : List Byte)
  /-- ATOMIC_OP (R396). -/
  | atomicOp (c : Fin 16) (off : BitVec 25) (wide : Bool) (k : AtomicKind)
  /-- W1_TABLE_WRITE (R486). -/
  | w1TableWrite (m : Master) (off : BitVec 25) (bytes : List Byte)
  /-- LATCHED_LO_READ (R58). -/
  | latchedLoRead (m : Master) (x : W0Access)
  /-- CH_POS_READ (R234). -/
  | chPosRead (m : Master) (c : Fin 20)
  /-- MBUS_UNDERVOLTAGE (R18). -/
  | mbusUndervoltage (vCap : BitVec 16)
  /-- MBUS_OVERVOLTAGE (R18). -/
  | mbusOvervoltage (vCap : BitVec 16)
  /-- SUPPLY_PHASE_FAIL (R16). -/
  | supplyPhaseFail (p : Fin 3)
  /-- ENC_SUPPLY_OVERLOAD (R26). -/
  | encSupplyOverload (c : Fin 20)
  /-- TIME_SET (R43). -/
  | timeSet (m : Master)
  /-- SLEW_REQ_WRITE (R44). -/
  | slewReqWrite (m : Master) (v : Word)
  /-- SLEW_COMPLETE (R44). -/
  | slewComplete
  /-- TCXO_LOST (R46). -/
  | tcxoLost
  /-- SURF_STALE (R52). -/
  | surfStale (stn : StationNo)
  /-- TOF_GO (R56). -/
  | tofGo (m : Master) (mask : BitVec 8) (t0 : Stamp)
  /-- TOF_COMPLETE (R56). -/
  | tofComplete
  /-- TOF_DEADLINE (R497). -/
  | tofDeadline (stn : StationNo) (d : BitVec 20)
  /-- SUBMIT (R70). -/
  | submit (m : Master) (idx : BitVec 20)
  /-- PLANE_READY (R70). -/
  | planeReady (m : Master) (idx : BitVec 20) (stn : StationNo)
  /-- WITHDRAW (R70). -/
  | withdraw (m : Master) (idx : BitVec 20)
  /-- SUBMIT_PROCESS (R67). -/
  | submitProcess (readOk : Bool)
  /-- PLANE_VERIFY (R71). -/
  | planeVerify
  /-- PLANE_VERIFY_DONE (R71). -/
  | planeVerifyDone (readOk : Bool)
  /-- WITHDRAW_PROCESS (R74). -/
  | withdrawProcess
  /-- STACK_LOST (R60). -/
  | stackLost (i : Fin 4)
  /-- SLOT_DUE (R76). -/
  | slotDue
  /-- GAP_BOUNDARY (R481). -/
  | gapBoundary
  /-- GRADE_CHANGE_APPLY (R77). -/
  | gradeChangeApply
  /-- GT_BANK_SWITCH (R79). -/
  | gtBankSwitch (m : Master)
  /-- GT_BANK_APPLY (R79). -/
  | gtBankApply
  /-- FORECAST_EVAL (R80); the operand has one value and carries nothing. -/
  | forecastEval (u : Unit)
  /-- FORECAST_STEP_DOWN (R80). -/
  | forecastStepDown
  /-- FORECAST_EN_CLEAR (R80). -/
  | forecastEnClear (m : Master)
  /-- RING_CFG_WRITE (R86). -/
  | ringCfgWrite (m : Master) (c : Fin 16) (log2 : BitVec 4) (en : Bool)
  /-- BILLET_DECODE_DONE (R99). -/
  | billetDecodeDone (stn : StationNo) (d : Fin 2) (x : BilletRead)
  /-- BILLET_REFETCH_DONE (R99). -/
  | billetRefetchDone (stn : StationNo) (d : Fin 2) (x : BilletRead)
  /-- BAND_FILL_START (R112). -/
  | bandFillStart (stn : StationNo)
  /-- PREFILL_START (R114). -/
  | prefillStart (stn : StationNo)
  /-- ENC_JOB_SUBMIT (R106). -/
  | encJobSubmit (m : Master) (idx : BitVec 21)
  /-- ENC_JOB_START (R103). -/
  | encJobStart (e : Fin 4)
  /-- ENC_BILLET_DONE (R104). -/
  | encBilletDone (e : Fin 4) (readOk : Bool)
  /-- ENC_FAULT (R107). -/
  | encFault (e : Fin 4)
  /-- ENC_LEASE_EXPIRY (R469). -/
  | encLeaseExpiry (e : Fin 4)
  /-- LINE_FINISH (R110). -/
  | lineFinish (stn : StationNo) (t : LineTimes) (corrected : BitVec 16) (mem : LineMem)
  /-- LINE_LATE (R113). -/
  | lineLate (stn : StationNo)
  /-- WBANK_SWITCH (R130). -/
  | wbankSwitch (m : Master) (stn : StationNo)
  /-- WBANK_CANCEL (R130). -/
  | wbankCancel (m : Master) (stn : StationNo)
  /-- SBANK_SWITCH (R130). -/
  | sbankSwitch (m : Master) (stn : StationNo)
  /-- SBANK_CANCEL (R130). -/
  | sbankCancel (m : Master) (stn : StationNo)
  /-- BANK_VALIDATE_DONE (R131). -/
  | bankValidateDone (stn : StationNo) (b : BankCheck)
  /-- POLY_INDEX_EDGE (R138). -/
  | polyIndexEdge (stn : StationNo)
  /-- PLAN_RUN (R143). -/
  | planRun (stn : StationNo) (k : Fin 4)
  /-- SWATH_EN_CLEAR (R155). -/
  | swathEnClear (m : Master) (stn : StationNo)
  /-- BD_SOS (R165). -/
  | bdSos (stn : StationNo) (e : BdEdge)
  /-- BD_EOS (R162). -/
  | bdEos (stn : StationNo) (e : BdEdge)
  /-- BD_MISS (R163). -/
  | bdMiss (stn : StationNo)
  /-- PLL_RELOCK_DONE (R168). -/
  | pllRelockDone (stn : StationNo)
  /-- SCLK_START (R169). -/
  | sclkStart (stn : StationNo)
  /-- SCLK_EN_WRITE (R170). -/
  | sclkEnWrite (m : Master) (stn : StationNo) (v : Bool)
  /-- SYSPLL_UNLOCK (R175). -/
  | syspllUnlock
  /-- COREPLL_UNLOCK (R175). -/
  | corepllUnlock
  /-- SERDESPLL_UNLOCK (R194). -/
  | serdespllUnlock (i : Fin 3)
  /-- CLK_MON (R175). -/
  | clkMon
  /-- EBANK_SWITCH (R184). -/
  | ebankSwitch (m : Master) (stn : StationNo)
  /-- EBANK_CANCEL (R184). -/
  | ebankCancel (m : Master) (stn : StationNo)
  /-- EMIT_VALIDATE_DONE (R186). -/
  | emitValidateDone (stn : StationNo)
  /-- CHECK_REPLY (R185). -/
  | checkReply (stn : StationNo) (b : Fin 2) (crc : Word)
  /-- EMIT_DOWNLOAD_TIMEOUT (R469). -/
  | emitDownloadTimeout (stn : StationNo)
  /-- CEIL_UW_WRITE (R183). -/
  | ceilUwWrite (m : Master) (stn : StationNo) (v : BitVec 16)
  /-- DEAD_CLR (R189). -/
  | deadClr (m : Master) (stn : StationNo)
  /-- DEAD_CLR_APPLY (R189). -/
  | deadClrApply (stn : StationNo)
  /-- CAL_EN_WRITE (R216). -/
  | calEnWrite (m : Master) (stn : StationNo) (v : Bool)
  /-- BEAM_DEAD (R188). -/
  | beamDead (stn : StationNo) (b : Fin 48)
  /-- EXPOSURE_LOST (R151). -/
  | exposureLost (stn : StationNo) (d : BitVec 20)
  /-- CAL_MEAS (R183). -/
  | calMeas (stn : StationNo) (b : Fin 48) (step : Fin 16) (meas : BitVec 16)
  /-- HEAD_STATUS (R217). -/
  | headStatus (stn : StationNo) (param : BitVec 64)
  /-- HEAD_STATUS_TIMEOUT (R217). -/
  | headStatusTimeout (stn : StationNo)
  /-- REG_REPLY (R217). -/
  | regReply (stn : StationNo) (f : Frame)
  /-- DEAD_RESULT (R189). -/
  | deadResult (stn : StationNo) (mask : BitVec 48)
  /-- IVINA_VIOLATION_RX (R222). -/
  | ivinaViolationRx (l : LinkId) (reason : BitVec 8) (ch : BitVec 3) (seq : BitVec 16) (detail : BitVec 32)
  /-- IVINA_BAD_FRAME (R221). -/
  | ivinaBadFrame (l : LinkId) (reason : BitVec 8) (ch : BitVec 3) (seq : BitVec 16) (detail : BitVec 32)
  /-- IVINA_RELIABLE_FRAME (R219). -/
  | ivinaReliableFrame (l : LinkId) (ch : BitVec 3) (seq : BitVec 16)
  /-- IVINA_ACK (R219). -/
  | ivinaAck (l : LinkId) (ch : BitVec 3) (seq : BitVec 16)
  /-- IVINA_RESEND_TIMEOUT (R219). -/
  | ivinaResendTimeout (l : LinkId) (ch : BitVec 3)
  /-- IVINA_TS1 (R201). -/
  | ivinaTs1 (l : LinkId) (k : Fin 3) (m : Message)
  /-- IVINA_TS2 (R203). -/
  | ivinaTs2 (l : LinkId) (k : Fin 3) (m : Message)
  /-- IVINA_TS3 (R201). -/
  | ivinaTs3 (l : LinkId) (k : Fin 3) (m : Message)
  /-- IVINA_DETECT_TIMEOUT (R201). -/
  | ivinaDetectTimeout (l : LinkId) (k : Fin 3)
  /-- IVINA_NEGOTIATE_TIMEOUT (R201). -/
  | ivinaNegotiateTimeout (l : LinkId) (k : Fin 3)
  /-- IVINA_CONFIRM_TIMEOUT (R201). -/
  | ivinaConfirmTimeout (l : LinkId) (k : Fin 3)
  /-- IVINA_FAILED_TIMEOUT (R201). -/
  | ivinaFailedTimeout (l : LinkId) (k : Fin 3)
  /-- ALIGNMENT_CODEWORD (R196). -/
  | alignmentCodeword (l : LinkId) (k : Fin 3) (am : BitVec 64) (fields : BitVec 54) (skew : BitVec 16) (corrected : BitVec 32)
  /-- ALIGNMENT_MISSING (R205). -/
  | alignmentMissing (l : LinkId) (k : Fin 3)
  /-- LANE_SIGNAL_LOSS (R205). -/
  | laneSignalLoss (l : LinkId) (k : Fin 3)
  /-- CODEWORD_UNCORRECTABLE (R200). -/
  | codewordUncorrectable (l : LinkId) (k : Fin 3) (w : LostCodeword)
  /-- TIME_SYNC (R218); the operand has one value and carries nothing. -/
  | timeSync (stn : StationNo) (u : Unit)
  /-- IV_RETRAIN (R201). -/
  | ivRetrain (m : Master) (l : LinkId)
  /-- IV_EN_WRITE (R201). -/
  | ivEnWrite (m : Master) (stn : StationNo) (en : Bool) (lanes : BitVec 3)
  /-- LEN_EN_WRITE (R223). -/
  | lenEnWrite (m : Master) (stn : StationNo) (v : Bool)
  /-- ENCODER_COUNT (R227). -/
  | encoderCount (c : Fin 20) (a b : Bool) (t : Stamp)
  /-- ENCODER_ILLEGAL (R228). -/
  | encoderIllegal (e : EncoderTick)
  /-- ENCODER_SIGNAL_LOSS (R229). -/
  | encoderSignalLoss (c : Fin 20) (line : Fin 3)
  /-- ENCODER_INDEX (R230). -/
  | encoderIndex (c : Fin 20) (e : IndexEdge)
  /-- BISS_CYCLE (R231). -/
  | bissCycle (c : Fin 20)
  /-- BISS_FRAME (R232). -/
  | bissFrame (c : Fin 20) (t : Stamp) (started released : Bool) (position : List Bool) (nE nW : Bool) (crc : BitVec 6) (delay : BitVec 32)
  /-- SPEED_UPDATE (R237). -/
  | speedUpdate (c : Fin 20) (t : Stamp)
  /-- ENCODER_STALL (R237). -/
  | encoderStall (c : Fin 20)
  /-- DIV_OUTPUT_EDGE (R239). -/
  | divOutputEdge (d : Fin 4) (t : Stamp)
  /-- DIV_CFG_WRITE (R239). -/
  | divCfgWrite (m : Master) (d : Fin 4) (w : Word)
  /-- ENCODER_ERR_CLEAR (R236). -/
  | encoderErrClear (m : Master) (c : Fin 20) (illegal biss : Bool)
  /-- AXIS_EN_WRITE (R257). -/
  | axisEnWrite (m : Master) (n : Fin 20) (v : Bool)
  /-- ALIGN_REQ (R256). -/
  | alignReq (m : Master) (n : Fin 20)
  /-- AXIS_PERIOD_START (R242). -/
  | axisPeriodStart (n : Fin 20) (codeA codeB zero vbus obsTheta : BitVec 16) (obsSpeed : BitVec 32) (t : Stamp)
  /-- HANDOVER_DONE (R250). -/
  | handoverDone (n : Fin 20)
  /-- CATCH_MEASURE_DONE (R252). -/
  | catchMeasureDone (n : Fin 20) (speed : BitVec 32) (theta amp : BitVec 16)
  /-- CATCH_WAIT_REMEASURE (R252). -/
  | catchWaitRemeasure (n : Fin 20) (speed : BitVec 32) (theta amp : BitVec 16)
  /-- CATCH_WAIT_TIMEOUT (R252). -/
  | catchWaitTimeout (n : Fin 20)
  /-- PRECHARGE_DONE (R253). -/
  | prechargeDone (n : Fin 20)
  /-- PRECHARGE_FAIL (R253). -/
  | prechargeFail (n : Fin 20)
  /-- ALIGN_DONE (R249). -/
  | alignDone (n : Fin 20)
  /-- HANDOVER_TIMEOUT (R250). -/
  | handoverTimeout (n : Fin 20)
  /-- OBSERVER_LOSS (R251). -/
  | observerLoss (n : Fin 20)
  /-- GOV_SILENT (R258). -/
  | govSilent (n : Fin 20)
  /-- POLY_START_RETRY (R250). -/
  | polyStartRetry (n : Fin 20)
  /-- PHASE_ENGAGE (R255). -/
  | phaseEngage (n : Fin 8)
  /-- POLY_CATCH_RESTORE (R390). -/
  | polyCatchRestore (mask : BitVec 8)
  /-- CATCH_SET_STORE (R390). -/
  | catchSetStore (n : Fin 8)
  /-- SHORT_TRIP (R269). -/
  | shortTrip (x : Fin 6) (l : Fin 24) (side : Fin 2) (gross blanked : Bool)
  /-- BOOT_UVLO (R266). -/
  | bootUvlo (x : Fin 6) (b : BootLevel)
  /-- VGD_UVLO (R267). -/
  | vgdUvlo (x : Fin 6) (mv : BitVec 16)
  /-- BANK_OFF_CLEAR (R267). -/
  | bankOffClear (x : Fin 6)
  /-- BRIDGE_CLR (R271). -/
  | bridgeClr (m : Master) (x : Fin 6) (mask : BitVec 8)
  /-- STEP_EN_WRITE (R277). -/
  | stepEnWrite (m : Master) (n : Fin 16) (v : Bool)
  /-- STEP_PRECHARGE_DONE (R277). -/
  | stepPrechargeDone (n : Fin 16)
  /-- STEP_PRECHARGE_FAIL (R277). -/
  | stepPrechargeFail (n : Fin 16)
  /-- STOP_NOW (R288). -/
  | stopNow (m : Master) (n : Fin 16)
  /-- TARGET_WRITE (R285). -/
  | targetWrite (m : Master) (n : Fin 16) (v : Word)
  /-- V_TGT_WRITE (R285). -/
  | vTgtWrite (m : Master) (n : Fin 16) (v : BitVec 16)
  /-- MODE_WRITE (R285). -/
  | modeWrite (m : Master) (n : Fin 16) (v : BitVec 2)
  /-- POS_SET (R289). -/
  | posSet (m : Master) (n : Fin 16) (v : Word)
  /-- MOTION_TICK (R284). -/
  | motionTick (t : Stamp)
  /-- CHOP_PERIOD_START (R279). -/
  | chopPeriodStart (n : Fin 16) (iA iB vbus : BitVec 16) (t : Stamp)
  /-- HOLD_CURRENT_REDUCE (R283). -/
  | holdCurrentReduce (n : Fin 16)
  /-- GRP_CFG_WRITE (R290). -/
  | grpCfgWrite (m : Master) (g : Fin 4) (w : Word)
  /-- GRP_GO (R290). -/
  | grpGo (m : Master) (g : Fin 4)
  /-- RDV_GO (R292). -/
  | rdvGo (m : Master) (r : Fin 4)
  /-- RDV_ABORT (R292). -/
  | rdvAbort (m : Master) (r : Fin 4)
  /-- GOV_SAMPLE (R298). -/
  | govSample (j : Fin 96)
  /-- GOV_EVAL_DONE (R302). -/
  | govEvalDone (g : Fin 4)
  /-- GOV_DEADLINE_MISS (R305). -/
  | govDeadlineMiss (j : Fin 96)
  /-- GOV_SLOT_EN (R310). -/
  | govSlotEn (m : Master) (j : Fin 96)
  /-- GOV_SLOT_DISABLE (R310). -/
  | govSlotDisable (m : Master) (j : Fin 96)
  /-- GOV_BANK_SWITCH (R308). -/
  | govBankSwitch (m : Master) (j : Fin 96)
  /-- GOV_VALIDATE_DONE (R308). -/
  | govValidateDone (j : Fin 96)
  /-- GOV_ENGINE_FAULT (R313). -/
  | govEngineFault (g : Fin 4)
  /-- GV_STAT_CLR (R314). -/
  | gvStatClr (m : Master) (g : Fin 4)
  /-- HV_PERIOD_START (R315). -/
  | hvPeriodStart (c : Fin 42)
  /-- HV_CONVERSION (R316). -/
  | hvConversion (c : Fin 42) (vs is : BitVec 16)
  /-- HV_OPEN_TEST (R316). -/
  | hvOpenTest (c : Fin 42) (current pass : Bool)
  /-- HV_CLR (R317). -/
  | hvClr (m : Master) (i : Fin 3) (mask : BitVec 14)
  /-- PT_BANK_SWITCH (R321). -/
  | ptBankSwitch (m : Master)
  /-- PT_BANK_APPLY (R321). -/
  | ptBankApply
  /-- HV_REF_RAMP (R320). -/
  | hvRefRamp (c : Fin 42) (us : BitVec 32)
  /-- ZERO_CROSS (R323). -/
  | zeroCross (rising : Bool) (t : Stamp)
  /-- LAMP_GRANT (R326). -/
  | lampGrant (rising : Bool)
  /-- LAMP_SHORT (R328). -/
  | lampShort (i : CtSample)
  /-- LAMP_HALF_CYCLE_END (R328). -/
  | lampHalfCycleEnd (k : Fin 8) (peak rms : BitVec 32)
  /-- MAINS_SENSE_LOST (R329). -/
  | mainsSenseLost
  /-- LAMP_EN_WRITE (R325). -/
  | lampEnWrite (m : Master) (k : Fin 8) (v : Bool)
  /-- LOCK_CLR (R325). -/
  | lockClr (m : Master) (mask : BitVec 8)
  /-- FUS_CLR (R330). -/
  | fusClr (m : Master) (mask : BitVec 8)
  /-- TIN_TIMEOUT (R330). -/
  | tinTimeout (t : Fin 16)
  /-- LEAT_CYCLE (R335). -/
  | leatCycle (t : Fin 4) (time : Stamp)
  /-- LEAT_HELLO (R339). -/
  | leatHello (t : Fin 4) (u : Uplink) (verMin verMax : BitVec 8) (vendor : BitVec 16) (w : NodeModel)
  /-- LEAT_STATUS (R337). -/
  | leatStatus (t : Fin 4) (u : Uplink) (ack : BitVec 8) (lo hi : Word)
  /-- LEAT_EDGE (R337). -/
  | leatEdge (t : Fin 4) (u : Uplink) (seq ack : BitVec 8) (input : Fin 16) (level : Bool) (low : Word) (arrival : Stamp)
  /-- LEAT_VALUE (R337). -/
  | leatValue (t : Fin 4) (u : Uplink) (ack : BitVec 8) (idx : Fin 16) (fault : Bool) (v : BitVec 16) (low : Word)
  /-- LEAT_REPLY (R337). -/
  | leatReply (t : Fin 4) (u : Uplink) (seq ack : BitVec 8) (lo hi : Word)
  /-- LEAT_VIOLATION_RX (R340). -/
  | leatViolationRx (t : Fin 4) (u : Uplink) (ack reason : BitVec 8) (x : Concerned)
  /-- LEAT_BAD_FRAME (R340). -/
  | leatBadFrame (t : Fin 4) (n reason seq ftype : BitVec 8)
  /-- LEAT_CMD_FAIL (R338). -/
  | leatCmdFail (t : Fin 4) (n : BitVec 8)
  /-- LEAT_NODE_SILENT (R339). -/
  | leatNodeSilent (t : Fin 4) (n : BitVec 8)
  /-- LEAT_LINE_ERROR (R340). -/
  | leatLineError (t : Fin 4)
  /-- CMD_PUSH (R350). -/
  | cmdPush (m : Master) (t : Fin 4)
  /-- RPT_POP (R350). -/
  | rptPop (m : Master) (t : Fin 4)
  /-- LT_EN_WRITE (R350). -/
  | ltEnWrite (m : Master) (t : Fin 4) (v : Bool)
  /-- SHEET_OPEN (R342). -/
  | sheetOpen (m : Master) (n : Fin 64) (d : BitVec 20) (k : SheetClass)
  /-- SHEET_EN_WRITE (R341). -/
  | sheetEnWrite (m : Master) (v : Bool)
  /-- CHECKPOINT_MISSED (R344). -/
  | checkpointMissed (n : Fin 64) (i : Fin 128) (trail : Bool)
  /-- JAM_REQ (R347). -/
  | jamReq (m : Master)
  /-- JAM_CLR (R349). -/
  | jamClr (m : Master)
  /-- THERMAL_SAMPLE (R353). -/
  | thermalSample (raw : Vector (BitVec 16) 44) (bad : BitVec 44) (power : Vector (BitVec 32) 3)
  /-- SENSOR_BROKEN (R353). -/
  | sensorBroken (i : Fin 44)
  /-- THERMAL_RATE_EVAL (R355). -/
  | thermalRateEval
  /-- TH_STEP_TIMER (R357). -/
  | thStepTimer
  /-- TH_CLEAR_TIMER (R357). -/
  | thClearTimer
  /-- CP_SPREAD (R354). -/
  | cpSpread
  /-- THERMAL_RESTART (R359). -/
  | thermalRestart
  /-- TEMP_COMP (R362). -/
  | tempComp
  /-- SENSOR_REJUDGE (R353). -/
  | sensorRejudge (m : Master) (board : Bool) (mask : BitVec 32)
  /-- SUPERVISOR_FAULT (R363). -/
  | supervisorFault
  /-- SLUICE_EN (R367). -/
  | sluiceEn
  /-- SLUICE_DIS (R371). -/
  | sluiceDis
  /-- SLUICE_DIS_DONE (R371). -/
  | sluiceDisDone (mv : BitVec 16) (timedOut confirmed : Bool) (us : BitVec 24)
  /-- SLUICE_WAIT (R367). -/
  | sluiceWait
  /-- SLUICE_WAIT_DONE (R367). -/
  | sluiceWaitDone
  /-- SLUICE_CHECK (R367). -/
  | sluiceCheck
  /-- SLUICE_CHECK_PASS (R367). -/
  | sluiceCheckPass (mv vIn vCap : BitVec 16)
  /-- SLUICE_CHECK_TIMEOUT (R367). -/
  | sluiceCheckTimeout
  /-- SLUICE_JUMP (R367). -/
  | sluiceJump
  /-- SLUICE_LOG (R367). -/
  | sluiceLog
  /-- SLUICE_END (R367). -/
  | sluiceEnd
  /-- SLUICE_HALT_RETRY (R372). -/
  | sluiceHaltRetry
  /-- INT_RAIL_FAULT (R365). -/
  | intRailFault (r : Fin 12)
  /-- RAIL_RESTART (R365). -/
  | railRestart
  /-- EXT_RAIL_FAULT (R365). -/
  | extRailFault (r : Fin 34)
  /-- POWER_FAIL_WARN (R373). -/
  | powerFailWarn (vrms : BitVec 16) (noZeroCross : Bool)
  /-- MAINS_RETURN (R373). -/
  | mainsReturn (vrms freq : BitVec 16)
  /-- STOP_REQ (R370). -/
  | stopReq (m : Master)
  /-- PROG_STORE (R368). -/
  | progStore (m : Master)
  /-- RAIL_CMD_GO (R375). -/
  | railCmdGo (m : Master) (r : BitVec 6) (on : Bool)
  /-- LOG_PUSH (R378). -/
  | logPush (m : Master)
  /-- LOG_UNIT_WRITE (R378). -/
  | logUnitWrite (readBack : Bool)
  /-- LOG_UNIT_LEASE_EXPIRY (R469). -/
  | logUnitLeaseExpiry
  /-- MBUS_DISCHARGED (R371). -/
  | mbusDischarged (vCap : BitVec 16)
  /-- DEFERRED_TEST_RUN (R392). -/
  | deferredTestRun
  /-- DEFER_TIMEOUT (R392). -/
  | deferTimeout
  /-- DMA_GO (R404). -/
  | dmaGo (m : Master) (k : Fin 64) (w : Word)
  /-- DMA_HOST_COMPLETION (R404). -/
  | dmaHostCompletion (k : Fin 64) (r : HostReply)
  /-- DMA_DONE (R405). -/
  | dmaDone (k : Fin 64) (badUnit : Option (BitVec 26))
  /-- DMA_ABORT (R406). -/
  | dmaAbort (m : Master) (k : Fin 64)
  /-- DMA_HOST_TIMEOUT (R404). -/
  | dmaHostTimeout (k : Fin 64)
  /-- ROW_LEASE_EXPIRY (R469). -/
  | rowLeaseExpiry
  /-- ATOMIC_LOCK_EXPIRY (R469). -/
  | atomicLockExpiry (m : Master)
  /-- MB_WRITE (R415). -/
  | mbWrite (m : Master) (n : Fin 32) (w : Word)
  /-- MB_READ (R415). -/
  | mbRead (m : Master) (n : Fin 32)
  /-- MB_EXPIRE (R417). -/
  | mbExpire (n : Fin 32)
  /-- HELLO (R422). -/
  | hello (n : Fin 32)
  /-- PING (R426). -/
  | ping (n : Fin 32)
  /-- STATUS (R426). -/
  | status (n : Fin 32)
  /-- PRESS_UP (R426). -/
  | pressUp (n : Fin 32)
  /-- PRESS_UP_DONE (R426). -/
  | pressUpDone (ok : Bool) (stations : BitVec 8) (detail : BitVec 16)
  /-- PRESS_STOP (R426). -/
  | pressStop (n : Fin 32)
  /-- PRESS_STOP_DONE (R426). -/
  | pressStopDone
  /-- MODULE_RESET_SERVICE (R426). -/
  | moduleResetService (n : Fin 32)
  /-- RESET_SERVICE_DELAY (R426). -/
  | resetServiceDelay
  /-- RUN_TEST (R426). -/
  | runTest (n : Fin 32) (gapFits : Bool)
  /-- FW_LOAD (R428). -/
  | fwLoad (n : Fin 32)
  /-- FW_LOAD_DONE (R428). -/
  | fwLoadDone (readBackOk : Bool)
  /-- BIND_STORE (R426). -/
  | bindStore (n : Fin 32)
  /-- LOG_MARK (R426). -/
  | logMark (n : Fin 32)
  /-- DEFER_LIST (R426). -/
  | deferList (n : Fin 32)
  /-- BAD_OPCODE_COMMAND (R425). -/
  | badOpcodeCommand (n : Fin 32)
  /-- PAIR_MISMATCH (R429). -/
  | pairMismatch (p : Fin 4) (us10 : BitVec 16)
  /-- TASK_CHECKPOINT (R429). -/
  | taskCheckpoint (c : Checkpoint)
  /-- KWD_EXPIRE (R430). -/
  | kwdExpire
  /-- WATCHDOG_WARN (R433). -/
  | watchdogWarn (p : Fin 4)
  /-- PEER_HELLO (R441). -/
  | peerHello (p : Fin 2) (verMin verMax : BitVec 8) (m : Fin 16) (digest : BitVec 64)
  /-- ACCEPT (R441). -/
  | accept (p : Fin 2) (m : Fin 16) (version : BitVec 8)
  /-- HEARTBEAT (R448). -/
  | heartbeat (p : Fin 2) (m : Fin 16) (grade : Fin 8) (exposing jammed : Bool) (digest : BitVec 64) (exchange : Option (BitVec 32)) (members excluded refused : BitVec 16)
  /-- HEARTBEAT_TIMER (R448). -/
  | heartbeatTimer
  /-- HEARTBEAT_LOSS (R448). -/
  | heartbeatLoss (p : Fin 2) (m : Fin 16)
  /-- SLOT_OFFER_TIMER (R446). -/
  | slotOfferTimer (due : Stamp)
  /-- SLOT_OFFER (R446). -/
  | slotOffer (p : Fin 2) (n : BitVec 32) (grade : Fin 8) (pHead pOwn : Coord) (due : Stamp)
  /-- SLOT_READY (R446). -/
  | slotReady (p : Fin 2) (m : Fin 16) (n : BitVec 32) (ok : Bool) (reason : BitVec 8) (job : BitVec 32)
  /-- SLOT_GO (R446). -/
  | slotGo (p : Fin 2) (n : BitVec 32) (go : Bool)
  /-- SLOT_DROP (R449). -/
  | slotDrop (p : Fin 2) (m : Fin 16) (n : BitVec 32)
  /-- PEER_PAGE_SPOIL (R449). -/
  | peerPageSpoil (p : Fin 2) (m : Fin 16) (n : BitVec 32) (reason : BitVec 8)
  /-- RELEASE (R449). -/
  | release (p : Fin 2) (n : BitVec 32)
  /-- GRADE (R447). -/
  | grade (p : Fin 2) (g : Fin 8) (last : BitVec 32)
  /-- PEER_JAM (R449). -/
  | peerJam (p : Fin 2) (m : Fin 16) (cause : Fin 8)
  /-- MEM_WRITE (R439). -/
  | memWrite (p : Fin 2) (off : BitVec 64) (bytes : List Byte)
  /-- MEM_READ (R439). -/
  | memRead (p : Fin 2) (off : BitVec 48) (len : BitVec 16)
  /-- READ_REPLY (R439). -/
  | readReply (p : Fin 2) (param : BitVec 64) (bytes : List Byte)
  /-- PEER_SYNC_TIMER (R443); the operand has one value and carries nothing. -/
  | peerSyncTimer (u : Unit)
  /-- PEER_SYNC (R443); the operand has one value and carries nothing. -/
  | peerSync (p : Fin 2) (t1 t2 : Stamp) (u : Unit)
  /-- DELAY_REQ (R443). -/
  | delayReq (p : Fin 2) (t4 : Stamp)
  /-- DELAY_RESP (R444). -/
  | delayResp (p : Fin 2) (t4 : Stamp)
  /-- TIME_EXCHANGE_LOST (R445). -/
  | timeExchangeLost
  /-- FE_REARM (R455). -/
  | feRearm (m : Master) (page : PageNo)
  /-- FLT_INJ_ARM (R458). -/
  | fltInjArm (m : Master) (page : PageNo) (checker : BitVec 4) (target : BitVec 8)
  /-- EVT_MASK_WRITE (R452). -/
  | evtMaskWrite (m : Master) (page : PageNo) (mask : BitVec 16)
  /-- FANTAIL_RESUME (R463). -/
  | fantailResume (m : Master)
  /-- FANTAIL_EN_WRITE (R462). -/
  | fantailEnWrite (m : Master) (v : Bool)
  /-- FT_FREQ_WRITE (R461). -/
  | ftFreqWrite (m : Master) (v : BitVec 14)
  /-- FABRIC_TIMEOUT (R465). -/
  | fabricTimeout (m : Master) (a : BitVec 20) (write : Bool)
  /-- BLOCK_WATCHDOG (R466). -/
  | blockWatchdog (page : PageNo)
  /-- LEDGER_CHECK (R468). -/
  | ledgerCheck (ok : Bool)
  /-- FABRIC_PARITY_ERROR (R468). -/
  | fabricParityError (page : PageNo)
  /-- PAGE_EN_WRITE (R477). -/
  | pageEnWrite (m : Master) (page : PageNo) (v : Bool)
  /-- FREEZE_WRITE (R477). -/
  | freezeWrite (m : Master) (page : PageNo) (v : Bool)
  /-- BLOCK_RESET (R477). -/
  | blockReset (m : Master) (page : PageNo)
  /-- BLOCK_RESET_END (R477). -/
  | blockResetEnd (page : PageNo)
  /-- COMMIT (R480). -/
  | commit (m : Master) (page : PageNo)
  /-- COMMIT_APPLY (R481). -/
  | commitApply (page : PageNo) (u : Fin 64)
  /-- PAGE_LOCK (R477). -/
  | pageLock (m : Master) (page : PageNo)
  /-- MBUS_UV_CLEAR (R18). -/
  | mbusUvClear (vCap : BitVec 16)
  /-- MBUS_OV_CLEAR (R18). -/
  | mbusOvClear (vCap : BitVec 16)
  /-- MAINS_RANGE (R381). -/
  | mainsRange (vrms : BitVec 16)
  /-- HWFAULT_CLEAR (R235). -/
  | hwfaultClear (c : Fin 20) (supply : Bool)
  /-- PWM_FAULT (R332). -/
  | pwmFault (c : Fin 42)
  /-- AON_FAULT (R381). -/
  | aonFault
  /-- CREDIT_CELL (R220). -/
  | creditCell (l : LinkId) (ch : BitVec 3) (cnt : BitVec 8)
  /-- HEAD_RX_OK_TIMEOUT (R226). -/
  | headRxOkTimeout (stn : StationNo)
  /-- EXT_RAIL_POWER_GOOD (R365). -/
  | extRailPowerGood (r : Fin 35) (mv vIn vCap : BitVec 16)
  /-- SURF_STS_CLEAR (R54). -/
  | surfStsClear (m : Master) (stn : StationNo) (mask : BitVec 4)
  /-- MEAS_OVER_CLEAR (R183). -/
  | measOverClear (m : Master) (stn : StationNo)
  /-- HV_EN_WRITE (R315). -/
  | hvEnWrite (m : Master) (c : Fin 42) (v : Bool)
  /-- ENCODER_EN_WRITE (R240). -/
  | encoderEnWrite (m : Master) (c : Fin 20) (v : Bool)
  /-- PR_EN_WRITE (R437). -/
  | prEnWrite (m : Master) (p : Fin 2) (en : Bool) (lanes : BitVec 2)
deriving DecidableEq, Repr

end Sys2Proof
end

