-- ==== Sys2Proof/Decode.lean ====
section
/-! DEFINITION. The decoder of table words. The opcode table gives no row bits: commands reach the module as messages, edges and register
accesses, not as words, so no word spells a command. -/

namespace Sys2Proof

/-- The command a word spells by the table's bits: none, since no row has bits. -/
def decodeTableWord (_nbits _w : Nat) : Option Instr := none

end Sys2Proof
end

