-- ==== Sys2Proof/Config.lean ====
section
/-! DEFINITION. What an implementation fixes and what the manual leaves open: constants with no body, so that no statement can
rest on their values. -/

namespace Sys2Proof.Config

/-- The free values: the n-th value the manual leaves open, w bits wide (assumption 1). -/
opaque freeValue (w n : Nat) : BitVec w

/-- Whether an approximate computation of the module rounds its quotient up, by numerator and denominator: the manual states the
real quotient and no rounding (assumption 2). -/
opaque roundsUp (num den : Nat) : Bool

/-- SHA-384 of an image body (R384), as a number; cryptography is not modelled (assumption 3). -/
opaque sha384 (body : List Byte) : Nat

/-- Whether a signature verifies over a header against the key in ROM (R384; assumption 3). -/
opaque sigOk (header : List Byte) (sig : List Byte) : Bool

/-- The code of the engine kernel's log record of a sort k, within its range (R377): the manual gives the codes of LOG_MARK, of a fault
reset and of gated operations only (assumption 20). -/
opaque kernelKind (k : Nat) : BitVec 16

/-- The code of a cause of a Sluice sequence or halt in SQ_STS and the log (R372, R377, R380): the manual gives the fields and no
codes (assumption 41). -/
opaque sluiceCause (k : Nat) : BitVec 4

/-- The CRC-32C of a stored Sluice program (R368): the layout it is taken over is not stated (assumption 42). -/
opaque programCrc (gen start stop : Nat) (steps : List Nat) : BitVec 32

/-- The current transformer ratio of lamp channel k, which the integrator chooses (R29): lamp current for a current at the CT. -/
opaque ctRatio (k : Nat) : Nat

/-- The factory efficiency curve of a supply phase: its loss in mW at an output power in mW (R352; assumption 121). -/
opaque phaseLoss (phase power : Nat) : Nat

/-- The factory coefficients of the temperature compensation (R362), read-only in the module and not stated: the correction in converter
LSB that corrector c takes at a temperature in 0.01 °C. -/
opaque compCoeff (c : Nat) (temp : BitVec 16) : BitVec 16

/-- The SUP or STG sensor nearest converter c (R362): B(4 + k). No rule places the converters. -/
opaque compSensor (c : Nat) : BitVec 3

/-- The length of the belt, in SURF units: the revolution of R55 is not stated (assumption 94). -/
opaque beltLength : Nat

/-- The module's own VENDOR and MODEL codes in its TS records (R202): the manual gives the fields and no values (assumption 115). -/
opaque vendorCode : BitVec 16
opaque modelCode : BitVec 16

end Sys2Proof.Config
end

