-- ==== Sys2Proof/Machine/Fields.lean ====
section
/-! DEFINITION. Every register field of every page, by the manual's names: page, then register, then field. -/

namespace Sys2Proof.Machine

namespace TIME
/-- TIME.TIME_CTRL.SRC, bits [1:0] (R58). -/
def TIME_CTRL_SRC : Field := ⟨0x080, 1, 0, 0⟩
/-- TIME.TIME_CTRL.BELT_SEL, bits [3:2] (R58). -/
def TIME_CTRL_BELT_SEL : Field := ⟨0x080, 3, 2, 0⟩
/-- TIME.TIME_CTRL.SET, bits [4] (R58). -/
def TIME_CTRL_SET : Field := ⟨0x080, 4, 4, 0⟩
/-- TIME.TIME_STS.LOCKED, bits [0] (R58). -/
def TIME_STS_LOCKED : Field := ⟨0x084, 0, 0, 0⟩
/-- TIME.TIME_STS.HOLDOVER, bits [1] (R58). -/
def TIME_STS_HOLDOVER : Field := ⟨0x084, 1, 1, 0⟩
/-- TIME.TIME_STS.SLEW_ACTIVE, bits [2] (R58). -/
def TIME_STS_SLEW_ACTIVE : Field := ⟨0x084, 2, 2, 0⟩
/-- TIME.TIME_STS.SET_REFUSED, bits [3] (R58). -/
def TIME_STS_SET_REFUSED : Field := ⟨0x084, 3, 3, 0⟩
/-- TIME.TIME_STS.DEGRADED, bits [4] (R58). -/
def TIME_STS_DEGRADED : Field := ⟨0x084, 4, 4, 0⟩
/-- TIME.TIME_LO, bits [31:0] (R58). -/
def TIME_LO : Field := ⟨0x088, 31, 0, 0⟩
/-- TIME.TIME_HI, bits [31:0] (R58). -/
def TIME_HI : Field := ⟨0x08C, 31, 0, 0⟩
/-- TIME.RATE_ADJ, bits [31:0] (R58). -/
def RATE_ADJ : Field := ⟨0x090, 31, 0, 0⟩
/-- TIME.SLEW_REQ, bits [31:0] (R58). -/
def SLEW_REQ : Field := ⟨0x094, 31, 0, 0⟩
/-- TIME.SET_LO, bits [31:0] (R58). -/
def SET_LO : Field := ⟨0x098, 31, 0, 0⟩
/-- TIME.SET_HI, bits [31:0] (R58). -/
def SET_HI : Field := ⟨0x09C, 31, 0, 0⟩
/-- TIME.BELT_LO, bits [31:0] (R58). -/
def BELT_LO : Field := ⟨0x300, 31, 0, 0⟩
/-- TIME.BELT_HI, bits [15:0] (R58). -/
def BELT_HI : Field := ⟨0x304, 15, 0, 0⟩
/-- TIME.BELT_CFG.BELT0_CH, bits [4:0] (R58). -/
def BELT_CFG_BELT0_CH : Field := ⟨0x308, 4, 0, 0⟩
/-- TIME.BELT_CFG.BELT1_CH, bits [12:8] (R58). -/
def BELT_CFG_BELT1_CH : Field := ⟨0x308, 12, 8, 0⟩
/-- TIME.BELT_TOL, bits [15:0] (R58). -/
def BELT_TOL : Field := ⟨0x30C, 15, 0, 0⟩
/-- TIME.BELT_DIFF, bits [31:0] (R58). -/
def BELT_DIFF : Field := ⟨0x310, 31, 0, 0⟩
/-- TIME.BELT_NUM0, bits [31:0] (R58). -/
def BELT_NUM0 : Field := ⟨0x314, 31, 0, 0⟩
/-- TIME.BELT_DEN0, bits [31:0] (R58). -/
def BELT_DEN0 : Field := ⟨0x318, 31, 0, 0⟩
/-- TIME.BELT_NUM1, bits [31:0] (R58). -/
def BELT_NUM1 : Field := ⟨0x31C, 31, 0, 0⟩
/-- TIME.BELT_DEN1, bits [31:0] (R58). -/
def BELT_DEN1 : Field := ⟨0x320, 31, 0, 0⟩
/-- TIME.TOF_BELT_LO, bits [31:0] (R58). -/
def TOF_BELT_LO : Field := ⟨0x340, 31, 0, 0⟩
/-- TIME.TOF_BELT_HI, bits [15:0] (R58). -/
def TOF_BELT_HI : Field := ⟨0x344, 15, 0, 0⟩
/-- TIME.TOF_CTRL.MASK, bits [7:0] (R58). -/
def TOF_CTRL_MASK : Field := ⟨0x348, 7, 0, 0⟩
/-- TIME.TOF_CTRL.GO, bits [8] (R58). -/
def TOF_CTRL_GO : Field := ⟨0x348, 8, 8, 0⟩
/-- TIME.TOF_CTRL.BUSY, bits [9] (R58). -/
def TOF_CTRL_BUSY : Field := ⟨0x348, 9, 9, 0⟩
/-- TIME.TOF_STS.GO_REFUSED, bits [0] (R58). -/
def TOF_STS_GO_REFUSED : Field := ⟨0x34C, 0, 0, 0⟩
/-- TIME.TOF_TIME_LO, bits [31:0] (R58). -/
def TOF_TIME_LO : Field := ⟨0x350, 31, 0, 0⟩
/-- TIME.TOF_TIME_HI, bits [31:0] (R58). -/
def TOF_TIME_HI : Field := ⟨0x354, 31, 0, 0⟩
/-- TIME.SURF_LO, bits [31:0] (R58). -/
def SURF_LO : Field := ⟨0x100, 31, 0, 64⟩
/-- TIME.SURF_HI, bits [15:0] (R58). -/
def SURF_HI : Field := ⟨0x104, 15, 0, 64⟩
/-- TIME.SURF_PER_REV, bits [31:0] (R58). -/
def SURF_PER_REV : Field := ⟨0x108, 31, 0, 64⟩
/-- TIME.COUNTS_PER_REV, bits [31:0] (R58). -/
def COUNTS_PER_REV : Field := ⟨0x10C, 31, 0, 64⟩
/-- TIME.D_EXPO, bits [23:0] (R58). -/
def D_EXPO : Field := ⟨0x110, 23, 0, 64⟩
/-- TIME.N_NIP, bits [31:0] (R58). -/
def N_NIP : Field := ⟨0x114, 31, 0, 64⟩
/-- TIME.RHO, bits [31:0] (R58). -/
def RHO : Field := ⟨0x118, 31, 0, 64⟩
/-- TIME.SURF_TOF_LO, bits [31:0] (R58). -/
def SURF_TOF_LO : Field := ⟨0x11C, 31, 0, 64⟩
/-- TIME.SURF_TOF_HI, bits [15:0] (R58). -/
def SURF_TOF_HI : Field := ⟨0x120, 15, 0, 64⟩
/-- TIME.SURF_CFG.ENC_CH, bits [4:0] (R58). -/
def SURF_CFG_ENC_CH : Field := ⟨0x124, 4, 0, 64⟩
/-- TIME.SURF_CFG.STALE_LIM, bits [23:8] (R58). -/
def SURF_CFG_STALE_LIM : Field := ⟨0x124, 23, 8, 64⟩
/-- TIME.SURF_CFG.EN, bits [31] (R58). -/
def SURF_CFG_EN : Field := ⟨0x124, 31, 31, 64⟩
/-- TIME.SURF_STS.STALE, bits [0] (R58). -/
def SURF_STS_STALE : Field := ⟨0x128, 0, 0, 64⟩
/-- TIME.SURF_STS.REVERSE, bits [1] (R58). -/
def SURF_STS_REVERSE : Field := ⟨0x128, 1, 1, 64⟩
/-- TIME.SURF_STS.TOF_LATE, bits [2] (R58). -/
def SURF_STS_TOF_LATE : Field := ⟨0x128, 2, 2, 64⟩
/-- TIME.SURF_STS.TOF_EARLY, bits [3] (R58). -/
def SURF_STS_TOF_EARLY : Field := ⟨0x128, 3, 3, 64⟩
/-- TIME.SURF_STS.VALID, bits [4] (R58). -/
def SURF_STS_VALID : Field := ⟨0x128, 4, 4, 64⟩
end TIME

namespace HEADRACE
/-- HEADRACE.HR_CTRL.ADMIT_EN, bits [0] (R86). -/
def HR_CTRL_ADMIT_EN : Field := ⟨0x080, 0, 0, 0⟩
/-- HEADRACE.HR_CTRL.FORECAST_EN, bits [1] (R86). -/
def HR_CTRL_FORECAST_EN : Field := ⟨0x080, 1, 1, 0⟩
/-- HEADRACE.HR_CTRL.HOLD, bits [2] (R86). -/
def HR_CTRL_HOLD : Field := ⟨0x080, 2, 2, 0⟩
/-- HEADRACE.HR_CTRL.LOCK, bits [31] (R86). -/
def HR_CTRL_LOCK : Field := ⟨0x080, 31, 31, 0⟩
/-- HEADRACE.HR_STS.RUN_GRADE, bits [2:0] (R86). -/
def HR_STS_RUN_GRADE : Field := ⟨0x084, 2, 0, 0⟩
/-- HEADRACE.HR_STS.RUN_VALID, bits [3] (R86). -/
def HR_STS_RUN_VALID : Field := ⟨0x084, 3, 3, 0⟩
/-- HEADRACE.HR_STS.PEND_GRADE, bits [6:4] (R86). -/
def HR_STS_PEND_GRADE : Field := ⟨0x084, 6, 4, 0⟩
/-- HEADRACE.HR_STS.PEND_VALID, bits [7] (R86). -/
def HR_STS_PEND_VALID : Field := ⟨0x084, 7, 7, 0⟩
/-- HEADRACE.HR_STS.FC_GRADE, bits [10:8] (R86). -/
def HR_STS_FC_GRADE : Field := ⟨0x084, 10, 8, 0⟩
/-- HEADRACE.HR_STS.STARVE, bits [11] (R86). -/
def HR_STS_STARVE : Field := ⟨0x084, 11, 11, 0⟩
/-- HEADRACE.HR_STS.STACK_OK, bits [15:12] (R86). -/
def HR_STS_STACK_OK : Field := ⟨0x084, 15, 12, 0⟩
/-- HEADRACE.HR_STS.STORE_FAILED, bits [16] (R86). -/
def HR_STS_STORE_FAILED : Field := ⟨0x084, 16, 16, 0⟩
/-- HEADRACE.HR_STS.IDLE, bits [17] (R86). -/
def HR_STS_IDLE : Field := ⟨0x084, 17, 17, 0⟩
/-- HEADRACE.GRADE_CEIL, bits [2:0] (R86). -/
def GRADE_CEIL : Field := ⟨0x088, 2, 0, 0⟩
/-- HEADRACE.GAP_MM, bits [15:0] (R86). -/
def GAP_MM : Field := ⟨0x08C, 15, 0, 0⟩
/-- HEADRACE.REPRINT_DEF, bits [3:0] (R86). -/
def REPRINT_DEF : Field := ⟨0x090, 3, 0, 0⟩
/-- HEADRACE.STEPUP_HOLD, bits [15:0] (R86). -/
def STEPUP_HOLD : Field := ⟨0x094, 15, 0, 0⟩
/-- HEADRACE.GT_BANK.ACTIVE, bits [0] (R86). -/
def GT_BANK_ACTIVE : Field := ⟨0x098, 0, 0, 0⟩
/-- HEADRACE.GT_BANK.SWITCH, bits [1] (R86). -/
def GT_BANK_SWITCH : Field := ⟨0x098, 1, 1, 0⟩
/-- HEADRACE.GT_BANK.SWITCH_PEND, bits [2] (R86). -/
def GT_BANK_SWITCH_PEND : Field := ⟨0x098, 2, 2, 0⟩
/-- HEADRACE.CMDQ_FREE, bits [8:0] (R86). -/
def CMDQ_FREE : Field := ⟨0x09C, 8, 0, 0⟩
/-- HEADRACE.SUBMIT, bits [19:0] (R86). -/
def SUBMIT : Field := ⟨0x0A0, 19, 0, 0⟩
/-- HEADRACE.PLANE_READY.INDEX, bits [19:0] (R86). -/
def PLANE_READY_INDEX : Field := ⟨0x0A4, 19, 0, 0⟩
/-- HEADRACE.PLANE_READY.STATION, bits [22:20] (R86). -/
def PLANE_READY_STATION : Field := ⟨0x0A4, 22, 20, 0⟩
/-- HEADRACE.WITHDRAW, bits [19:0] (R86). -/
def WITHDRAW : Field := ⟨0x0A8, 19, 0, 0⟩
/-- HEADRACE.QUERY_IDX, bits [19:0] (R86). -/
def QUERY_IDX : Field := ⟨0x0AC, 19, 0, 0⟩
/-- HEADRACE.QUERY_STS.STATE, bits [3:0] (R86). -/
def QUERY_STS_STATE : Field := ⟨0x0B0, 3, 0, 0⟩
/-- HEADRACE.QUERY_STS.ATTEMPT, bits [7:4] (R86). -/
def QUERY_STS_ATTEMPT : Field := ⟨0x0B0, 7, 4, 0⟩
/-- HEADRACE.QUERY_STS.PLANES, bits [15:8] (R86). -/
def QUERY_STS_PLANES : Field := ⟨0x0B0, 15, 8, 0⟩
/-- HEADRACE.QUERY_STS.REASON, bits [23:16] (R86). -/
def QUERY_STS_REASON : Field := ⟨0x0B0, 23, 16, 0⟩
/-- HEADRACE.QUERY_STS.CTX, bits [27:24] (R86). -/
def QUERY_STS_CTX : Field := ⟨0x0B0, 27, 24, 0⟩
/-- HEADRACE.INGEST_RATE, bits [31:0] (R86). -/
def INGEST_RATE : Field := ⟨0x0B4, 31, 0, 0⟩
/-- HEADRACE.EXP_RATIO, bits [15:0] (R86). -/
def EXP_RATIO : Field := ⟨0x0B8, 15, 0, 0⟩
/-- HEADRACE.FC_MARGIN, bits [31:0] (R86). -/
def FC_MARGIN : Field := ⟨0x0BC, 31, 0, 0⟩
/-- HEADRACE.SLOT_SKIP, bits [15:0] (R86). -/
def SLOT_SKIP : Field := ⟨0x0C0, 15, 0, 0⟩
/-- HEADRACE.CMDQ_DROP, bits [15:0] (R86). -/
def CMDQ_DROP : Field := ⟨0x0C4, 15, 0, 0⟩
/-- HEADRACE.PIN_BYTES_LO, bits [31:0] (R86). -/
def PIN_BYTES_LO : Field := ⟨0x0C8, 31, 0, 0⟩
/-- HEADRACE.PIN_BYTES_HI, bits [7:0] (R86). -/
def PIN_BYTES_HI : Field := ⟨0x0CC, 7, 0, 0⟩
/-- HEADRACE.PAGES_LIVE, bits [9:0] (R86). -/
def PAGES_LIVE : Field := ⟨0x0D0, 9, 0, 0⟩
/-- HEADRACE.SHEETS_INFLIGHT, bits [6:0] (R86). -/
def SHEETS_INFLIGHT : Field := ⟨0x0D4, 6, 0, 0⟩
/-- HEADRACE.PART_BASE, bits [15:0] (R86). -/
def PART_BASE : Field := ⟨0x100, 15, 0, 32⟩
/-- HEADRACE.PART_LIMIT, bits [15:0] (R86). -/
def PART_LIMIT : Field := ⟨0x104, 15, 0, 32⟩
/-- HEADRACE.RING_BASE, bits [15:0] (R86). -/
def RING_BASE : Field := ⟨0x108, 15, 0, 32⟩
/-- HEADRACE.RING_CFG.LOG2SIZE, bits [3:0] (R86). -/
def RING_CFG_LOG2SIZE : Field := ⟨0x10C, 3, 0, 32⟩
/-- HEADRACE.RING_CFG.EN, bits [31] (R86). -/
def RING_CFG_EN : Field := ⟨0x10C, 31, 31, 32⟩
/-- HEADRACE.RING_HEAD, bits [15:0] (R86). -/
def RING_HEAD : Field := ⟨0x110, 15, 0, 32⟩
/-- HEADRACE.RING_TAIL, bits [15:0] (R86). -/
def RING_TAIL : Field := ⟨0x114, 15, 0, 32⟩
/-- HEADRACE.RING_LOST, bits [15:0] (R86). -/
def RING_LOST : Field := ⟨0x118, 15, 0, 32⟩
end HEADRACE

namespace CODEC_ENC
/-- CODEC_ENC.ENC_CTRL.ENC_EN, bits [3:0] (R107). -/
def ENC_CTRL_ENC_EN : Field := ⟨0x080, 3, 0, 0⟩
/-- CODEC_ENC.ENC_STS.BUSY, bits [3:0] (R107). -/
def ENC_STS_BUSY : Field := ⟨0x084, 3, 0, 0⟩
/-- CODEC_ENC.ENC_STS.FAULTED, bits [7:4] (R107). -/
def ENC_STS_FAULTED : Field := ⟨0x084, 7, 4, 0⟩
/-- CODEC_ENC.JOB_SUBMIT, bits [20:0] (R107). -/
def JOB_SUBMIT : Field := ⟨0x088, 20, 0, 0⟩
/-- CODEC_ENC.JOBQ_FREE, bits [6:0] (R107). -/
def JOBQ_FREE : Field := ⟨0x08C, 6, 0, 0⟩
/-- CODEC_ENC.JOBQ_DROP, bits [15:0] (R107). -/
def JOBQ_DROP : Field := ⟨0x090, 15, 0, 0⟩
/-- CODEC_ENC.JOBS_DONE, bits [31:0] (R107). -/
def JOBS_DONE : Field := ⟨0x094, 31, 0, 0⟩
/-- CODEC_ENC.NOSHRINK_TOTAL, bits [31:0] (R107). -/
def NOSHRINK_TOTAL : Field := ⟨0x098, 31, 0, 0⟩
/-- CODEC_ENC.LAST_ERR.JOB, bits [20:0] (R107). -/
def LAST_ERR_JOB : Field := ⟨0x09C, 20, 0, 0⟩
/-- CODEC_ENC.LAST_ERR.ERR, bits [31:24] (R107). -/
def LAST_ERR_ERR : Field := ⟨0x09C, 31, 24, 0⟩
end CODEC_ENC

namespace DECODE
/-- DECODE.DEC_STS.BUSY, bits [1:0] (R108). -/
def DEC_STS_BUSY : Field := ⟨0x080, 1, 0, 0⟩
/-- DECODE.DEC_STS.RETRY, bits [2] (R108). -/
def DEC_STS_RETRY : Field := ⟨0x080, 2, 2, 0⟩
/-- DECODE.BILLETS_LO, bits [31:0] (R108). -/
def BILLETS_LO : Field := ⟨0x084, 31, 0, 0⟩
/-- DECODE.BILLETS_HI, bits [31:0] (R108). -/
def BILLETS_HI : Field := ⟨0x088, 31, 0, 0⟩
/-- DECODE.REFETCH, bits [15:0] (R108). -/
def REFETCH : Field := ⟨0x08C, 15, 0, 0⟩
/-- DECODE.REFETCH_OK, bits [15:0] (R108). -/
def REFETCH_OK : Field := ⟨0x090, 15, 0, 0⟩
/-- DECODE.SPOIL_CNT, bits [15:0] (R108). -/
def SPOIL_CNT : Field := ⟨0x094, 15, 0, 0⟩
/-- DECODE.LAST_FAIL_DESC.DESC, bits [19:0] (R108). -/
def LAST_FAIL_DESC_DESC : Field := ⟨0x098, 19, 0, 0⟩
/-- DECODE.LAST_FAIL_DESC.CAUSE, bits [23:20] (R108). -/
def LAST_FAIL_DESC_CAUSE : Field := ⟨0x098, 23, 20, 0⟩
/-- DECODE.LAST_FAIL_DESC.SECOND, bits [24] (R108). -/
def LAST_FAIL_DESC_SECOND : Field := ⟨0x098, 24, 24, 0⟩
/-- DECODE.LAST_FAIL_BILLET, bits [18:0] (R108). -/
def LAST_FAIL_BILLET : Field := ⟨0x09C, 18, 0, 0⟩
/-- DECODE.LAST_FAIL_POS.ROW, bits [5:0] (R108). -/
def LAST_FAIL_POS_ROW : Field := ⟨0x0A0, 5, 0, 0⟩
/-- DECODE.LAST_FAIL_POS.COL, bits [15:8] (R108). -/
def LAST_FAIL_POS_COL : Field := ⟨0x0A0, 15, 8, 0⟩
/-- DECODE.DEC_RATE, bits [15:0] (R108). -/
def DEC_RATE : Field := ⟨0x0A4, 15, 0, 0⟩
end DECODE

namespace PIPE
/-- PIPE.PIPE_CTRL.OUTSIDE_LEVEL, bits [5:0] (R134). -/
def PIPE_CTRL_OUTSIDE_LEVEL : Field := ⟨0x080, 5, 0, 0⟩
/-- PIPE.PIPE_STS.PREFILL, bits [0] (R134). -/
def PIPE_STS_PREFILL : Field := ⟨0x084, 0, 0, 0⟩
/-- PIPE.PIPE_STS.RENDER, bits [1] (R134). -/
def PIPE_STS_RENDER : Field := ⟨0x084, 1, 1, 0⟩
/-- PIPE.PIPE_STS.IDLE, bits [2] (R134). -/
def PIPE_STS_IDLE : Field := ⟨0x084, 2, 2, 0⟩
/-- PIPE.PIPE_STS.WBANK_CUR, bits [3] (R134). -/
def PIPE_STS_WBANK_CUR : Field := ⟨0x084, 3, 3, 0⟩
/-- PIPE.PIPE_STS.SBANK_CUR, bits [4] (R134). -/
def PIPE_STS_SBANK_CUR : Field := ⟨0x084, 4, 4, 0⟩
/-- PIPE.CUR_DESC, bits [19:0] (R134). -/
def CUR_DESC : Field := ⟨0x088, 19, 0, 0⟩
/-- PIPE.CUR_LINE.LINE, bits [17:0] (R134). -/
def CUR_LINE_LINE : Field := ⟨0x08C, 17, 0, 0⟩
/-- PIPE.CUR_LINE.VALID, bits [31] (R134). -/
def CUR_LINE_VALID : Field := ⟨0x08C, 31, 31, 0⟩
/-- PIPE.LINES_LO, bits [31:0] (R134). -/
def LINES_LO : Field := ⟨0x090, 31, 0, 0⟩
/-- PIPE.LINES_HI, bits [31:0] (R134). -/
def LINES_HI : Field := ⟨0x094, 31, 0, 0⟩
/-- PIPE.LATE_CNT, bits [15:0] (R134). -/
def LATE_CNT : Field := ⟨0x098, 15, 0, 0⟩
/-- PIPE.ECC_CORR, bits [15:0] (R134). -/
def ECC_CORR : Field := ⟨0x09C, 15, 0, 0⟩
/-- PIPE.SLACK_MIN, bits [15:0] (R134). -/
def SLACK_MIN : Field := ⟨0x0A0, 15, 0, 0⟩
/-- PIPE.REQ_LEVEL, bits [6:0] (R134). -/
def REQ_LEVEL : Field := ⟨0x0A4, 6, 0, 0⟩
end PIPE

namespace WARP
/-- WARP.WBANK.ACTIVE, bits [0] (R135). -/
def WBANK_ACTIVE : Field := ⟨0x080, 0, 0, 0⟩
/-- WARP.WBANK.SWITCH, bits [1] (R135). -/
def WBANK_SWITCH : Field := ⟨0x080, 1, 1, 0⟩
/-- WARP.WBANK.CANCEL, bits [2] (R135). -/
def WBANK_CANCEL : Field := ⟨0x080, 2, 2, 0⟩
/-- WARP.WBANK.VALIDATING, bits [3] (R135). -/
def WBANK_VALIDATING : Field := ⟨0x080, 3, 3, 0⟩
/-- WARP.WBANK.ARMED, bits [4] (R135). -/
def WBANK_ARMED : Field := ⟨0x080, 4, 4, 0⟩
/-- WARP.WBANK.BUSY, bits [5] (R135). -/
def WBANK_BUSY : Field := ⟨0x080, 5, 5, 0⟩
/-- WARP.WBANK.IN_USE, bits [7:6] (R135). -/
def WBANK_IN_USE : Field := ⟨0x080, 7, 6, 0⟩
/-- WARP.WREJECT.CHECK, bits [7:0] (R135). -/
def WREJECT_CHECK : Field := ⟨0x084, 7, 0, 0⟩
/-- WARP.WREJECT.INDEX, bits [23:8] (R135). -/
def WREJECT_INDEX : Field := ⟨0x084, 23, 8, 0⟩
/-- WARP.WMAP_INFO.ROWS, bits [6:0] (R135). -/
def WMAP_INFO_ROWS : Field := ⟨0x088, 6, 0, 0⟩
/-- WARP.WMAP_INFO.PITCH_LOG2, bits [12:8] (R135). -/
def WMAP_INFO_PITCH_LOG2 : Field := ⟨0x088, 12, 8, 0⟩
/-- WARP.WDY_RANGE.DY_MIN, bits [15:0] (R135). -/
def WDY_RANGE_DY_MIN : Field := ⟨0x08C, 15, 0, 0⟩
/-- WARP.WDY_RANGE.DY_MAX, bits [31:16] (R135). -/
def WDY_RANGE_DY_MAX : Field := ⟨0x08C, 31, 16, 0⟩
/-- WARP.WREFUSED, bits [15:0] (R135). -/
def WREFUSED : Field := ⟨0x090, 15, 0, 0⟩
end WARP

namespace SCREEN
/-- SCREEN.SBANK.ACTIVE, bits [0] (R136). -/
def SBANK_ACTIVE : Field := ⟨0x080, 0, 0, 0⟩
/-- SCREEN.SBANK.SWITCH, bits [1] (R136). -/
def SBANK_SWITCH : Field := ⟨0x080, 1, 1, 0⟩
/-- SCREEN.SBANK.CANCEL, bits [2] (R136). -/
def SBANK_CANCEL : Field := ⟨0x080, 2, 2, 0⟩
/-- SCREEN.SBANK.VALIDATING, bits [3] (R136). -/
def SBANK_VALIDATING : Field := ⟨0x080, 3, 3, 0⟩
/-- SCREEN.SBANK.ARMED, bits [4] (R136). -/
def SBANK_ARMED : Field := ⟨0x080, 4, 4, 0⟩
/-- SCREEN.SBANK.BUSY, bits [5] (R136). -/
def SBANK_BUSY : Field := ⟨0x080, 5, 5, 0⟩
/-- SCREEN.SBANK.IN_USE, bits [7:6] (R136). -/
def SBANK_IN_USE : Field := ⟨0x080, 7, 6, 0⟩
/-- SCREEN.SREJECT.CHECK, bits [7:0] (R136). -/
def SREJECT_CHECK : Field := ⟨0x084, 7, 0, 0⟩
/-- SCREEN.SREJECT.SET, bits [11:8] (R136). -/
def SREJECT_SET : Field := ⟨0x084, 11, 8, 0⟩
/-- SCREEN.SREJECT.INDEX, bits [27:12] (R136). -/
def SREJECT_INDEX : Field := ⟨0x084, 27, 12, 0⟩
/-- SCREEN.SREFUSED, bits [15:0] (R136). -/
def SREFUSED : Field := ⟨0x088, 15, 0, 0⟩
/-- SCREEN.SETS_USED, bits [15:0] (R136). -/
def SETS_USED : Field := ⟨0x08C, 15, 0, 0⟩
/-- SCREEN.EDGE_PIX, bits [31:0] (R136). -/
def EDGE_PIX : Field := ⟨0x090, 31, 0, 0⟩
end SCREEN

namespace SWATH
/-- SWATH.SW_CTRL.EN, bits [0] (R155). -/
def SW_CTRL_EN : Field := ⟨0x080, 0, 0, 0⟩
/-- SWATH.SW_CTRL.FORCE_SINGLE, bits [1] (R155). -/
def SW_CTRL_FORCE_SINGLE : Field := ⟨0x080, 1, 1, 0⟩
/-- SWATH.SW_STS.MODE, bits [1:0] (R155). -/
def SW_STS_MODE : Field := ⟨0x084, 1, 0, 0⟩
/-- SWATH.SW_STS.EXPOSING, bits [2] (R155). -/
def SW_STS_EXPOSING : Field := ⟨0x084, 2, 2, 0⟩
/-- SWATH.SW_STS.FACET, bits [6:3] (R155). -/
def SW_STS_FACET : Field := ⟨0x084, 6, 3, 0⟩
/-- SWATH.SW_STS.FACET_VALID, bits [7] (R155). -/
def SW_STS_FACET_VALID : Field := ⟨0x084, 7, 7, 0⟩
/-- SWATH.SW_STS.INDEX_OK, bits [8] (R155). -/
def SW_STS_INDEX_OK : Field := ⟨0x084, 8, 8, 0⟩
/-- SWATH.LINK_GUARD, bits [11:0] (R155). -/
def LINK_GUARD : Field := ⟨0x088, 11, 0, 0⟩
/-- SWATH.RET_HOLD, bits [5:0] (R155). -/
def RET_HOLD : Field := ⟨0x08C, 5, 0, 0⟩
/-- SWATH.MAX16, bits [11:0] (R155). -/
def MAX16 : Field := ⟨0x090, 11, 0, 0⟩
/-- SWATH.LAST_N, bits [31:0] (R155). -/
def LAST_N : Field := ⟨0x094, 31, 0, 0⟩
/-- SWATH.LAST_PLAN.K, bits [4:0] (R155). -/
def LAST_PLAN_K : Field := ⟨0x098, 4, 0, 0⟩
/-- SWATH.LAST_PLAN.LINES, bits [12:8] (R155). -/
def LAST_PLAN_LINES : Field := ⟨0x098, 12, 8, 0⟩
/-- SWATH.LAST_PLAN.PHI, bits [21:16] (R155). -/
def LAST_PLAN_PHI : Field := ⟨0x098, 21, 16, 0⟩
/-- SWATH.LAST_PLAN.DEV, bits [31:24] (R155). -/
def LAST_PLAN_DEV : Field := ⟨0x098, 31, 24, 0⟩
/-- SWATH.FACET_SEQ, bits [31:0] (R155). -/
def FACET_SEQ : Field := ⟨0x09C, 31, 0, 0⟩
/-- SWATH.SINGLE_FACETS, bits [31:0] (R155). -/
def SINGLE_FACETS : Field := ⟨0x0A0, 31, 0, 0⟩
/-- SWATH.FALLBACK_CNT, bits [15:0] (R155). -/
def FALLBACK_CNT : Field := ⟨0x0A4, 15, 0, 0⟩
/-- SWATH.SPOIL_CNT, bits [15:0] (R155). -/
def SPOIL_CNT : Field := ⟨0x0A8, 15, 0, 0⟩
/-- SWATH.DEV_CNT, bits [15:0] (R155). -/
def DEV_CNT : Field := ⟨0x0AC, 15, 0, 0⟩
/-- SWATH.INDEX_MISS, bits [15:0] (R155). -/
def INDEX_MISS : Field := ⟨0x0B0, 15, 0, 0⟩
/-- SWATH.REV_PERIOD, bits [31:0] (R155). -/
def REV_PERIOD : Field := ⟨0x0B4, 31, 0, 0⟩
/-- SWATH.SCAN_DUR, bits [23:0] (R155). -/
def SCAN_DUR : Field := ⟨0x0C0, 23, 0, 4⟩
end SWATH

namespace SCANCLK
/-- SCANCLK.SC_CTRL.EN, bits [0] (R174). -/
def SC_CTRL_EN : Field := ⟨0x080, 0, 0, 0⟩
/-- SCANCLK.SC_CTRL.SOS_EDGE, bits [1] (R174). -/
def SC_CTRL_SOS_EDGE : Field := ⟨0x080, 1, 1, 0⟩
/-- SCANCLK.SC_CTRL.EOS_EDGE, bits [2] (R174). -/
def SC_CTRL_EOS_EDGE : Field := ⟨0x080, 2, 2, 0⟩
/-- SCANCLK.SC_STS.PLL_LOCK, bits [0] (R174). -/
def SC_STS_PLL_LOCK : Field := ⟨0x084, 0, 0, 0⟩
/-- SCANCLK.SC_STS.RUNNING, bits [1] (R174). -/
def SC_STS_RUNNING : Field := ⟨0x084, 1, 1, 0⟩
/-- SCANCLK.SC_STS.LOCKED, bits [2] (R174). -/
def SC_STS_LOCKED : Field := ⟨0x084, 2, 2, 0⟩
/-- SCANCLK.SC_STS.WORD_BAD, bits [3] (R174). -/
def SC_STS_WORD_BAD : Field := ⟨0x084, 3, 3, 0⟩
/-- SCANCLK.SC_STS.PEND, bits [4] (R174). -/
def SC_STS_PEND : Field := ⟨0x084, 4, 4, 0⟩
/-- SCANCLK.SC_STS.FLYWHEEL, bits [5] (R174). -/
def SC_STS_FLYWHEEL : Field := ⟨0x084, 5, 5, 0⟩
/-- SCANCLK.DIV_ACT0, bits [31:0] (R174). -/
def DIV_ACT0 : Field := ⟨0x088, 31, 0, 0⟩
/-- SCANCLK.DIV_ACT1, bits [31:0] (R174). -/
def DIV_ACT1 : Field := ⟨0x08C, 31, 0, 0⟩
/-- SCANCLK.DIV_PEND0, bits [31:0] (R174). -/
def DIV_PEND0 : Field := ⟨0x090, 31, 0, 0⟩
/-- SCANCLK.DIV_PEND1, bits [31:0] (R174). -/
def DIV_PEND1 : Field := ⟨0x094, 31, 0, 0⟩
/-- SCANCLK.BD_WIN, bits [12:0] (R174). -/
def BD_WIN : Field := ⟨0x098, 12, 0, 0⟩
/-- SCANCLK.SOS_TIME_LO, bits [31:0] (R174). -/
def SOS_TIME_LO : Field := ⟨0x0A0, 31, 0, 0⟩
/-- SCANCLK.SOS_TIME_HI, bits [31:0] (R174). -/
def SOS_TIME_HI : Field := ⟨0x0A4, 31, 0, 0⟩
/-- SCANCLK.EOS_TIME_LO, bits [31:0] (R174). -/
def EOS_TIME_LO : Field := ⟨0x0A8, 31, 0, 0⟩
/-- SCANCLK.EOS_TIME_HI, bits [31:0] (R174). -/
def EOS_TIME_HI : Field := ⟨0x0AC, 31, 0, 0⟩
/-- SCANCLK.RESID, bits [31:0] (R174). -/
def RESID : Field := ⟨0x0B0, 31, 0, 0⟩
/-- SCANCLK.CORR.STEPS, bits [10:0] (R174). -/
def CORR_STEPS : Field := ⟨0x0B4, 10, 0, 0⟩
/-- SCANCLK.CORR.LATE, bits [16] (R174). -/
def CORR_LATE_FLAG : Field := ⟨0x0B4, 16, 16, 0⟩
/-- SCANCLK.PHASE_ERR, bits [31:0] (R174). -/
def PHASE_ERR : Field := ⟨0x0B8, 31, 0, 0⟩
/-- SCANCLK.BD_MISS, bits [15:0] (R174). -/
def BD_MISS : Field := ⟨0x0BC, 15, 0, 0⟩
/-- SCANCLK.BD_SPUR, bits [15:0] (R174). -/
def BD_SPUR : Field := ⟨0x0C0, 15, 0, 0⟩
/-- SCANCLK.EOS_MISS, bits [15:0] (R174). -/
def EOS_MISS : Field := ⟨0x0C4, 15, 0, 0⟩
/-- SCANCLK.CORR_LATE, bits [15:0] (R174). -/
def CORR_LATE : Field := ⟨0x0C8, 15, 0, 0⟩
/-- SCANCLK.FT.PHASE, bits [9:0] (R174). -/
def FT_PHASE : Field := ⟨0x100, 9, 0, 4⟩
/-- SCANCLK.FT.MAG, bits [31:16] (R174). -/
def FT_MAG : Field := ⟨0x100, 31, 16, 4⟩
/-- SCANCLK.FT_ACT.PHASE, bits [9:0] (R174). -/
def FT_ACT_PHASE : Field := ⟨0x140, 9, 0, 4⟩
/-- SCANCLK.FT_ACT.MAG, bits [31:16] (R174). -/
def FT_ACT_MAG : Field := ⟨0x140, 31, 16, 4⟩
end SCANCLK

namespace CLOCK
/-- CLOCK.CLK_STS.SYSPLL_LOCK, bits [0] (R175). -/
def CLK_STS_SYSPLL_LOCK : Field := ⟨0x080, 0, 0, 0⟩
/-- CLOCK.CLK_STS.COREPLL_LOCK, bits [1] (R175). -/
def CLK_STS_COREPLL_LOCK : Field := ⟨0x080, 1, 1, 0⟩
/-- CLOCK.CLK_STS.SERDESPLL_LOCK, bits [4:2] (R175). -/
def CLK_STS_SERDESPLL_LOCK : Field := ⟨0x080, 4, 2, 0⟩
/-- CLOCK.CLK_STS.MON_OK, bits [5] (R175). -/
def CLK_STS_MON_OK : Field := ⟨0x080, 5, 5, 0⟩
/-- CLOCK.ORIGIN_LO, bits [31:0] (R175). -/
def ORIGIN_LO : Field := ⟨0x084, 31, 0, 0⟩
/-- CLOCK.ORIGIN_HI, bits [31:0] (R175). -/
def ORIGIN_HI : Field := ⟨0x088, 31, 0, 0⟩
/-- CLOCK.PHASE_WARN, bits [31:0] (R175). -/
def PHASE_WARN : Field := ⟨0x08C, 31, 0, 0⟩
/-- CLOCK.PHASE_FAIL, bits [31:0] (R175). -/
def PHASE_FAIL : Field := ⟨0x090, 31, 0, 0⟩
/-- CLOCK.PHASE_STN, bits [7:0] (R175). -/
def PHASE_STN : Field := ⟨0x094, 7, 0, 0⟩
/-- CLOCK.POLY_OFS, bits [31:0] (R175). -/
def POLY_OFS : Field := ⟨0x100, 31, 0, 4⟩
end CLOCK

namespace EMIT
/-- EMIT.EM_CTRL.CAL_EN, bits [0] (R192). -/
def EM_CTRL_CAL_EN : Field := ⟨0x080, 0, 0, 0⟩
/-- EMIT.EM_CTRL.DEAD_CLR, bits [1] (R192). -/
def EM_CTRL_DEAD_CLR : Field := ⟨0x080, 1, 1, 0⟩
/-- EMIT.EBANK.ACTIVE, bits [0] (R192). -/
def EBANK_ACTIVE : Field := ⟨0x084, 0, 0, 0⟩
/-- EMIT.EBANK.SWITCH, bits [1] (R192). -/
def EBANK_SWITCH : Field := ⟨0x084, 1, 1, 0⟩
/-- EMIT.EBANK.CANCEL, bits [2] (R192). -/
def EBANK_CANCEL : Field := ⟨0x084, 2, 2, 0⟩
/-- EMIT.EBANK.VALIDATING, bits [3] (R192). -/
def EBANK_VALIDATING : Field := ⟨0x084, 3, 3, 0⟩
/-- EMIT.EBANK.DOWNLOADING, bits [4] (R192). -/
def EBANK_DOWNLOADING : Field := ⟨0x084, 4, 4, 0⟩
/-- EMIT.EBANK.ARMED, bits [5] (R192). -/
def EBANK_ARMED : Field := ⟨0x084, 5, 5, 0⟩
/-- EMIT.EBANK.BUSY, bits [6] (R192). -/
def EBANK_BUSY : Field := ⟨0x084, 6, 6, 0⟩
/-- EMIT.EBANK.IN_USE, bits [8:7] (R192). -/
def EBANK_IN_USE : Field := ⟨0x084, 8, 7, 0⟩
/-- EMIT.EBANK.HEAD_BANK, bits [9] (R192). -/
def EBANK_HEAD_BANK : Field := ⟨0x084, 9, 9, 0⟩
/-- EMIT.EREJECT.CHECK, bits [7:0] (R192). -/
def EREJECT_CHECK : Field := ⟨0x088, 7, 0, 0⟩
/-- EMIT.EREJECT.INDEX, bits [23:8] (R192). -/
def EREJECT_INDEX : Field := ⟨0x088, 23, 8, 0⟩
/-- EMIT.EREFUSED, bits [15:0] (R192). -/
def EREFUSED : Field := ⟨0x08C, 15, 0, 0⟩
/-- EMIT.CEIL_UW, bits [15:0] (R192). -/
def CEIL_UW : Field := ⟨0x090, 15, 0, 0⟩
/-- EMIT.HEALTH_STS.CEIL_VIOL, bits [0] (R192). -/
def HEALTH_STS_CEIL_VIOL : Field := ⟨0x094, 0, 0, 0⟩
/-- EMIT.HEALTH_STS.MEAS_OVER, bits [1] (R192). -/
def HEALTH_STS_MEAS_OVER : Field := ⟨0x094, 1, 1, 0⟩
/-- EMIT.HEALTH_STS.BD_ALT_USED, bits [2] (R192). -/
def HEALTH_STS_BD_ALT_USED : Field := ⟨0x094, 2, 2, 0⟩
/-- EMIT.HEALTH_STS.EXP_LOST, bits [3] (R192). -/
def HEALTH_STS_EXP_LOST : Field := ⟨0x094, 3, 3, 0⟩
/-- EMIT.DEAD_LO, bits [31:0] (R192). -/
def DEAD_LO : Field := ⟨0x098, 31, 0, 0⟩
/-- EMIT.DEAD_HI, bits [15:0] (R192). -/
def DEAD_HI : Field := ⟨0x09C, 15, 0, 0⟩
/-- EMIT.DEGR_LO, bits [31:0] (R192). -/
def DEGR_LO : Field := ⟨0x0A0, 31, 0, 0⟩
/-- EMIT.DEGR_HI, bits [15:0] (R192). -/
def DEGR_HI : Field := ⟨0x0A4, 15, 0, 0⟩
/-- EMIT.KILL_LO, bits [31:0] (R192). -/
def KILL_LO : Field := ⟨0x0A8, 31, 0, 0⟩
/-- EMIT.KILL_HI, bits [15:0] (R192). -/
def KILL_HI : Field := ⟨0x0AC, 15, 0, 0⟩
/-- EMIT.TAKEOVER_CNT, bits [15:0] (R192). -/
def TAKEOVER_CNT : Field := ⟨0x0B0, 15, 0, 0⟩
/-- EMIT.LOST_CNT, bits [15:0] (R192). -/
def LOST_CNT : Field := ⟨0x0B4, 15, 0, 0⟩
/-- EMIT.CAL_IDX, bits [5:0] (R192). -/
def CAL_IDX : Field := ⟨0x0B8, 5, 0, 0⟩
/-- EMIT.CAL_DATA.P_MEAS, bits [15:0] (R192). -/
def CAL_DATA_P_MEAS : Field := ⟨0x0BC, 15, 0, 0⟩
/-- EMIT.CAL_DATA.P_EXP, bits [31:16] (R192). -/
def CAL_DATA_P_EXP : Field := ⟨0x0BC, 31, 16, 0⟩
/-- EMIT.CAL_SWEEPS, bits [31:0] (R192). -/
def CAL_SWEEPS : Field := ⟨0x0C0, 31, 0, 0⟩
/-- EMIT.HEAD_CRC, bits [31:0] (R192). -/
def HEAD_CRC : Field := ⟨0x0C4, 31, 0, 0⟩
end EMIT

namespace IVINA
/-- IVINA.IV_CTRL.EN, bits [0] (R226). -/
def IV_CTRL_EN : Field := ⟨0x080, 0, 0, 0⟩
/-- IVINA.IV_CTRL.LEN_EN, bits [1] (R226). -/
def IV_CTRL_LEN_EN : Field := ⟨0x080, 1, 1, 0⟩
/-- IVINA.IV_CTRL.LANE_EN, bits [4:2] (R226). -/
def IV_CTRL_LANE_EN : Field := ⟨0x080, 4, 2, 0⟩
/-- IVINA.IV_CTRL.RETRAIN, bits [5] (R226). -/
def IV_CTRL_RETRAIN : Field := ⟨0x080, 5, 5, 0⟩
/-- IVINA.IV_CTRL.PRECODE, bits [6] (R226). -/
def IV_CTRL_PRECODE : Field := ⟨0x080, 6, 6, 0⟩
/-- IVINA.IV_STS.LANE_ACTIVE, bits [2:0] (R226). -/
def IV_STS_LANE_ACTIVE : Field := ⟨0x084, 2, 0, 0⟩
/-- IVINA.IV_STS.LINK_UP, bits [3] (R226). -/
def IV_STS_LINK_UP : Field := ⟨0x084, 3, 3, 0⟩
/-- IVINA.IV_STS.FULL, bits [4] (R226). -/
def IV_STS_FULL : Field := ⟨0x084, 4, 4, 0⟩
/-- IVINA.IV_STS.QUAR, bits [5] (R226). -/
def IV_STS_QUAR : Field := ⟨0x084, 5, 5, 0⟩
/-- IVINA.IV_STS.LEN, bits [6] (R226). -/
def IV_STS_LEN : Field := ⟨0x084, 6, 6, 0⟩
/-- IVINA.IV_STS.HEAD_READY, bits [7] (R226). -/
def IV_STS_HEAD_READY : Field := ⟨0x084, 7, 7, 0⟩
/-- IVINA.IV_STS.TABLES_VALID, bits [9:8] (R226). -/
def IV_STS_TABLES_VALID : Field := ⟨0x084, 9, 8, 0⟩
/-- IVINA.IV_STS.HEAD_RX_OK, bits [12:10] (R226). -/
def IV_STS_HEAD_RX_OK : Field := ⟨0x084, 12, 10, 0⟩
/-- IVINA.IV_LANE_STATE.A, bits [3:0] (R226). -/
def IV_LANE_STATE_A : Field := ⟨0x088, 3, 0, 0⟩
/-- IVINA.IV_LANE_STATE.B, bits [7:4] (R226). -/
def IV_LANE_STATE_B : Field := ⟨0x088, 7, 4, 0⟩
/-- IVINA.IV_LANE_STATE.P, bits [11:8] (R226). -/
def IV_LANE_STATE_P : Field := ⟨0x088, 11, 8, 0⟩
/-- IVINA.IV_VER.MIN, bits [7:0] (R226). -/
def IV_VER_MIN : Field := ⟨0x08C, 7, 0, 0⟩
/-- IVINA.IV_VER.MAX, bits [15:8] (R226). -/
def IV_VER_MAX : Field := ⟨0x08C, 15, 8, 0⟩
/-- IVINA.IV_VER.AGREED, bits [23:16] (R226). -/
def IV_VER_AGREED : Field := ⟨0x08C, 23, 16, 0⟩
/-- IVINA.IV_HEAD_VER.MIN, bits [7:0] (R226). -/
def IV_HEAD_VER_MIN : Field := ⟨0x090, 7, 0, 0⟩
/-- IVINA.IV_HEAD_VER.MAX, bits [15:8] (R226). -/
def IV_HEAD_VER_MAX : Field := ⟨0x090, 15, 8, 0⟩
/-- IVINA.IV_HEAD_ID0.VENDOR, bits [15:0] (R226). -/
def IV_HEAD_ID0_VENDOR : Field := ⟨0x094, 15, 0, 0⟩
/-- IVINA.IV_HEAD_ID0.MODEL, bits [31:16] (R226). -/
def IV_HEAD_ID0_MODEL : Field := ⟨0x094, 31, 16, 0⟩
/-- IVINA.IV_HEAD_SN_LO, bits [31:0] (R226). -/
def IV_HEAD_SN_LO : Field := ⟨0x098, 31, 0, 0⟩
/-- IVINA.IV_HEAD_SN_HI, bits [31:0] (R226). -/
def IV_HEAD_SN_HI : Field := ⟨0x09C, 31, 0, 0⟩
/-- IVINA.IV_HEAD_FW, bits [31:0] (R226). -/
def IV_HEAD_FW : Field := ⟨0x0A0, 31, 0, 0⟩
/-- IVINA.IV_TXEQ.PRE, bits [5:0] (R226). -/
def IV_TXEQ_PRE : Field := ⟨0x0A4, 5, 0, 0⟩
/-- IVINA.IV_TXEQ.POST, bits [13:8] (R226). -/
def IV_TXEQ_POST : Field := ⟨0x0A4, 13, 8, 0⟩
/-- IVINA.IV_TXEQ.MAIN, bits [21:16] (R226). -/
def IV_TXEQ_MAIN : Field := ⟨0x0A4, 21, 16, 0⟩
/-- IVINA.LANE_FAIL_THR, bits [15:0] (R226). -/
def LANE_FAIL_THR : Field := ⟨0x0A8, 15, 0, 0⟩
/-- IVINA.SKEW, bits [15:0] (R226). -/
def SKEW : Field := ⟨0x0AC, 15, 0, 0⟩
/-- IVINA.CW_UNCORR, bits [31:0] (R226). -/
def CW_UNCORR : Field := ⟨0x0B0, 31, 0, 4⟩
/-- IVINA.CORR_SYMS, bits [31:0] (R226). -/
def CORR_SYMS : Field := ⟨0x0BC, 31, 0, 4⟩
/-- IVINA.REBUILT, bits [31:0] (R226). -/
def REBUILT : Field := ⟨0x0C8, 31, 0, 0⟩
/-- IVINA.LOST_CELLS, bits [31:0] (R226). -/
def LOST_CELLS : Field := ⟨0x0CC, 31, 0, 0⟩
/-- IVINA.RETRY_CNT, bits [15:0] (R226). -/
def RETRY_CNT : Field := ⟨0x0D0, 15, 0, 0⟩
/-- IVINA.DUP_CNT, bits [15:0] (R226). -/
def DUP_CNT : Field := ⟨0x0D4, 15, 0, 0⟩
/-- IVINA.VIOL_TX, bits [15:0] (R226). -/
def VIOL_TX : Field := ⟨0x0D8, 15, 0, 0⟩
/-- IVINA.VIOL_RX, bits [15:0] (R226). -/
def VIOL_RX : Field := ⟨0x0DC, 15, 0, 0⟩
/-- IVINA.LAST_VIOL.REASON, bits [7:0] (R226). -/
def LAST_VIOL_REASON : Field := ⟨0x0E0, 7, 0, 0⟩
/-- IVINA.LAST_VIOL.CH, bits [10:8] (R226). -/
def LAST_VIOL_CH : Field := ⟨0x0E0, 10, 8, 0⟩
/-- IVINA.LAST_VIOL.DIR, bits [11] (R226). -/
def LAST_VIOL_DIR : Field := ⟨0x0E0, 11, 11, 0⟩
/-- IVINA.LAST_VIOL.SEQ, bits [31:16] (R226). -/
def LAST_VIOL_SEQ : Field := ⟨0x0E0, 31, 16, 0⟩
/-- IVINA.TRAIN_CNT, bits [15:0] (R226). -/
def TRAIN_CNT : Field := ⟨0x0E4, 15, 0, 0⟩
/-- IVINA.CREDITS.TABLE, bits [7:0] (R226). -/
def CREDITS_TABLE : Field := ⟨0x0E8, 7, 0, 0⟩
/-- IVINA.CREDITS.MGMT, bits [15:8] (R226). -/
def CREDITS_MGMT : Field := ⟨0x0E8, 15, 8, 0⟩
/-- IVINA.HEAD_STATUS, bits [31:0] (R226). -/
def HEAD_STATUS : Field := ⟨0x0EC, 31, 0, 0⟩
end IVINA

namespace FEEDBACK
/-- FEEDBACK.FB_STS.HWFAULT, bits [7:0] (R240). -/
def FB_STS_HWFAULT : Field := ⟨0x080, 7, 0, 0⟩
/-- FEEDBACK.FB_STS.POS_VALID, bits [15:8] (R240). -/
def FB_STS_POS_VALID : Field := ⟨0x080, 15, 8, 0⟩
/-- FEEDBACK.FB_STS.CFG_REFUSED, bits [16] (R240). -/
def FB_STS_CFG_REFUSED : Field := ⟨0x080, 16, 16, 0⟩
/-- FEEDBACK.CH_CFG.EN, bits [0] (R240). -/
def CH_CFG_EN : Field := ⟨0x100, 0, 0, 64⟩
/-- FEEDBACK.CH_CFG.MODE, bits [2:1] (R240). -/
def CH_CFG_MODE : Field := ⟨0x100, 2, 1, 64⟩
/-- FEEDBACK.CH_CFG.DIR_INV, bits [3] (R240). -/
def CH_CFG_DIR_INV : Field := ⟨0x100, 3, 3, 64⟩
/-- FEEDBACK.CH_CFG.SUPPLY_EN, bits [4] (R240). -/
def CH_CFG_SUPPLY_EN : Field := ⟨0x100, 4, 4, 64⟩
/-- FEEDBACK.CH_CFG.LOSS_EN, bits [5] (R240). -/
def CH_CFG_LOSS_EN : Field := ⟨0x100, 5, 5, 64⟩
/-- FEEDBACK.CH_CFG.FILT, bits [11:8] (R240). -/
def CH_CFG_FILT : Field := ⟨0x100, 11, 8, 64⟩
/-- FEEDBACK.CH_STS.HWFAULT, bits [0] (R240). -/
def CH_STS_HWFAULT : Field := ⟨0x104, 0, 0, 64⟩
/-- FEEDBACK.CH_STS.LOSS, bits [1] (R240). -/
def CH_STS_LOSS : Field := ⟨0x104, 1, 1, 64⟩
/-- FEEDBACK.CH_STS.ILLEGAL, bits [2] (R240). -/
def CH_STS_ILLEGAL : Field := ⟨0x104, 2, 2, 64⟩
/-- FEEDBACK.CH_STS.SUPPLY_OVL, bits [3] (R240). -/
def CH_STS_SUPPLY_OVL : Field := ⟨0x104, 3, 3, 64⟩
/-- FEEDBACK.CH_STS.BISS_ERR, bits [4] (R240). -/
def CH_STS_BISS_ERR : Field := ⟨0x104, 4, 4, 64⟩
/-- FEEDBACK.CH_STS.POS_VALID, bits [5] (R240). -/
def CH_STS_POS_VALID : Field := ⟨0x104, 5, 5, 64⟩
/-- FEEDBACK.CH_STS.METHOD, bits [6] (R240). -/
def CH_STS_METHOD : Field := ⟨0x104, 6, 6, 64⟩
/-- FEEDBACK.CH_STS.STOPPED, bits [7] (R240). -/
def CH_STS_STOPPED : Field := ⟨0x104, 7, 7, 64⟩
/-- FEEDBACK.CH_STS.WARN, bits [8] (R240). -/
def CH_STS_WARN : Field := ⟨0x104, 8, 8, 64⟩
/-- FEEDBACK.CH_POS, bits [31:0] (R240). -/
def CH_POS : Field := ⟨0x108, 31, 0, 64⟩
/-- FEEDBACK.TLAST_LO, bits [31:0] (R240). -/
def TLAST_LO : Field := ⟨0x10C, 31, 0, 64⟩
/-- FEEDBACK.TLAST_HI, bits [31:0] (R240). -/
def TLAST_HI : Field := ⟨0x110, 31, 0, 64⟩
/-- FEEDBACK.SPEED, bits [31:0] (R240). -/
def SPEED : Field := ⟨0x114, 31, 0, 64⟩
/-- FEEDBACK.ACCEL, bits [31:0] (R240). -/
def ACCEL : Field := ⟨0x118, 31, 0, 64⟩
/-- FEEDBACK.IDX_POS, bits [31:0] (R240). -/
def IDX_POS : Field := ⟨0x11C, 31, 0, 64⟩
/-- FEEDBACK.IDX_T_LO, bits [31:0] (R240). -/
def IDX_T_LO : Field := ⟨0x120, 31, 0, 64⟩
/-- FEEDBACK.IDX_T_HI, bits [31:0] (R240). -/
def IDX_T_HI : Field := ⟨0x124, 31, 0, 64⟩
/-- FEEDBACK.IDX_PERIOD, bits [31:0] (R240). -/
def IDX_PERIOD : Field := ⟨0x128, 31, 0, 64⟩
/-- FEEDBACK.SPD_CFG.WIN, bits [7:0] (R240). -/
def SPD_CFG_WIN : Field := ⟨0x12C, 7, 0, 64⟩
/-- FEEDBACK.SPD_CFG.CHG_HI, bits [15:8] (R240). -/
def SPD_CFG_CHG_HI : Field := ⟨0x12C, 15, 8, 64⟩
/-- FEEDBACK.SPD_CFG.CHG_LO, bits [23:16] (R240). -/
def SPD_CFG_CHG_LO : Field := ⟨0x12C, 23, 16, 64⟩
/-- FEEDBACK.SPD_CFG.STALL, bits [31:24] (R240). -/
def SPD_CFG_STALL : Field := ⟨0x12C, 31, 24, 64⟩
/-- FEEDBACK.BISS_CFG.BITS, bits [5:0] (R240). -/
def BISS_CFG_BITS : Field := ⟨0x130, 5, 0, 64⟩
/-- FEEDBACK.BISS_CFG.CLKDIV, bits [15:8] (R240). -/
def BISS_CFG_CLKDIV : Field := ⟨0x130, 15, 8, 64⟩
/-- FEEDBACK.BISS_CFG.CYCLE, bits [23:16] (R240). -/
def BISS_CFG_CYCLE : Field := ⟨0x130, 23, 16, 64⟩
/-- FEEDBACK.BISS_CFG.TIMEOUT, bits [31:24] (R240). -/
def BISS_CFG_TIMEOUT : Field := ⟨0x130, 31, 24, 64⟩
/-- FEEDBACK.BISS_DELAY, bits [15:0] (R240). -/
def BISS_DELAY : Field := ⟨0x134, 15, 0, 64⟩
/-- FEEDBACK.ERR_CNT, bits [15:0] (R240). -/
def ERR_CNT : Field := ⟨0x138, 15, 0, 64⟩
/-- FEEDBACK.DIV_CFG.EN, bits [0] (R240). -/
def DIV_CFG_EN : Field := ⟨0x300, 0, 0, 32⟩
/-- FEEDBACK.DIV_CFG.SRC, bits [5:1] (R240). -/
def DIV_CFG_SRC : Field := ⟨0x300, 5, 1, 32⟩
/-- FEEDBACK.DIV_CFG.INV, bits [6] (R240). -/
def DIV_CFG_INV : Field := ⟨0x300, 6, 6, 32⟩
/-- FEEDBACK.DIV_CFG.MIN_SP, bits [15:8] (R240). -/
def DIV_CFG_MIN_SP : Field := ⟨0x300, 15, 8, 32⟩
/-- FEEDBACK.DIV_NUM, bits [15:0] (R240). -/
def DIV_NUM : Field := ⟨0x304, 15, 0, 32⟩
/-- FEEDBACK.DIV_DEN, bits [15:0] (R240). -/
def DIV_DEN : Field := ⟨0x308, 15, 0, 32⟩
/-- FEEDBACK.DIV_STS.RUNNING, bits [0] (R240). -/
def DIV_STS_RUNNING : Field := ⟨0x30C, 0, 0, 32⟩
/-- FEEDBACK.DIV_STS.HOLD, bits [1] (R240). -/
def DIV_STS_HOLD : Field := ⟨0x30C, 1, 1, 32⟩
/-- FEEDBACK.DIV_STS.OVERRUN, bits [2] (R240). -/
def DIV_STS_OVERRUN : Field := ⟨0x30C, 2, 2, 32⟩
/-- FEEDBACK.DIV_STS.BACKLOG, bits [15:8] (R240). -/
def DIV_STS_BACKLOG : Field := ⟨0x30C, 15, 8, 32⟩
/-- FEEDBACK.DIV_POS, bits [31:0] (R240). -/
def DIV_POS : Field := ⟨0x310, 31, 0, 32⟩
end FEEDBACK

namespace AXIS
/-- AXIS.AX_CTRL.EN, bits [0] (R259). -/
def AX_CTRL_EN : Field := ⟨0x080, 0, 0, 0⟩
/-- AXIS.AX_CTRL.ALIGN_REQ, bits [1] (R259). -/
def AX_CTRL_ALIGN_REQ : Field := ⟨0x080, 1, 1, 0⟩
/-- AXIS.AX_CTRL.IQ_SRC, bits [2] (R259). -/
def AX_CTRL_IQ_SRC : Field := ⟨0x080, 2, 2, 0⟩
/-- AXIS.AX_CTRL.FF_EN, bits [3] (R259). -/
def AX_CTRL_FF_EN : Field := ⟨0x080, 3, 3, 0⟩
/-- AXIS.AX_STS.STATE, bits [3:0] (R259). -/
def AX_STS_STATE : Field := ⟨0x084, 3, 0, 0⟩
/-- AXIS.AX_STS.LIMITED, bits [4] (R259). -/
def AX_STS_LIMITED : Field := ⟨0x084, 4, 4, 0⟩
/-- AXIS.AX_STS.OBS_VALID, bits [5] (R259). -/
def AX_STS_OBS_VALID : Field := ⟨0x084, 5, 5, 0⟩
/-- AXIS.AX_STS.PHASE_LOCK, bits [6] (R259). -/
def AX_STS_PHASE_LOCK : Field := ⟨0x084, 6, 6, 0⟩
/-- AXIS.AX_STS.MBUS_LOW, bits [7] (R259). -/
def AX_STS_MBUS_LOW : Field := ⟨0x084, 7, 7, 0⟩
/-- AXIS.AX_STS.OFS_VALID, bits [8] (R259). -/
def AX_STS_OFS_VALID : Field := ⟨0x084, 8, 8, 0⟩
/-- AXIS.AX_STS.CFG_REFUSED, bits [9] (R259). -/
def AX_STS_CFG_REFUSED : Field := ⟨0x084, 9, 9, 0⟩
/-- AXIS.AX_STS.LAST_CAUSE, bits [15:12] (R259). -/
def AX_STS_LAST_CAUSE : Field := ⟨0x084, 15, 12, 0⟩
/-- AXIS.AX_CFG.TYPE, bits [1:0] (R259). -/
def AX_CFG_TYPE : Field := ⟨0x088, 1, 0, 0⟩
/-- AXIS.AX_CFG.POLE_PAIRS, bits [7:4] (R259). -/
def AX_CFG_POLE_PAIRS : Field := ⟨0x088, 7, 4, 0⟩
/-- AXIS.AX_CFG.ENC_CH, bits [12:8] (R259). -/
def AX_CFG_ENC_CH : Field := ⟨0x088, 12, 8, 0⟩
/-- AXIS.AX_CFG.GOV_SLOT, bits [22:16] (R259). -/
def AX_CFG_GOV_SLOT : Field := ⟨0x088, 22, 16, 0⟩
/-- AXIS.PWM_PER, bits [16:0] (R259). -/
def PWM_PER : Field := ⟨0x08C, 16, 0, 0⟩
/-- AXIS.WIN.MIN_WIN, bits [11:0] (R259). -/
def WIN_MIN_WIN : Field := ⟨0x090, 11, 0, 0⟩
/-- AXIS.WIN.SETTLE, bits [27:16] (R259). -/
def WIN_SETTLE : Field := ⟨0x090, 27, 16, 0⟩
/-- AXIS.KP.KP_D, bits [15:0] (R259). -/
def KP_KP_D : Field := ⟨0x094, 15, 0, 0⟩
/-- AXIS.KP.KP_Q, bits [31:16] (R259). -/
def KP_KP_Q : Field := ⟨0x094, 31, 16, 0⟩
/-- AXIS.KI.KI_D, bits [15:0] (R259). -/
def KI_KI_D : Field := ⟨0x098, 15, 0, 0⟩
/-- AXIS.KI.KI_Q, bits [31:16] (R259). -/
def KI_KI_Q : Field := ⟨0x098, 31, 16, 0⟩
/-- AXIS.LIMITS.I_LIM, bits [15:0] (R259). -/
def LIMITS_I_LIM : Field := ⟨0x09C, 15, 0, 0⟩
/-- AXIS.LIMITS.SPD_LIM, bits [31:16] (R259). -/
def LIMITS_SPD_LIM : Field := ⟨0x09C, 31, 16, 0⟩
/-- AXIS.IQ_LIMITS.IQ_LIM, bits [15:0] (R259). -/
def IQ_LIMITS_IQ_LIM : Field := ⟨0x0A0, 15, 0, 0⟩
/-- AXIS.IQ_LIMITS.IQ_NEG_LIM, bits [31:16] (R259). -/
def IQ_LIMITS_IQ_NEG_LIM : Field := ⟨0x0A0, 31, 16, 0⟩
/-- AXIS.REF.IQ_REF, bits [15:0] (R259). -/
def REF_IQ_REF : Field := ⟨0x0A4, 15, 0, 0⟩
/-- AXIS.REF.ID_REF, bits [31:16] (R259). -/
def REF_ID_REF : Field := ⟨0x0A4, 31, 16, 0⟩
/-- AXIS.MOTOR.R_PH, bits [15:0] (R259). -/
def MOTOR_R_PH : Field := ⟨0x0A8, 15, 0, 0⟩
/-- AXIS.MOTOR.L_PH, bits [31:16] (R259). -/
def MOTOR_L_PH : Field := ⟨0x0A8, 31, 16, 0⟩
/-- AXIS.KE, bits [15:0] (R259). -/
def KE : Field := ⟨0x0AC, 15, 0, 0⟩
/-- AXIS.ELEC_OFS, bits [15:0] (R259). -/
def ELEC_OFS : Field := ⟨0x0B0, 15, 0, 0⟩
/-- AXIS.ANG_NUM, bits [31:0] (R259). -/
def ANG_NUM : Field := ⟨0x0B4, 31, 0, 0⟩
/-- AXIS.ANG_DEN, bits [31:0] (R259). -/
def ANG_DEN : Field := ⟨0x0B8, 31, 0, 0⟩
/-- AXIS.START_I.I_ALIGN, bits [15:0] (R259). -/
def START_I_I_ALIGN : Field := ⟨0x0BC, 15, 0, 0⟩
/-- AXIS.START_I.I_RAMP, bits [31:16] (R259). -/
def START_I_I_RAMP : Field := ⟨0x0BC, 31, 16, 0⟩
/-- AXIS.START_T.T_ALIGN, bits [11:0] (R259). -/
def START_T_T_ALIGN : Field := ⟨0x0C0, 11, 0, 0⟩
/-- AXIS.START_T.HO_TIMEOUT, bits [27:16] (R259). -/
def START_T_HO_TIMEOUT : Field := ⟨0x0C0, 27, 16, 0⟩
/-- AXIS.RAMP.RAMP_ACC, bits [15:0] (R259). -/
def RAMP_RAMP_ACC : Field := ⟨0x0C4, 15, 0, 0⟩
/-- AXIS.RAMP.HANDOVER, bits [31:16] (R259). -/
def RAMP_HANDOVER : Field := ⟨0x0C4, 31, 16, 0⟩
/-- AXIS.CATCH.CATCH_MEAS, bits [7:0] (R259). -/
def CATCH_CATCH_MEAS : Field := ⟨0x0C8, 7, 0, 0⟩
/-- AXIS.CATCH.CATCH_WAIT, bits [15:8] (R259). -/
def CATCH_CATCH_WAIT : Field := ⟨0x0C8, 15, 8, 0⟩
/-- AXIS.CATCH.STILL, bits [31:16] (R259). -/
def CATCH_STILL : Field := ⟨0x0C8, 31, 16, 0⟩
/-- AXIS.GOV_WD, bits [15:0] (R259). -/
def GOV_WD : Field := ⟨0x0CC, 15, 0, 0⟩
/-- AXIS.I_MEAS.ID_MEAS, bits [15:0] (R259). -/
def I_MEAS_ID_MEAS : Field := ⟨0x0D0, 15, 0, 0⟩
/-- AXIS.I_MEAS.IQ_MEAS, bits [31:16] (R259). -/
def I_MEAS_IQ_MEAS : Field := ⟨0x0D0, 31, 16, 0⟩
/-- AXIS.V_OUT.VD, bits [15:0] (R259). -/
def V_OUT_VD : Field := ⟨0x0D4, 15, 0, 0⟩
/-- AXIS.V_OUT.VQ, bits [31:16] (R259). -/
def V_OUT_VQ : Field := ⟨0x0D4, 31, 16, 0⟩
/-- AXIS.SPEED_EST, bits [31:0] (R259). -/
def SPEED_EST : Field := ⟨0x0D8, 31, 0, 0⟩
/-- AXIS.ANGLE.THETA, bits [15:0] (R259). -/
def ANGLE_THETA : Field := ⟨0x0DC, 15, 0, 0⟩
/-- AXIS.ANGLE.ISHUNT_OFS, bits [31:16] (R259). -/
def ANGLE_ISHUNT_OFS : Field := ⟨0x0DC, 31, 16, 0⟩
/-- AXIS.SHIFT_CNT, bits [31:0] (R259). -/
def SHIFT_CNT : Field := ⟨0x0E0, 31, 0, 0⟩
/-- AXIS.CARRY_CNT, bits [15:0] (R259). -/
def CARRY_CNT : Field := ⟨0x0E4, 15, 0, 0⟩
/-- AXIS.SKIP_CNT, bits [15:0] (R259). -/
def SKIP_CNT : Field := ⟨0x0E8, 15, 0, 0⟩
/-- AXIS.STARTS.START_CNT, bits [15:0] (R259). -/
def STARTS_START_CNT : Field := ⟨0x0EC, 15, 0, 0⟩
/-- AXIS.STARTS.START_FAIL, bits [31:16] (R259). -/
def STARTS_START_FAIL : Field := ⟨0x0EC, 31, 16, 0⟩
end AXIS

namespace GATE
/-- GATE.GD_CTRL.TRIP_REPEAT, bits [3:0] (R276). -/
def GD_CTRL_TRIP_REPEAT : Field := ⟨0x080, 3, 0, 0⟩
/-- GATE.GD_STS.VGD_OK, bits [0] (R276). -/
def GD_STS_VGD_OK : Field := ⟨0x084, 0, 0, 0⟩
/-- GATE.GD_STS.VGD_OV, bits [1] (R276). -/
def GD_STS_VGD_OV : Field := ⟨0x084, 1, 1, 0⟩
/-- GATE.GD_STS.BANK_OFF, bits [2] (R276). -/
def GD_STS_BANK_OFF : Field := ⟨0x084, 2, 2, 0⟩
/-- GATE.GD_STS.CFG_REFUSED, bits [3] (R276). -/
def GD_STS_CFG_REFUSED : Field := ⟨0x084, 3, 3, 0⟩
/-- GATE.DEAD.DEAD_NS, bits [9:0] (R276). -/
def DEAD_DEAD_NS : Field := ⟨0x088, 9, 0, 0⟩
/-- GATE.BLANK.BLANK_NS, bits [9:0] (R276). -/
def BLANK_BLANK_NS : Field := ⟨0x08C, 9, 0, 0⟩
/-- GATE.DIDT.NORM, bits [15:0] (R276). -/
def DIDT_NORM : Field := ⟨0x090, 15, 0, 0⟩
/-- GATE.DIDT.GROSS, bits [31:16] (R276). -/
def DIDT_GROSS : Field := ⟨0x090, 31, 16, 0⟩
/-- GATE.REFRESH.REFRESH_MIN, bits [11:0] (R276). -/
def REFRESH_REFRESH_MIN : Field := ⟨0x094, 11, 0, 0⟩
/-- GATE.VGD_MEAS, bits [15:0] (R276). -/
def VGD_MEAS : Field := ⟨0x098, 15, 0, 0⟩
/-- GATE.BOOT_OK, bits [23:0] (R276). -/
def BOOT_OK : Field := ⟨0x09C, 23, 0, 0⟩
/-- GATE.LEG_TRIPPED, bits [23:0] (R276). -/
def LEG_TRIPPED : Field := ⟨0x0A0, 23, 0, 0⟩
/-- GATE.BRIDGE_LATCH, bits [7:0] (R276). -/
def BRIDGE_LATCH : Field := ⟨0x0A4, 7, 0, 0⟩
/-- GATE.BRIDGE_CLR, bits [7:0] (R276). -/
def BRIDGE_CLR : Field := ⟨0x0A8, 7, 0, 0⟩
/-- GATE.TRIP_CNT, bits [15:0] (R276). -/
def TRIP_CNT : Field := ⟨0x0AC, 15, 0, 0⟩
/-- GATE.BRIDGE_CNT, bits [15:0] (R276). -/
def BRIDGE_CNT : Field := ⟨0x0B0, 15, 0, 0⟩
/-- GATE.UVLO_CNT, bits [15:0] (R276). -/
def UVLO_CNT : Field := ⟨0x0B4, 15, 0, 0⟩
/-- GATE.REFRESH_MISS, bits [15:0] (R276). -/
def REFRESH_MISS : Field := ⟨0x0B8, 15, 0, 0⟩
/-- GATE.LAST_TRIP.LEG, bits [4:0] (R276). -/
def LAST_TRIP_LEG : Field := ⟨0x0BC, 4, 0, 0⟩
/-- GATE.LAST_TRIP.SIDE, bits [5] (R276). -/
def LAST_TRIP_SIDE : Field := ⟨0x0BC, 5, 5, 0⟩
/-- GATE.LAST_TRIP.GROSS, bits [6] (R276). -/
def LAST_TRIP_GROSS : Field := ⟨0x0BC, 6, 6, 0⟩
/-- GATE.LAST_TRIP.BLANKED, bits [7] (R276). -/
def LAST_TRIP_BLANKED : Field := ⟨0x0BC, 7, 7, 0⟩
/-- GATE.LAST_TRIP.BRIDGE, bits [10:8] (R276). -/
def LAST_TRIP_BRIDGE : Field := ⟨0x0BC, 10, 8, 0⟩
end GATE

namespace MOTION
/-- MOTION.MO_STS.GRP_MOVING, bits [3:0] (R295). -/
def MO_STS_GRP_MOVING : Field := ⟨0x080, 3, 0, 0⟩
/-- MOTION.MO_STS.RDV_LOCKED, bits [7:4] (R295). -/
def MO_STS_RDV_LOCKED : Field := ⟨0x080, 7, 4, 0⟩
/-- MOTION.MO_STS.RDV_ACTIVE, bits [11:8] (R295). -/
def MO_STS_RDV_ACTIVE : Field := ⟨0x080, 11, 8, 0⟩
/-- MOTION.GRP_CFG.MEMBERS, bits [15:0] (R295). -/
def GRP_CFG_MEMBERS : Field := ⟨0x100, 15, 0, 16⟩
/-- MOTION.GRP_CFG.EN, bits [31] (R295). -/
def GRP_CFG_EN : Field := ⟨0x100, 31, 31, 16⟩
/-- MOTION.GRP_GO, bits [0] (R295). -/
def GRP_GO : Field := ⟨0x104, 0, 0, 16⟩
/-- MOTION.GRP_STS.LEAD, bits [3:0] (R295). -/
def GRP_STS_LEAD : Field := ⟨0x108, 3, 0, 16⟩
/-- MOTION.GRP_STS.MOVING, bits [4] (R295). -/
def GRP_STS_MOVING : Field := ⟨0x108, 4, 4, 16⟩
/-- MOTION.GRP_STS.REDIRECT, bits [5] (R295). -/
def GRP_STS_REDIRECT : Field := ⟨0x108, 5, 5, 16⟩
/-- MOTION.GRP_STS.REFUSED, bits [6] (R295). -/
def GRP_STS_REFUSED : Field := ⟨0x108, 6, 6, 16⟩
/-- MOTION.RDV_CTRL.AXIS, bits [3:0] (R295). -/
def RDV_CTRL_AXIS : Field := ⟨0x200, 3, 0, 64⟩
/-- MOTION.RDV_CTRL.GO, bits [8] (R295). -/
def RDV_CTRL_GO : Field := ⟨0x200, 8, 8, 64⟩
/-- MOTION.RDV_CTRL.ABORT, bits [9] (R295). -/
def RDV_CTRL_ABORT : Field := ⟨0x200, 9, 9, 64⟩
/-- MOTION.RDV_STS.STATE, bits [1:0] (R295). -/
def RDV_STS_STATE : Field := ⟨0x204, 1, 0, 64⟩
/-- MOTION.RDV_STS.CORRECTED, bits [2] (R295). -/
def RDV_STS_CORRECTED : Field := ⟨0x204, 2, 2, 64⟩
/-- MOTION.RDV_STS.REFUSED, bits [3] (R295). -/
def RDV_STS_REFUSED : Field := ⟨0x204, 3, 3, 64⟩
/-- MOTION.GEAR_NUM, bits [31:0] (R295). -/
def GEAR_NUM : Field := ⟨0x208, 31, 0, 64⟩
/-- MOTION.GEAR_DEN, bits [31:0] (R295). -/
def GEAR_DEN : Field := ⟨0x20C, 31, 0, 64⟩
/-- MOTION.B_MEET_LO, bits [31:0] (R295). -/
def B_MEET_LO : Field := ⟨0x210, 31, 0, 64⟩
/-- MOTION.B_MEET_HI, bits [15:0] (R295). -/
def B_MEET_HI : Field := ⟨0x214, 15, 0, 64⟩
/-- MOTION.MU_MEET, bits [31:0] (R295). -/
def MU_MEET : Field := ⟨0x218, 31, 0, 64⟩
/-- MOTION.LE_DIST, bits [23:0] (R295). -/
def LE_DIST : Field := ⟨0x21C, 23, 0, 64⟩
/-- MOTION.RDV_SHEET.SHEET, bits [5:0] (R295). -/
def RDV_SHEET_SHEET : Field := ⟨0x220, 5, 0, 64⟩
/-- MOTION.RDV_SHEET.CP, bits [14:8] (R295). -/
def RDV_SHEET_CP : Field := ⟨0x220, 14, 8, 64⟩
/-- MOTION.RDV_MAX, bits [15:0] (R295). -/
def RDV_MAX : Field := ⟨0x224, 15, 0, 64⟩
/-- MOTION.RDV_TOL, bits [7:0] (R295). -/
def RDV_TOL : Field := ⟨0x228, 7, 0, 64⟩
/-- MOTION.LOCK_LEAD, bits [23:0] (R295). -/
def LOCK_LEAD : Field := ⟨0x22C, 23, 0, 64⟩
/-- MOTION.REL_DIST, bits [23:0] (R295). -/
def REL_DIST : Field := ⟨0x230, 23, 0, 64⟩
/-- MOTION.LAST_CORR, bits [31:0] (R295). -/
def LAST_CORR : Field := ⟨0x234, 31, 0, 64⟩
end MOTION

namespace STEP
/-- STEP.STEP_CTRL.EN, bits [0] (R296). -/
def STEP_CTRL_EN : Field := ⟨0x080, 0, 0, 0⟩
/-- STEP.STEP_CTRL.MODE, bits [2:1] (R296). -/
def STEP_CTRL_MODE : Field := ⟨0x080, 2, 1, 0⟩
/-- STEP.STEP_CTRL.STOP_NOW, bits [3] (R296). -/
def STEP_CTRL_STOP_NOW : Field := ⟨0x080, 3, 3, 0⟩
/-- STEP.STEP_STS.STATE, bits [2:0] (R296). -/
def STEP_STS_STATE : Field := ⟨0x084, 2, 0, 0⟩
/-- STEP.STEP_STS.POS_VALID, bits [3] (R296). -/
def STEP_STS_POS_VALID : Field := ⟨0x084, 3, 3, 0⟩
/-- STEP.STEP_STS.RES, bits [6:4] (R296). -/
def STEP_STS_RES : Field := ⟨0x084, 6, 4, 0⟩
/-- STEP.STEP_STS.MBUS_LOW, bits [7] (R296). -/
def STEP_STS_MBUS_LOW : Field := ⟨0x084, 7, 7, 0⟩
/-- STEP.STEP_STS.IN_GROUP, bits [8] (R296). -/
def STEP_STS_IN_GROUP : Field := ⟨0x084, 8, 8, 0⟩
/-- STEP.STEP_STS.CFG_REFUSED, bits [9] (R296). -/
def STEP_STS_CFG_REFUSED : Field := ⟨0x084, 9, 9, 0⟩
/-- STEP.STEP_STS.LAST_CAUSE, bits [13:10] (R296). -/
def STEP_STS_LAST_CAUSE : Field := ⟨0x084, 13, 10, 0⟩
/-- STEP.STEP_CFG.DIR_INV, bits [0] (R296). -/
def STEP_CFG_DIR_INV : Field := ⟨0x088, 0, 0, 0⟩
/-- STEP.STEP_CFG.JAM_STOP, bits [1] (R296). -/
def STEP_CFG_JAM_STOP : Field := ⟨0x088, 1, 1, 0⟩
/-- STEP.TARGET, bits [31:0] (R296). -/
def TARGET : Field := ⟨0x08C, 31, 0, 0⟩
/-- STEP.V_TGT, bits [15:0] (R296). -/
def V_TGT : Field := ⟨0x090, 15, 0, 0⟩
/-- STEP.V_MAX, bits [13:0] (R296). -/
def V_MAX : Field := ⟨0x094, 13, 0, 0⟩
/-- STEP.A_MAX, bits [23:0] (R296). -/
def A_MAX : Field := ⟨0x098, 23, 0, 0⟩
/-- STEP.J_MAX, bits [27:0] (R296). -/
def J_MAX : Field := ⟨0x09C, 27, 0, 0⟩
/-- STEP.CURRENT.I_RUN, bits [12:0] (R296). -/
def CURRENT_I_RUN : Field := ⟨0x0A0, 12, 0, 0⟩
/-- STEP.CURRENT.I_HOLD, bits [28:16] (R296). -/
def CURRENT_I_HOLD : Field := ⟨0x0A0, 28, 16, 0⟩
/-- STEP.I_TRIP, bits [12:0] (R296). -/
def I_TRIP : Field := ⟨0x0A4, 12, 0, 0⟩
/-- STEP.HOLD_DELAY, bits [15:0] (R296). -/
def HOLD_DELAY : Field := ⟨0x0A8, 15, 0, 0⟩
/-- STEP.CHOP_PER, bits [16:0] (R296). -/
def CHOP_PER : Field := ⟨0x0AC, 16, 0, 0⟩
/-- STEP.KP, bits [15:0] (R296). -/
def KP : Field := ⟨0x0B0, 15, 0, 0⟩
/-- STEP.KI, bits [15:0] (R296). -/
def KI : Field := ⟨0x0B4, 15, 0, 0⟩
/-- STEP.POS, bits [31:0] (R296). -/
def POS : Field := ⟨0x0B8, 31, 0, 0⟩
/-- STEP.POS_SET, bits [31:0] (R296). -/
def POS_SET : Field := ⟨0x0BC, 31, 0, 0⟩
/-- STEP.VEL, bits [31:0] (R296). -/
def VEL : Field := ⟨0x0C0, 31, 0, 0⟩
/-- STEP.ACC, bits [31:0] (R296). -/
def ACC : Field := ⟨0x0C4, 31, 0, 0⟩
/-- STEP.I_MEAS.IA, bits [15:0] (R296). -/
def I_MEAS_IA : Field := ⟨0x0C8, 15, 0, 0⟩
/-- STEP.I_MEAS.IB, bits [31:16] (R296). -/
def I_MEAS_IB : Field := ⟨0x0C8, 31, 16, 0⟩
/-- STEP.HALT_CNT, bits [15:0] (R296). -/
def HALT_CNT : Field := ⟨0x0CC, 15, 0, 0⟩
/-- STEP.RES_CHG, bits [31:0] (R296). -/
def RES_CHG : Field := ⟨0x0D0, 31, 0, 0⟩
/-- STEP.FAULT_CNT, bits [15:0] (R296). -/
def FAULT_CNT : Field := ⟨0x0D4, 15, 0, 0⟩
end STEP

namespace GOV
/-- GOV.GV_CTRL.STAT_CLR, bits [0] (R314). -/
def GV_CTRL_STAT_CLR : Field := ⟨0x080, 0, 0, 0⟩
/-- GOV.GV_STS.ENGINE_FAULT, bits [0] (R314). -/
def GV_STS_ENGINE_FAULT : Field := ⟨0x084, 0, 0, 0⟩
/-- GOV.GV_STS.COMMIT_WAIT, bits [1] (R314). -/
def GV_STS_COMMIT_WAIT : Field := ⟨0x084, 1, 1, 0⟩
/-- GOV.LOAD.STATIC, bits [9:0] (R314). -/
def LOAD_STATIC : Field := ⟨0x088, 9, 0, 0⟩
/-- GOV.LOAD.PEAK, bits [25:16] (R314). -/
def LOAD_PEAK : Field := ⟨0x088, 25, 16, 0⟩
/-- GOV.QWAIT_MAX, bits [15:0] (R314). -/
def QWAIT_MAX : Field := ⟨0x08C, 15, 0, 0⟩
/-- GOV.MISS_CNT, bits [15:0] (R314). -/
def MISS_CNT : Field := ⟨0x090, 15, 0, 0⟩
/-- GOV.FAULTED, bits [23:0] (R314). -/
def FAULTED : Field := ⟨0x094, 23, 0, 0⟩
/-- GOV.LAST_REJECT.SLOT, bits [4:0] (R314). -/
def LAST_REJECT_SLOT : Field := ⟨0x098, 4, 0, 0⟩
/-- GOV.LAST_REJECT.CHECK, bits [15:8] (R314). -/
def LAST_REJECT_CHECK : Field := ⟨0x098, 15, 8, 0⟩
/-- GOV.LAST_REJECT.INDEX, bits [31:16] (R314). -/
def LAST_REJECT_INDEX : Field := ⟨0x098, 31, 16, 0⟩
/-- GOV.REFUSED, bits [15:0] (R314). -/
def REFUSED : Field := ⟨0x09C, 15, 0, 0⟩
/-- GOV.REG_CHG, bits [31:0] (R314). -/
def REG_CHG : Field := ⟨0x0A0, 31, 0, 0⟩
/-- GOV.SL_CFG.EN, bits [0] (R314). -/
def SL_CFG_EN : Field := ⟨0x100, 0, 0, 32⟩
/-- GOV.SL_CFG.ORDER, bits [1] (R314). -/
def SL_CFG_ORDER : Field := ⟨0x100, 1, 1, 32⟩
/-- GOV.SL_CFG.INT_EN, bits [2] (R314). -/
def SL_CFG_INT_EN : Field := ⟨0x100, 2, 2, 32⟩
/-- GOV.SL_CFG.INSRC, bits [7:4] (R314). -/
def SL_CFG_INSRC : Field := ⟨0x100, 7, 4, 32⟩
/-- GOV.SL_CFG.IN_IDX, bits [14:8] (R314). -/
def SL_CFG_IN_IDX : Field := ⟨0x100, 14, 8, 32⟩
/-- GOV.SL_CFG.TRIG, bits [19:16] (R314). -/
def SL_CFG_TRIG : Field := ⟨0x100, 19, 16, 32⟩
/-- GOV.SL_CFG.TRIG_IDX, bits [26:20] (R314). -/
def SL_CFG_TRIG_IDX : Field := ⟨0x100, 26, 20, 32⟩
/-- GOV.SL_LINK.TGT, bits [1:0] (R314). -/
def SL_LINK_TGT : Field := ⟨0x104, 1, 0, 32⟩
/-- GOV.SL_LINK.TGT_IDX, bits [13:8] (R314). -/
def SL_LINK_TGT_IDX : Field := ⟨0x104, 13, 8, 32⟩
/-- GOV.SL_LINK.REF_SLOT, bits [22:16] (R314). -/
def SL_LINK_REF_SLOT : Field := ⟨0x104, 22, 16, 32⟩
/-- GOV.SL_LINK.REF_ADD, bits [24] (R314). -/
def SL_LINK_REF_ADD : Field := ⟨0x104, 24, 24, 32⟩
/-- GOV.SL_REF, bits [31:0] (R314). -/
def SL_REF : Field := ⟨0x108, 31, 0, 32⟩
/-- GOV.SL_TIME.TRIG_DELAY, bits [11:0] (R314). -/
def SL_TIME_TRIG_DELAY : Field := ⟨0x10C, 11, 0, 32⟩
/-- GOV.SL_TIME.DIV, bits [27:16] (R314). -/
def SL_TIME_DIV : Field := ⟨0x10C, 27, 16, 32⟩
/-- GOV.SL_DL.DEADLINE, bits [9:0] (R314). -/
def SL_DL_DEADLINE : Field := ⟨0x110, 9, 0, 32⟩
/-- GOV.SL_STS.REGION, bits [1:0] (R314). -/
def SL_STS_REGION : Field := ⟨0x114, 1, 0, 32⟩
/-- GOV.SL_STS.ACTIVE_BANK, bits [2] (R314). -/
def SL_STS_ACTIVE_BANK : Field := ⟨0x114, 2, 2, 32⟩
/-- GOV.SL_STS.SWITCH, bits [3] (R314). -/
def SL_STS_SWITCH : Field := ⟨0x114, 3, 3, 32⟩
/-- GOV.SL_STS.SW_PEND, bits [4] (R314). -/
def SL_STS_SW_PEND : Field := ⟨0x114, 4, 4, 32⟩
/-- GOV.SL_STS.BUSY, bits [5] (R314). -/
def SL_STS_BUSY : Field := ⟨0x114, 5, 5, 32⟩
/-- GOV.SL_STS.MISSED, bits [6] (R314). -/
def SL_STS_MISSED : Field := ⟨0x114, 6, 6, 32⟩
/-- GOV.SL_STS.SAT, bits [7] (R314). -/
def SL_STS_SAT : Field := ⟨0x114, 7, 7, 32⟩
/-- GOV.SL_STS.FAULTED, bits [8] (R314). -/
def SL_STS_FAULTED : Field := ⟨0x114, 8, 8, 32⟩
/-- GOV.SL_STS.RUNNING, bits [9] (R314). -/
def SL_STS_RUNNING : Field := ⟨0x114, 9, 9, 32⟩
/-- GOV.SL_X, bits [31:0] (R314). -/
def SL_X : Field := ⟨0x118, 31, 0, 32⟩
/-- GOV.SL_OUT, bits [31:0] (R314). -/
def SL_OUT : Field := ⟨0x11C, 31, 0, 32⟩
end GOV

namespace HVIO
/-- HVIO.HV_STS.RUNNING, bits [13:0] (R332). -/
def HV_STS_RUNNING : Field := ⟨0x080, 13, 0, 0⟩
/-- HVIO.HV_STS.TRIPPED, bits [29:16] (R332). -/
def HV_STS_TRIPPED : Field := ⟨0x080, 29, 16, 0⟩
/-- HVIO.HV_STS.CFG_REFUSED, bits [31] (R332). -/
def HV_STS_CFG_REFUSED : Field := ⟨0x080, 31, 31, 0⟩
/-- HVIO.HV_CLR, bits [13:0] (R332). -/
def HV_CLR : Field := ⟨0x084, 13, 0, 0⟩
/-- HVIO.PT_BANK.ACTIVE, bits [0] (R332). -/
def PT_BANK_ACTIVE : Field := ⟨0x088, 0, 0, 0⟩
/-- HVIO.PT_BANK.SWITCH, bits [1] (R332). -/
def PT_BANK_SWITCH : Field := ⟨0x088, 1, 1, 0⟩
/-- HVIO.PT_BANK.SWITCH_PEND, bits [2] (R332). -/
def PT_BANK_SWITCH_PEND : Field := ⟨0x088, 2, 2, 0⟩
/-- HVIO.PT_BANK.REJECT, bits [15:8] (R332). -/
def PT_BANK_REJECT : Field := ⟨0x088, 15, 8, 0⟩
/-- HVIO.HV_RAMP, bits [15:0] (R332). -/
def HV_RAMP : Field := ⟨0x08C, 15, 0, 0⟩
/-- HVIO.HV_CFG.EN, bits [0] (R332). -/
def HV_CFG_EN : Field := ⟨0x100, 0, 0, 32⟩
/-- HVIO.HV_CFG.SRC, bits [1] (R332). -/
def HV_CFG_SRC : Field := ⟨0x100, 1, 1, 32⟩
/-- HVIO.HV_PER, bits [15:0] (R332). -/
def HV_PER : Field := ⟨0x104, 15, 0, 32⟩
/-- HVIO.HV_DUTY.DUTY_MAN, bits [15:0] (R332). -/
def HV_DUTY_DUTY_MAN : Field := ⟨0x108, 15, 0, 32⟩
/-- HVIO.HV_DUTY.DUTY_MAX, bits [31:16] (R332). -/
def HV_DUTY_DUTY_MAX : Field := ⟨0x108, 31, 16, 32⟩
/-- HVIO.HV_TRIP.V_TRIP, bits [15:0] (R332). -/
def HV_TRIP_V_TRIP : Field := ⟨0x10C, 15, 0, 32⟩
/-- HVIO.HV_TRIP.I_TRIP, bits [31:16] (R332). -/
def HV_TRIP_I_TRIP : Field := ⟨0x10C, 31, 16, 32⟩
/-- HVIO.HV_SENSE.VS, bits [15:0] (R332). -/
def HV_SENSE_VS : Field := ⟨0x110, 15, 0, 32⟩
/-- HVIO.HV_SENSE.IS, bits [31:16] (R332). -/
def HV_SENSE_IS : Field := ⟨0x110, 31, 16, 32⟩
/-- HVIO.HV_OUT, bits [15:0] (R332). -/
def HV_OUT : Field := ⟨0x114, 15, 0, 32⟩
/-- HVIO.HV_CNT, bits [15:0] (R332). -/
def HV_CNT : Field := ⟨0x118, 15, 0, 32⟩
end HVIO

namespace LAMP
/-- LAMP.LP_STS.ZC_OK, bits [0] (R333). -/
def LP_STS_ZC_OK : Field := ⟨0x080, 0, 0, 0⟩
/-- LAMP.LP_STS.INRUSH_CH, bits [3:1] (R333). -/
def LP_STS_INRUSH_CH : Field := ⟨0x080, 3, 1, 0⟩
/-- LAMP.LP_STS.INRUSH_ACT, bits [4] (R333). -/
def LP_STS_INRUSH_ACT : Field := ⟨0x080, 4, 4, 0⟩
/-- LAMP.LP_STS.CFG_REFUSED, bits [5] (R333). -/
def LP_STS_CFG_REFUSED : Field := ⟨0x080, 5, 5, 0⟩
/-- LAMP.MAINS_HALF, bits [23:0] (R333). -/
def MAINS_HALF : Field := ⟨0x084, 23, 0, 0⟩
/-- LAMP.BUDGET, bits [15:0] (R333). -/
def BUDGET : Field := ⟨0x088, 15, 0, 0⟩
/-- LAMP.BUDGET_USE, bits [15:0] (R333). -/
def BUDGET_USE : Field := ⟨0x08C, 15, 0, 0⟩
/-- LAMP.LOCK_CLR, bits [7:0] (R333). -/
def LOCK_CLR : Field := ⟨0x090, 7, 0, 0⟩
/-- LAMP.FUS_CLR, bits [7:0] (R333). -/
def FUS_CLR : Field := ⟨0x094, 7, 0, 0⟩
/-- LAMP.DEFER_CNT, bits [31:0] (R333). -/
def DEFER_CNT : Field := ⟨0x098, 31, 0, 0⟩
/-- LAMP.LC_CFG.EN, bits [0] (R333). -/
def LC_CFG_EN : Field := ⟨0x100, 0, 0, 32⟩
/-- LAMP.LC_CFG.SRC, bits [1] (R333). -/
def LC_CFG_SRC : Field := ⟨0x100, 1, 1, 32⟩
/-- LAMP.LC_CFG.GUARD0, bits [7:4] (R333). -/
def LC_CFG_GUARD0 : Field := ⟨0x100, 7, 4, 32⟩
/-- LAMP.LC_CFG.G0_EN, bits [8] (R333). -/
def LC_CFG_G0_EN : Field := ⟨0x100, 8, 8, 32⟩
/-- LAMP.LC_CFG.GUARD1, bits [12:9] (R333). -/
def LC_CFG_GUARD1 : Field := ⟨0x100, 12, 9, 32⟩
/-- LAMP.LC_CFG.G1_EN, bits [13] (R333). -/
def LC_CFG_G1_EN : Field := ⟨0x100, 13, 13, 32⟩
/-- LAMP.LC_CFG.SOFT_HC, bits [23:16] (R333). -/
def LC_CFG_SOFT_HC : Field := ⟨0x100, 23, 16, 32⟩
/-- LAMP.LC_CFG.COLD_S, bits [31:24] (R333). -/
def LC_CFG_COLD_S : Field := ⟨0x100, 31, 24, 32⟩
/-- LAMP.LC_DEM.DEM_MAN, bits [15:0] (R333). -/
def LC_DEM_DEM_MAN : Field := ⟨0x104, 15, 0, 32⟩
/-- LAMP.LC_DEM.DEM, bits [31:16] (R333). -/
def LC_DEM_DEM : Field := ⟨0x104, 31, 16, 32⟩
/-- LAMP.LC_CUR.I_NOM, bits [15:0] (R333). -/
def LC_CUR_I_NOM : Field := ⟨0x108, 15, 0, 32⟩
/-- LAMP.LC_CUR.I_INR, bits [31:16] (R333). -/
def LC_CUR_I_INR : Field := ⟨0x108, 31, 16, 32⟩
/-- LAMP.LC_ENV.RUN_PK, bits [15:0] (R333). -/
def LC_ENV_RUN_PK : Field := ⟨0x10C, 15, 0, 32⟩
/-- LAMP.LC_ENV.INR_PK, bits [31:16] (R333). -/
def LC_ENV_INR_PK : Field := ⟨0x10C, 31, 16, 32⟩
/-- LAMP.LC_MEAS.PEAK, bits [15:0] (R333). -/
def LC_MEAS_PEAK : Field := ⟨0x110, 15, 0, 32⟩
/-- LAMP.LC_MEAS.RMS, bits [31:16] (R333). -/
def LC_MEAS_RMS : Field := ⟨0x110, 31, 16, 32⟩
/-- LAMP.LC_STS.STATE, bits [2:0] (R333). -/
def LC_STS_STATE : Field := ⟨0x114, 2, 0, 32⟩
/-- LAMP.LC_STS.DEFERRED, bits [3] (R333). -/
def LC_STS_DEFERRED : Field := ⟨0x114, 3, 3, 32⟩
/-- LAMP.LC_CNT.STARTS, bits [15:0] (R333). -/
def LC_CNT_STARTS : Field := ⟨0x118, 15, 0, 32⟩
/-- LAMP.LC_CNT.TRIPS, bits [31:16] (R333). -/
def LC_CNT_TRIPS : Field := ⟨0x118, 31, 16, 32⟩
/-- LAMP.TIN_MAP.TRUNK, bits [1:0] (R333). -/
def TIN_MAP_TRUNK : Field := ⟨0x200, 1, 0, 16⟩
/-- LAMP.TIN_MAP.NODE, bits [9:2] (R333). -/
def TIN_MAP_NODE : Field := ⟨0x200, 9, 2, 16⟩
/-- LAMP.TIN_MAP.VALUE, bits [13:10] (R333). -/
def TIN_MAP_VALUE : Field := ⟨0x200, 13, 10, 16⟩
/-- LAMP.TIN_MAP.EN, bits [31] (R333). -/
def TIN_MAP_EN : Field := ⟨0x200, 31, 31, 16⟩
/-- LAMP.TIN_VAL.VALUE, bits [15:0] (R333). -/
def TIN_VAL_VALUE : Field := ⟨0x204, 15, 0, 16⟩
/-- LAMP.TIN_VAL.FAULT, bits [16] (R333). -/
def TIN_VAL_FAULT : Field := ⟨0x204, 16, 16, 16⟩
/-- LAMP.TIN_LIM.CEIL, bits [15:0] (R333). -/
def TIN_LIM_CEIL : Field := ⟨0x208, 15, 0, 16⟩
/-- LAMP.TIN_LIM.RESTART, bits [31:16] (R333). -/
def TIN_LIM_RESTART : Field := ⟨0x208, 31, 16, 16⟩
/-- LAMP.TIN_RATE.RATE_MAX, bits [15:0] (R333). -/
def TIN_RATE_RATE_MAX : Field := ⟨0x20C, 15, 0, 16⟩
/-- LAMP.TIN_RATE.RATE, bits [31:16] (R333). -/
def TIN_RATE_RATE : Field := ⟨0x20C, 31, 16, 16⟩
end LAMP

namespace LEAT
/-- LEAT.LT_CTRL.EN, bits [0] (R350). -/
def LT_CTRL_EN : Field := ⟨0x080, 0, 0, 0⟩
/-- LEAT.LT_STS.RUNNING, bits [0] (R350). -/
def LT_STS_RUNNING : Field := ⟨0x084, 0, 0, 0⟩
/-- LEAT.LT_STS.ACTIVE_NODES, bits [16:8] (R350). -/
def LT_STS_ACTIVE_NODES : Field := ⟨0x084, 16, 8, 0⟩
/-- LEAT.LT_CFG.SILENCE_LIM, bits [7:0] (R350). -/
def LT_CFG_SILENCE_LIM : Field := ⟨0x088, 7, 0, 0⟩
/-- LEAT.LT_CFG.RETRY_MAX, bits [11:8] (R350). -/
def LT_CFG_RETRY_MAX : Field := ⟨0x088, 11, 8, 0⟩
/-- LEAT.CYCLE, bits [31:0] (R350). -/
def CYCLE : Field := ⟨0x08C, 31, 0, 0⟩
/-- LEAT.CRC_ERR, bits [15:0] (R350). -/
def CRC_ERR : Field := ⟨0x090, 15, 0, 0⟩
/-- LEAT.DUP_CNT, bits [15:0] (R350). -/
def DUP_CNT : Field := ⟨0x094, 15, 0, 0⟩
/-- LEAT.RETRY_CNT, bits [15:0] (R350). -/
def RETRY_CNT : Field := ⟨0x098, 15, 0, 0⟩
/-- LEAT.VIOL_TX, bits [15:0] (R350). -/
def VIOL_TX : Field := ⟨0x09C, 15, 0, 0⟩
/-- LEAT.VIOL_RX, bits [15:0] (R350). -/
def VIOL_RX : Field := ⟨0x0A0, 15, 0, 0⟩
/-- LEAT.LAST_VIOL.REASON, bits [7:0] (R350). -/
def LAST_VIOL_REASON : Field := ⟨0x0A4, 7, 0, 0⟩
/-- LEAT.LAST_VIOL.NODE, bits [15:8] (R350). -/
def LAST_VIOL_NODE : Field := ⟨0x0A4, 15, 8, 0⟩
/-- LEAT.LAST_VIOL.DIR, bits [16] (R350). -/
def LAST_VIOL_DIR : Field := ⟨0x0A4, 16, 16, 0⟩
/-- LEAT.LAST_VIOL.SEQ, bits [31:24] (R350). -/
def LAST_VIOL_SEQ : Field := ⟨0x0A4, 31, 24, 0⟩
/-- LEAT.VER.MIN, bits [7:0] (R350). -/
def VER_MIN : Field := ⟨0x0A8, 7, 0, 0⟩
/-- LEAT.VER.MAX, bits [15:8] (R350). -/
def VER_MAX : Field := ⟨0x0A8, 15, 8, 0⟩
/-- LEAT.NODE_IDX, bits [7:0] (R350). -/
def NODE_IDX : Field := ⟨0x0AC, 7, 0, 0⟩
/-- LEAT.NODE_STS.STATE, bits [2:0] (R350). -/
def NODE_STS_STATE : Field := ⟨0x0B0, 2, 0, 0⟩
/-- LEAT.NODE_STS.VERSION, bits [15:8] (R350). -/
def NODE_STS_VERSION : Field := ⟨0x0B0, 15, 8, 0⟩
/-- LEAT.NODE_STS.SEQ_RX, bits [23:16] (R350). -/
def NODE_STS_SEQ_RX : Field := ⟨0x0B0, 23, 16, 0⟩
/-- LEAT.NODE_STS.SEQ_TX, bits [31:24] (R350). -/
def NODE_STS_SEQ_TX : Field := ⟨0x0B0, 31, 24, 0⟩
/-- LEAT.NODE_ID.VENDOR, bits [15:0] (R350). -/
def NODE_ID_VENDOR : Field := ⟨0x0B4, 15, 0, 0⟩
/-- LEAT.NODE_ID.MODEL, bits [31:16] (R350). -/
def NODE_ID_MODEL : Field := ⟨0x0B4, 31, 16, 0⟩
/-- LEAT.CMD_HDR.NODE, bits [7:0] (R350). -/
def CMD_HDR_NODE : Field := ⟨0x0B8, 7, 0, 0⟩
/-- LEAT.CMD_HDR.FTYPE, bits [15:8] (R350). -/
def CMD_HDR_FTYPE : Field := ⟨0x0B8, 15, 8, 0⟩
/-- LEAT.CMD_DATA_LO, bits [31:0] (R350). -/
def CMD_DATA_LO : Field := ⟨0x0BC, 31, 0, 0⟩
/-- LEAT.CMD_DATA_HI, bits [31:0] (R350). -/
def CMD_DATA_HI : Field := ⟨0x0C0, 31, 0, 0⟩
/-- LEAT.CMD_PUSH, bits [0] (R350). -/
def CMD_PUSH : Field := ⟨0x0C4, 0, 0, 0⟩
/-- LEAT.CMDQ_FREE, bits [5:0] (R350). -/
def CMDQ_FREE : Field := ⟨0x0C8, 5, 0, 0⟩
/-- LEAT.RPT_HDR.NODE, bits [7:0] (R350). -/
def RPT_HDR_NODE : Field := ⟨0x0CC, 7, 0, 0⟩
/-- LEAT.RPT_HDR.FTYPE, bits [15:8] (R350). -/
def RPT_HDR_FTYPE : Field := ⟨0x0CC, 15, 8, 0⟩
/-- LEAT.RPT_HDR.SEQ, bits [23:16] (R350). -/
def RPT_HDR_SEQ : Field := ⟨0x0CC, 23, 16, 0⟩
/-- LEAT.RPT_DATA_LO, bits [31:0] (R350). -/
def RPT_DATA_LO : Field := ⟨0x0D0, 31, 0, 0⟩
/-- LEAT.RPT_DATA_HI, bits [31:0] (R350). -/
def RPT_DATA_HI : Field := ⟨0x0D4, 31, 0, 0⟩
/-- LEAT.RPT_POP, bits [0] (R350). -/
def RPT_POP : Field := ⟨0x0D8, 0, 0, 0⟩
/-- LEAT.RPT_LEVEL, bits [6:0] (R350). -/
def RPT_LEVEL : Field := ⟨0x0DC, 6, 0, 0⟩
/-- LEAT.NODE_EN, bits [31:0] (R350). -/
def NODE_EN : Field := ⟨0x100, 31, 0, 4⟩
/-- LEAT.SLOT_TAB.ENTRY0, bits [8:0] (R350). -/
def SLOT_TAB_ENTRY0 : Field := ⟨0x200, 8, 0, 4⟩
/-- LEAT.SLOT_TAB.ENTRY1, bits [24:16] (R350). -/
def SLOT_TAB_ENTRY1 : Field := ⟨0x200, 24, 16, 4⟩
end LEAT

namespace SHEET
/-- SHEET.SH_CTRL.EN, bits [0] (R351). -/
def SH_CTRL_EN : Field := ⟨0x080, 0, 0, 0⟩
/-- SHEET.SH_CTRL.WEB_RUN, bits [1] (R351). -/
def SH_CTRL_WEB_RUN : Field := ⟨0x080, 1, 1, 0⟩
/-- SHEET.SH_CTRL.JAM_REQ, bits [2] (R351). -/
def SH_CTRL_JAM_REQ : Field := ⟨0x080, 2, 2, 0⟩
/-- SHEET.SH_CTRL.JAM_CLR, bits [3] (R351). -/
def SH_CTRL_JAM_CLR : Field := ⟨0x080, 3, 3, 0⟩
/-- SHEET.SH_CTRL.LAMP_OFF, bits [4] (R351). -/
def SH_CTRL_LAMP_OFF : Field := ⟨0x080, 4, 4, 0⟩
/-- SHEET.SH_STS.JAMMED, bits [0] (R351). -/
def SH_STS_JAMMED : Field := ⟨0x084, 0, 0, 0⟩
/-- SHEET.SH_STS.IN_FLIGHT, bits [14:8] (R351). -/
def SH_STS_IN_FLIGHT : Field := ⟨0x084, 14, 8, 0⟩
/-- SHEET.JAM_INFO.CP, bits [6:0] (R351). -/
def JAM_INFO_CP : Field := ⟨0x088, 6, 0, 0⟩
/-- SHEET.JAM_INFO.SLOT, bits [13:8] (R351). -/
def JAM_INFO_SLOT : Field := ⟨0x088, 13, 8, 0⟩
/-- SHEET.JAM_INFO.CAUSE, bits [18:16] (R351). -/
def JAM_INFO_CAUSE : Field := ⟨0x088, 18, 16, 0⟩
/-- SHEET.JAM_TIME_LO, bits [31:0] (R351). -/
def JAM_TIME_LO : Field := ⟨0x08C, 31, 0, 0⟩
/-- SHEET.JAM_TIME_HI, bits [31:0] (R351). -/
def JAM_TIME_HI : Field := ⟨0x090, 31, 0, 0⟩
/-- SHEET.REPORT_MAX, bits [11:0] (R351). -/
def REPORT_MAX : Field := ⟨0x094, 11, 0, 0⟩
/-- SHEET.MARGIN, bits [7:0] (R351). -/
def MARGIN : Field := ⟨0x098, 7, 0, 0⟩
/-- SHEET.JAM_DECEL, bits [15:0] (R351). -/
def JAM_DECEL : Field := ⟨0x09C, 15, 0, 0⟩
/-- SHEET.FREE_LO, bits [31:0] (R351). -/
def FREE_LO : Field := ⟨0x0A0, 31, 0, 0⟩
/-- SHEET.FREE_HI, bits [31:0] (R351). -/
def FREE_HI : Field := ⟨0x0A4, 31, 0, 0⟩
/-- SHEET.DONE_CNT, bits [31:0] (R351). -/
def DONE_CNT : Field := ⟨0x0A8, 31, 0, 0⟩
/-- SHEET.JAM_CNT, bits [15:0] (R351). -/
def JAM_CNT : Field := ⟨0x0AC, 15, 0, 0⟩
/-- SHEET.PURGE_CNT, bits [15:0] (R351). -/
def PURGE_CNT : Field := ⟨0x0B0, 15, 0, 0⟩
/-- SHEET.SH_REF_LO, bits [31:0] (R351). -/
def SH_REF_LO : Field := ⟨0x400, 31, 0, 16⟩
/-- SHEET.SH_REF_HI, bits [15:0] (R351). -/
def SH_REF_HI : Field := ⟨0x404, 15, 0, 16⟩
/-- SHEET.SH_LEN, bits [24:0] (R351). -/
def SH_LEN : Field := ⟨0x408, 24, 0, 16⟩
/-- SHEET.SH_ENTRY.DESC, bits [19:0] (R351). -/
def SH_ENTRY_DESC : Field := ⟨0x40C, 19, 0, 16⟩
/-- SHEET.SH_ENTRY.STATE, bits [21:20] (R351). -/
def SH_ENTRY_STATE : Field := ⟨0x40C, 21, 20, 16⟩
/-- SHEET.SH_ENTRY.CLASS, bits [23:22] (R351). -/
def SH_ENTRY_CLASS : Field := ⟨0x40C, 23, 22, 16⟩
/-- SHEET.SH_ENTRY.PURGE, bits [24] (R351). -/
def SH_ENTRY_PURGE : Field := ⟨0x40C, 24, 24, 16⟩
/-- SHEET.SH_ENTRY.NEXT_CP, bits [31:25] (R351). -/
def SH_ENTRY_NEXT_CP : Field := ⟨0x40C, 31, 25, 16⟩
/-- SHEET.CP_SRC.TRUNK, bits [1:0] (R351). -/
def CP_SRC_TRUNK : Field := ⟨0x800, 1, 0, 16⟩
/-- SHEET.CP_SRC.NODE, bits [9:2] (R351). -/
def CP_SRC_NODE : Field := ⟨0x800, 9, 2, 16⟩
/-- SHEET.CP_SRC.INPUT, bits [13:10] (R351). -/
def CP_SRC_INPUT : Field := ⟨0x800, 13, 10, 16⟩
/-- SHEET.CP_SRC.POL, bits [14] (R351). -/
def CP_SRC_POL : Field := ⟨0x800, 14, 14, 16⟩
/-- SHEET.CP_SRC.EN, bits [15] (R351). -/
def CP_SRC_EN : Field := ⟨0x800, 15, 15, 16⟩
/-- SHEET.CP_SRC.CLASS, bits [19:16] (R351). -/
def CP_SRC_CLASS : Field := ⟨0x800, 19, 16, 16⟩
/-- SHEET.CP_SRC.KIND, bits [22:20] (R351). -/
def CP_SRC_KIND : Field := ⟨0x800, 22, 20, 16⟩
/-- SHEET.CP_SRC.TRAIL_EN, bits [23] (R351). -/
def CP_SRC_TRAIL_EN : Field := ⟨0x800, 23, 23, 16⟩
/-- SHEET.CP_SRC.IGNORE_UNEXP, bits [24] (R351). -/
def CP_SRC_IGNORE_UNEXP : Field := ⟨0x800, 24, 24, 16⟩
/-- SHEET.CP_OFS, bits [31:0] (R351). -/
def CP_OFS : Field := ⟨0x804, 31, 0, 16⟩
/-- SHEET.CP_WIN.EARLY, bits [15:0] (R351). -/
def CP_WIN_EARLY : Field := ⟨0x808, 15, 0, 16⟩
/-- SHEET.CP_WIN.LATE, bits [31:16] (R351). -/
def CP_WIN_LATE : Field := ⟨0x808, 31, 16, 16⟩
/-- SHEET.CP_DEV, bits [31:0] (R351). -/
def CP_DEV : Field := ⟨0x80C, 31, 0, 16⟩
end SHEET

namespace THERMAL
/-- THERMAL.TS_STS.WARN, bits [7:0] (R363). -/
def TS_STS_WARN : Field := ⟨0x080, 7, 0, 0⟩
/-- THERMAL.TS_STS.THROTTLE, bits [15:8] (R363). -/
def TS_STS_THROTTLE : Field := ⟨0x080, 15, 8, 0⟩
/-- THERMAL.TS_STS.RATE, bits [23:16] (R363). -/
def TS_STS_RATE : Field := ⟨0x080, 23, 16, 0⟩
/-- THERMAL.TH_GRADE, bits [2:0] (R363). -/
def TH_GRADE : Field := ⟨0x084, 2, 0, 0⟩
/-- THERMAL.TH_CFG.TH_STEP, bits [7:0] (R363). -/
def TH_CFG_TH_STEP : Field := ⟨0x088, 7, 0, 0⟩
/-- THERMAL.TH_CFG.TH_CLEAR, bits [15:8] (R363). -/
def TH_CFG_TH_CLEAR : Field := ⟨0x088, 15, 8, 0⟩
/-- THERMAL.TH_CFG.TH_HYST, bits [31:16] (R363). -/
def TH_CFG_TH_HYST : Field := ⟨0x088, 31, 16, 0⟩
/-- THERMAL.BROKEN, bits [31:0] (R363). -/
def BROKEN : Field := ⟨0x08C, 31, 0, 0⟩
/-- THERMAL.UNCHECK, bits [31:0] (R363). -/
def UNCHECK : Field := ⟨0x090, 31, 0, 0⟩
/-- THERMAL.TOL.TOL, bits [15:0] (R363). -/
def TOL_TOL : Field := ⟨0x094, 15, 0, 0⟩
/-- THERMAL.TOL.SUBST_MARGIN, bits [31:16] (R363). -/
def TOL_SUBST_MARGIN : Field := ⟨0x094, 31, 16, 0⟩
/-- THERMAL.MAX_EFF.VALUE, bits [15:0] (R363). -/
def MAX_EFF_VALUE : Field := ⟨0x098, 15, 0, 0⟩
/-- THERMAL.MAX_EFF.SENSOR, bits [21:16] (R363). -/
def MAX_EFF_SENSOR : Field := ⟨0x098, 21, 16, 0⟩
/-- THERMAL.COMP_STS.OSC_OK, bits [0] (R363). -/
def COMP_STS_OSC_OK : Field := ⟨0x09C, 0, 0, 0⟩
/-- THERMAL.COMP_STS.REF_OK, bits [1] (R363). -/
def COMP_STS_REF_OK : Field := ⟨0x09C, 1, 1, 0⟩
/-- THERMAL.SD_STS.STATE, bits [1:0] (R363). -/
def SD_STS_STATE : Field := ⟨0x0A0, 1, 0, 0⟩
/-- THERMAL.SD_STS.RESTARTS, bits [3:2] (R363). -/
def SD_STS_RESTARTS : Field := ⟨0x0A0, 3, 2, 0⟩
/-- THERMAL.SD_STS.LAST_ZONE, bits [11:8] (R363). -/
def SD_STS_LAST_ZONE : Field := ⟨0x0A0, 11, 8, 0⟩
/-- THERMAL.SD_STS.LAST_SENSOR, bits [17:12] (R363). -/
def SD_STS_LAST_SENSOR : Field := ⟨0x0A0, 17, 12, 0⟩
/-- THERMAL.SD_STS.LAST_BOARD, bits [18] (R363). -/
def SD_STS_LAST_BOARD : Field := ⟨0x0A0, 18, 18, 0⟩
/-- THERMAL.SD_CNT, bits [15:0] (R363). -/
def SD_CNT : Field := ⟨0x0A4, 15, 0, 0⟩
/-- THERMAL.SUP_MODEL, bits [15:0] (R363). -/
def SUP_MODEL : Field := ⟨0x0A8, 15, 0, 4⟩
/-- THERMAL.SNS.RAW, bits [15:0] (R363). -/
def SNS_RAW : Field := ⟨0x100, 15, 0, 4⟩
/-- THERMAL.SNS.EFF, bits [31:16] (R363). -/
def SNS_EFF : Field := ⟨0x100, 31, 16, 4⟩
/-- THERMAL.ZLIM0.WARN, bits [15:0] (R363). -/
def ZLIM0_WARN : Field := ⟨0x200, 15, 0, 16⟩
/-- THERMAL.ZLIM0.THROTTLE, bits [31:16] (R363). -/
def ZLIM0_THROTTLE : Field := ⟨0x200, 31, 16, 16⟩
/-- THERMAL.ZLIM1.SHUTDOWN, bits [15:0] (R363). -/
def ZLIM1_SHUTDOWN : Field := ⟨0x204, 15, 0, 16⟩
/-- THERMAL.ZLIM1.RESTART, bits [31:16] (R363). -/
def ZLIM1_RESTART : Field := ⟨0x204, 31, 16, 16⟩
/-- THERMAL.ZRATE.RATE_MAX, bits [15:0] (R363). -/
def ZRATE_RATE_MAX : Field := ⟨0x208, 15, 0, 16⟩
/-- THERMAL.ZRATE.RATE, bits [31:16] (R363). -/
def ZRATE_RATE : Field := ⟨0x208, 31, 16, 16⟩
/-- THERMAL.ZSTS.ZONE_VAL, bits [15:0] (R363). -/
def ZSTS_ZONE_VAL : Field := ⟨0x20C, 15, 0, 16⟩
/-- THERMAL.ZSTS.WARN, bits [16] (R363). -/
def ZSTS_WARN : Field := ⟨0x20C, 16, 16, 16⟩
/-- THERMAL.ZSTS.THROTTLE, bits [17] (R363). -/
def ZSTS_THROTTLE : Field := ⟨0x20C, 17, 17, 16⟩
/-- THERMAL.ZSTS.RATE_OVER, bits [18] (R363). -/
def ZSTS_RATE_OVER : Field := ⟨0x20C, 18, 18, 16⟩
end THERMAL

namespace SLUICE
/-- SLUICE.SQ_CTRL.STOP_REQ, bits [0] (R380). -/
def SQ_CTRL_STOP_REQ : Field := ⟨0x080, 0, 0, 0⟩
/-- SLUICE.SQ_STS.STATE, bits [1:0] (R380). -/
def SQ_STS_STATE : Field := ⟨0x084, 1, 0, 0⟩
/-- SLUICE.SQ_STS.PC, bits [9:2] (R380). -/
def SQ_STS_PC : Field := ⟨0x084, 9, 2, 0⟩
/-- SLUICE.SQ_STS.RAIL, bits [15:10] (R380). -/
def SQ_STS_RAIL : Field := ⟨0x084, 15, 10, 0⟩
/-- SLUICE.SQ_STS.CAUSE, bits [19:16] (R380). -/
def SQ_STS_CAUSE : Field := ⟨0x084, 19, 16, 0⟩
/-- SLUICE.SQ_STS.PROG_SRC, bits [20] (R380). -/
def SQ_STS_PROG_SRC : Field := ⟨0x084, 20, 20, 0⟩
/-- SLUICE.SQ_STS.HELD, bits [21] (R380). -/
def SQ_STS_HELD : Field := ⟨0x084, 21, 21, 0⟩
/-- SLUICE.PROG_HDR.START_PC, bits [7:0] (R380). -/
def PROG_HDR_START_PC : Field := ⟨0x088, 7, 0, 0⟩
/-- SLUICE.PROG_HDR.STOP_PC, bits [15:8] (R380). -/
def PROG_HDR_STOP_PC : Field := ⟨0x088, 15, 8, 0⟩
/-- SLUICE.PROG_IDX, bits [7:0] (R380). -/
def PROG_IDX : Field := ⟨0x08C, 7, 0, 0⟩
/-- SLUICE.PROG_LO, bits [31:0] (R380). -/
def PROG_LO : Field := ⟨0x090, 31, 0, 0⟩
/-- SLUICE.PROG_HI, bits [31:0] (R380). -/
def PROG_HI : Field := ⟨0x094, 31, 0, 0⟩
/-- SLUICE.PROG_STORE, bits [0] (R380). -/
def PROG_STORE : Field := ⟨0x098, 0, 0, 0⟩
/-- SLUICE.PROG_RESULT.CHECK, bits [7:0] (R380). -/
def PROG_RESULT_CHECK : Field := ⟨0x09C, 7, 0, 0⟩
/-- SLUICE.PROG_RESULT.STEP, bits [15:8] (R380). -/
def PROG_RESULT_STEP : Field := ⟨0x09C, 15, 8, 0⟩
/-- SLUICE.PROG_RESULT.BUSY, bits [16] (R380). -/
def PROG_RESULT_BUSY : Field := ⟨0x09C, 16, 16, 0⟩
/-- SLUICE.PROG_GEN, bits [31:0] (R380). -/
def PROG_GEN : Field := ⟨0x0A0, 31, 0, 0⟩
/-- SLUICE.STOP_LEN, bits [23:0] (R380). -/
def STOP_LEN : Field := ⟨0x0A4, 23, 0, 0⟩
/-- SLUICE.LOG_HEAD, bits [18:0] (R380). -/
def LOG_HEAD : Field := ⟨0x0A8, 18, 0, 0⟩
/-- SLUICE.LOG_SEQ, bits [31:0] (R380). -/
def LOG_SEQ : Field := ⟨0x0AC, 31, 0, 0⟩
/-- SLUICE.LOG_RD_IDX, bits [18:0] (R380). -/
def LOG_RD_IDX : Field := ⟨0x0B0, 18, 0, 0⟩
/-- SLUICE.LOG_RD_STS.CRC_OK, bits [0] (R380). -/
def LOG_RD_STS_CRC_OK : Field := ⟨0x0B4, 0, 0, 0⟩
/-- SLUICE.LOG_DROP, bits [15:0] (R380). -/
def LOG_DROP : Field := ⟨0x0B8, 15, 0, 0⟩
/-- SLUICE.LOG_QFREE, bits [6:0] (R380). -/
def LOG_QFREE : Field := ⟨0x0BC, 6, 0, 0⟩
/-- SLUICE.LOG_RD, bits [31:0] (R380). -/
def LOG_RD : Field := ⟨0x0C0, 31, 0, 4⟩
/-- SLUICE.LOG_IN, bits [31:0] (R380). -/
def LOG_IN : Field := ⟨0x100, 31, 0, 4⟩
/-- SLUICE.LOG_PUSH, bits [0] (R380). -/
def LOG_PUSH : Field := ⟨0x118, 0, 0, 0⟩
end SLUICE

namespace SUPPLY
/-- SUPPLY.PH_STS.PH_OK, bits [2:0] (R381). -/
def PH_STS_PH_OK : Field := ⟨0x080, 2, 0, 0⟩
/-- SUPPLY.PH_STS.PH_ISOL, bits [5:3] (R381). -/
def PH_STS_PH_ISOL : Field := ⟨0x080, 5, 3, 0⟩
/-- SUPPLY.PH_STS.PFW, bits [6] (R381). -/
def PH_STS_PFW : Field := ⟨0x080, 6, 6, 0⟩
/-- SUPPLY.MAINS.VRMS, bits [15:0] (R381). -/
def MAINS_VRMS : Field := ⟨0x084, 15, 0, 0⟩
/-- SUPPLY.MAINS.FREQ, bits [31:16] (R381). -/
def MAINS_FREQ : Field := ⟨0x084, 31, 16, 0⟩
/-- SUPPLY.MBUS_V.IN, bits [15:0] (R381). -/
def MBUS_V_IN : Field := ⟨0x088, 15, 0, 0⟩
/-- SUPPLY.MBUS_V.CAP, bits [31:16] (R381). -/
def MBUS_V_CAP : Field := ⟨0x088, 31, 16, 0⟩
/-- SUPPLY.MBUS_STS.PRECHARGE_ON, bits [0] (R381). -/
def MBUS_STS_PRECHARGE_ON : Field := ⟨0x08C, 0, 0, 0⟩
/-- SUPPLY.MBUS_STS.CONTACTOR, bits [1] (R381). -/
def MBUS_STS_CONTACTOR : Field := ⟨0x08C, 1, 1, 0⟩
/-- SUPPLY.MBUS_STS.DISCHARGE_ON, bits [2] (R381). -/
def MBUS_STS_DISCHARGE_ON : Field := ⟨0x08C, 2, 2, 0⟩
/-- SUPPLY.MBUS_STS.DISCHARGED, bits [3] (R381). -/
def MBUS_STS_DISCHARGED : Field := ⟨0x08C, 3, 3, 0⟩
/-- SUPPLY.MBUS_STS.UV, bits [4] (R381). -/
def MBUS_STS_UV : Field := ⟨0x08C, 4, 4, 0⟩
/-- SUPPLY.MBUS_STS.OV, bits [5] (R381). -/
def MBUS_STS_OV : Field := ⟨0x08C, 5, 5, 0⟩
/-- SUPPLY.RAIL_PG_LO, bits [31:0] (R381). -/
def RAIL_PG_LO : Field := ⟨0x090, 31, 0, 0⟩
/-- SUPPLY.RAIL_PG_HI, bits [2:0] (R381). -/
def RAIL_PG_HI : Field := ⟨0x094, 2, 0, 0⟩
/-- SUPPLY.RAIL_EN_LO, bits [31:0] (R381). -/
def RAIL_EN_LO : Field := ⟨0x098, 31, 0, 0⟩
/-- SUPPLY.RAIL_EN_HI, bits [2:0] (R381). -/
def RAIL_EN_HI : Field := ⟨0x09C, 2, 0, 0⟩
/-- SUPPLY.RAIL_CMD.RAIL, bits [5:0] (R381). -/
def RAIL_CMD_RAIL : Field := ⟨0x0A0, 5, 0, 0⟩
/-- SUPPLY.RAIL_CMD.ON, bits [8] (R381). -/
def RAIL_CMD_ON : Field := ⟨0x0A0, 8, 8, 0⟩
/-- SUPPLY.RAIL_CMD.GO, bits [9] (R381). -/
def RAIL_CMD_GO : Field := ⟨0x0A0, 9, 9, 0⟩
/-- SUPPLY.RAIL_CMD_STS.BUSY, bits [0] (R381). -/
def RAIL_CMD_STS_BUSY : Field := ⟨0x0A4, 0, 0, 0⟩
/-- SUPPLY.RAIL_CMD_STS.RESULT, bits [3:1] (R381). -/
def RAIL_CMD_STS_RESULT : Field := ⟨0x0A4, 3, 1, 0⟩
/-- SUPPLY.PFW_CNT, bits [15:0] (R381). -/
def PFW_CNT : Field := ⟨0x0A8, 15, 0, 0⟩
/-- SUPPLY.VHEAD_LIM.PG, bits [15:0] (R381). -/
def VHEAD_LIM_PG : Field := ⟨0x100, 15, 0, 4⟩
/-- SUPPLY.VHEAD_LIM.OFF, bits [31:16] (R381). -/
def VHEAD_LIM_OFF : Field := ⟨0x100, 31, 16, 4⟩
/-- SUPPLY.RAIL_V, bits [15:0] (R381). -/
def RAIL_V : Field := ⟨0x140, 15, 0, 4⟩
end SUPPLY

namespace IDENT
/-- IDENT.MOD_STS.STATE, bits [3:0] (R394). -/
def MOD_STS_STATE : Field := ⟨0x080, 3, 0, 0⟩
/-- IDENT.MOD_STS.SLOT, bits [4] (R394). -/
def MOD_STS_SLOT : Field := ⟨0x080, 4, 4, 0⟩
/-- IDENT.MOD_STS.TEST, bits [15:8] (R394). -/
def MOD_STS_TEST : Field := ⟨0x080, 15, 8, 0⟩
/-- IDENT.RESET_CAUSE.CAUSE, bits [3:0] (R394). -/
def RESET_CAUSE_CAUSE : Field := ⟨0x084, 3, 0, 0⟩
/-- IDENT.RESET_CAUSE.COUNT, bits [31:16] (R394). -/
def RESET_CAUSE_COUNT : Field := ⟨0x084, 31, 16, 0⟩
/-- IDENT.BOOT_MS, bits [15:0] (R394). -/
def BOOT_MS : Field := ⟨0x088, 15, 0, 0⟩
/-- IDENT.FW_VER, bits [31:0] (R394). -/
def FW_VER : Field := ⟨0x08C, 31, 0, 0⟩
/-- IDENT.IMAGE_STS.A_VALID, bits [0] (R394). -/
def IMAGE_STS_A_VALID : Field := ⟨0x090, 0, 0, 0⟩
/-- IDENT.IMAGE_STS.B_VALID, bits [1] (R394). -/
def IMAGE_STS_B_VALID : Field := ⟨0x090, 1, 1, 0⟩
/-- IDENT.IMAGE_STS.FALLBACK, bits [2] (R394). -/
def IMAGE_STS_FALLBACK : Field := ⟨0x090, 2, 2, 0⟩
/-- IDENT.IMAGE_STS.A_FAILS, bits [5:4] (R394). -/
def IMAGE_STS_A_FAILS : Field := ⟨0x090, 5, 4, 0⟩
/-- IDENT.IMAGE_STS.B_FAILS, bits [7:6] (R394). -/
def IMAGE_STS_B_FAILS : Field := ⟨0x090, 7, 6, 0⟩
/-- IDENT.SERIAL_LO, bits [31:0] (R394). -/
def SERIAL_LO : Field := ⟨0x094, 31, 0, 0⟩
/-- IDENT.SERIAL_HI, bits [31:0] (R394). -/
def SERIAL_HI : Field := ⟨0x098, 31, 0, 0⟩
/-- IDENT.HW_REV.BOARD, bits [7:0] (R394). -/
def HW_REV_BOARD : Field := ⟨0x09C, 7, 0, 0⟩
/-- IDENT.HW_REV.DIE, bits [15:8] (R394). -/
def HW_REV_DIE : Field := ⟨0x09C, 15, 8, 0⟩
end IDENT

namespace HOST
/-- HOST.LINK_STS.SPEED, bits [3:0] (R413). -/
def LINK_STS_SPEED : Field := ⟨0x080, 3, 0, 0⟩
/-- HOST.LINK_STS.WIDTH, bits [8:4] (R413). -/
def LINK_STS_WIDTH : Field := ⟨0x080, 8, 4, 0⟩
/-- HOST.LINK_STS.FLIT, bits [9] (R413). -/
def LINK_STS_FLIT : Field := ⟨0x080, 9, 9, 0⟩
/-- HOST.LINK_STS.UP, bits [10] (R413). -/
def LINK_STS_UP : Field := ⟨0x080, 10, 10, 0⟩
/-- HOST.CTX_SUM.IN_RESET, bits [15:0] (R413). -/
def CTX_SUM_IN_RESET : Field := ⟨0x084, 15, 0, 0⟩
/-- HOST.CTX_SUM.ENABLED, bits [31:16] (R413). -/
def CTX_SUM_ENABLED : Field := ⟨0x084, 31, 16, 0⟩
/-- HOST.REFUSED_WR, bits [15:0] (R413). -/
def REFUSED_WR : Field := ⟨0x088, 15, 0, 0⟩
/-- HOST.MSIX_DROP, bits [15:0] (R413). -/
def MSIX_DROP : Field := ⟨0x08C, 15, 0, 0⟩
/-- HOST.PCIE_ERR, bits [15:0] (R413). -/
def PCIE_ERR : Field := ⟨0x090, 15, 0, 0⟩
/-- HOST.HOST_LOCK.LOCK, bits [31] (R413). -/
def HOST_LOCK_LOCK : Field := ⟨0x094, 31, 31, 0⟩
/-- HOST.VEC_COUNT, bits [11:0] (R413). -/
def VEC_COUNT : Field := ⟨0x100, 11, 0, 32⟩
/-- HOST.COM_BASE, bits [11:0] (R413). -/
def COM_BASE : Field := ⟨0x104, 11, 0, 32⟩
/-- HOST.COM_LIMIT, bits [12:0] (R413). -/
def COM_LIMIT : Field := ⟨0x108, 12, 0, 32⟩
/-- HOST.VIEW_BASE, bits [15:0] (R413). -/
def VIEW_BASE : Field := ⟨0x10C, 15, 0, 32⟩
/-- HOST.CTX_STS.ENABLED, bits [0] (R413). -/
def CTX_STS_ENABLED : Field := ⟨0x110, 0, 0, 32⟩
/-- HOST.CTX_STS.IN_RESET, bits [1] (R413). -/
def CTX_STS_IN_RESET : Field := ⟨0x110, 1, 1, 32⟩
/-- HOST.CTX_STS.BUS_MASTER, bits [2] (R413). -/
def CTX_STS_BUS_MASTER : Field := ⟨0x110, 2, 2, 32⟩
/-- HOST.CTX_STS.RESETS, bits [31:16] (R413). -/
def CTX_STS_RESETS : Field := ⟨0x110, 31, 16, 32⟩
end HOST

namespace DMA
/-- DMA.DMA_STS.BUSY, bits [15:0] (R414). -/
def DMA_STS_BUSY : Field := ⟨0x080, 15, 0, 0⟩
/-- DMA.DONE_SUM, bits [15:0] (R414). -/
def DONE_SUM : Field := ⟨0x084, 15, 0, 0⟩
/-- DMA.REFUSED_CNT, bits [15:0] (R414). -/
def REFUSED_CNT : Field := ⟨0x088, 15, 0, 0⟩
/-- DMA.SRC_LO, bits [31:0] (R414). -/
def SRC_LO : Field := ⟨0x100, 31, 0, 64⟩
/-- DMA.SRC_HI, bits [31:0] (R414). -/
def SRC_HI : Field := ⟨0x104, 31, 0, 64⟩
/-- DMA.DST_LO, bits [31:0] (R414). -/
def DST_LO : Field := ⟨0x108, 31, 0, 64⟩
/-- DMA.DST_HI, bits [31:0] (R414). -/
def DST_HI : Field := ⟨0x10C, 31, 0, 64⟩
/-- DMA.COUNT, bits [31:0] (R414). -/
def COUNT : Field := ⟨0x110, 31, 0, 64⟩
/-- DMA.CTRL.GO, bits [0] (R414). -/
def CTRL_GO : Field := ⟨0x114, 0, 0, 64⟩
/-- DMA.CTRL.BARRIER, bits [1] (R414). -/
def CTRL_BARRIER : Field := ⟨0x114, 1, 1, 64⟩
/-- DMA.CTRL.ABORT, bits [2] (R414). -/
def CTRL_ABORT : Field := ⟨0x114, 2, 2, 64⟩
/-- DMA.CTRL.CTX, bits [6:3] (R414). -/
def CTRL_CTX : Field := ⟨0x114, 6, 3, 64⟩
/-- DMA.CTRL.PRIO, bits [8:7] (R414). -/
def CTRL_PRIO : Field := ⟨0x114, 8, 7, 64⟩
/-- DMA.CTRL.SRC_MPA, bits [9] (R414). -/
def CTRL_SRC_MPA : Field := ⟨0x114, 9, 9, 64⟩
/-- DMA.CTRL.DST_MPA, bits [10] (R414). -/
def CTRL_DST_MPA : Field := ⟨0x114, 10, 10, 64⟩
/-- DMA.STATUS.BUSY, bits [0] (R414). -/
def STATUS_BUSY : Field := ⟨0x118, 0, 0, 64⟩
/-- DMA.STATUS.DONE, bits [1] (R414). -/
def STATUS_DONE : Field := ⟨0x118, 1, 1, 64⟩
/-- DMA.STATUS.REFUSED, bits [2] (R414). -/
def STATUS_REFUSED : Field := ⟨0x118, 2, 2, 64⟩
/-- DMA.STATUS.ERR, bits [15:8] (R414). -/
def STATUS_ERR : Field := ⟨0x118, 15, 8, 64⟩
/-- DMA.REMAIN, bits [31:0] (R414). -/
def REMAIN : Field := ⟨0x11C, 31, 0, 64⟩
/-- DMA.CH_OWNER, bits [4:0] (R414). -/
def CH_OWNER : Field := ⟨0x120, 4, 0, 64⟩
/-- DMA.CH_IRQ.VECTOR, bits [10:0] (R414). -/
def CH_IRQ_VECTOR : Field := ⟨0x124, 10, 0, 64⟩
/-- DMA.CH_IRQ.EN, bits [15] (R414). -/
def CH_IRQ_EN : Field := ⟨0x124, 15, 15, 64⟩
end DMA

namespace MAILBOX
/-- MAILBOX.MB_CTRL.LOCK, bits [0] (R432). -/
def MB_CTRL_LOCK : Field := ⟨0x080, 0, 0, 0⟩
/-- MAILBOX.MB_FULL, bits [31:0] (R432). -/
def MB_FULL : Field := ⟨0x084, 31, 0, 0⟩
/-- MAILBOX.MB_TMO, bits [15:0] (R432). -/
def MB_TMO : Field := ⟨0x088, 15, 0, 0⟩
/-- MAILBOX.REFUSED, bits [15:0] (R432). -/
def REFUSED : Field := ⟨0x08C, 15, 0, 0⟩
/-- MAILBOX.VIOL_CNT, bits [15:0] (R432). -/
def VIOL_CNT : Field := ⟨0x090, 15, 0, 0⟩
/-- MAILBOX.LAST_VIOL.MAILBOX, bits [4:0] (R432). -/
def LAST_VIOL_MAILBOX : Field := ⟨0x094, 4, 0, 0⟩
/-- MAILBOX.LAST_VIOL.STATUS, bits [15:8] (R432). -/
def LAST_VIOL_STATUS : Field := ⟨0x094, 15, 8, 0⟩
/-- MAILBOX.LAST_VIOL.MASTER, bits [31:16] (R432). -/
def LAST_VIOL_MASTER : Field := ⟨0x094, 31, 16, 0⟩
/-- MAILBOX.MB_DATA, bits [31:0] (R432). -/
def MB_DATA : Field := ⟨0x100, 31, 0, 16⟩
/-- MAILBOX.MB_BIND.SENDER, bits [15:0] (R432). -/
def MB_BIND_SENDER : Field := ⟨0x104, 15, 0, 16⟩
/-- MAILBOX.MB_BIND.RECEIVER, bits [31:16] (R432). -/
def MB_BIND_RECEIVER : Field := ⟨0x104, 31, 16, 16⟩
/-- MAILBOX.MB_CFG.EN, bits [0] (R432). -/
def MB_CFG_EN : Field := ⟨0x108, 0, 0, 16⟩
/-- MAILBOX.MB_CFG.FORM, bits [1] (R432). -/
def MB_CFG_FORM : Field := ⟨0x108, 1, 1, 16⟩
/-- MAILBOX.MB_CFG.FULL, bits [8] (R432). -/
def MB_CFG_FULL : Field := ⟨0x108, 8, 8, 16⟩
/-- MAILBOX.MB_CFG.EXPIRED, bits [9] (R432). -/
def MB_CFG_EXPIRED : Field := ⟨0x108, 9, 9, 16⟩
/-- MAILBOX.MB_CFG.VERSION, bits [23:16] (R432). -/
def MB_CFG_VERSION : Field := ⟨0x108, 23, 16, 16⟩
/-- MAILBOX.MB_IRQ.VECTOR, bits [10:0] (R432). -/
def MB_IRQ_VECTOR : Field := ⟨0x10C, 10, 0, 16⟩
/-- MAILBOX.MB_IRQ.EN, bits [15] (R432). -/
def MB_IRQ_EN : Field := ⟨0x10C, 15, 15, 16⟩
end MAILBOX

namespace KERNEL
/-- KERNEL.KN_STS.WORKING, bits [3:0] (R433). -/
def KN_STS_WORKING : Field := ⟨0x080, 3, 0, 0⟩
/-- KERNEL.KN_STS.FAILED, bits [7:4] (R433). -/
def KN_STS_FAILED : Field := ⟨0x080, 7, 4, 0⟩
/-- KERNEL.KN_STS.STANDBY, bits [9:8] (R433). -/
def KN_STS_STANDBY : Field := ⟨0x080, 9, 8, 0⟩
/-- KERNEL.KN_STS.STANDBY_OK, bits [10] (R433). -/
def KN_STS_STANDBY_OK : Field := ⟨0x080, 10, 10, 0⟩
/-- KERNEL.MIGRATIONS, bits [15:0] (R433). -/
def MIGRATIONS : Field := ⟨0x084, 15, 0, 0⟩
/-- KERNEL.LAST_MIGRATE, bits [15:0] (R433). -/
def LAST_MIGRATE : Field := ⟨0x088, 15, 0, 0⟩
/-- KERNEL.CKPT_MAX, bits [15:0] (R433). -/
def CKPT_MAX : Field := ⟨0x08C, 15, 0, 0⟩
/-- KERNEL.KWD_TMO, bits [7:0] (R433). -/
def KWD_TMO : Field := ⟨0x090, 7, 0, 0⟩
/-- KERNEL.SVC_ERR, bits [15:0] (R433). -/
def SVC_ERR : Field := ⟨0x094, 15, 0, 0⟩
/-- KERNEL.DEFER_PEND, bits [7:0] (R433). -/
def DEFER_PEND : Field := ⟨0x098, 7, 0, 0⟩
end KERNEL

namespace PRESENCE
/-- PRESENCE.PR_STS.OPEN, bits [0] (R434). -/
def PR_STS_OPEN : Field := ⟨0x080, 0, 0, 0⟩
/-- PRESENCE.PR_STS.BUTTON, bits [1] (R434). -/
def PR_STS_BUTTON : Field := ⟨0x080, 1, 1, 0⟩
/-- PRESENCE.PR_STS.SEAL, bits [2] (R434). -/
def PR_STS_SEAL : Field := ⟨0x080, 2, 2, 0⟩
/-- PRESENCE.PR_STS.SEAL_AT_MAINS, bits [3] (R434). -/
def PR_STS_SEAL_AT_MAINS : Field := ⟨0x080, 3, 3, 0⟩
/-- PRESENCE.PR_REMAIN, bits [7:0] (R434). -/
def PR_REMAIN : Field := ⟨0x084, 7, 0, 0⟩
/-- PRESENCE.PR_CTRL.CLOSE, bits [0] (R434). -/
def PR_CTRL_CLOSE : Field := ⟨0x088, 0, 0, 0⟩
/-- PRESENCE.PR_OPS, bits [15:0] (R434). -/
def PR_OPS : Field := ⟨0x08C, 15, 0, 0⟩
/-- PRESENCE.PR_REFUSED, bits [15:0] (R434). -/
def PR_REFUSED : Field := ⟨0x090, 15, 0, 0⟩
/-- PRESENCE.LAST_OP.MASTER, bits [15:0] (R434). -/
def LAST_OP_MASTER : Field := ⟨0x094, 15, 0, 0⟩
/-- PRESENCE.LAST_OP.KIND, bits [31:16] (R434). -/
def LAST_OP_KIND : Field := ⟨0x094, 31, 16, 0⟩
end PRESENCE

namespace PEER
/-- PEER.PR_CTRL.EN, bits [0] (R451). -/
def PR_CTRL_EN : Field := ⟨0x080, 0, 0, 0⟩
/-- PEER.PR_CTRL.LANE_EN, bits [2:1] (R451). -/
def PR_CTRL_LANE_EN : Field := ⟨0x080, 2, 1, 0⟩
/-- PEER.PR_CTRL.RETRAIN, bits [3] (R451). -/
def PR_CTRL_RETRAIN : Field := ⟨0x080, 3, 3, 0⟩
/-- PEER.PR_STS.LANE_ACTIVE, bits [1:0] (R451). -/
def PR_STS_LANE_ACTIVE : Field := ⟨0x084, 1, 0, 0⟩
/-- PEER.PR_STS.LINK_UP, bits [2] (R451). -/
def PR_STS_LINK_UP : Field := ⟨0x084, 2, 2, 0⟩
/-- PEER.PR_STS.QUAR, bits [3] (R451). -/
def PR_STS_QUAR : Field := ⟨0x084, 3, 3, 0⟩
/-- PEER.PR_STS.FAR_MODULE, bits [7:4] (R451). -/
def PR_STS_FAR_MODULE : Field := ⟨0x084, 7, 4, 0⟩
/-- PEER.PR_VER.MIN, bits [7:0] (R451). -/
def PR_VER_MIN : Field := ⟨0x088, 7, 0, 0⟩
/-- PEER.PR_VER.MAX, bits [15:8] (R451). -/
def PR_VER_MAX : Field := ⟨0x088, 15, 8, 0⟩
/-- PEER.PR_VER.AGREED, bits [23:16] (R451). -/
def PR_VER_AGREED : Field := ⟨0x088, 23, 16, 0⟩
/-- PEER.ASYM, bits [15:0] (R451). -/
def ASYM : Field := ⟨0x08C, 15, 0, 0⟩
/-- PEER.OFFSET, bits [31:0] (R451). -/
def OFFSET : Field := ⟨0x090, 31, 0, 0⟩
/-- PEER.DELAY, bits [23:0] (R451). -/
def DELAY : Field := ⟨0x094, 23, 0, 0⟩
/-- PEER.HB_MISS, bits [15:0] (R451). -/
def HB_MISS : Field := ⟨0x098, 15, 0, 0⟩
/-- PEER.RETRY_CNT, bits [15:0] (R451). -/
def RETRY_CNT : Field := ⟨0x09C, 15, 0, 0⟩
/-- PEER.VIOL_TX, bits [15:0] (R451). -/
def VIOL_TX : Field := ⟨0x0A0, 15, 0, 0⟩
/-- PEER.VIOL_RX, bits [15:0] (R451). -/
def VIOL_RX : Field := ⟨0x0A4, 15, 0, 0⟩
/-- PEER.LAST_VIOL.REASON, bits [7:0] (R451). -/
def LAST_VIOL_REASON : Field := ⟨0x0A8, 7, 0, 0⟩
/-- PEER.LAST_VIOL.CH, bits [10:8] (R451). -/
def LAST_VIOL_CH : Field := ⟨0x0A8, 10, 8, 0⟩
/-- PEER.LAST_VIOL.DIR, bits [11] (R451). -/
def LAST_VIOL_DIR : Field := ⟨0x0A8, 11, 11, 0⟩
/-- PEER.LAST_VIOL.SEQ, bits [31:16] (R451). -/
def LAST_VIOL_SEQ : Field := ⟨0x0A8, 31, 16, 0⟩
/-- PEER.CHAIN_CFG.ROLE, bits [0] (R451). -/
def CHAIN_CFG_ROLE : Field := ⟨0x100, 0, 0, 0⟩
/-- PEER.CHAIN_CFG.MODULE, bits [11:8] (R451). -/
def CHAIN_CFG_MODULE : Field := ⟨0x100, 11, 8, 0⟩
/-- PEER.CHAIN_CFG.CHAIN_EN, bits [16] (R451). -/
def CHAIN_CFG_CHAIN_EN : Field := ⟨0x100, 16, 16, 0⟩
/-- PEER.CHAIN_STS.MEMBERS, bits [15:0] (R451). -/
def CHAIN_STS_MEMBERS : Field := ⟨0x104, 15, 0, 0⟩
/-- PEER.CHAIN_STS.EXCLUDED, bits [31:16] (R451). -/
def CHAIN_STS_EXCLUDED : Field := ⟨0x104, 31, 16, 0⟩
/-- PEER.DIGEST_LO, bits [31:0] (R451). -/
def DIGEST_LO : Field := ⟨0x108, 31, 0, 0⟩
/-- PEER.DIGEST_HI, bits [31:0] (R451). -/
def DIGEST_HI : Field := ⟨0x10C, 31, 0, 0⟩
/-- PEER.TIME_TOL, bits [15:0] (R451). -/
def TIME_TOL : Field := ⟨0x110, 15, 0, 0⟩
/-- PEER.TIME_FAIL, bits [31:0] (R451). -/
def TIME_FAIL : Field := ⟨0x114, 31, 0, 0⟩
/-- PEER.REFUSED, bits [15:0] (R451). -/
def REFUSED : Field := ⟨0x118, 15, 0, 0⟩
/-- PEER.MEM_WIN.BASE, bits [15:0] (R451). -/
def MEM_WIN_BASE : Field := ⟨0x11C, 15, 0, 0⟩
/-- PEER.MEM_WIN.LIMIT, bits [31:16] (R451). -/
def MEM_WIN_LIMIT : Field := ⟨0x11C, 31, 16, 0⟩
/-- PEER.CMAP.STATIONS, bits [7:0] (R451). -/
def CMAP_STATIONS : Field := ⟨0x140, 7, 0, 4⟩
/-- PEER.CMAP.PRESENT, bits [8] (R451). -/
def CMAP_PRESENT : Field := ⟨0x140, 8, 8, 4⟩
end PEER

namespace FACE
/-- FACE.FLT_INJ.CHECKER, bits [3:0] (R458). -/
def FLT_INJ_CHECKER : Field := ⟨0x034, 3, 0, 0⟩
/-- FACE.FLT_INJ.TARGET, bits [15:8] (R458). -/
def FLT_INJ_TARGET : Field := ⟨0x034, 15, 8, 0⟩
/-- FACE.FLT_INJ.ARM, bits [16] (R458). -/
def FLT_INJ_ARM : Field := ⟨0x034, 16, 16, 0⟩
/-- FACE.FLT_INJ.PENDING, bits [17] (R458). -/
def FLT_INJ_PENDING : Field := ⟨0x034, 17, 17, 0⟩
/-- FACE.FLT_INJ.FIRED, bits [18] (R458). -/
def FLT_INJ_FIRED : Field := ⟨0x034, 18, 18, 0⟩
/-- FACE.FLT_INJ.REFUSED, bits [19] (R458). -/
def FLT_INJ_REFUSED : Field := ⟨0x034, 19, 19, 0⟩
/-- FACE.PAGE_ID.CLASS, bits [31:24] (R476). -/
def PAGE_ID_CLASS : Field := ⟨0x000, 31, 24, 0⟩
/-- FACE.PAGE_ID.INSTANCE, bits [23:16] (R476). -/
def PAGE_ID_INSTANCE : Field := ⟨0x000, 23, 16, 0⟩
/-- FACE.PAGE_VER.MAJOR, bits [31:16] (R476). -/
def PAGE_VER_MAJOR : Field := ⟨0x004, 31, 16, 0⟩
/-- FACE.PAGE_VER.MINOR, bits [15:0] (R476). -/
def PAGE_VER_MINOR : Field := ⟨0x004, 15, 0, 0⟩
/-- FACE.PAGE_CAPS.NSRC, bits [4:0] (R476). -/
def PAGE_CAPS_NSRC : Field := ⟨0x008, 4, 0, 0⟩
/-- FACE.PAGE_CAPS.STAGED, bits [5] (R476). -/
def PAGE_CAPS_STAGED : Field := ⟨0x008, 5, 5, 0⟩
/-- FACE.PAGE_CAPS.LOCKABLE, bits [6] (R476). -/
def PAGE_CAPS_LOCKABLE : Field := ⟨0x008, 6, 6, 0⟩
/-- FACE.PAGE_CAPS.AON, bits [7] (R476). -/
def PAGE_CAPS_AON : Field := ⟨0x008, 7, 7, 0⟩
/-- FACE.PAGE_CAPS.INJ, bits [15:8] (R476). -/
def PAGE_CAPS_INJ : Field := ⟨0x008, 15, 8, 0⟩
/-- FACE.PAGE_CAPS.BANKED, bits [16] (R476). -/
def PAGE_CAPS_BANKED : Field := ⟨0x008, 16, 16, 0⟩
/-- FACE.PAGE_CTRL.EN, bits [0] (R476). -/
def PAGE_CTRL_EN : Field := ⟨0x00C, 0, 0, 0⟩
/-- FACE.PAGE_CTRL.FREEZE, bits [1] (R476). -/
def PAGE_CTRL_FREEZE : Field := ⟨0x00C, 1, 1, 0⟩
/-- FACE.PAGE_CTRL.BLOCK_RESET, bits [2] (R476). -/
def PAGE_CTRL_BLOCK_RESET : Field := ⟨0x00C, 2, 2, 0⟩
/-- FACE.PAGE_CTRL.COMMIT, bits [3] (R476). -/
def PAGE_CTRL_COMMIT : Field := ⟨0x00C, 3, 3, 0⟩
/-- FACE.PAGE_CTRL.LOCK, bits [31] (R476). -/
def PAGE_CTRL_LOCK : Field := ⟨0x00C, 31, 31, 0⟩
/-- FACE.PAGE_STS.RUNNING, bits [0] (R476). -/
def PAGE_STS_RUNNING : Field := ⟨0x010, 0, 0, 0⟩
/-- FACE.PAGE_STS.FROZEN, bits [1] (R476). -/
def PAGE_STS_FROZEN : Field := ⟨0x010, 1, 1, 0⟩
/-- FACE.PAGE_STS.IN_RESET, bits [2] (R476). -/
def PAGE_STS_IN_RESET : Field := ⟨0x010, 2, 2, 0⟩
/-- FACE.PAGE_STS.COMMIT_PENDING, bits [3] (R476). -/
def PAGE_STS_COMMIT_PENDING : Field := ⟨0x010, 3, 3, 0⟩
/-- FACE.PAGE_STS.STATE, bits [7:4] (R476). -/
def PAGE_STS_STATE : Field := ⟨0x010, 7, 4, 0⟩
/-- FACE.PAGE_STS.BUSY, bits [8] (R476). -/
def PAGE_STS_BUSY : Field := ⟨0x010, 8, 8, 0⟩
/-- FACE.PAGE_STS.HUNG, bits [9] (R476). -/
def PAGE_STS_HUNG : Field := ⟨0x010, 9, 9, 0⟩
/-- FACE.EVT_RAW, bits [15:0] (R476). -/
def EVT_RAW : Field := ⟨0x014, 15, 0, 0⟩
/-- FACE.EVT_PEND, bits [15:0] (R476). -/
def EVT_PEND : Field := ⟨0x018, 15, 0, 0⟩
/-- FACE.EVT_MASK, bits [15:0] (R476). -/
def EVT_MASK : Field := ⟨0x01C, 15, 0, 0⟩
/-- FACE.EVT_VECTOR.VECTOR, bits [10:0] (R476). -/
def EVT_VECTOR_VECTOR : Field := ⟨0x020, 10, 0, 0⟩
/-- FACE.EVT_VECTOR.CONTEXT, bits [19:16] (R476). -/
def EVT_VECTOR_CONTEXT : Field := ⟨0x020, 19, 16, 0⟩
/-- FACE.EVT_VECTOR.KERNEL, bits [24] (R476). -/
def EVT_VECTOR_KERNEL : Field := ⟨0x020, 24, 24, 0⟩
/-- FACE.FLT_STS, bits [15:0] (R476). -/
def FLT_STS : Field := ⟨0x024, 15, 0, 0⟩
/-- FACE.FLT_REACT_LO, bits [31:0] (R476). -/
def FLT_REACT_LO : Field := ⟨0x028, 31, 0, 0⟩
/-- FACE.FLT_REACT_HI, bits [31:0] (R476). -/
def FLT_REACT_HI : Field := ⟨0x02C, 31, 0, 0⟩
/-- FACE.FLT_SCOPE, bits [15:0] (R476). -/
def FLT_SCOPE : Field := ⟨0x030, 15, 0, 0⟩
/-- FACE.FE_ADDR_LO, bits [31:0] (R476). -/
def FE_ADDR_LO : Field := ⟨0x038, 31, 0, 0⟩
/-- FACE.FE_ADDR_HI, bits [31:0] (R476). -/
def FE_ADDR_HI : Field := ⟨0x03C, 31, 0, 0⟩
/-- FACE.FE_INFO.MASTER, bits [15:0] (R476). -/
def FE_INFO_MASTER : Field := ⟨0x040, 15, 0, 0⟩
/-- FACE.FE_INFO.ACCESS, bits [19:16] (R476). -/
def FE_INFO_ACCESS : Field := ⟨0x040, 19, 16, 0⟩
/-- FACE.FE_INFO.SOURCE, bits [23:20] (R476). -/
def FE_INFO_SOURCE : Field := ⟨0x040, 23, 20, 0⟩
/-- FACE.FE_INFO.INJECTED, bits [30] (R476). -/
def FE_INFO_INJECTED : Field := ⟨0x040, 30, 30, 0⟩
/-- FACE.FE_INFO.VALID, bits [31] (R476). -/
def FE_INFO_VALID : Field := ⟨0x040, 31, 31, 0⟩
/-- FACE.FE_TIME_LO, bits [31:0] (R476). -/
def FE_TIME_LO : Field := ⟨0x044, 31, 0, 0⟩
/-- FACE.FE_TIME_HI, bits [31:0] (R476). -/
def FE_TIME_HI : Field := ⟨0x048, 31, 0, 0⟩
/-- FACE.FE_COUNT, bits [31:0] (R476). -/
def FE_COUNT : Field := ⟨0x04C, 31, 0, 0⟩
/-- FACE.TIMEOUT_CFG.WD_US, bits [15:0] (R476). -/
def TIMEOUT_CFG_WD_US : Field := ⟨0x050, 15, 0, 0⟩
end FACE

namespace FANTAIL
/-- FANTAIL.FT_CTRL.EN, bits [0] (R473). -/
def FT_CTRL_EN : Field := ⟨0x080, 0, 0, 0⟩
/-- FANTAIL.FT_CTRL.RESUME, bits [1] (R473). -/
def FT_CTRL_RESUME : Field := ⟨0x080, 1, 1, 0⟩
/-- FANTAIL.FT_STS.TOGGLING, bits [0] (R473). -/
def FT_STS_TOGGLING : Field := ⟨0x084, 0, 0, 0⟩
/-- FANTAIL.FT_STS.LEVEL, bits [1] (R473). -/
def FT_STS_LEVEL : Field := ⟨0x084, 1, 1, 0⟩
/-- FANTAIL.FT_STS.CAUSE, bits [7:4] (R473). -/
def FT_STS_CAUSE : Field := ⟨0x084, 7, 4, 0⟩
/-- FANTAIL.FT_FREQ, bits [13:0] (R473). -/
def FT_FREQ : Field := ⟨0x088, 13, 0, 0⟩
/-- FANTAIL.FT_STOP_SRC.PAGE, bits [19:0] (R473). -/
def FT_STOP_SRC_PAGE : Field := ⟨0x08C, 19, 0, 0⟩
/-- FANTAIL.FT_STOP_SRC.SOURCE, bits [27:24] (R473). -/
def FT_STOP_SRC_SOURCE : Field := ⟨0x08C, 27, 24, 0⟩
/-- FANTAIL.FT_STOPS, bits [15:0] (R473). -/
def FT_STOPS : Field := ⟨0x090, 15, 0, 0⟩
/-- FANTAIL.RST_PAGE.PAGE, bits [19:0] (R473). -/
def RST_PAGE_PAGE : Field := ⟨0x094, 19, 0, 0⟩
/-- FANTAIL.RST_PAGE.SOURCE, bits [27:24] (R473). -/
def RST_PAGE_SOURCE : Field := ⟨0x094, 27, 24, 0⟩
/-- FANTAIL.RST_PAGE.VALID, bits [31] (R473). -/
def RST_PAGE_VALID : Field := ⟨0x094, 31, 31, 0⟩
/-- FANTAIL.RST_ADDR_LO, bits [31:0] (R473). -/
def RST_ADDR_LO : Field := ⟨0x098, 31, 0, 0⟩
/-- FANTAIL.RST_ADDR_HI, bits [31:0] (R473). -/
def RST_ADDR_HI : Field := ⟨0x09C, 31, 0, 0⟩
/-- FANTAIL.RST_INFO, bits [31:0] (R473). -/
def RST_INFO : Field := ⟨0x0A0, 31, 0, 0⟩
/-- FANTAIL.RST_TIME_LO, bits [31:0] (R473). -/
def RST_TIME_LO : Field := ⟨0x0A4, 31, 0, 0⟩
/-- FANTAIL.RST_TIME_HI, bits [31:0] (R473). -/
def RST_TIME_HI : Field := ⟨0x0A8, 31, 0, 0⟩
/-- FANTAIL.LEDGER_IDX, bits [15:0] (R473). -/
def LEDGER_IDX : Field := ⟨0x0AC, 15, 0, 0⟩
/-- FANTAIL.LEDGER.READ, bits [15:0] (R473). -/
def LEDGER_READ : Field := ⟨0x0B0, 15, 0, 0⟩
/-- FANTAIL.LEDGER.WRITE, bits [31:16] (R473). -/
def LEDGER_WRITE : Field := ⟨0x0B0, 31, 16, 0⟩
/-- FANTAIL.POOL_FREE.READ, bits [15:0] (R473). -/
def POOL_FREE_READ : Field := ⟨0x0B4, 15, 0, 0⟩
/-- FANTAIL.POOL_FREE.WRITE, bits [31:16] (R473). -/
def POOL_FREE_WRITE : Field := ⟨0x0B4, 31, 16, 0⟩
/-- FANTAIL.RECLAIMED, bits [31:0] (R473). -/
def RECLAIMED : Field := ⟨0x0B8, 31, 0, 0⟩
/-- FANTAIL.LEASE_EXP, bits [15:0] (R473). -/
def LEASE_EXP : Field := ⟨0x0BC, 15, 0, 0⟩
end FANTAIL

end Sys2Proof.Machine
end

