-- ==== Sys2Proof/Machine/RegTable.lean ====
section
/-! DEFINITION. The register tables of the pages: every field with its copies, access code, reset value and staging (the tables of the chapters' page sections). -/

namespace Sys2Proof.Machine

/-- A plain row of a register table. -/
def row (f : Field) (n : Nat) (a : Access) (r : Nat) : FieldRow := ⟨f, n, a, r, false, false⟩
/-- A row whose field is staged (R480). -/
def rowStaged (f : Field) (n : Nat) (a : Access) (r : Nat) : FieldRow := ⟨f, n, a, r, true, false⟩
/-- A row whose field is writable only while its unit is idle. -/
def rowIdle (f : Field) (n : Nat) (a : Access) (r : Nat) : FieldRow := ⟨f, n, a, r, false, true⟩

/-- The register table of the TIME page. -/
def rowsTIME : List FieldRow := [
  row TIME.TIME_CTRL_SRC 1 .rw 0,
  rowStaged TIME.TIME_CTRL_BELT_SEL 1 .rw 0,
  row TIME.TIME_CTRL_SET 1 .w1s 0,
  row TIME.TIME_STS_LOCKED 1 .ro 0,
  row TIME.TIME_STS_HOLDOVER 1 .ro 0,
  row TIME.TIME_STS_SLEW_ACTIVE 1 .ro 0,
  row TIME.TIME_STS_SET_REFUSED 1 .w1c 0,
  row TIME.TIME_STS_DEGRADED 1 .ro 0,
  row TIME.TIME_LO 1 .ro 0,
  row TIME.TIME_HI 1 .ro 0,
  row TIME.RATE_ADJ 1 .rw 0,
  row TIME.SLEW_REQ 1 .rw 0,
  row TIME.SET_LO 1 .rw 0,
  row TIME.SET_HI 1 .rw 0,
  row TIME.BELT_LO 1 .ro 0,
  row TIME.BELT_HI 1 .ro 0,
  rowStaged TIME.BELT_CFG_BELT0_CH 1 .rw 12,
  rowStaged TIME.BELT_CFG_BELT1_CH 1 .rw 13,
  row TIME.BELT_TOL 1 .rw 128,
  row TIME.BELT_DIFF 1 .ro 0,
  rowStaged TIME.BELT_NUM0 1 .rw 0,
  rowStaged TIME.BELT_DEN0 1 .rw 0,
  rowStaged TIME.BELT_NUM1 1 .rw 0,
  rowStaged TIME.BELT_DEN1 1 .rw 0,
  row TIME.TOF_BELT_LO 1 .rw 0,
  row TIME.TOF_BELT_HI 1 .rw 0,
  row TIME.TOF_CTRL_MASK 1 .rw 0,
  row TIME.TOF_CTRL_GO 1 .w1s 0,
  row TIME.TOF_CTRL_BUSY 1 .ro 0,
  row TIME.TOF_STS_GO_REFUSED 1 .w1c 0,
  row TIME.TOF_TIME_LO 1 .ro 0,
  row TIME.TOF_TIME_HI 1 .ro 0,
  row TIME.SURF_LO 8 .ro 0,
  row TIME.SURF_HI 8 .ro 0,
  rowStaged TIME.SURF_PER_REV 8 .rw 0,
  rowStaged TIME.COUNTS_PER_REV 8 .rw 0,
  rowStaged TIME.D_EXPO 8 .rw 0,
  rowStaged TIME.N_NIP 8 .rw 0,
  row TIME.RHO 8 .ro 1073741824,
  row TIME.SURF_TOF_LO 8 .ro 0,
  row TIME.SURF_TOF_HI 8 .ro 0,
  rowStaged TIME.SURF_CFG_ENC_CH 8 .rw 0,
  rowStaged TIME.SURF_CFG_STALE_LIM 8 .rw 10000,
  rowStaged TIME.SURF_CFG_EN 8 .rw 0,
  row TIME.SURF_STS_STALE 8 .w1c 0,
  row TIME.SURF_STS_REVERSE 8 .w1c 0,
  row TIME.SURF_STS_TOF_LATE 8 .w1c 0,
  row TIME.SURF_STS_TOF_EARLY 8 .w1c 0,
  row TIME.SURF_STS_VALID 8 .ro 0]

/-- The register table of the HEADRACE page. -/
def rowsHEADRACE : List FieldRow := [
  row HEADRACE.HR_CTRL_ADMIT_EN 1 .rw 0,
  row HEADRACE.HR_CTRL_FORECAST_EN 1 .rw 0,
  row HEADRACE.HR_CTRL_HOLD 1 .rw 0,
  row HEADRACE.HR_CTRL_LOCK 1 .w1s 0,
  row HEADRACE.HR_STS_RUN_GRADE 1 .ro 7,
  row HEADRACE.HR_STS_RUN_VALID 1 .ro 0,
  row HEADRACE.HR_STS_PEND_GRADE 1 .ro 0,
  row HEADRACE.HR_STS_PEND_VALID 1 .ro 0,
  row HEADRACE.HR_STS_FC_GRADE 1 .ro 0,
  row HEADRACE.HR_STS_STARVE 1 .ro 0,
  row HEADRACE.HR_STS_STACK_OK 1 .ro 15,
  row HEADRACE.HR_STS_STORE_FAILED 1 .ro 0,
  row HEADRACE.HR_STS_IDLE 1 .ro 1,
  row HEADRACE.GRADE_CEIL 1 .rw 0,
  row HEADRACE.GAP_MM 1 .rw 50,
  row HEADRACE.REPRINT_DEF 1 .rw 3,
  row HEADRACE.STEPUP_HOLD 1 .rw 5000,
  row HEADRACE.GT_BANK_ACTIVE 1 .ro 0,
  row HEADRACE.GT_BANK_SWITCH 1 .w1s 0,
  row HEADRACE.GT_BANK_SWITCH_PEND 1 .ro 0,
  row HEADRACE.CMDQ_FREE 1 .ro 256,
  row HEADRACE.SUBMIT 1 .wo 0,
  row HEADRACE.PLANE_READY_INDEX 1 .wo 0,
  row HEADRACE.PLANE_READY_STATION 1 .wo 0,
  row HEADRACE.WITHDRAW 1 .wo 0,
  row HEADRACE.QUERY_IDX 1 .rw 0,
  row HEADRACE.QUERY_STS_STATE 1 .ro 15,
  row HEADRACE.QUERY_STS_ATTEMPT 1 .ro 0,
  row HEADRACE.QUERY_STS_PLANES 1 .ro 0,
  row HEADRACE.QUERY_STS_REASON 1 .ro 0,
  row HEADRACE.QUERY_STS_CTX 1 .ro 0,
  row HEADRACE.INGEST_RATE 1 .ro 0,
  row HEADRACE.EXP_RATIO 1 .ro 1024,
  row HEADRACE.FC_MARGIN 1 .ro 2147483647,
  row HEADRACE.SLOT_SKIP 1 .ro 0,
  row HEADRACE.CMDQ_DROP 1 .ro 0,
  row HEADRACE.PIN_BYTES_LO 1 .ro 0,
  row HEADRACE.PIN_BYTES_HI 1 .ro 0,
  row HEADRACE.PAGES_LIVE 1 .ro 0,
  row HEADRACE.SHEETS_INFLIGHT 1 .ro 0,
  row HEADRACE.PART_BASE 16 .rwl 0,
  row HEADRACE.PART_LIMIT 16 .rwl 0,
  row HEADRACE.RING_BASE 16 .rw 0,
  row HEADRACE.RING_CFG_LOG2SIZE 16 .rw 6,
  row HEADRACE.RING_CFG_EN 16 .rw 0,
  row HEADRACE.RING_HEAD 16 .ro 0,
  row HEADRACE.RING_TAIL 16 .rw 0,
  row HEADRACE.RING_LOST 16 .ro 0]

/-- The register table of the CODEC_ENC page. -/
def rowsCODEC_ENC : List FieldRow := [
  row CODEC_ENC.ENC_CTRL_ENC_EN 1 .rw 15,
  row CODEC_ENC.ENC_STS_BUSY 1 .ro 0,
  row CODEC_ENC.ENC_STS_FAULTED 1 .ro 0,
  row CODEC_ENC.JOB_SUBMIT 1 .wo 0,
  row CODEC_ENC.JOBQ_FREE 1 .ro 64,
  row CODEC_ENC.JOBQ_DROP 1 .ro 0,
  row CODEC_ENC.JOBS_DONE 1 .ro 0,
  row CODEC_ENC.NOSHRINK_TOTAL 1 .ro 0,
  row CODEC_ENC.LAST_ERR_JOB 1 .ro 0,
  row CODEC_ENC.LAST_ERR_ERR 1 .ro 0]

/-- The register table of the DECODE page. -/
def rowsDECODE : List FieldRow := [
  row DECODE.DEC_STS_BUSY 1 .ro 0,
  row DECODE.DEC_STS_RETRY 1 .ro 0,
  row DECODE.BILLETS_LO 1 .ro 0,
  row DECODE.BILLETS_HI 1 .ro 0,
  row DECODE.REFETCH 1 .ro 0,
  row DECODE.REFETCH_OK 1 .ro 0,
  row DECODE.SPOIL_CNT 1 .ro 0,
  row DECODE.LAST_FAIL_DESC_DESC 1 .ro 0,
  row DECODE.LAST_FAIL_DESC_CAUSE 1 .ro 0,
  row DECODE.LAST_FAIL_DESC_SECOND 1 .ro 0,
  row DECODE.LAST_FAIL_BILLET 1 .ro 0,
  row DECODE.LAST_FAIL_POS_ROW 1 .ro 0,
  row DECODE.LAST_FAIL_POS_COL 1 .ro 0,
  row DECODE.DEC_RATE 1 .ro 0]

/-- The register table of the PIPE page. -/
def rowsPIPE : List FieldRow := [
  rowStaged PIPE.PIPE_CTRL_OUTSIDE_LEVEL 1 .rw 0,
  row PIPE.PIPE_STS_PREFILL 1 .ro 0,
  row PIPE.PIPE_STS_RENDER 1 .ro 0,
  row PIPE.PIPE_STS_IDLE 1 .ro 1,
  row PIPE.PIPE_STS_WBANK_CUR 1 .ro 0,
  row PIPE.PIPE_STS_SBANK_CUR 1 .ro 0,
  row PIPE.CUR_DESC 1 .ro 0,
  row PIPE.CUR_LINE_LINE 1 .ro 0,
  row PIPE.CUR_LINE_VALID 1 .ro 0,
  row PIPE.LINES_LO 1 .ro 0,
  row PIPE.LINES_HI 1 .ro 0,
  row PIPE.LATE_CNT 1 .ro 0,
  row PIPE.ECC_CORR 1 .ro 0,
  row PIPE.SLACK_MIN 1 .ro 65535,
  row PIPE.REQ_LEVEL 1 .ro 0]

/-- The register table of the WARP page. -/
def rowsWARP : List FieldRow := [
  row WARP.WBANK_ACTIVE 1 .ro 0,
  row WARP.WBANK_SWITCH 1 .w1s 0,
  row WARP.WBANK_CANCEL 1 .w1s 0,
  row WARP.WBANK_VALIDATING 1 .ro 0,
  row WARP.WBANK_ARMED 1 .ro 0,
  row WARP.WBANK_BUSY 1 .w1c 0,
  row WARP.WBANK_IN_USE 1 .ro 1,
  row WARP.WREJECT_CHECK 1 .ro 0,
  row WARP.WREJECT_INDEX 1 .ro 0,
  row WARP.WMAP_INFO_ROWS 1 .ro 1,
  row WARP.WMAP_INFO_PITCH_LOG2 1 .ro 16,
  row WARP.WDY_RANGE_DY_MIN 1 .ro 0,
  row WARP.WDY_RANGE_DY_MAX 1 .ro 0,
  row WARP.WREFUSED 1 .ro 0]

/-- The register table of the SCREEN page. -/
def rowsSCREEN : List FieldRow := [
  row SCREEN.SBANK_ACTIVE 1 .ro 0,
  row SCREEN.SBANK_SWITCH 1 .w1s 0,
  row SCREEN.SBANK_CANCEL 1 .w1s 0,
  row SCREEN.SBANK_VALIDATING 1 .ro 0,
  row SCREEN.SBANK_ARMED 1 .ro 0,
  row SCREEN.SBANK_BUSY 1 .w1c 0,
  row SCREEN.SBANK_IN_USE 1 .ro 1,
  row SCREEN.SREJECT_CHECK 1 .ro 0,
  row SCREEN.SREJECT_SET 1 .ro 0,
  row SCREEN.SREJECT_INDEX 1 .ro 0,
  row SCREEN.SREFUSED 1 .ro 0,
  row SCREEN.SETS_USED 1 .ro 0,
  row SCREEN.EDGE_PIX 1 .ro 0]

/-- The register table of the SWATH page. -/
def rowsSWATH : List FieldRow := [
  row SWATH.SW_CTRL_EN 1 .rw 0,
  rowStaged SWATH.SW_CTRL_FORCE_SINGLE 1 .rw 0,
  row SWATH.SW_STS_MODE 1 .ro 0,
  row SWATH.SW_STS_EXPOSING 1 .ro 0,
  row SWATH.SW_STS_FACET 1 .ro 0,
  row SWATH.SW_STS_FACET_VALID 1 .ro 0,
  row SWATH.SW_STS_INDEX_OK 1 .ro 0,
  rowStaged SWATH.LINK_GUARD 1 .rw 800,
  rowStaged SWATH.RET_HOLD 1 .rw 16,
  row SWATH.MAX16 1 .ro 398,
  row SWATH.LAST_N 1 .ro 0,
  row SWATH.LAST_PLAN_K 1 .ro 0,
  row SWATH.LAST_PLAN_LINES 1 .ro 0,
  row SWATH.LAST_PLAN_PHI 1 .ro 0,
  row SWATH.LAST_PLAN_DEV 1 .ro 0,
  row SWATH.FACET_SEQ 1 .ro 0,
  row SWATH.SINGLE_FACETS 1 .ro 0,
  row SWATH.FALLBACK_CNT 1 .ro 0,
  row SWATH.SPOIL_CNT 1 .ro 0,
  row SWATH.DEV_CNT 1 .ro 0,
  row SWATH.INDEX_MISS 1 .ro 0,
  row SWATH.REV_PERIOD 1 .ro 0,
  row SWATH.SCAN_DUR 10 .ro 0]

/-- The register table of the SCANCLK page. -/
def rowsSCANCLK : List FieldRow := [
  row SCANCLK.SC_CTRL_EN 1 .rw 0,
  rowStaged SCANCLK.SC_CTRL_SOS_EDGE 1 .rw 0,
  rowStaged SCANCLK.SC_CTRL_EOS_EDGE 1 .rw 0,
  row SCANCLK.SC_STS_PLL_LOCK 1 .ro 0,
  row SCANCLK.SC_STS_RUNNING 1 .ro 0,
  row SCANCLK.SC_STS_LOCKED 1 .ro 0,
  row SCANCLK.SC_STS_WORD_BAD 1 .ro 0,
  row SCANCLK.SC_STS_PEND 1 .ro 0,
  row SCANCLK.SC_STS_FLYWHEEL 1 .ro 0,
  row SCANCLK.DIV_ACT0 1 .ro 0,
  row SCANCLK.DIV_ACT1 1 .ro 0,
  row SCANCLK.DIV_PEND0 1 .ro 0,
  row SCANCLK.DIV_PEND1 1 .ro 0,
  rowStaged SCANCLK.BD_WIN 1 .rw 500,
  row SCANCLK.SOS_TIME_LO 1 .ro 0,
  row SCANCLK.SOS_TIME_HI 1 .ro 0,
  row SCANCLK.EOS_TIME_LO 1 .ro 0,
  row SCANCLK.EOS_TIME_HI 1 .ro 0,
  row SCANCLK.RESID 1 .ro 0,
  row SCANCLK.CORR_STEPS 1 .ro 0,
  row SCANCLK.CORR_LATE_FLAG 1 .ro 0,
  row SCANCLK.PHASE_ERR 1 .ro 0,
  row SCANCLK.BD_MISS 1 .ro 0,
  row SCANCLK.BD_SPUR 1 .ro 0,
  row SCANCLK.EOS_MISS 1 .ro 0,
  row SCANCLK.CORR_LATE 1 .ro 0,
  rowStaged SCANCLK.FT_PHASE 10 .rw 0,
  rowStaged SCANCLK.FT_MAG 10 .rw 0,
  row SCANCLK.FT_ACT_PHASE 10 .ro 0,
  row SCANCLK.FT_ACT_MAG 10 .ro 0]

/-- The register table of the CLOCK page. -/
def rowsCLOCK : List FieldRow := [
  row CLOCK.CLK_STS_SYSPLL_LOCK 1 .ro 0,
  row CLOCK.CLK_STS_COREPLL_LOCK 1 .ro 0,
  row CLOCK.CLK_STS_SERDESPLL_LOCK 1 .ro 0,
  row CLOCK.CLK_STS_MON_OK 1 .ro 0,
  rowStaged CLOCK.ORIGIN_LO 1 .rw 0,
  rowStaged CLOCK.ORIGIN_HI 1 .rw 0,
  row CLOCK.PHASE_WARN 1 .rw 1048576,
  row CLOCK.PHASE_FAIL 1 .rw 5242880,
  row CLOCK.PHASE_STN 1 .w1c 0,
  rowStaged CLOCK.POLY_OFS 8 .rw 0]

/-- The register table of the EMIT page. -/
def rowsEMIT : List FieldRow := [
  row EMIT.EM_CTRL_CAL_EN 1 .rw 0,
  row EMIT.EM_CTRL_DEAD_CLR 1 .w1s 0,
  row EMIT.EBANK_ACTIVE 1 .ro 0,
  row EMIT.EBANK_SWITCH 1 .w1s 0,
  row EMIT.EBANK_CANCEL 1 .w1s 0,
  row EMIT.EBANK_VALIDATING 1 .ro 0,
  row EMIT.EBANK_DOWNLOADING 1 .ro 0,
  row EMIT.EBANK_ARMED 1 .ro 0,
  row EMIT.EBANK_BUSY 1 .w1c 0,
  row EMIT.EBANK_IN_USE 1 .ro 1,
  row EMIT.EBANK_HEAD_BANK 1 .ro 0,
  row EMIT.EREJECT_CHECK 1 .ro 0,
  row EMIT.EREJECT_INDEX 1 .ro 0,
  row EMIT.EREFUSED 1 .ro 0,
  row EMIT.CEIL_UW 1 .rwp 0,
  row EMIT.HEALTH_STS_CEIL_VIOL 1 .ro 0,
  row EMIT.HEALTH_STS_MEAS_OVER 1 .w1c 0,
  row EMIT.HEALTH_STS_BD_ALT_USED 1 .ro 0,
  row EMIT.HEALTH_STS_EXP_LOST 1 .w1c 0,
  row EMIT.DEAD_LO 1 .ro 0,
  row EMIT.DEAD_HI 1 .ro 0,
  row EMIT.DEGR_LO 1 .ro 0,
  row EMIT.DEGR_HI 1 .ro 0,
  rowStaged EMIT.KILL_LO 1 .rw 0,
  rowStaged EMIT.KILL_HI 1 .rw 0,
  row EMIT.TAKEOVER_CNT 1 .ro 0,
  row EMIT.LOST_CNT 1 .ro 0,
  row EMIT.CAL_IDX 1 .rw 0,
  row EMIT.CAL_DATA_P_MEAS 1 .ro 0,
  row EMIT.CAL_DATA_P_EXP 1 .ro 0,
  row EMIT.CAL_SWEEPS 1 .ro 0,
  row EMIT.HEAD_CRC 1 .ro 0]

/-- The register table of the IVINA page. -/
def rowsIVINA : List FieldRow := [
  row IVINA.IV_CTRL_EN 1 .rw 0,
  row IVINA.IV_CTRL_LEN_EN 1 .rw 0,
  row IVINA.IV_CTRL_LANE_EN 1 .rw 7,
  row IVINA.IV_CTRL_RETRAIN 1 .w1s 0,
  rowStaged IVINA.IV_CTRL_PRECODE 1 .rw 0,
  row IVINA.IV_STS_LANE_ACTIVE 1 .ro 0,
  row IVINA.IV_STS_LINK_UP 1 .ro 0,
  row IVINA.IV_STS_FULL 1 .ro 0,
  row IVINA.IV_STS_QUAR 1 .ro 0,
  row IVINA.IV_STS_LEN 1 .ro 0,
  row IVINA.IV_STS_HEAD_READY 1 .ro 0,
  row IVINA.IV_STS_TABLES_VALID 1 .ro 0,
  row IVINA.IV_STS_HEAD_RX_OK 1 .ro 0,
  row IVINA.IV_LANE_STATE_A 1 .ro 0,
  row IVINA.IV_LANE_STATE_B 1 .ro 0,
  row IVINA.IV_LANE_STATE_P 1 .ro 0,
  row IVINA.IV_VER_MIN 1 .ro 1,
  row IVINA.IV_VER_MAX 1 .ro 1,
  row IVINA.IV_VER_AGREED 1 .ro 0,
  row IVINA.IV_HEAD_VER_MIN 1 .ro 0,
  row IVINA.IV_HEAD_VER_MAX 1 .ro 0,
  row IVINA.IV_HEAD_ID0_VENDOR 1 .ro 0,
  row IVINA.IV_HEAD_ID0_MODEL 1 .ro 0,
  row IVINA.IV_HEAD_SN_LO 1 .ro 0,
  row IVINA.IV_HEAD_SN_HI 1 .ro 0,
  row IVINA.IV_HEAD_FW 1 .ro 0,
  rowStaged IVINA.IV_TXEQ_PRE 1 .rw 4,
  rowStaged IVINA.IV_TXEQ_POST 1 .rw 8,
  rowStaged IVINA.IV_TXEQ_MAIN 1 .rw 40,
  row IVINA.LANE_FAIL_THR 1 .rw 64,
  row IVINA.SKEW 1 .ro 0,
  row IVINA.CW_UNCORR 3 .ro 0,
  row IVINA.CORR_SYMS 3 .ro 0,
  row IVINA.REBUILT 1 .ro 0,
  row IVINA.LOST_CELLS 1 .ro 0,
  row IVINA.RETRY_CNT 1 .ro 0,
  row IVINA.DUP_CNT 1 .ro 0,
  row IVINA.VIOL_TX 1 .ro 0,
  row IVINA.VIOL_RX 1 .ro 0,
  row IVINA.LAST_VIOL_REASON 1 .ro 0,
  row IVINA.LAST_VIOL_CH 1 .ro 0,
  row IVINA.LAST_VIOL_DIR 1 .ro 0,
  row IVINA.LAST_VIOL_SEQ 1 .ro 0,
  row IVINA.TRAIN_CNT 1 .ro 0,
  row IVINA.CREDITS_TABLE 1 .ro 0,
  row IVINA.CREDITS_MGMT 1 .ro 0,
  row IVINA.HEAD_STATUS 1 .ro 0]

/-- The register table of the FEEDBACK page. -/
def rowsFEEDBACK : List FieldRow := [
  row FEEDBACK.FB_STS_HWFAULT 1 .ro 0,
  row FEEDBACK.FB_STS_POS_VALID 1 .ro 0,
  row FEEDBACK.FB_STS_CFG_REFUSED 1 .w1c 0,
  row FEEDBACK.CH_CFG_EN 8 .rw 0,
  rowIdle FEEDBACK.CH_CFG_MODE 8 .rw 0,
  rowIdle FEEDBACK.CH_CFG_DIR_INV 8 .rw 0,
  row FEEDBACK.CH_CFG_SUPPLY_EN 8 .rw 1,
  row FEEDBACK.CH_CFG_LOSS_EN 8 .rw 1,
  rowStaged FEEDBACK.CH_CFG_FILT 8 .rw 3,
  row FEEDBACK.CH_STS_HWFAULT 8 .ro 0,
  row FEEDBACK.CH_STS_LOSS 8 .ro 0,
  row FEEDBACK.CH_STS_ILLEGAL 8 .w1c 0,
  row FEEDBACK.CH_STS_SUPPLY_OVL 8 .ro 0,
  row FEEDBACK.CH_STS_BISS_ERR 8 .w1c 0,
  row FEEDBACK.CH_STS_POS_VALID 8 .ro 0,
  row FEEDBACK.CH_STS_METHOD 8 .ro 0,
  row FEEDBACK.CH_STS_STOPPED 8 .ro 1,
  row FEEDBACK.CH_STS_WARN 8 .ro 0,
  row FEEDBACK.CH_POS 8 .ro 0,
  row FEEDBACK.TLAST_LO 8 .ro 0,
  row FEEDBACK.TLAST_HI 8 .ro 0,
  row FEEDBACK.SPEED 8 .ro 0,
  row FEEDBACK.ACCEL 8 .ro 0,
  row FEEDBACK.IDX_POS 8 .ro 0,
  row FEEDBACK.IDX_T_LO 8 .ro 0,
  row FEEDBACK.IDX_T_HI 8 .ro 0,
  rowStaged FEEDBACK.IDX_PERIOD 8 .rw 0,
  rowStaged FEEDBACK.SPD_CFG_WIN 8 .rw 16,
  rowStaged FEEDBACK.SPD_CFG_CHG_HI 8 .rw 32,
  rowStaged FEEDBACK.SPD_CFG_CHG_LO 8 .rw 16,
  rowStaged FEEDBACK.SPD_CFG_STALL 8 .rw 10,
  rowIdle FEEDBACK.BISS_CFG_BITS 8 .rw 32,
  rowIdle FEEDBACK.BISS_CFG_CLKDIV 8 .rw 0,
  rowIdle FEEDBACK.BISS_CFG_CYCLE 8 .rw 10,
  rowIdle FEEDBACK.BISS_CFG_TIMEOUT 8 .rw 20,
  row FEEDBACK.BISS_DELAY 8 .ro 0,
  row FEEDBACK.ERR_CNT 8 .ro 0,
  row FEEDBACK.DIV_CFG_EN 4 .rw 0,
  rowIdle FEEDBACK.DIV_CFG_SRC 4 .rw 0,
  rowIdle FEEDBACK.DIV_CFG_INV 4 .rw 0,
  rowIdle FEEDBACK.DIV_CFG_MIN_SP 4 .rw 20,
  rowIdle FEEDBACK.DIV_NUM 4 .rw 1,
  rowIdle FEEDBACK.DIV_DEN 4 .rw 1,
  row FEEDBACK.DIV_STS_RUNNING 4 .ro 0,
  row FEEDBACK.DIV_STS_HOLD 4 .ro 0,
  row FEEDBACK.DIV_STS_OVERRUN 4 .w1c 0,
  row FEEDBACK.DIV_STS_BACKLOG 4 .ro 0,
  row FEEDBACK.DIV_POS 4 .ro 0]

/-- The register table of the AXIS page. -/
def rowsAXIS : List FieldRow := [
  row AXIS.AX_CTRL_EN 1 .rw 0,
  row AXIS.AX_CTRL_ALIGN_REQ 1 .w1s 0,
  rowStaged AXIS.AX_CTRL_IQ_SRC 1 .rw 0,
  rowStaged AXIS.AX_CTRL_FF_EN 1 .rw 1,
  row AXIS.AX_STS_STATE 1 .ro 0,
  row AXIS.AX_STS_LIMITED 1 .ro 0,
  row AXIS.AX_STS_OBS_VALID 1 .ro 0,
  row AXIS.AX_STS_PHASE_LOCK 1 .ro 0,
  row AXIS.AX_STS_MBUS_LOW 1 .ro 0,
  row AXIS.AX_STS_OFS_VALID 1 .ro 0,
  row AXIS.AX_STS_CFG_REFUSED 1 .w1c 0,
  row AXIS.AX_STS_LAST_CAUSE 1 .ro 0,
  row AXIS.AX_CFG_TYPE 1 .ro 0,
  rowIdle AXIS.AX_CFG_POLE_PAIRS 1 .rw 2,
  rowIdle AXIS.AX_CFG_ENC_CH 1 .rw 0,
  rowIdle AXIS.AX_CFG_GOV_SLOT 1 .rw 127,
  rowIdle AXIS.PWM_PER 1 .rw 25000,
  rowStaged AXIS.WIN_MIN_WIN 1 .rw 1000,
  rowStaged AXIS.WIN_SETTLE 1 .rw 750,
  rowStaged AXIS.KP_KP_D 1 .rw 0,
  rowStaged AXIS.KP_KP_Q 1 .rw 0,
  rowStaged AXIS.KI_KI_D 1 .rw 0,
  rowStaged AXIS.KI_KI_Q 1 .rw 0,
  rowStaged AXIS.LIMITS_I_LIM 1 .rw 0,
  rowStaged AXIS.LIMITS_SPD_LIM 1 .rw 0,
  rowStaged AXIS.IQ_LIMITS_IQ_LIM 1 .rw 0,
  rowStaged AXIS.IQ_LIMITS_IQ_NEG_LIM 1 .rw 0,
  row AXIS.REF_IQ_REF 1 .rw 0,
  rowStaged AXIS.REF_ID_REF 1 .rw 0,
  rowStaged AXIS.MOTOR_R_PH 1 .rw 0,
  rowStaged AXIS.MOTOR_L_PH 1 .rw 0,
  rowStaged AXIS.KE 1 .rw 0,
  rowStaged AXIS.ELEC_OFS 1 .rw 0,
  rowIdle AXIS.ANG_NUM 1 .rw 0,
  rowIdle AXIS.ANG_DEN 1 .rw 1,
  rowIdle AXIS.START_I_I_ALIGN 1 .rw 1000,
  rowIdle AXIS.START_I_I_RAMP 1 .rw 1500,
  rowIdle AXIS.START_T_T_ALIGN 1 .rw 200,
  rowIdle AXIS.START_T_HO_TIMEOUT 1 .rw 2000,
  rowIdle AXIS.RAMP_RAMP_ACC 1 .rw 6000,
  rowIdle AXIS.RAMP_HANDOVER 1 .rw 3000,
  rowIdle AXIS.CATCH_CATCH_MEAS 1 .rw 20,
  rowIdle AXIS.CATCH_CATCH_WAIT 1 .rw 60,
  rowIdle AXIS.CATCH_STILL 1 .rw 150,
  rowStaged AXIS.GOV_WD 1 .rw 1000,
  row AXIS.I_MEAS_ID_MEAS 1 .ro 0,
  row AXIS.I_MEAS_IQ_MEAS 1 .ro 0,
  row AXIS.V_OUT_VD 1 .ro 0,
  row AXIS.V_OUT_VQ 1 .ro 0,
  row AXIS.SPEED_EST 1 .ro 0,
  row AXIS.ANGLE_THETA 1 .ro 0,
  row AXIS.ANGLE_ISHUNT_OFS 1 .ro 0,
  row AXIS.SHIFT_CNT 1 .ro 0,
  row AXIS.CARRY_CNT 1 .ro 0,
  row AXIS.SKIP_CNT 1 .ro 0,
  row AXIS.STARTS_START_CNT 1 .ro 0,
  row AXIS.STARTS_START_FAIL 1 .ro 0]

/-- The register table of the GATE page. -/
def rowsGATE : List FieldRow := [
  rowStaged GATE.GD_CTRL_TRIP_REPEAT 1 .rw 3,
  row GATE.GD_STS_VGD_OK 1 .ro 0,
  row GATE.GD_STS_VGD_OV 1 .ro 0,
  row GATE.GD_STS_BANK_OFF 1 .ro 1,
  row GATE.GD_STS_CFG_REFUSED 1 .w1c 0,
  rowIdle GATE.DEAD_DEAD_NS 1 .rw 200,
  rowStaged GATE.BLANK_BLANK_NS 1 .rw 300,
  rowStaged GATE.DIDT_NORM 1 .rw 100,
  rowStaged GATE.DIDT_GROSS 1 .rw 0,
  rowStaged GATE.REFRESH_REFRESH_MIN 1 .rw 400,
  row GATE.VGD_MEAS 1 .ro 0,
  row GATE.BOOT_OK 1 .ro 0,
  row GATE.LEG_TRIPPED 1 .w1c 0,
  row GATE.BRIDGE_LATCH 1 .ro 0,
  row GATE.BRIDGE_CLR 1 .wo 0,
  row GATE.TRIP_CNT 1 .ro 0,
  row GATE.BRIDGE_CNT 1 .ro 0,
  row GATE.UVLO_CNT 1 .ro 0,
  row GATE.REFRESH_MISS 1 .ro 0,
  row GATE.LAST_TRIP_LEG 1 .ro 0,
  row GATE.LAST_TRIP_SIDE 1 .ro 0,
  row GATE.LAST_TRIP_GROSS 1 .ro 0,
  row GATE.LAST_TRIP_BLANKED 1 .ro 0,
  row GATE.LAST_TRIP_BRIDGE 1 .ro 0]

/-- The register table of the MOTION page. -/
def rowsMOTION : List FieldRow := [
  row MOTION.MO_STS_GRP_MOVING 1 .ro 0,
  row MOTION.MO_STS_RDV_LOCKED 1 .ro 0,
  row MOTION.MO_STS_RDV_ACTIVE 1 .ro 0,
  row MOTION.GRP_CFG_MEMBERS 4 .rw 0,
  row MOTION.GRP_CFG_EN 4 .rw 0,
  row MOTION.GRP_GO 4 .w1s 0,
  row MOTION.GRP_STS_LEAD 4 .ro 0,
  row MOTION.GRP_STS_MOVING 4 .ro 0,
  row MOTION.GRP_STS_REDIRECT 4 .ro 0,
  row MOTION.GRP_STS_REFUSED 4 .w1c 0,
  rowIdle MOTION.RDV_CTRL_AXIS 4 .rw 0,
  row MOTION.RDV_CTRL_GO 4 .w1s 0,
  row MOTION.RDV_CTRL_ABORT 4 .w1s 0,
  row MOTION.RDV_STS_STATE 4 .ro 0,
  row MOTION.RDV_STS_CORRECTED 4 .ro 0,
  row MOTION.RDV_STS_REFUSED 4 .w1c 0,
  rowIdle MOTION.GEAR_NUM 4 .rw 0,
  rowIdle MOTION.GEAR_DEN 4 .rw 1,
  rowIdle MOTION.B_MEET_LO 4 .rw 0,
  rowIdle MOTION.B_MEET_HI 4 .rw 0,
  rowIdle MOTION.MU_MEET 4 .rw 0,
  rowIdle MOTION.LE_DIST 4 .rw 0,
  rowIdle MOTION.RDV_SHEET_SHEET 4 .rw 0,
  rowIdle MOTION.RDV_SHEET_CP 4 .rw 0,
  rowIdle MOTION.RDV_MAX 4 .rw 2048,
  rowIdle MOTION.RDV_TOL 4 .rw 8,
  rowIdle MOTION.LOCK_LEAD 4 .rw 24189,
  rowIdle MOTION.REL_DIST 4 .rw 302362,
  row MOTION.LAST_CORR 4 .ro 0]

/-- The register table of the STEP page. -/
def rowsSTEP : List FieldRow := [
  row STEP.STEP_CTRL_EN 1 .rw 0,
  row STEP.STEP_CTRL_MODE 1 .rw 0,
  row STEP.STEP_CTRL_STOP_NOW 1 .w1s 0,
  row STEP.STEP_STS_STATE 1 .ro 0,
  row STEP.STEP_STS_POS_VALID 1 .ro 0,
  row STEP.STEP_STS_RES 1 .ro 0,
  row STEP.STEP_STS_MBUS_LOW 1 .ro 0,
  row STEP.STEP_STS_IN_GROUP 1 .ro 0,
  row STEP.STEP_STS_CFG_REFUSED 1 .w1c 0,
  row STEP.STEP_STS_LAST_CAUSE 1 .ro 0,
  rowIdle STEP.STEP_CFG_DIR_INV 1 .rw 0,
  row STEP.STEP_CFG_JAM_STOP 1 .rw 1,
  row STEP.TARGET 1 .rw 0,
  row STEP.V_TGT 1 .rw 0,
  rowStaged STEP.V_MAX 1 .rw 1000,
  rowStaged STEP.A_MAX 1 .rw 20000,
  rowStaged STEP.J_MAX 1 .rw 1000000,
  rowStaged STEP.CURRENT_I_RUN 1 .rw 1000,
  rowStaged STEP.CURRENT_I_HOLD 1 .rw 500,
  rowStaged STEP.I_TRIP 1 .rw 6500,
  rowStaged STEP.HOLD_DELAY 1 .rw 200,
  rowIdle STEP.CHOP_PER 1 .rw 25000,
  rowStaged STEP.KP 1 .rw 0,
  rowStaged STEP.KI 1 .rw 0,
  row STEP.POS 1 .ro 0,
  row STEP.POS_SET 1 .wo 0,
  row STEP.VEL 1 .ro 0,
  row STEP.ACC 1 .ro 0,
  row STEP.I_MEAS_IA 1 .ro 0,
  row STEP.I_MEAS_IB 1 .ro 0,
  row STEP.HALT_CNT 1 .ro 0,
  row STEP.RES_CHG 1 .ro 0,
  row STEP.FAULT_CNT 1 .ro 0]

/-- The register table of the GOV page. -/
def rowsGOV : List FieldRow := [
  row GOV.GV_CTRL_STAT_CLR 1 .w1s 0,
  row GOV.GV_STS_ENGINE_FAULT 1 .ro 0,
  row GOV.GV_STS_COMMIT_WAIT 1 .ro 0,
  row GOV.LOAD_STATIC 1 .ro 0,
  row GOV.LOAD_PEAK 1 .ro 0,
  row GOV.QWAIT_MAX 1 .ro 0,
  row GOV.MISS_CNT 1 .ro 0,
  row GOV.FAULTED 1 .ro 0,
  row GOV.LAST_REJECT_SLOT 1 .ro 0,
  row GOV.LAST_REJECT_CHECK 1 .ro 0,
  row GOV.LAST_REJECT_INDEX 1 .ro 0,
  row GOV.REFUSED 1 .ro 0,
  row GOV.REG_CHG 1 .ro 0,
  row GOV.SL_CFG_EN 24 .rw 0,
  rowStaged GOV.SL_CFG_ORDER 24 .rw 0,
  rowStaged GOV.SL_CFG_INT_EN 24 .rw 0,
  rowStaged GOV.SL_CFG_INSRC 24 .rw 0,
  rowStaged GOV.SL_CFG_IN_IDX 24 .rw 0,
  rowStaged GOV.SL_CFG_TRIG 24 .rw 0,
  rowStaged GOV.SL_CFG_TRIG_IDX 24 .rw 0,
  rowStaged GOV.SL_LINK_TGT 24 .rw 0,
  rowStaged GOV.SL_LINK_TGT_IDX 24 .rw 0,
  rowStaged GOV.SL_LINK_REF_SLOT 24 .rw 127,
  rowStaged GOV.SL_LINK_REF_ADD 24 .rw 0,
  row GOV.SL_REF 24 .rw 0,
  rowStaged GOV.SL_TIME_TRIG_DELAY 24 .rw 0,
  rowStaged GOV.SL_TIME_DIV 24 .rw 0,
  rowStaged GOV.SL_DL_DEADLINE 24 .rw 120,
  row GOV.SL_STS_REGION 24 .ro 0,
  row GOV.SL_STS_ACTIVE_BANK 24 .ro 0,
  row GOV.SL_STS_SWITCH 24 .w1s 0,
  row GOV.SL_STS_SW_PEND 24 .ro 0,
  row GOV.SL_STS_BUSY 24 .w1c 0,
  row GOV.SL_STS_MISSED 24 .w1c 0,
  row GOV.SL_STS_SAT 24 .ro 0,
  row GOV.SL_STS_FAULTED 24 .ro 0,
  row GOV.SL_STS_RUNNING 24 .ro 0,
  row GOV.SL_X 24 .ro 0,
  row GOV.SL_OUT 24 .ro 0]

/-- The register table of the HVIO page. -/
def rowsHVIO : List FieldRow := [
  row HVIO.HV_STS_RUNNING 1 .ro 0,
  row HVIO.HV_STS_TRIPPED 1 .ro 0,
  row HVIO.HV_STS_CFG_REFUSED 1 .w1c 0,
  row HVIO.HV_CLR 1 .wo 0,
  row HVIO.PT_BANK_ACTIVE 1 .ro 0,
  row HVIO.PT_BANK_SWITCH 1 .w1s 0,
  row HVIO.PT_BANK_SWITCH_PEND 1 .ro 0,
  row HVIO.PT_BANK_REJECT 1 .ro 0,
  row HVIO.HV_RAMP 1 .rw 10,
  row HVIO.HV_CFG_EN 14 .rw 0,
  rowStaged HVIO.HV_CFG_SRC 14 .rw 0,
  rowIdle HVIO.HV_PER 14 .rw 1000,
  row HVIO.HV_DUTY_DUTY_MAN 14 .rw 0,
  rowStaged HVIO.HV_DUTY_DUTY_MAX 14 .rw 52428,
  row HVIO.HV_TRIP_V_TRIP 14 .rwp 0,
  row HVIO.HV_TRIP_I_TRIP 14 .rwp 0,
  row HVIO.HV_SENSE_VS 14 .ro 0,
  row HVIO.HV_SENSE_IS 14 .ro 0,
  row HVIO.HV_OUT 14 .ro 0,
  row HVIO.HV_CNT 14 .ro 0]

/-- The register table of the LAMP page. -/
def rowsLAMP : List FieldRow := [
  row LAMP.LP_STS_ZC_OK 1 .ro 0,
  row LAMP.LP_STS_INRUSH_CH 1 .ro 0,
  row LAMP.LP_STS_INRUSH_ACT 1 .ro 0,
  row LAMP.LP_STS_CFG_REFUSED 1 .w1c 0,
  row LAMP.MAINS_HALF 1 .ro 0,
  row LAMP.BUDGET 1 .rw 0,
  row LAMP.BUDGET_USE 1 .ro 0,
  row LAMP.LOCK_CLR 1 .wo 0,
  row LAMP.FUS_CLR 1 .wo 0,
  row LAMP.DEFER_CNT 1 .ro 0,
  row LAMP.LC_CFG_EN 8 .rw 0,
  rowIdle LAMP.LC_CFG_SRC 8 .rw 0,
  rowIdle LAMP.LC_CFG_GUARD0 8 .rw 0,
  rowIdle LAMP.LC_CFG_G0_EN 8 .rw 0,
  rowIdle LAMP.LC_CFG_GUARD1 8 .rw 0,
  rowIdle LAMP.LC_CFG_G1_EN 8 .rw 0,
  rowIdle LAMP.LC_CFG_SOFT_HC 8 .rw 20,
  rowIdle LAMP.LC_CFG_COLD_S 8 .rw 10,
  row LAMP.LC_DEM_DEM_MAN 8 .rw 0,
  row LAMP.LC_DEM_DEM 8 .ro 0,
  rowIdle LAMP.LC_CUR_I_NOM 8 .rw 0,
  rowIdle LAMP.LC_CUR_I_INR 8 .rw 0,
  rowIdle LAMP.LC_ENV_RUN_PK 8 .rw 0,
  rowIdle LAMP.LC_ENV_INR_PK 8 .rw 0,
  row LAMP.LC_MEAS_PEAK 8 .ro 0,
  row LAMP.LC_MEAS_RMS 8 .ro 0,
  row LAMP.LC_STS_STATE 8 .ro 0,
  row LAMP.LC_STS_DEFERRED 8 .ro 0,
  row LAMP.LC_CNT_STARTS 8 .ro 0,
  row LAMP.LC_CNT_TRIPS 8 .ro 0,
  rowIdle LAMP.TIN_MAP_TRUNK 16 .rw 0,
  rowIdle LAMP.TIN_MAP_NODE 16 .rw 0,
  rowIdle LAMP.TIN_MAP_VALUE 16 .rw 0,
  rowIdle LAMP.TIN_MAP_EN 16 .rw 0,
  row LAMP.TIN_VAL_VALUE 16 .ro 0,
  row LAMP.TIN_VAL_FAULT 16 .ro 0,
  row LAMP.TIN_LIM_CEIL 16 .rwp 0,
  row LAMP.TIN_LIM_RESTART 16 .rwp 0,
  row LAMP.TIN_RATE_RATE_MAX 16 .rwp 0,
  row LAMP.TIN_RATE_RATE 16 .ro 0]

/-- The register table of the LEAT page. -/
def rowsLEAT : List FieldRow := [
  row LEAT.LT_CTRL_EN 1 .rw 0,
  row LEAT.LT_STS_RUNNING 1 .ro 0,
  row LEAT.LT_STS_ACTIVE_NODES 1 .ro 0,
  rowStaged LEAT.LT_CFG_SILENCE_LIM 1 .rw 8,
  rowStaged LEAT.LT_CFG_RETRY_MAX 1 .rw 4,
  row LEAT.CYCLE 1 .ro 0,
  row LEAT.CRC_ERR 1 .ro 0,
  row LEAT.DUP_CNT 1 .ro 0,
  row LEAT.RETRY_CNT 1 .ro 0,
  row LEAT.VIOL_TX 1 .ro 0,
  row LEAT.VIOL_RX 1 .ro 0,
  row LEAT.LAST_VIOL_REASON 1 .ro 0,
  row LEAT.LAST_VIOL_NODE 1 .ro 0,
  row LEAT.LAST_VIOL_DIR 1 .ro 0,
  row LEAT.LAST_VIOL_SEQ 1 .ro 0,
  row LEAT.VER_MIN 1 .ro 1,
  row LEAT.VER_MAX 1 .ro 1,
  row LEAT.NODE_IDX 1 .rw 0,
  row LEAT.NODE_STS_STATE 1 .ro 0,
  row LEAT.NODE_STS_VERSION 1 .ro 0,
  row LEAT.NODE_STS_SEQ_RX 1 .ro 0,
  row LEAT.NODE_STS_SEQ_TX 1 .ro 0,
  row LEAT.NODE_ID_VENDOR 1 .ro 0,
  row LEAT.NODE_ID_MODEL 1 .ro 0,
  row LEAT.CMD_HDR_NODE 1 .rw 0,
  row LEAT.CMD_HDR_FTYPE 1 .rw 0,
  row LEAT.CMD_DATA_LO 1 .rw 0,
  row LEAT.CMD_DATA_HI 1 .rw 0,
  row LEAT.CMD_PUSH 1 .wo 0,
  row LEAT.CMDQ_FREE 1 .ro 32,
  row LEAT.RPT_HDR_NODE 1 .ro 0,
  row LEAT.RPT_HDR_FTYPE 1 .ro 0,
  row LEAT.RPT_HDR_SEQ 1 .ro 0,
  row LEAT.RPT_DATA_LO 1 .ro 0,
  row LEAT.RPT_DATA_HI 1 .ro 0,
  row LEAT.RPT_POP 1 .wo 0,
  row LEAT.RPT_LEVEL 1 .ro 0,
  rowStaged LEAT.NODE_EN 8 .rw 0,
  rowStaged LEAT.SLOT_TAB_ENTRY0 128 .rw 0,
  rowStaged LEAT.SLOT_TAB_ENTRY1 128 .rw 0]

/-- The register table of the SHEET page. -/
def rowsSHEET : List FieldRow := [
  row SHEET.SH_CTRL_EN 1 .rw 0,
  row SHEET.SH_CTRL_WEB_RUN 1 .rw 0,
  row SHEET.SH_CTRL_JAM_REQ 1 .w1s 0,
  row SHEET.SH_CTRL_JAM_CLR 1 .w1s 0,
  row SHEET.SH_CTRL_LAMP_OFF 1 .rw 1,
  row SHEET.SH_STS_JAMMED 1 .ro 0,
  row SHEET.SH_STS_IN_FLIGHT 1 .ro 0,
  row SHEET.JAM_INFO_CP 1 .ro 0,
  row SHEET.JAM_INFO_SLOT 1 .ro 0,
  row SHEET.JAM_INFO_CAUSE 1 .ro 0,
  row SHEET.JAM_TIME_LO 1 .ro 0,
  row SHEET.JAM_TIME_HI 1 .ro 0,
  row SHEET.REPORT_MAX 1 .rw 400,
  row SHEET.MARGIN 1 .rw 192,
  row SHEET.JAM_DECEL 1 .rw 4000,
  row SHEET.FREE_LO 1 .ro 4294967295,
  row SHEET.FREE_HI 1 .ro 4294967295,
  row SHEET.DONE_CNT 1 .ro 0,
  row SHEET.JAM_CNT 1 .ro 0,
  row SHEET.PURGE_CNT 1 .ro 0,
  row SHEET.SH_REF_LO 64 .rw 0,
  row SHEET.SH_REF_HI 64 .rw 0,
  row SHEET.SH_LEN 64 .rw 0,
  row SHEET.SH_ENTRY_DESC 64 .rw 0,
  row SHEET.SH_ENTRY_STATE 64 .rw 0,
  row SHEET.SH_ENTRY_CLASS 64 .rw 0,
  row SHEET.SH_ENTRY_PURGE 64 .rw 0,
  row SHEET.SH_ENTRY_NEXT_CP 64 .ro 0,
  row SHEET.CP_SRC_TRUNK 128 .rw 0,
  row SHEET.CP_SRC_NODE 128 .rw 0,
  row SHEET.CP_SRC_INPUT 128 .rw 0,
  row SHEET.CP_SRC_POL 128 .rw 0,
  row SHEET.CP_SRC_EN 128 .rw 0,
  row SHEET.CP_SRC_CLASS 128 .rw 0,
  row SHEET.CP_SRC_KIND 128 .rw 0,
  row SHEET.CP_SRC_TRAIL_EN 128 .rw 0,
  row SHEET.CP_SRC_IGNORE_UNEXP 128 .rw 0,
  row SHEET.CP_OFS 128 .rw 0,
  row SHEET.CP_WIN_EARLY 128 .rw 0,
  row SHEET.CP_WIN_LATE 128 .rw 0,
  row SHEET.CP_DEV 128 .ro 0]

/-- The register table of the THERMAL page. -/
def rowsTHERMAL : List FieldRow := [
  row THERMAL.TS_STS_WARN 1 .ro 0,
  row THERMAL.TS_STS_THROTTLE 1 .ro 0,
  row THERMAL.TS_STS_RATE 1 .ro 0,
  row THERMAL.TH_GRADE 1 .rw 0,
  row THERMAL.TH_CFG_TH_STEP 1 .rw 10,
  row THERMAL.TH_CFG_TH_CLEAR 1 .rw 60,
  row THERMAL.TH_CFG_TH_HYST 1 .rw 500,
  row THERMAL.BROKEN 1 .w1c 0,
  row THERMAL.UNCHECK 1 .ro 0,
  row THERMAL.TOL_TOL 1 .ro 600,
  row THERMAL.TOL_SUBST_MARGIN 1 .ro 400,
  row THERMAL.MAX_EFF_VALUE 1 .ro 0,
  row THERMAL.MAX_EFF_SENSOR 1 .ro 0,
  row THERMAL.COMP_STS_OSC_OK 1 .ro 1,
  row THERMAL.COMP_STS_REF_OK 1 .ro 1,
  row THERMAL.SD_STS_STATE 1 .ro 0,
  row THERMAL.SD_STS_RESTARTS 1 .ro 0,
  row THERMAL.SD_STS_LAST_ZONE 1 .ro 0,
  row THERMAL.SD_STS_LAST_SENSOR 1 .ro 0,
  row THERMAL.SD_STS_LAST_BOARD 1 .ro 0,
  row THERMAL.SD_CNT 1 .ro 0,
  row THERMAL.SUP_MODEL 3 .ro 0,
  row THERMAL.SNS_RAW 32 .ro 0,
  row THERMAL.SNS_EFF 32 .ro 0,
  row THERMAL.ZLIM0_WARN 8 .rwp 0,
  row THERMAL.ZLIM0_THROTTLE 8 .rwp 0,
  row THERMAL.ZLIM1_SHUTDOWN 8 .rwp 0,
  row THERMAL.ZLIM1_RESTART 8 .rwp 0,
  row THERMAL.ZRATE_RATE_MAX 8 .rwp 0,
  row THERMAL.ZRATE_RATE 8 .ro 0,
  row THERMAL.ZSTS_ZONE_VAL 8 .ro 0,
  row THERMAL.ZSTS_WARN 8 .ro 0,
  row THERMAL.ZSTS_THROTTLE 8 .ro 0,
  row THERMAL.ZSTS_RATE_OVER 8 .ro 0]

/-- The register table of the SLUICE page. -/
def rowsSLUICE : List FieldRow := [
  row SLUICE.SQ_CTRL_STOP_REQ 1 .w1s 0,
  row SLUICE.SQ_STS_STATE 1 .ro 0,
  row SLUICE.SQ_STS_PC 1 .ro 0,
  row SLUICE.SQ_STS_RAIL 1 .ro 0,
  row SLUICE.SQ_STS_CAUSE 1 .ro 0,
  row SLUICE.SQ_STS_PROG_SRC 1 .ro 0,
  row SLUICE.SQ_STS_HELD 1 .ro 0,
  row SLUICE.PROG_HDR_START_PC 1 .rwp 0,
  row SLUICE.PROG_HDR_STOP_PC 1 .rwp 0,
  row SLUICE.PROG_IDX 1 .rw 0,
  row SLUICE.PROG_LO 1 .rwp 0,
  row SLUICE.PROG_HI 1 .rwp 0,
  row SLUICE.PROG_STORE 1 .rwp 0,
  row SLUICE.PROG_RESULT_CHECK 1 .ro 0,
  row SLUICE.PROG_RESULT_STEP 1 .ro 0,
  row SLUICE.PROG_RESULT_BUSY 1 .ro 0,
  row SLUICE.PROG_GEN 1 .ro 0,
  row SLUICE.STOP_LEN 1 .ro 0,
  row SLUICE.LOG_HEAD 1 .ro 0,
  row SLUICE.LOG_SEQ 1 .ro 0,
  row SLUICE.LOG_RD_IDX 1 .rw 2048,
  row SLUICE.LOG_RD_STS_CRC_OK 1 .ro 0,
  row SLUICE.LOG_DROP 1 .ro 0,
  row SLUICE.LOG_QFREE 1 .ro 64,
  row SLUICE.LOG_RD 8 .ro 0,
  row SLUICE.LOG_IN 6 .rw 0,
  row SLUICE.LOG_PUSH 1 .wo 0]

/-- The register table of the SUPPLY page. -/
def rowsSUPPLY : List FieldRow := [
  row SUPPLY.PH_STS_PH_OK 1 .ro 0,
  row SUPPLY.PH_STS_PH_ISOL 1 .ro 0,
  row SUPPLY.PH_STS_PFW 1 .ro 0,
  row SUPPLY.MAINS_VRMS 1 .ro 0,
  row SUPPLY.MAINS_FREQ 1 .ro 0,
  row SUPPLY.MBUS_V_IN 1 .ro 0,
  row SUPPLY.MBUS_V_CAP 1 .ro 0,
  row SUPPLY.MBUS_STS_PRECHARGE_ON 1 .ro 0,
  row SUPPLY.MBUS_STS_CONTACTOR 1 .ro 0,
  row SUPPLY.MBUS_STS_DISCHARGE_ON 1 .ro 0,
  row SUPPLY.MBUS_STS_DISCHARGED 1 .ro 0,
  row SUPPLY.MBUS_STS_UV 1 .ro 0,
  row SUPPLY.MBUS_STS_OV 1 .ro 0,
  row SUPPLY.RAIL_PG_LO 1 .ro 0,
  row SUPPLY.RAIL_PG_HI 1 .ro 0,
  row SUPPLY.RAIL_EN_LO 1 .ro 1,
  row SUPPLY.RAIL_EN_HI 1 .ro 0,
  row SUPPLY.RAIL_CMD_RAIL 1 .rw 0,
  row SUPPLY.RAIL_CMD_ON 1 .rw 0,
  row SUPPLY.RAIL_CMD_GO 1 .w1s 0,
  row SUPPLY.RAIL_CMD_STS_BUSY 1 .ro 0,
  row SUPPLY.RAIL_CMD_STS_RESULT 1 .ro 0,
  row SUPPLY.PFW_CNT 1 .ro 0,
  row SUPPLY.VHEAD_LIM_PG 8 .rw 0,
  row SUPPLY.VHEAD_LIM_OFF 8 .rw 0,
  row SUPPLY.RAIL_V 35 .ro 0]

/-- The register table of the IDENT page. -/
def rowsIDENT : List FieldRow := [
  row IDENT.MOD_STS_STATE 1 .ro 0,
  row IDENT.MOD_STS_SLOT 1 .ro 0,
  row IDENT.MOD_STS_TEST 1 .ro 0,
  row IDENT.RESET_CAUSE_CAUSE 1 .ro 0,
  row IDENT.RESET_CAUSE_COUNT 1 .ro 0,
  row IDENT.BOOT_MS 1 .ro 0,
  row IDENT.FW_VER 1 .ro 0,
  row IDENT.IMAGE_STS_A_VALID 1 .ro 0,
  row IDENT.IMAGE_STS_B_VALID 1 .ro 0,
  row IDENT.IMAGE_STS_FALLBACK 1 .ro 0,
  row IDENT.IMAGE_STS_A_FAILS 1 .ro 0,
  row IDENT.IMAGE_STS_B_FAILS 1 .ro 0,
  row IDENT.SERIAL_LO 1 .ro 0,
  row IDENT.SERIAL_HI 1 .ro 0,
  row IDENT.HW_REV_BOARD 1 .ro 0,
  row IDENT.HW_REV_DIE 1 .ro 0]

/-- The register table of the HOST page. -/
def rowsHOST : List FieldRow := [
  row HOST.LINK_STS_SPEED 1 .ro 0,
  row HOST.LINK_STS_WIDTH 1 .ro 0,
  row HOST.LINK_STS_FLIT 1 .ro 0,
  row HOST.LINK_STS_UP 1 .ro 0,
  row HOST.CTX_SUM_IN_RESET 1 .ro 0,
  row HOST.CTX_SUM_ENABLED 1 .ro 0,
  row HOST.REFUSED_WR 1 .ro 0,
  row HOST.MSIX_DROP 1 .ro 0,
  row HOST.PCIE_ERR 1 .ro 0,
  row HOST.HOST_LOCK_LOCK 1 .w1s 0,
  row HOST.VEC_COUNT 16 .rwl 128,
  row HOST.COM_BASE 16 .rwl 0,
  row HOST.COM_LIMIT 16 .rwl 0,
  row HOST.VIEW_BASE 16 .rw 0,
  row HOST.CTX_STS_ENABLED 16 .ro 0,
  row HOST.CTX_STS_IN_RESET 16 .ro 0,
  row HOST.CTX_STS_BUS_MASTER 16 .ro 0,
  row HOST.CTX_STS_RESETS 16 .ro 0]

/-- The register table of the DMA page. -/
def rowsDMA : List FieldRow := [
  row DMA.DMA_STS_BUSY 1 .ro 0,
  row DMA.DONE_SUM 1 .w1c 0,
  row DMA.REFUSED_CNT 1 .ro 0,
  row DMA.SRC_LO 16 .rw 0,
  row DMA.SRC_HI 16 .rw 0,
  row DMA.DST_LO 16 .rw 0,
  row DMA.DST_HI 16 .rw 0,
  row DMA.COUNT 16 .rw 0,
  row DMA.CTRL_GO 16 .w1s 0,
  row DMA.CTRL_BARRIER 16 .rw 0,
  row DMA.CTRL_ABORT 16 .w1s 0,
  row DMA.CTRL_CTX 16 .rw 0,
  row DMA.CTRL_PRIO 16 .rw 0,
  row DMA.CTRL_SRC_MPA 16 .rw 0,
  row DMA.CTRL_DST_MPA 16 .rw 0,
  row DMA.STATUS_BUSY 16 .ro 0,
  row DMA.STATUS_DONE 16 .w1c 0,
  row DMA.STATUS_REFUSED 16 .w1c 0,
  row DMA.STATUS_ERR 16 .ro 0,
  row DMA.REMAIN 16 .ro 0,
  row DMA.CH_OWNER 16 .rwl 16,
  row DMA.CH_IRQ_VECTOR 16 .rw 0,
  row DMA.CH_IRQ_EN 16 .rw 0]

/-- The register table of the MAILBOX page. -/
def rowsMAILBOX : List FieldRow := [
  row MAILBOX.MB_CTRL_LOCK 1 .w1s 0,
  row MAILBOX.MB_FULL 1 .ro 0,
  row MAILBOX.MB_TMO 1 .rw 100,
  row MAILBOX.REFUSED 1 .ro 0,
  row MAILBOX.VIOL_CNT 1 .ro 0,
  row MAILBOX.LAST_VIOL_MAILBOX 1 .ro 0,
  row MAILBOX.LAST_VIOL_STATUS 1 .ro 0,
  row MAILBOX.LAST_VIOL_MASTER 1 .ro 0,
  row MAILBOX.MB_DATA 32 .rw 0,
  row MAILBOX.MB_BIND_SENDER 32 .rwl 0,
  row MAILBOX.MB_BIND_RECEIVER 32 .rwl 0,
  row MAILBOX.MB_CFG_EN 32 .rwl 1,
  row MAILBOX.MB_CFG_FORM 32 .rwl 0,
  row MAILBOX.MB_CFG_FULL 32 .ro 0,
  row MAILBOX.MB_CFG_EXPIRED 32 .w1c 0,
  row MAILBOX.MB_CFG_VERSION 32 .ro 0,
  row MAILBOX.MB_IRQ_VECTOR 32 .rw 0,
  row MAILBOX.MB_IRQ_EN 32 .rw 0]

/-- The register table of the KERNEL page. -/
def rowsKERNEL : List FieldRow := [
  row KERNEL.KN_STS_WORKING 1 .ro 7,
  row KERNEL.KN_STS_FAILED 1 .ro 0,
  row KERNEL.KN_STS_STANDBY 1 .ro 3,
  row KERNEL.KN_STS_STANDBY_OK 1 .ro 1,
  row KERNEL.MIGRATIONS 1 .ro 0,
  row KERNEL.LAST_MIGRATE 1 .ro 0,
  row KERNEL.CKPT_MAX 1 .ro 0,
  row KERNEL.KWD_TMO 1 .rw 10,
  row KERNEL.SVC_ERR 1 .ro 0,
  row KERNEL.DEFER_PEND 1 .ro 0]

/-- The register table of the PRESENCE page. -/
def rowsPRESENCE : List FieldRow := [
  row PRESENCE.PR_STS_OPEN 1 .ro 0,
  row PRESENCE.PR_STS_BUTTON 1 .ro 0,
  row PRESENCE.PR_STS_SEAL 1 .ro 0,
  row PRESENCE.PR_STS_SEAL_AT_MAINS 1 .ro 0,
  row PRESENCE.PR_REMAIN 1 .ro 0,
  row PRESENCE.PR_CTRL_CLOSE 1 .w1s 0,
  row PRESENCE.PR_OPS 1 .ro 0,
  row PRESENCE.PR_REFUSED 1 .ro 0,
  row PRESENCE.LAST_OP_MASTER 1 .ro 0,
  row PRESENCE.LAST_OP_KIND 1 .ro 0]

/-- The register table of the PEER page. -/
def rowsPEER : List FieldRow := [
  row PEER.PR_CTRL_EN 1 .rw 0,
  row PEER.PR_CTRL_LANE_EN 1 .rw 3,
  row PEER.PR_CTRL_RETRAIN 1 .w1s 0,
  row PEER.PR_STS_LANE_ACTIVE 1 .ro 0,
  row PEER.PR_STS_LINK_UP 1 .ro 0,
  row PEER.PR_STS_QUAR 1 .ro 0,
  row PEER.PR_STS_FAR_MODULE 1 .ro 0,
  row PEER.PR_VER_MIN 1 .ro 1,
  row PEER.PR_VER_MAX 1 .ro 1,
  row PEER.PR_VER_AGREED 1 .ro 0,
  rowStaged PEER.ASYM 1 .rw 0,
  row PEER.OFFSET 1 .ro 0,
  row PEER.DELAY 1 .ro 0,
  row PEER.HB_MISS 1 .ro 0,
  row PEER.RETRY_CNT 1 .ro 0,
  row PEER.VIOL_TX 1 .ro 0,
  row PEER.VIOL_RX 1 .ro 0,
  row PEER.LAST_VIOL_REASON 1 .ro 0,
  row PEER.LAST_VIOL_CH 1 .ro 0,
  row PEER.LAST_VIOL_DIR 1 .ro 0,
  row PEER.LAST_VIOL_SEQ 1 .ro 0,
  row PEER.CHAIN_CFG_ROLE 1 .rwl 0,
  row PEER.CHAIN_CFG_MODULE 1 .rwl 0,
  row PEER.CHAIN_CFG_CHAIN_EN 1 .rw 0,
  row PEER.CHAIN_STS_MEMBERS 1 .ro 0,
  row PEER.CHAIN_STS_EXCLUDED 1 .ro 0,
  row PEER.DIGEST_LO 1 .ro 0,
  row PEER.DIGEST_HI 1 .ro 0,
  row PEER.TIME_TOL 1 .rw 2000,
  row PEER.TIME_FAIL 1 .rw 100000,
  row PEER.REFUSED 1 .ro 0,
  row PEER.MEM_WIN_BASE 1 .rw 0,
  row PEER.MEM_WIN_LIMIT 1 .rw 0,
  rowStaged PEER.CMAP_STATIONS 16 .rw 0,
  rowStaged PEER.CMAP_PRESENT 16 .rw 0]

/-- The register table of the FACE page: the Faceplate (R476, R458). -/
def rowsFACE : List FieldRow := [
  row FACE.FLT_INJ_CHECKER 1 .rw 0,
  row FACE.FLT_INJ_TARGET 1 .rw 0,
  row FACE.FLT_INJ_ARM 1 .w1s 0,
  row FACE.FLT_INJ_PENDING 1 .ro 0,
  row FACE.FLT_INJ_FIRED 1 .w1c 0,
  row FACE.FLT_INJ_REFUSED 1 .w1c 0,
  row FACE.PAGE_ID_CLASS 1 .ro 0,
  row FACE.PAGE_ID_INSTANCE 1 .ro 0,
  row FACE.PAGE_VER_MAJOR 1 .ro 1,
  row FACE.PAGE_VER_MINOR 1 .ro 0,
  row FACE.PAGE_CAPS_NSRC 1 .ro 0,
  row FACE.PAGE_CAPS_STAGED 1 .ro 0,
  row FACE.PAGE_CAPS_LOCKABLE 1 .ro 0,
  row FACE.PAGE_CAPS_AON 1 .ro 0,
  row FACE.PAGE_CAPS_INJ 1 .ro 0,
  row FACE.PAGE_CAPS_BANKED 1 .ro 0,
  row FACE.PAGE_CTRL_EN 1 .rw 1,
  row FACE.PAGE_CTRL_FREEZE 1 .rw 0,
  row FACE.PAGE_CTRL_BLOCK_RESET 1 .w1s 0,
  row FACE.PAGE_CTRL_COMMIT 1 .w1s 0,
  row FACE.PAGE_CTRL_LOCK 1 .w1s 0,
  row FACE.PAGE_STS_RUNNING 1 .ro 1,
  row FACE.PAGE_STS_FROZEN 1 .ro 0,
  row FACE.PAGE_STS_IN_RESET 1 .ro 0,
  row FACE.PAGE_STS_COMMIT_PENDING 1 .ro 0,
  row FACE.PAGE_STS_STATE 1 .ro 0,
  row FACE.PAGE_STS_BUSY 1 .w1c 0,
  row FACE.PAGE_STS_HUNG 1 .ro 0,
  row FACE.EVT_RAW 1 .ro 0,
  row FACE.EVT_PEND 1 .w1c 0,
  row FACE.EVT_MASK 1 .rw 0,
  row FACE.EVT_VECTOR_VECTOR 1 .rw 0,
  row FACE.EVT_VECTOR_CONTEXT 1 .rw 0,
  row FACE.EVT_VECTOR_KERNEL 1 .rw 1,
  row FACE.FLT_STS 1 .w1c 0,
  row FACE.FLT_REACT_LO 1 .rw 0,
  row FACE.FLT_REACT_HI 1 .rw 0,
  row FACE.FLT_SCOPE 1 .rw 0,
  row FACE.FE_ADDR_LO 1 .ro 0,
  row FACE.FE_ADDR_HI 1 .ro 0,
  row FACE.FE_INFO_MASTER 1 .ro 0,
  row FACE.FE_INFO_ACCESS 1 .ro 0,
  row FACE.FE_INFO_SOURCE 1 .ro 0,
  row FACE.FE_INFO_INJECTED 1 .ro 0,
  row FACE.FE_INFO_VALID 1 .w1c 0,
  row FACE.FE_TIME_LO 1 .ro 0,
  row FACE.FE_TIME_HI 1 .ro 0,
  row FACE.FE_COUNT 1 .ro 0,
  row FACE.TIMEOUT_CFG_WD_US 1 .rw 1000]

/-- The register table of the FANTAIL page. -/
def rowsFANTAIL : List FieldRow := [
  row FANTAIL.FT_CTRL_EN 1 .rw 0,
  row FANTAIL.FT_CTRL_RESUME 1 .w1s 0,
  row FANTAIL.FT_STS_TOGGLING 1 .ro 0,
  row FANTAIL.FT_STS_LEVEL 1 .ro 0,
  row FANTAIL.FT_STS_CAUSE 1 .ro 5,
  row FANTAIL.FT_FREQ 1 .rw 1000,
  row FANTAIL.FT_STOP_SRC_PAGE 1 .ro 0,
  row FANTAIL.FT_STOP_SRC_SOURCE 1 .ro 0,
  row FANTAIL.FT_STOPS 1 .ro 0,
  row FANTAIL.RST_PAGE_PAGE 1 .ro 0,
  row FANTAIL.RST_PAGE_SOURCE 1 .ro 0,
  row FANTAIL.RST_PAGE_VALID 1 .ro 0,
  row FANTAIL.RST_ADDR_LO 1 .ro 0,
  row FANTAIL.RST_ADDR_HI 1 .ro 0,
  row FANTAIL.RST_INFO 1 .ro 0,
  row FANTAIL.RST_TIME_LO 1 .ro 0,
  row FANTAIL.RST_TIME_HI 1 .ro 0,
  row FANTAIL.LEDGER_IDX 1 .rw 0,
  row FANTAIL.LEDGER_READ 1 .ro 0,
  row FANTAIL.LEDGER_WRITE 1 .ro 0,
  row FANTAIL.POOL_FREE_READ 1 .ro 2048,
  row FANTAIL.POOL_FREE_WRITE 1 .ro 2048,
  row FANTAIL.RECLAIMED 1 .ro 0,
  row FANTAIL.LEASE_EXP 1 .ro 0]

end Sys2Proof.Machine
end

