-- ==== Sys2Proof/Machine/Pages.lean ====
section
/-! DEFINITION. The pages of W0: their bases, classes, sources, register tables, capabilities and reset reactions (R474, R475, R476, R487). -/

namespace Sys2Proof.Machine

/-- The block classes of R487. FEEDBACK2 stands by itself: it has channels 16–19 and the divided outputs (R25, R240). -/
inductive Cls where
  | ident | presence | clock | time | fantail | thermalA | thermalB | sluice | supply | mailbox | host | kernel
  | peerA | peerB | headrace | codecEnc | dma | leat | feedback | feedback2 | sheet | lamp | hvio | gov | axis | gate | motion | step
  | pipe | decode | warp | screen | emit | swath | scanclk | ivina
deriving DecidableEq, Repr

/-! W0 page bases (R487, R474). -/

def pIDENT : Nat := 0x00000
def pPRESENCE : Nat := 0x01000
def pCLOCK : Nat := 0x02000
def pTIME : Nat := 0x03000
def pFANTAIL : Nat := 0x04000
def pTHERMALA : Nat := 0x05000
def pTHERMALB : Nat := 0x06000
def pSLUICE : Nat := 0x07000
def pSUPPLY : Nat := 0x08000
def pMAILBOX : Nat := 0x09000
def pHOST : Nat := 0x0A000
def pKERNEL : Nat := 0x0B000
def pPEERA : Nat := 0x0C000
def pPEERB : Nat := 0x0D000
def pHEADRACE : Nat := 0x0E000
def pCODEC : Nat := 0x0F000
def pSHEET : Nat := 0x1B000
def pLAMP : Nat := 0x1C000
def pMOTION : Nat := 0x3E000
/-- DMA page i, 0–3. -/
def pDMA (i : Nat) : Nat := 0x10000 + 0x1000 * i
/-- LEAT page t, 0–3. -/
def pLEAT (t : Nat) : Nat := 0x14000 + 0x1000 * t
/-- FEEDBACK page i, 0–2. -/
def pFEEDBACK (i : Nat) : Nat := 0x18000 + 0x1000 * i
/-- HVIO page i, 0–2. -/
def pHVIO (i : Nat) : Nat := 0x1D000 + 0x1000 * i
/-- GOV page g, 0–3. -/
def pGOV (g : Nat) : Nat := 0x20000 + 0x1000 * g
/-- AXIS page n, 0–19. -/
def pAXIS (n : Nat) : Nat := 0x24000 + 0x1000 * n
/-- GATE page x, 0–5. -/
def pGATE (x : Nat) : Nat := 0x38000 + 0x1000 * x
/-- STEP page m, 0–15. -/
def pSTEP (m : Nat) : Nat := 0x40000 + 0x1000 * m
/-- PEER page p: 0 PEER_A, 1 PEER_B. -/
def pPEER (p : Nat) : Nat := 0x0C000 + 0x1000 * p
/-- Station page k of station s, k in the order PIPE, DECODE, WARP, SCREEN, EMIT, SWATH, SCANCLK, IVINA (R474). -/
def pST (s k : Nat) : Nat := 0x80000 + 0x8000 * s + 0x1000 * k
def pPIPE (s : Nat) : Nat := pST s 0
def pDECODE (s : Nat) : Nat := pST s 1
def pWARP (s : Nat) : Nat := pST s 2
def pSCREEN (s : Nat) : Nat := pST s 3
def pEMIT (s : Nat) : Nat := pST s 4
def pSWATH (s : Nat) : Nat := pST s 5
def pSCANCLK (s : Nat) : Nat := pST s 6
def pIVINA (s : Nat) : Nat := pST s 7

/-- The page base of a W0 address: pages are 4 KiB (R474). -/
def pageBase (a : Nat) : Nat := a / 4096 * 4096

/-- The offset of a W0 address in its page. -/
def pageOff (a : Nat) : Nat := a % 4096

/-- The class of station page k (R474). -/
def stationCls (k : Nat) : Cls :=
  match k with
  | 0 => .pipe | 1 => .decode | 2 => .warp | 3 => .screen | 4 => .emit | 5 => .swath | 6 => .scanclk | _ => .ivina

/-- The class of the single pages 0x0–0xF (R487). -/
def singleCls (k : Nat) : Cls :=
  match k with
  | 0 => .ident | 1 => .presence | 2 => .clock | 3 => .time | 4 => .fantail | 5 => .thermalA | 6 => .thermalB
  | 7 => .sluice | 8 => .supply | 9 => .mailbox | 10 => .host | 11 => .kernel | 12 => .peerA | 13 => .peerB
  | 14 => .headrace | _ => .codecEnc

/-- The class of the page at a W0 page number (base div 0x1000), none where R475 says no page lies. -/
def clsOfNum (k : Nat) : Option Cls :=
  if k < 0x10 then some (singleCls k)
  else if k < 0x14 then some .dma
  else if k < 0x18 then some .leat
  else if k < 0x1A then some .feedback
  else if k = 0x1A then some .feedback2
  else if k = 0x1B then some .sheet
  else if k = 0x1C then some .lamp
  else if k < 0x20 then some .hvio
  else if k < 0x24 then some .gov
  else if k < 0x38 then some .axis
  else if k < 0x3E then some .gate
  else if k = 0x3E then some .motion
  else if k = 0x3F then none
  else if k < 0x50 then some .step
  else if k < 0x80 then none
  else if k < 0xC0 then some (stationCls ((k - 0x80) % 8))
  else none

/-- The class of the page at a base. -/
def clsOf (p : Nat) : Option Cls := clsOfNum (p / 4096)

/-- The instance number of the page at a base (R476): the station for station pages, the page's index otherwise. -/
def pageInstance (p : Nat) : Nat :=
  let k := p / 4096
  if k < 0x10 then (if k = 6 ∨ k = 13 then 1 else 0)
  else if k < 0x14 then k - 0x10
  else if k < 0x18 then k - 0x14
  else if k < 0x1B then k - 0x18
  else if k < 0x1D then 0
  else if k < 0x20 then k - 0x1D
  else if k < 0x24 then k - 0x20
  else if k < 0x38 then k - 0x24
  else if k < 0x3E then k - 0x38
  else if k < 0x40 then 0
  else if k < 0x50 then k - 0x40
  else (k - 0x80) / 8

/-- The CLASS code of a page class (R487). -/
def clsCode (c : Cls) : Nat :=
  match c with
  | .ident => 0x01 | .presence => 0x02 | .clock => 0x03 | .time => 0x04 | .fantail => 0x05 | .thermalA => 0x06
  | .thermalB => 0x06 | .sluice => 0x07 | .supply => 0x08 | .mailbox => 0x09 | .host => 0x0A | .kernel => 0x0B
  | .peerA => 0x0C | .peerB => 0x0C | .headrace => 0x0D | .codecEnc => 0x0E | .dma => 0x10 | .leat => 0x11
  | .feedback => 0x12 | .feedback2 => 0x12 | .sheet => 0x13 | .lamp => 0x14 | .hvio => 0x15 | .gov => 0x16 | .axis => 0x17 | .gate => 0x18
  | .motion => 0x19 | .step => 0x1A | .pipe => 0x20 | .decode => 0x21 | .warp => 0x22 | .screen => 0x23 | .emit => 0x24
  | .swath => 0x25 | .scanclk => 0x26 | .ivina => 0x27

/-- NSRC: the event and fault sources of a page (R487). -/
def nsrc (c : Cls) : Nat :=
  match c with
  | .ident => 0 | .presence => 2 | .clock => 6 | .time => 4 | .fantail => 3 | .thermalA => 8 | .thermalB => 8
  | .sluice => 6 | .supply => 15 | .mailbox => 4 | .host => 6 | .kernel => 6 | .peerA => 6 | .peerB => 6 | .headrace => 8
  | .codecEnc => 4 | .dma => 8 | .leat => 6 | .feedback => 8 | .feedback2 => 8 | .sheet => 8 | .lamp => 8 | .hvio => 6 | .gov => 4
  | .axis => 4 | .gate => 4 | .motion => 2 | .step => 2 | .pipe => 2 | .decode => 2 | .warp => 2 | .screen => 2
  | .emit => 2 | .swath => 3 | .scanclk => 2 | .ivina => 4

/-- The block register table of a page class (R476 onwards; each chapter's page section). -/
def rowsOf (c : Cls) : List FieldRow :=
  match c with
  | .ident => rowsIDENT | .presence => rowsPRESENCE | .clock => rowsCLOCK | .time => rowsTIME | .fantail => rowsFANTAIL
  | .thermalA => rowsTHERMAL.filter fun r => !decide (r.fld.off ∈ [0xA0, 0xA4, 0xA8])
  | .thermalB => rowsTHERMAL.filter fun r => !decide (r.fld.off ∈ [0x84, 0x88, 0x9C])
  | .sluice => rowsSLUICE | .supply => rowsSUPPLY | .mailbox => rowsMAILBOX | .host => rowsHOST | .kernel => rowsKERNEL
  | .peerA => rowsPEER
  | .peerB => rowsPEER.filter fun r => decide (r.fld.off < 0x100)
  | .headrace => rowsHEADRACE | .codecEnc => rowsCODEC_ENC | .dma => rowsDMA | .leat => rowsLEAT
  | .feedback => rowsFEEDBACK.filter fun r => decide (r.fld.off < 0x300)
  | .feedback2 => rowsFEEDBACK.map fun r => if r.count = 8 then { r with count := 4 } else r
  | .sheet => rowsSHEET | .lamp => rowsLAMP | .hvio => rowsHVIO | .gov => rowsGOV
  | .axis => rowsAXIS | .gate => rowsGATE | .motion => rowsMOTION | .step => rowsSTEP | .pipe => rowsPIPE
  | .decode => rowsDECODE | .warp => rowsWARP | .screen => rowsSCREEN | .emit => rowsEMIT | .swath => rowsSWATH
  | .scanclk => rowsSCANCLK | .ivina => rowsIVINA

/-- Whether a page has staged fields: PAGE_CAPS.STAGED (R476, R487). -/
def hasStaged (c : Cls) : Bool :=
  match c with
  | .clock | .time | .peerA | .peerB | .leat | .feedback | .feedback2 | .hvio | .gov | .axis | .gate | .step | .pipe | .emit | .swath
  | .scanclk | .ivina => true
  | _ => false

/-- Whether a page has RWL fields: PAGE_CAPS.LOCKABLE (R476). -/
def lockable (c : Cls) : Bool :=
  match c with
  | .headrace | .host | .dma | .mailbox | .peerA => true
  | _ => false

/-- Whether a page is served by the always-on domain: PAGE_CAPS.AON (R487). -/
def alwaysOn (c : Cls) : Bool :=
  match c with
  | .ident | .presence | .fantail => true
  | _ => false

/-- PAGE_CAPS.BANKED (R476, R487). HVIO1 and HVIO2 read 0, so the base is asked for. -/
def banked (p : Nat) (c : Cls) : Bool :=
  match c with
  | .headrace | .gov | .warp | .screen | .emit => true
  | .hvio => decide (p = pHVIO 0)
  | _ => false

/-- PAGE_CAPS.INJ: bit n for each FLT_INJ.CHECKER n the page offers (R459). -/
def injMask (c : Cls) : Nat :=
  match c with
  | .pipe | .gov => 0b110
  | .fantail => 0b1000
  | .ivina | .peerA | .peerB | .leat => 0b10000
  | .kernel => 0b100000
  | .sluice => 0b1000000
  | _ => 0

/-- The reset reaction code and scope of source i of a page: 0b0001 and 0, or what the page's chapter states (R454;
R175, R473, R429, R328, R330, R363). -/
def resetReaction (c : Cls) (i : Nat) : Nat × Bool :=
  if nsrc c ≤ i then (0, false)
  else match c, i with
  | .clock, 0 | .clock, 1 | .clock, 3 => (0b1011, true)
  | .fantail, 1 => (0b1111, true)
  | .fantail, 2 => (0b1001, false)
  | .kernel, 1 => (0b1111, true)
  | .thermalA, 6 => (0b0111, false)
  | .lamp, _ => (lampReaction i, false)
  | _, _ => (0b0001, false)
where
  lampReaction (i : Nat) : Nat :=
    if i = 2 ∨ i = 3 ∨ i = 4 then 0b0111 else 0b0001

end Sys2Proof.Machine
end

