-- ==== Sys2Proof/Machine/Hw.lean ====
section
/-! DEFINITION. The hardware's state: every register of W0, the Millpond, the table banks of W1, the state of every unit and
engine the spec names, the outputs, and what the module has sent. All of it is plain data. -/

namespace Sys2Proof.Machine

/-! ### Time (R42–R46) -/

/-- PRESS_TIME, its 32-bit fraction accumulator, and what remains of a slew in units of 2^-32 of a PRESS_TIME unit. -/
structure PressClock where
  time : Stamp
  frac : Nat
  slew : Int
  /-- Cycles of the system clock since mains-on: the timers that no SET of PRESS_TIME moves. -/
  cycles : Nat
deriving DecidableEq, Repr

/-! ### What the module sends: the record of its messages, newest first (the model's own, for claims to speak of). -/

/-- A link of the module. -/
inductive Link where
  | ivina (s : Nat) | peer (p : Nat) | leat (t : Nat)
deriving DecidableEq, Repr

/-- One thing the module has sent or answered. -/
inductive Sent where
  /-- An MSI-X message through entry vec of a context's table (R401). -/
  | msix (ctx vec : Nat)
  /-- An interrupt to the engine kernel for a source of a page (R479). -/
  | kernelIrq (page src : Nat)
  /-- A non-maskable trap to the engine kernel (R453). -/
  | trap (page src : Nat)
  /-- An interrupt to the engine kernel for the end of a transfer of a kernel-owned DMA channel (R405). -/
  | dmaIrq (ch : Nat)
  /-- The value a read returned to a master (R58, R399, R415, R475). -/
  | readValue (m : Master) (addr : Nat) (value : Nat)
  /-- The bytes a read through W1 returned (R399). -/
  | readBytes (m : Master) (off : Nat) (bytes : List Byte)
  /-- A frame handed to a link. -/
  | frame (l : Link) (f : Frame)
  /-- A frame on Leat trunk t at a time: its code groups, control ones marked (R334, R335). -/
  | trunk (t : Nat) (start : Stamp) (groups : List (Bool × Byte))
  /-- A codeword on a lane of a link, precoded or not (R193, R195). -/
  | codeword (l : Link) (lane : Nat) (precoded : Bool) (cw : BitVec 5440)
  /-- A posted write to host memory by a DMA channel in the name of a function (R402). -/
  | hostWrite (ctx addr : Nat) (bytes : List Byte)
  /-- A read request to host memory by a DMA channel (R404). -/
  | hostRead (ch ctx addr len : Nat)
  /-- An AtomicOp's completion: the old value, or Completer Abort (R396, R469). -/
  | atomicDone (m : Master) (old : Option Nat)
  /-- An Unsupported Request completion (R396). -/
  | unsupported (m : Master)
  /-- A BiSS-C frame clocked out on a channel (R231). -/
  | bissFrame (ch : Nat)
  /-- A report to the engine kernel: REG_REPLY, READ_REPLY and Leat replies (R217, R439, R337). -/
  | toKernel (l : Link) (f : Frame)
  /-- The event of a COVER input, stamped, to the engine kernel (R35, R47). -/
  | cover (i : Nat) (closed : Bool) (stamp : Stamp)
  /-- The console UART's report that neither image is valid (R385). -/
  | consoleBootFail
  /-- The engine kernel's OUTPUT command to the diverter for the sheet of a slot that is purged (R345). -/
  | divert (slot : Nat)
deriving DecidableEq, Repr

/-- What a reaction or a unit leaves to be done at the end of the step (R453: a reset begins after the raise). -/
inductive Due where
  /-- A block reset of a page (R453, R466). -/
  | blockReset (page : Nat)
  /-- A module reset for a cause of R394, with the page and source whose reaction caused it where there is one. -/
  | moduleReset (cause : Nat) (page src : Nat) (byFault : Bool)
  /-- A jam with a cause code (R347, R18). -/
  | jam (cause : Nat)
  /-- The pages exposing on a station are spoiled with a reason (R52, R81, R240). -/
  | spoilOn (station reason : Nat)
  /-- Every page exposing is spoiled with a reason (R33, R34). -/
  | spoilExposing (reason : Nat)
  /-- Every page from EXPOSING to FUSED is spoiled with a reason (R235). -/
  | spoilFlight (reason : Nat)
  /-- An encoder channel has a hardware fault or lost its position: the axes on it fault (R256). -/
  | encoderLost (channel : Nat)
  /-- An axis went from one state to another: the Governor slots that read it follow (R311). -/
  | axisMoved (axis old new : Nat)
  /-- The module restarts as from mains-on with a RESET_CAUSE (R359, R360, R365). -/
  | restart (cause : Nat)
  /-- A page whose FREEZE has been loaded with 1 takes its view (R390, R477). -/
  | holdView (page : Nat)
  /-- The module restarts, after a STOP where it is up (R359, R360, R365). -/
  | again (cause : Nat)
  /-- The sheet of a spoiled or returned page runs through unprinted and is purged (R82, R154, R345). -/
  | purge (desc : Nat)
  /-- The link to a head has come up; bit n of the mask: the head holds bank n (R185, R206). -/
  | headUp (station : Nat) (valid : Nat)
  /-- A lane of a head link starts a training, reaches ACTIVE or is disabled: a pending COMMIT of its page follows (R226). -/
  | laneTrains (station lane : Nat)
  | laneTrained (station lane : Nat)
  | laneOff (station lane : Nat)
  /-- A peer port's link has come up, or gone down (R437, R441, R448). -/
  | peerUp (port : Nat)
  | peerDown (port : Nat)
  /-- A trigger of the Governor's slots: TRIG code and index (R298). -/
  | trigger (src idx : Nat)
  /-- The page on a station has ended or was stopped: beams retested during it are live again (R189). -/
  | revive (station : Nat)
  /-- A source of Governor inputs may have become faulty (R311). -/
  | govInputs
  /-- The target of a grade change is looked at again (R77, R357). -/
  | gradeCheck
  /-- The module shuts down: outputs safe, then STOP (R358, R365). -/
  | shutdown (cause : Nat)
  /-- A page of a joint slot has been spoiled, or released with REPRINT_LIMIT instead of returned (R449). -/
  | chainSpoil (slot reason : Nat)
  | chainRelease (slot : Nat)
  /-- This module has dropped its page of a joint slot before it started (R449). -/
  | chainDrop (slot : Nat)
deriving DecidableEq, Repr

/-! ### The log store and the configuration store (R376–R379) -/

/-- A log record (R377) but for SEQ, TIME and CRC, which are filled in as it is written. -/
structure LogRec where
  kind : Nat
  flags : Nat
  master : Nat
  page : Nat
  data : Nat
deriving DecidableEq, Repr

/-- A log record written to a unit of the ring (R377): its CRC is right by construction. -/
structure LogUnit where
  seq : Nat
  time : Stamp
  body : LogRec
deriving DecidableEq, Repr

/-- One Sluice step word (R367). -/
abbrev StepWord := BitVec 64

/-- A Sluice program with its header (R368). -/
structure Program where
  gen : Nat
  startPc : Nat
  stopPc : Nat
  steps : List StepWord
  rom : Bool
  stopLen : Nat
deriving DecidableEq, Repr

/-- A polygon's catch set (R390): the register values by W0 address, the coefficient bytes of its slots by W1 offset, and the
POLY_RPM in force. -/
structure CatchSet where
  regs : List (Nat × Word)
  bank : List (Nat × Byte)
  polyRpm : Nat
  /-- Its CRC-32C (R88). -/
  crc : Nat
deriving DecidableEq, Repr

/-- The MRAM (R376): the program in use and the staged one, the configuration store and the log ring. -/
structure Mram where
  program : Program
  /-- The two copies of a stored program, written alternately; a copy that was never written is not valid (R368). -/
  copyA : Option Program
  copyB : Option Program
  staged : Tab StepWord
  ceilings : Tab Word
  bindings : List (Word × Word)
  catchSets : Tab (Option CatchSet)
  restarts : List Stamp
  lockout : Bool
  ring : Tab (Option LogUnit)
  queue : List LogRec
  dropped : Nat
  /-- No new unit is begun: a thermal shutdown has been decided (R358, R378). -/
  hold : Bool
deriving DecidableEq, Repr

/-! ### Boot and firmware (R382–R392) -/

/-- An image slot of the NOR flash (R384): the header fields the ROM reads, whether the body's hash and the header's signature
verify, and the failed-boot count of R385. -/
structure ImageSlot where
  magic : Nat
  format : Nat
  gen : Nat
  fwVer : Nat
  length : Nat
  authentic : Bool
  fails : Nat
deriving DecidableEq, Repr

/-- The parts of the self-test and boot state that no register shows (R386–R392). -/
structure Boot where
  /-- VAON is up: mains has come on (R382). -/
  vaon : Bool
  /-- A module reset is in progress, from its cause until the boot ROM starts (R391). -/
  inReset : Bool
  /-- RESET_N is held low (R391). -/
  resetNLow : Bool
  /-- PRESS_TIME of the last cause, for BOOT_MS (R394). -/
  causeAt : Stamp
  /-- The running slot: 0 A, 1 B, none before the boot ROM has chosen (R384). -/
  slot : Option Nat
  slotA : ImageSlot
  slotB : ImageSlot
  /-- The slot a FW_LOAD is writing, with the image's header as checked (R428). -/
  loading : Option (Nat × ImageSlot)
  /-- Groups of R5 that the start-up self-tests or the lockstep comparison have found short of a member: without coverage until
  repair (R6, R386). -/
  degraded : List CoveredGroup
  /-- The start-up self-tests have ended since mains-on (R382, R386). -/
  tested : Bool
  /-- The last module reset was caused by a fault reaction, or by the watchdog, and no READY has come since (R433, R457). -/
  logFault : Bool
  watchdog : Bool
  /-- Bit n: polygon n coasts without a valid catch set, until its terminals show no rotation (R390). -/
  coasting : Nat
  /-- The lockstep pair whose watchdog last warned, and the one whose expiry caused the last watchdog reset (R430, R433). -/
  warned : Option Nat
  wdPair : Nat
  /-- The press configuration: the words the engine kernel writes at READY, each with its W0 address (R62, R401, R402, R435, R454). -/
  config : List (Nat × Word)
deriving DecidableEq, Repr

/-! ### Safety pins (R32–R38) -/

/-- The inputs and safety outputs of X4, X8 and X9 that no register shows. -/
structure Pins where
  ilk1 : Bool
  ilk2 : Bool
  /-- The cycle of the system clock at which both interlock loops were last found closed (R33). -/
  ilkClosedAt : Nat
  estop1 : Bool
  estop2 : Bool
  cover : Nat
  sealClosed : Bool
  sealAtMains : Bool
  /-- When the button window ends, on the clock of always-on time (Hw.mono); none when no button window is open (R427). -/
  buttonEnds : Option Stamp
  /-- Bit s: the engine kernel has re-enabled LEN_s since the last interlock or E-STOP opening (R33, R34). -/
  lenPermit : Nat
  /-- What an E-STOP has taken off and the engine kernel has not re-armed (R34): the ENABLEs of axes and of steppers, HVEN_s and
  LAMP_k, a bit each. -/
  heldAx : Nat
  heldStp : Nat
  heldHv : Nat
  heldLamp : Nat
  /-- Bit s: level of HVEN_s (R32). -/
  hven : Nat
  /-- Bit k: level of LAMP_k (R28). -/
  lamp : Nat
  /-- Bit c: ENC5V of encoder channel c is on (R26, R387). -/
  enc5v : Nat
  /-- Bit s: level of LEN_s, driven by `settle` from the conditions of R223. -/
  len : Nat
deriving DecidableEq, Repr

/-! ### Pages and admission (R59–R86) -/

/-- The states of a page (R73). -/
inductive PState where
  | submitted | resident | admitted | exposing | exposed | transferred | fused | delivered | spoiled
deriving DecidableEq, Repr

/-- A plane entry (R66) with its verification (R71). -/
structure Plane where
  indexAddr : Nat
  dataBase : Nat
  dataLen : Nat
  indexCrc : Nat
  rsetMap : Nat
  verified : Bool
deriving DecidableEq, Repr

/-- What an admission records for a station (R128, R132, R190). -/
structure Recorded where
  warp : Nat
  screen : Nat
  emit : Nat
  outside : Nat
  kill : Nat
deriving DecidableEq, Repr

/-- The planner's state for a page on a station (R143). -/
structure Planner where
  e : Nat
  sp0 : Nat
  sp1 : Nat
  nNext : Int
  qNext : Int
  dual : Bool
  hold : Nat
  started : Bool
  /-- The planner has left the page (R143). -/
  left : Bool
  /-- The facet of the first plan that requested a line (R148). -/
  firstFacet : Option Nat
  /-- The last facet of the page: the one after its last FIRST line, or that of its last FULL line (R148). -/
  lastFacet : Option Nat
deriving DecidableEq, Repr

/-- A page on one of its stations. -/
structure OnStation where
  recd : Recorded
  /-- Prefill has started (R114). -/
  prefill : Bool
  /-- Bands 0 and 1 are complete (R114). -/
  prefilled : Bool
  /-- The Millrace has finished the page's last line (R110). -/
  rendered : Bool
  /-- The page's first facet has begun (R148). -/
  began : Bool
  /-- The page's last facet has ended (R148). -/
  ended : Bool
  /-- TOF_CTRL.GO has succeeded for the station, with its SURF_TOF (R497). -/
  tof : Option Coord
  planner : Planner
deriving DecidableEq, Repr

/-- A live page (R67, R68): the copied descriptor and what the module keeps with it. -/
structure PageRec where
  desc : Nat
  ctx : Nat
  pageId : Nat
  jobId : Nat
  mask : Nat
  grade : Nat
  media : Nat
  reprintMax : Nat
  autoReprint : Bool
  web : Bool
  widthIn : Nat
  lengthIn : Nat
  xOff : Nat
  sheetLen : Nat
  tofUm : Nat
  planes : List Plane
  state : PState
  attempt : Nat
  reason : Nat
  /-- The belt point P of its slot, once admitted (R56, R76). -/
  beltP : Coord
  /-- Its slot's sheet has been fed (R74, R342). -/
  fed : Bool
  stn : List OnStation
deriving DecidableEq, Repr

/-- A command waiting in the HEADRACE queue, with its writer (R70). -/
inductive HrCmd where
  | submit (m : Master) (idx : Nat)
  | planeReady (m : Master) (idx station : Nat)
  | withdraw (m : Master) (idx : Nat)
deriving DecidableEq, Repr

/-- What the spacing of slots reads of a grade's row (R78): the grade, SPEED_UMS, POLY_RPM and the SCLK words, and the two gaps in mm. -/
structure GradeRow where
  grade : Nat
  words : List Nat
  gapMin : Nat
  gapPoly : Nat
deriving DecidableEq, Repr

/-- A planned slot: belt point and lead edge, and what the next slot is spaced by: the candidate's sheet length, TOF_UM, exposure
lines and stations, and the row of the running grade (R76, R498). -/
structure Slot where
  beltP : Coord
  ref : Coord
  sheetLen : Nat
  tofUm : Nat
  lines : Nat
  mask : Nat
  row : GradeRow
deriving DecidableEq, Repr

/-- The Headrace: the command queue, the plane under verification, the live pages in the order of submission, the schedule and the forecast. -/
structure Headrace where
  queue : List HrCmd
  verifying : Option (Master × Nat × Nat)
  pages : List PageRec
  /-- The next slot of the schedule; none while it is stopped or no slot is planned (R498, R499). -/
  slot : Option Slot
  /-- The last slot planned, which the next one is spaced from (R498). -/
  lastSlot : Option Slot
  running : Bool
  /-- Records generated per context: the next SEQ (R85). -/
  seq : Tab Nat
  /-- FC_GRADE has changed since the last gap (R80). -/
  fcMoved : Bool
  /-- PRESS_TIME since which margin(FC_GRADE − 1) has held (R80). -/
  marginSince : Option Stamp
  /-- Press set: the stations admitted to exposure (bit s). -/
  pressSet : Nat
  /-- The press is to stop at the next gap (R18, R46, PRESS_STOP). -/
  stopAtGap : Bool
  /-- A change took effect at rest: the first page waits for the drum speeds (R79). -/
  settling : Bool
  /-- The cycle of the last change of the running grade, with the grade before it (R312). -/
  gradeWas : Option (Nat × Nat)
  /-- Writes of DMA into page data, newest first: stamp and bytes, of the last 250 ms (R80). -/
  ingest : List (Stamp × Nat)
  /-- The ranges whose pins were released last, and the clock of it (R408). -/
  unpinned : List (Nat × Nat)
  unpinnedAt : Stamp
  /-- Bit 16 + n: polygon n has failed its start, a head fault of station n (R250). -/
  headFault : Nat
deriving DecidableEq, Repr

/-! ### Codec (R98–R107) -/

/-- A running encoder job (R103, R104): descriptor index, submitting master and descriptor bytes, next billet row and column, next
destination byte, counts, and whether a context reset stops it at the next billet boundary (R106). -/
structure EncJob where
  idx : Nat
  master : Master
  desc : List Byte
  row : Nat
  col : Nat
  next : Nat
  billets : Nat
  noshrink : Nat
  stop : Bool
deriving DecidableEq, Repr

/-- CODEC_ENC: the job queue (index and submitting context) and the four encoders. -/
structure Codec where
  queue : List (Nat × Master)
  enc : Tab (Option EncJob)
deriving DecidableEq, Repr

/-! ### Millrace, planner, scan clock of a station (R109–R175) -/

/-- A line request (R110). -/
structure LineReq where
  y : Nat
  phi : Int
  deadline : Stamp
deriving DecidableEq, Repr

/-- A decoder at work: band, column, and whether this is the re-fetch (R98, R99). -/
structure DecJob where
  band : Nat
  col : Nat
  second : Bool
deriving DecidableEq, Repr

/-- The Millrace of a station. -/
structure Mill where
  /-- The page prefilling or rendering: its descriptor index. -/
  cur : Option Nat
  reqs : List LineReq
  /-- The line store (R111): the samples of a billet by 256 × slot + column, slot = band modulo 2. -/
  store : Tab (List Sample)
  /-- The decoders' present billets. -/
  dec0 : Option DecJob
  dec1 : Option DecJob
  /-- The band being filled, with the columns done in it. -/
  filling : Option Nat
  doneCols : List Nat
  /-- How many bands are complete, how many are released, and how many have been read (R112, R113). -/
  complete : Nat
  released : Nat
  readBands : Nat
  /-- PRESS_TIME at which each band became complete (R113). -/
  completeAt : Tab Stamp
  /-- When the billets of the last 1 ms were done, newest first (R108). -/
  doneAt : List Stamp
deriving DecidableEq, Repr

/-- SCLK_s as a waveform (R159). Its times are units of 1 / (w0 × 2^24) of a PRESS_TIME unit past `ref`. -/
structure Sclk where
  ref : Stamp
  /-- The rising edge of cycle 0, and the length of the cycles before it. -/
  first : Int
  was : Int
  /-- The lengths of the first cycles from cycle 0 on, which corrections stretch and shrink (R164, R165). -/
  cycles : List Int
  /-- N × 2^24, the division down to the pixel clock and MAG (R167), which give every cycle after those its length. -/
  w0 : Nat
  post : Nat
  mag : Int
  /-- The marker cycle of the facet; none before the first anchor. -/
  marker : Option Int
  /-- The level stays high until `tail`, where a clock stopped within its high phase has started again, and then low until `start`. -/
  tail : Int
  start : Int
  /-- The clock has stopped: the falling edge after which it is low (R170). -/
  stop : Option Int
deriving DecidableEq, Repr

/-- Facet counting and the plans of a station (R138–R144). -/
structure Facets where
  /-- Number of the facet scanning, none before the first accepted index edge. -/
  num : Option Nat
  /-- Starts of the last 11 facets (sos_pred for flywheeled ones), newest first. -/
  sos : List Stamp
  /-- Last 11 EOS stamps, one per facet, newest first, aligned with `sos`; none where the edge was missing. -/
  eos : List (Option Stamp)
  /-- An EOS edge has been accepted since the last SOS. -/
  eosSeen : Bool
  /-- An index edge was accepted since the last SOS: the next facet is facet 0. -/
  indexSeen : Bool
  /-- Revolutions in a row without an accepted index edge. -/
  noIndex : Nat
  /-- The present revolution began with an accepted index edge. -/
  indexThisRev : Bool
  /-- Facet sequence numbers of the index edges outside the window in the last revolution. -/
  strays : List Nat
  /-- The facet before the one that is number 0 from the next gap on (R138). -/
  rebase : Option Nat
  /-- Lines of the last 15 facets planned, newest first. -/
  lines15 : List Nat
  /-- Facets still to pass before the next plan after a change of POLY_RPM (R152). -/
  waitRev : Nat
  /-- The plans made, newest first, as many as a PLAN_GAP can name (R213, R222): facet sequence number and the page carried. -/
  plans : List (Nat × Option Nat)
  /-- Consecutive flywheeled facets (R163). -/
  fly : Nat
  /-- SOS intervals in tolerance in a row (R172). -/
  good : Nat
  /-- The scan-clock PLL relocks to the pending pair (R168). -/
  relock : Bool
  /-- Accepted edges in a row with |e| within PHASE_WARN, and whether POLY_PHASE_FAIL stands (R173). -/
  phaseGood : Nat
  phaseFail : Bool
  /-- SCLK_s as it runs or has stopped, none before its first start (R159, R169). -/
  clk : Option Sclk
  /-- The pre-alignment for the next facet has reached its target (R164). -/
  aligned : Bool
deriving DecidableEq, Repr

/-- The states of a bank-switch machine (R130, R184). -/
inductive BankState where
  | idle | validating | downloading | armed
deriving DecidableEq, Repr

/-- The emitter tables and health of a station that no register shows (R184–R191). -/
structure Emit where
  sw : BankState
  /-- CHECK mismatches of the present download of each bank (R185). -/
  retries : Tab Nat
  /-- The check value the present download of each bank must give (R185). -/
  expect : Tab Nat
  /-- A re-download of a bank after training, apart from a switch (R185). -/
  redownload : List Nat
  /-- Banks the head is known to hold (bit n), as last checked or reported. -/
  headHolds : Nat
  /-- ACTIVATE sent and not yet taken: bank and facet, 0xFFFF_FFFF for the next BD_SOS. -/
  activate : Option (Nat × Nat)
  deadClr : Bool
  /-- The beams under a DEAD_TEST. -/
  testing : Bool
  cal : Tab (Nat × Nat)
  calSeen : Nat
  /-- Bank and failing re-download marks the station faulted (bit n, R185). -/
  failed : Nat
  /-- Bit n: bank n is in use and needs more than CEIL_UW since its last change (R183). -/
  viol : Nat
  /-- Beams retested and live again from the next page (R189). -/
  revive : Nat
deriving DecidableEq, Repr

/-! ### Links (R193–R226, R437) -/

/-- The states of a lane (R201). -/
inductive LaneState where
  | disabled | detect | negotiate | confirm | active | failed | quarantine
deriving DecidableEq, Repr

/-- A lane of a link at the module's end. -/
structure Lane where
  st : LaneState
  /-- REASON the module sends in its TS records (R203, R221). -/
  reason : Nat
  /-- Consecutive valid alignment codewords in DETECT. -/
  aligns : Nat
  /-- Consecutive TS3 with one agreed version. -/
  ts3 : Nat
  /-- The lane has met its TS3 count and waits for an agreeing alignment codeword. -/
  ready : Bool
  /-- Consecutive alignment codewords missing or wrong (R205). -/
  missed : Nat
  /-- Uncorrectable codewords of the last 1 ms, newest first (R205). -/
  uncorr : List Stamp
  /-- The TS2 accepted on the lane. -/
  ts : Option TsRec
  /-- The last ALIGN_SEQ received. -/
  alignSeq : Nat
  /-- Precoding is used on the lane: both ends advertise it (R193). -/
  precoded : Bool
  /-- The lane trains with the values of a pending COMMIT (R226). -/
  fresh : Bool
deriving DecidableEq, Repr

/-- The frames waiting on a channel of a transmitter, and how many bytes of the first have left (R207). -/
structure TxQueue where
  frames : List Frame
  off : Nat
deriving DecidableEq, Repr

/-- A link's transmitter (R195–R199, R208). -/
structure LinkTx where
  queues : Tab TxQueue
  /-- The place of the next codeword after the last alignment codeword, 0 for an alignment codeword. -/
  pos : Nat
  /-- ALIGN_SEQ of the last alignment codeword sent. -/
  seq : Nat
  /-- The scrambler's register. -/
  scrambler : Nat
  /-- The next cell slot, modulo 32. -/
  slot : Nat
  /-- TABLE comes before MGMT. -/
  turn : Bool
  /-- How far the codeword being sent is, in 1/45 ns. -/
  phase : Nat
  /-- The lanes that were ACTIVE at the last alignment codeword sent (R204, R437). -/
  lanes : List Nat
deriving DecidableEq, Repr

/-- A reliable channel of a link at the module's end (R219, R220). -/
structure Channel where
  /-- SEQ of the next frame sent. -/
  txSeq : Nat
  /-- Frames sent and not acknowledged, oldest first. -/
  unacked : List Frame
  resends : Nat
  failed : Bool
  /-- SEQ expected next. -/
  rxSeq : Nat
  /-- Credits held towards the far end, and the last CR_CNT taken. -/
  credits : Nat
  crLast : Nat
  /-- Buffers freed since LINK_UP (CR_CNT sent). -/
  freed : Nat
deriving DecidableEq, Repr

/-- A link: lanes, reliable channels and the limits of its violations. -/
structure LinkState where
  lanes : Tab Lane
  chans : Tab Channel
  /-- PRESS_TIME of the last VIOLATION sent (R221). -/
  violAt : Option Stamp
  /-- Frames waiting for a credit or a window place, oldest first. -/
  waiting : List Frame
  /-- A peer port held in quarantine after HELLO (R441). -/
  quar : Bool
  tx : LinkTx
  /-- Codewords received since the last alignment codeword, whether one of the present stripe was uncorrectable, and the last stripe
  whose cells were lost, by ALIGN_SEQ and place (R200). -/
  rxPos : Nat
  rxBad : Bool
  lost : Option (Nat × Nat)
deriving DecidableEq, Repr

/-- One colour station. -/
structure Station where
  mill : Mill
  facets : Facets
  warpSw : BankState
  screenSw : BankState
  emit : Emit
  link : LinkState
deriving DecidableEq, Repr


/-! ### Surface and belt coordinates (R48–R56) -/

/-- SURF of a station (R48–R54): the rational accumulator, the index count, the value and stamp of the last edge, and the counts
backward since the last forward count. -/
structure Surf where
  acc : Nat
  base : Nat
  /-- IDX0, the count latched at the first index edge since SURF_CFG.EN was set (R49). -/
  idx0 : Option Int
  sEdge : Coord
  tEdge : Stamp
  back : Nat
  /-- SURF and BELT at the last index edge, from which rho is measured (R56). -/
  revAt : Option (Coord × Coord)
  /-- An index edge of the channel has been seen since the last commit of the scale (R54). -/
  indexed : Bool
deriving DecidableEq, Repr

/-- One belt channel (R55): its scaled position and the offset that makes BELT continuous. -/
structure BeltCh where
  acc : Nat
  base : Int
  off : Int
deriving DecidableEq, Repr

/-- BELT (R55): the two channels, the channel BELT stays on after a fault, where BELT stood as the other became free of faults, and whether
the engine kernel recalibrates the offsets in the next gap. -/
structure Belt where
  c0 : BeltCh
  c1 : BeltCh
  lone : Option Nat
  freeAt : Option Int
  recal : Bool
deriving DecidableEq, Repr

/-! ### DMA and host contexts (R395–R414) -/

/-- The MSI-X state of a function (R401): enabled and not masked as a whole, the vectors whose Mask bit is 0, and the pending ones. -/
structure MsixFn where
  on : Bool
  clear : List Nat
  pending : List Nat
deriving DecidableEq, Repr

/-- A transfer in progress (R404): the values of its registers at GO and the bytes moved so far; those for the Millpond are held until the
transfer ends, since which of its rows a dropped transfer has written is undefined (R59, R406). -/
structure Transfer where
  src : Nat
  dst : Nat
  count : Nat
  srcMpa : Bool
  dstMpa : Bool
  ctx : Nat
  barrier : Bool
  done : Nat
  held : List Byte
  /-- The clock of its GO (R408). -/
  goAt : Stamp
  /-- Every unit has been written, and with BARRIER the read of the last one is awaited (R405). -/
  back : Bool
deriving DecidableEq, Repr

/-! ### Raises (R452–R456) -/

/-- What a raise puts into the first-error capture: the value named for the source, the master (0xFFFF for none), the access type,
and whether an injection caused it (R455). -/
structure Cap where
  addr : Nat
  master : Nat
  access : Nat
  injected : Bool
deriving DecidableEq, Repr

/-- A raise of a source of a page. -/
structure Raised where
  page : Nat
  source : Nat
  cap : Cap
  /-- EVT_PEND of the source was 1 before the raise (R478). -/
  wasPend : Bool
deriving DecidableEq, Repr

/-! ### Mailbox services (R415–R426) -/

/-- A command in the cache of its mailbox (R423): its tag and opcode, and its final status and value once finished. -/
structure Cached where
  tag : Nat
  opcode : Nat
  result : Option (Nat × Nat)
deriving DecidableEq, Repr

/-- The engine kernel's side of a command mailbox (R422–R424): the agreed version, quarantine, the cache newest first, and the
replies waiting for the reply mailbox, oldest first. -/
structure CmdBox where
  ver : Option Nat
  quarantine : Bool
  cache : List Cached
  replies : List Word
deriving DecidableEq, Repr

/-- A service still running (R424, R426): its opcode, command mailbox, tag and, where the command came as a block, its commons
byte offset. -/
structure Job where
  opcode : Nat
  box : Nat
  tag : Nat
  block : Option Nat
  /-- Test and station mask of a RUN_TEST (R426). -/
  arg : Nat
  /-- The request was answered DEFERRED (R392). -/
  deferred : Bool
  /-- Its context has been reset since: it runs to its end, and its reply is discarded (R431). -/
  mute : Bool
deriving DecidableEq, Repr

/-! ### Several modules (R435–R451) -/

/-- A SLOT_READY the Headstock holds for the slot offered (R446). -/
structure Ready where
  module : Nat
  ready : Bool
  job : Nat
deriving DecidableEq, Repr

/-- The chain as this module sees it. -/
structure Chain where
  /-- Membership code of each module (R442). -/
  state : Tab Nat
  /-- Consecutive exchanges of each module within TIME_TOL (R442, R445). -/
  good : Tab Nat
  /-- Effective grade each module last reported (R447, R448). -/
  grade : Tab Nat
  /-- Heartbeats sent on each port since one came in on it (R448). -/
  missed : Tab Nat
  /-- Heartbeats the Headstock has sent since one of each module came in (R442, R448). -/
  quiet : Tab Nat
  /-- The slot number of the next slot and the slot offered with the answers so far (R446). -/
  nextSlot : Nat
  offered : Option Nat
  readies : List Ready
  /-- The page a Tailstock holds for an offered slot, with the belt point in its own BELT (R446). -/
  held : Option (Nat × Nat × Coord)
  /-- Slots admitted with the page of each (R449), newest first. -/
  slots : List (Nat × Nat)
  /-- t1, t2 and t3 of the exchange under way with the upstream module (R443). -/
  sync : Option (Stamp × Stamp × Stamp)
  /-- |OFFSET| was above TIME_TOL at the last exchange (R445). -/
  late : Bool
  /-- The last slot at the old grade, which the Headstock's GRADE has named; none without a change pending (R447). -/
  gradeAfter : Option Nat
  /-- The last slot given GO, and the clock of it (R450). -/
  gone : Option (Nat × Stamp)
  /-- The first spoil reason that the Headstock has had for each joint slot, its own included (R449, R450). -/
  spoils : List (Nat × Nat)
deriving DecidableEq, Repr

/-! ### The Sluice (R364–R375) -/

/-- What the Sluice waits for at its present step (R367, R371). -/
inductive SqWait where
  /-- The next step is to be taken. -/
  | ready
  /-- A WAIT runs. -/
  | wait
  /-- A CHECK waits for its condition. -/
  | check
  /-- A DIS waits for its end. -/
  | dis
deriving DecidableEq, Repr

/-- A running sequence: the entry (1 START, 2 STOP), what its present step waits for, the longest DIS so far in µs. -/
structure Seq where
  entry : Nat
  wait : SqWait
  longest : Nat
deriving DecidableEq, Repr

/-- The Sluice: the sequence, rails whose DIS has ended (they count as off), a START due after the STOP that runs, and a halted
START waiting for its retry (R372). -/
structure Sluice where
  seq : Option Seq
  off : List Nat
  startAfter : Bool
  retry : Bool
  /-- A RAIL_CMD whose DIS has not ended. -/
  cmd : Option Nat
  /-- Supply phases that have failed (R16). -/
  deadPhases : List Nat
  /-- The reason an internal shutdown waits to restart from: 5 thermal, 6 rail (R394). -/
  restart : Option Nat
  /-- VHEAD_LIM[s] as taken at the last EN of VHEAD_s: PG and OFF in mV (R381). -/
  lims : Tab (Nat × Nat)
deriving DecidableEq, Repr

/-! ### Encoder channels and divided outputs (R227–R239) -/

/-- An encoder channel. -/
structure Enc where
  /-- The position without wrap; CH_POS shows it modulo 2^32 (R234). -/
  pos : Int
  /-- Filtered levels of A and B (R227). -/
  a : Bool
  b : Bool
  /-- Stamp of the last filtered edge (R228). -/
  edgeAt : Option Stamp
  /-- The counts of late, newest first: stamp and whether forward (R237). -/
  hist : List (Stamp × Bool)
  /-- POS at the last index edge (R230). -/
  idxAt : Option Int
  /-- SPEED at the last 64 updates, newest first (R238). -/
  speeds : List Int
  /-- Bad BiSS-C frames in a row, the last good sample, and the good samples of late with POS after them (R232, R233, R237). -/
  badRun : Nat
  lastGood : Option Nat
  good : List (Stamp × Int)
deriving DecidableEq, Repr

/-- A divided output: the accumulator, the quadrature phase of DA and DB (0–3), the stamp of the last edge, and the directions of
the counts held back, oldest first (R239). -/
structure DivOut where
  acc : Nat
  phase : Nat
  edgeAt : Option Stamp
  backlog : List Bool
deriving DecidableEq, Repr

/-! ### Motor axes and gate bridges (R241–R276) -/

/-- What a modulator commands the legs of its bridge (R257, R277): ENABLE low; ENABLE high with PULSE from the modulator; or PRECHARGE,
its low sides on, as pulses on a spinning rotor (R253). -/
inductive Drive where
  | off
  | on
  | charge (spinning : Bool)
deriving DecidableEq, Repr

/-- PULSE of the legs of a bridge over a period of its modulator (R243, R245, R280): the period's start, and the leading and trailing
edge of each leg in half nanoseconds from it; a leg whose trailing edge is not after its leading edge has no pulse. -/
structure Pulses where
  start : Stamp
  lead : List Int
  trail : List Int
deriving DecidableEq, Repr

/-- A trip of a switch (R269, R270): leg, side (0 low, 1 high) and time. Its turn-off is soft. -/
structure Trip where
  leg : Nat
  side : Nat
  at_ : Stamp
deriving DecidableEq, Repr

/-- The pulses of a PWM period after window opening (R245): phases from largest to smallest duty, the leading and trailing edges of
each in half nanoseconds from the period start, and whether each of the two windows is sampled. -/
structure PwmPlan where
  maxPh : Nat
  midPh : Nat
  minPh : Nat
  lead : List Int
  trail : List Int
  sampleA : Bool
  sampleB : Bool
deriving DecidableEq, Repr

/-- A motor axis. -/
structure Axis where
  /-- Periods since the present state was entered. -/
  periods : Nat
  plan : Option PwmPlan
  /-- On-time owed to phases U, V, W from the period before, in half nanoseconds (R245). -/
  owed : List Int
  accD : Int
  accQ : Int
  vd : Int
  vq : Int
  /-- Periods in a row without both samples (R246). -/
  missed : Nat
  /-- The angle in use, 2^-16 turn. -/
  theta : Nat
  /-- Consecutive periods of agreement of observer and open loop (R250). -/
  agree : Nat
  /-- The axis caught a turning rotor: it goes from PRECHARGE to RUN (R252). -/
  caught : Bool
  /-- In RUN, q moves from 0 to the Governor's output over 64 periods (R252). -/
  fadeIn : Bool
  /-- The Governor's q output: the value in use, and those that have come since with their stamps, newest first (R258). -/
  govQ : Int
  govNew : List (Int × Stamp)
  /-- Starts retried since the last success (R250). -/
  retries : Nat
  /-- Consecutive BD_SOS edges with the phase error within PHASE_WARN (R255). -/
  phaseGood : Nat
  /-- The state left last, and the cycle at which the present one was entered (R273); the row of R258 that entered it, 0 for none. -/
  from_ : Nat
  enteredAt : Nat
  exit : Nat
  /-- Time for which the back-EMF has been off KE × ω_e, in ns (R251). -/
  emfOff : Nat
  /-- The α and β currents of the last sampled period, and the back-EMF the observer estimates from them (R250). -/
  iAlpha : Int
  iBeta : Int
  emfAlpha : Int
  emfBeta : Int
deriving DecidableEq, Repr

/-- A bridge of a gate bank (R260–R271). -/
structure Bridge where
  /-- The trips of the present period of its modulator, and how many periods in a row each leg has tripped before it. -/
  trips : List Trip
  runs : Tab Nat
  /-- The cycle at which the bridge fault was latched. -/
  latchAt : Option Nat
  /-- The modulator's ENABLE with the time of its last change, and PULSE over the present period and the one before. -/
  drive : Drive
  driveAt : Stamp
  cur : Option Pulses
  prev : Option Pulses
  /-- The legs re-armed at the start of the present period, and that start (R270). -/
  rearmed : List Nat
  rearmAt : Stamp
  /-- The trips of earlier periods and of before a module reset whose soft turn-off may still run (R269, R274). -/
  soft : List Trip
deriving DecidableEq, Repr

/-- A gate bank's supply (R265, R267): whether VGD_x is below its undervoltage limit, and the cycle of the last fall of VGD_OK. -/
structure Bank where
  under : Bool
  fellAt : Option Nat
deriving DecidableEq, Repr

/-! ### Steppers and motion (R277–R296) -/

/-- A stepper axis. Its position p, speed v, acceleration a and jerk j are exact, in the units of `Kin` (R284). -/
structure Stepper where
  p : Int
  v : Int
  a : Int
  j : Int
  /-- The coarse command position in microsteps, with the command's speed and time (R286, R287), and the time of the last tick. -/
  c : Int
  vc : Int
  tc : Stamp
  at_ : Stamp
  /-- μ in microsteps, without wrap. -/
  mu : Int
  /-- What POS_SET has added to the current angle so that it stays unchanged (R289), microsteps. -/
  angle : Int
  /-- The controllers of phases A and B (R279): integrator, voltage, and whether the duty is at its limit. -/
  accA : Int
  accB : Int
  uA : Int
  uB : Int
  limA : Bool
  limB : Bool
  /-- A goal written waits for the next tick (R285). -/
  go : Bool
  /-- The axis has been at rest for HOLD_DELAY (R283). -/
  held : Bool
  /-- The state left last and the cycle of that change: for gate events of one clock (R273); the row of R278 that made it, 0 for none. -/
  from_ : Nat
  enteredAt : Nat
  exit : Nat
  /-- μ every 4 µs over the last 1.024 ms, newest first (R293). -/
  mus : List (Stamp × Int)
deriving DecidableEq, Repr

/-- An interpolation group (R290, R291): the members of the running line with start and distance in microsteps, the target of each,
whether it stops on the line for a redirect, and the targets to start from rest then. -/
structure Group where
  line : List (Nat × Int × Int)
  ends : List (Nat × Int)
  stopping : Bool
  next : List (Nat × Int)
deriving DecidableEq, Repr

/-- A rendezvous channel (R292, R293): ticks in a row within RDV_TOL, and whether the sheet's stamp has come. -/
structure Rdv where
  near : Nat
  stamped : Bool
deriving DecidableEq, Repr

/-- The MOTION block's inner state: groups, rendezvous channels and the count of ticks. -/
structure Motion where
  groups : Tab Group
  rdvs : Tab Rdv
  ticks : Nat
deriving DecidableEq, Repr

/-! ### Governor (R297–R314) -/

/-- A Governor slot: the error and compensator histories e[n−1..n−3] and u[n−1..n−3], the integrator, the clamp's excess w, full-scale
codes in a row, misses in a row, whether a switched bank is under validation, the triggers since the last that makes a sample, and the
samples triggered whose TRIG_DELAY runs (R298). -/
structure GovSlot where
  e : List Int
  u : List Int
  i : Int
  w : Int
  full : Nat
  misses : Nat
  validating : Bool
  count : Nat
  due : Nat
  /-- The cycle of the last write of SL_REF and of the last output, with the value before it, and the cycle at which a switch became
  pending (R312). -/
  refWas : Option (Nat × Nat)
  outWas : Option (Nat × Nat)
  pendAt : Nat
  /-- The cycle of the last sample (R258). -/
  sampledAt : Nat
deriving DecidableEq, Repr

/-- A sample waiting for its evaluation: slot, input, reference, running grade, bank, time, and whether it is the bank's first (R298,
R303, R308); what SL_X and the full-scale count were before it (R312); and the slot's state where the slot has been disabled and enabled
again since (R310). -/
structure GovSample where
  slot : Nat
  x : Int
  r : Int
  grade : Nat
  bank : Nat
  at_ : Stamp
  fresh : Bool
  xWas : Nat
  fullWas : Nat
  own : Option GovSlot
deriving DecidableEq, Repr

/-- A reference that the engine kernel ramps: from and to, and so many units in so many cycles of the system clock since a cycle. -/
structure Ramp where
  from_ : Int
  goal : Int
  step : Nat
  per : Nat
  since : Nat
deriving DecidableEq, Repr

/-- A Governor unit: its queue, oldest first, and the evaluations of the last 1 ms with their length in ns. -/
structure GovUnit where
  queue : List GovSample
  busy : List (Stamp × Nat)
deriving DecidableEq, Repr

/-! ### High voltage and fuser lamps (R315–R333) -/

/-- An HV channel: the duty the Governor commands, conversions in a row at V_TRIP, I_TRIP and full scale, failed open tests in a row of
the two inputs, and the reference the kernel ramps to (R320). -/
structure HvCh where
  duty : Nat
  overV : Nat
  overI : Nat
  full : Nat
  openV : Nat
  openI : Nat
  /-- The cycle of the system clock of its last trip (R331). -/
  tripAt : Option Nat
deriving DecidableEq, Repr

/-- A lamp channel. -/
structure LampCh where
  /-- The burst accumulator of R323. -/
  acc : Nat
  /-- The second half of a cycle already begun is due. -/
  second : Bool
  /-- The scheduler has granted the half-cycle to come (R326). -/
  granted : Bool
  /-- Inrush half-cycles done. -/
  soft : Nat
  /-- PRESS_TIME the lamp last conducted; none for a lamp that has not. -/
  lastOn : Option Stamp
  /-- The cycle at which the present state was entered, and grants refused in a row. -/
  since : Nat
  refused : Nat
  /-- The half-cycle now running is conducted, as part of an inrush. -/
  conducts : Bool
  inrush : Bool
  /-- The CT has not yet read below OFF_LIM for a whole half-cycle since the lamp stopped (R326). -/
  decays : Bool
  /-- Half-cycles in a row above 1.25 × RUN_PK, and with current while low (R328). -/
  excess : Nat
  stuck : Nat
  /-- The cycles of the system clock at which LAMP_k is to rise and to fall (R322). -/
  riseAt : Option Nat
  fallAt : Option Nat
  /-- A demand that the Governor has replaced: the cycle, and the demand before it (R331). -/
  demWas : Option (Nat × Nat)
deriving DecidableEq, Repr

/-- A fuser temperature input: values of the last 100 ms, newest first, whether it stands above CEIL or above RATE_MAX, and the
lamps it shows stuck on (R330). -/
structure TinCh where
  hist : List (Stamp × Int)
  overCeil : Bool
  overRate : Bool
  stuck : List Nat
deriving DecidableEq, Repr

/-- Mains sense: regular half-cycles in a row, the last zero-cross, and whether it was positive-going. -/
structure Mains where
  regular : Nat
  last : Option Stamp
  rising : Bool
deriving DecidableEq, Repr

/-! ### Thermal supervision (R352–R363) -/

/-- The thermal supervisor: each zone's value as the rate sees it (R353, R355), samples under substitution in a row by sensor (die 0–31, board 32–43), samples at or above SHUTDOWN in a row
by zone (die 0–7, board 8–10), zone values at the last ten rate evaluations, newest first, and whether a restart's cause waits to be
logged at the next READY, or RESTART_LIMIT to be raised. `down`: a thermal shutdown stands, and no restart is made before R359 holds.
`corr`: the corrections of R362 in converter LSB, by converter; `compOut`: the temperatures used for them that lie outside their range,
bit 0 die zone 6, bit 1 + k board sensor B(4 + k). -/
structure Thermal where
  basis : Tab Int
  subst : Tab Nat
  hot : Tab Nat
  hist : Tab (List Int)
  recovered : Bool
  limit : Bool
  down : Bool
  corr : Tab Int
  compOut : Nat
deriving DecidableEq, Repr

/-! ### Leat trunks and the sheet tracker (R334–R351) -/

/-- A downlink command (R350): node, FTYPE and the two payload words. -/
structure LeatCmd where
  node : Nat
  ftype : Nat
  lo : Nat
  hi : Nat
deriving DecidableEq, Repr

/-- An uplink frame in the report queue (R350). -/
structure LeatReport where
  node : Nat
  ftype : Nat
  seq : Nat
  lo : Nat
  hi : Nat
deriving DecidableEq, Repr

/-- A frame of a trunk (R337): FTYPE, ADDR, SEQ and the payload; ACK is 0 in a downlink frame. -/
structure LeatFrame where
  ftype : Nat
  addr : Nat
  seq : Nat
  body : List Byte
deriving DecidableEq, Repr

/-- A node as the module knows it (R338, R339): state code, agreed version, SEQ last accepted from it and last sent to it, its
identity with its firmware word, the command outstanding with how often it was repeated, how many repeats are due and whether its last
repeat has passed, the time of the last VIOLATION sent to it (R340), and its own slots in a row without a valid frame. -/
structure LeatNode where
  st : Nat
  ver : Nat
  seqRx : Nat
  seqTx : Nat
  vendor : Nat
  model : Nat
  fw : Nat
  out : Option LeatCmd
  repeats : Nat
  resend : Nat
  lapsed : Bool
  violAt : Option Stamp
  missed : Nat
deriving DecidableEq, Repr

/-- A trunk: its nodes, the command queue and the report queue, oldest first. -/
structure Trunk where
  nodes : Tab LeatNode
  cmds : List LeatCmd
  reports : List LeatReport
  /-- ACCEPT and VIOLATION frames that wait for a downlink frame of a cycle, oldest first (R335). -/
  answers : List LeatFrame
  /-- The slots of the running cycle in which a valid frame has come. -/
  heard : List Nat
  /-- A cycle has run since the trunk was enabled. -/
  cycled : Bool
  /-- The CRC failures of the last 1 ms (R340). -/
  crcAt : List Stamp
deriving DecidableEq, Repr

/-- A sheet slot (R343): the checkpoints whose lead and trailing edges have matched, and whether it follows its PURGE class (R345). -/
structure SheetSlot where
  lead : List Nat
  trail : List Nat
  purging : Bool
deriving DecidableEq, Repr

/-! ### The whole hardware -/

/-- The hardware state. -/
structure Hw where
  /-- The register words of W0 that differ from their reset value, by W0 address. -/
  regs : Tab Word
  /-- The words holding the values in use of staged fields, by W0 address (R480). -/
  used : Tab Word
  /-- The words shown while a page's view is frozen (R477). -/
  frozen : Tab Word
  /-- The high words latched for a master by a read of the low register: key master × 2^20 + address of the high register (R58). -/
  latches : Tab Word
  /-- Instances of a page that have still to apply a pending COMMIT: key page × 64 + instance (R480). -/
  waitCommit : List Nat
  /-- The cycle of the system clock in which each page accepted the COMMIT that is pending (R482). -/
  commitAt : Tab (Option Nat)
  /-- A word with a staged field that was written: the cycle, and the word before that cycle's writes (R482). -/
  shadowWas : Tab (Option (Nat × Word))
  /-- The Millpond (R59): an unlisted byte reads 0. -/
  mem : List Host.Cell
  /-- The table banks of W1 (R485): an unlisted byte reads its chapter's default. -/
  w1 : Tab Byte
  clk : PressClock
  boot : Boot
  pins : Pins
  mram : Mram
  headrace : Headrace
  codec : Codec
  stations : Tab Station
  peers : Tab LinkState
  chain : Chain
  surf : Tab Surf
  belt : Belt
  /-- What the running TOF computation will give each station: code 0 with its SURF_TOF, 1 TOF_LATE, 2 TOF_EARLY, and P (R56). -/
  tofCalc : List (Nat × Nat × Coord × Coord)
  dma : Tab (Option Transfer)
  /-- The clock at which a context's last reset began (R408). -/
  ctxResetAt : Tab (Option Stamp)
  /-- Entries each context's MSI-X capability shows (R401). -/
  vecShown : Tab Nat
  /-- The MSI-X state of each context's function (R401). -/
  msixFns : Tab MsixFn
  boxes : Tab CmdBox
  jobs : List Job
  sluice : Sluice
  encs : Tab Enc
  divs : Tab DivOut
  axes : Tab Axis
  /-- Bridges by 8 × bank + bridge. -/
  bridges : Tab Bridge
  banks : Tab Bank
  steppers : Tab Stepper
  motion : Motion
  govSlots : Tab GovSlot
  govUnits : Tab GovUnit
  hvs : Tab HvCh
  lamps : Tab LampCh
  tins : Tab TinCh
  mains : Mains
  thermal : Thermal
  trunks : Tab Trunk
  sheets : Tab SheetSlot
  /-- BELT every 1 µs over the last 8 ms, newest first, for the sheet tracker (R341). -/
  beltHist : List (Stamp × Coord)
  /-- The cycle of the system clock in which the last jam was declared (R347). -/
  jamAt : Option Nat
  /-- Edges at checkpoints while the tracker was JAMMED (R348). -/
  jamEdges : Nat
  /-- The references that the engine kernel ramps, by Governor slot (R251, R255, R348). -/
  refRamps : Tab (Option Ramp)
  /-- Credits held by a master of the two shared pools: key 2 × master for read, + 1 for write (R468). -/
  ledger : Tab Nat
  /-- The raises of the clock raisedAt, newest first, and the clock in which each page's first-error capture was taken (R456). -/
  raised : List Raised
  raisedAt : Stamp
  capAt : Tab (Option Stamp)
  /-- What the module has sent, newest first. -/
  sent : List Sent
  /-- Follow-ups of the step at hand. -/
  due : List Due
  /-- Cycles of the system clock to the next edge of the Fantail output (R461). -/
  fanIn : Nat
  /-- How many free values have been used. -/
  fresh : Nat
deriving DecidableEq, Repr

end Sys2Proof.Machine
end

