-- ==== Sys2Proof/Machine/Defaults.lean ====
section
/-! DEFINITION. What every unit holds after reset, and the factory program of the Sluice (R369, R371). -/

namespace Sys2Proof.Machine

/-! ### The Sluice's factory program (R366, R369) -/

/-- A step word (R366). -/
def stepWord (op rail cond target arg : Nat) : StepWord :=
  BitVec.ofNat 64 (op + 16 * rail + 2 ^ 16 * cond + 2 ^ 24 * target + 2 ^ 32 * arg)

/-- EN a rail, then CHECK its power-good; on a time-out go on at the target (R369). -/
def enCheck (rail arg target : Nat) : List StepWord := [stepWord 1 rail 0 0 0, stepWord 4 rail 0 target arg]

/-- START of the factory program: rails 1–11 each checked, the gate banks, MBUS where it is present, the head and HV rails. The
steps' order is the manual's; the time-outs of the head and HV checks are not stated (DESIGN CHOICE, assumption 15). -/
def factoryStart : List StepWord :=
  ((List.range 11).flatMap fun i => enCheck (i + 1) 2000 0xFF)
    ++ ((List.range 6).map fun i => stepWord 1 (12 + i) 0 0 0)
    ++ [stepWord 4 34 3 31 0, stepWord 1 34 0 0 0, stepWord 4 34 2 31 500000]
    ++ ((List.range 16).flatMap fun i => enCheck (18 + i) 5000 (33 + 2 * i))
    ++ [stepWord 0 0 0 0 0]

/-- STOP of the factory program, with the shipped time-outs (R373's worked example). -/
def factoryStop : List StepWord :=
  ((List.range 8).map fun i => stepWord 2 (33 - i) 0 0 100)
    ++ ((List.range 8).map fun i => stepWord 2 (25 - i) 0 0 1000)
    ++ [stepWord 2 34 0 0 1000]
    ++ ((List.range 6).map fun i => stepWord 2 (17 - i) 0 0 500)
    ++ ((List.range 11).map fun i => stepWord 2 (11 - i) 0 0 200)
    ++ [stepWord 0 0 0 0 0]

/-- The factory program held in ROM (R368): generation 0. -/
def factoryProgram : Program := ⟨0, 0, 64, factoryStart ++ factoryStop, true, 15000⟩

/-! ### Units after reset -/

/-- The configuration store and log ring of a module whose MRAM nothing has written: the factory program, zero ceilings, the
shipped bindings (R418) and no log record. -/
def Mram.reset : Mram :=
  { program := factoryProgram
    copyA := none
    copyB := none
    staged := []
    ceilings := []
    bindings := (List.range 32).map fun m =>
      (BitVec.ofNat 32 (if m % 2 = 0 then m / 2 + 65536 * 0x0100 else 0x0100 + 65536 * (m / 2)), 1)
    catchSets := []
    restarts := []
    lockout := false
    ring := []
    queue := []
    dropped := 0
    hold := false }

/-- An empty image slot. -/
def emptySlot : ImageSlot := ⟨0, 0, 0, 0, 0, false, 0⟩

/-- The image the module is delivered with: slot A holds a valid image of generation 1, slot B none (DESIGN CHOICE, assumption
16). -/
def shippedSlot : ImageSlot := ⟨0x46385845, 1, 1, 1, 4096, true, 0⟩

/-- The boot state at mains-on. -/
def Boot.reset : Boot :=
  { vaon := false, inReset := false, resetNLow := false, causeAt := 0, slot := none, slotA := shippedSlot, slotB := emptySlot
    loading := none, degraded := [], tested := false, logFault := false, watchdog := false, coasting := 0
    warned := none, wdPair := 0, config := [] }

/-- The pins at mains-on: every unconnected loop reads open (R41), every output low. -/
def Pins.reset : Pins :=
  { ilk1 := false, ilk2 := false, ilkClosedAt := 0, estop1 := false, estop2 := false, cover := 0, sealClosed := false
    sealAtMains := false, buttonEnds := none, lenPermit := 0, heldAx := 0, heldStp := 0, heldHv := 0, heldLamp := 0, hven := 0, lamp := 0
    enc5v := 0, len := 0 }

/-- The Headrace with no page, no command and no slot. -/
def Headrace.reset : Headrace :=
  { queue := [], verifying := none, pages := [], slot := none, lastSlot := none, running := false, seq := []
    fcMoved := false, marginSince := none, pressSet := 0, stopAtGap := false, settling := false, ingest := [], headFault := 0, gradeWas := none
    unpinned := [], unpinnedAt := 0 }

/-- The planner's state as a page enters it (R143). -/
def Planner.reset : Planner :=
  { e := 0, sp0 := 0, sp1 := 0, nNext := 0, qNext := 0, dual := true, hold := 0, started := false, left := false, firstFacet := none
    lastFacet := none }

/-- A page on a station before its admission. -/
def OnStation.reset : OnStation :=
  { recd := ⟨0, 0, 0, 0, 0⟩, prefill := false, prefilled := false, rendered := false, began := false, ended := false, tof := none
    planner := .reset }

/-- No encoder job. -/
def Codec.reset : Codec := ⟨[], []⟩

/-- A station's Millrace with no page. -/
def Mill.reset : Mill :=
  { cur := none, reqs := [], store := [], dec0 := none, dec1 := none, filling := none, doneCols := [], complete := 0, released := 0
    readBands := 0, completeAt := [], doneAt := [] }

/-- Facet counting before the first edge. -/
def Facets.reset : Facets :=
  { num := none, sos := [], eos := [], eosSeen := false, indexSeen := false, noIndex := 0, indexThisRev := false, strays := [], rebase := none
    lines15 := [], waitRev := 0, plans := [], fly := 0, good := 0, relock := false, phaseGood := 0, phaseFail := false, clk := none, aligned := false }

/-- The emitter tables' machine after reset (R178, R184). -/
def Emit.reset : Emit :=
  { sw := .idle, retries := [], expect := [], redownload := [], headHolds := 0, activate := none, deadClr := false, testing := false
    cal := [], calSeen := 0, failed := 0, viol := 0, revive := 0 }

/-- A lane in DISABLED. -/
def Lane.reset : Lane := ⟨.disabled, 0, 0, 0, false, 0, [], none, 0, false, false⟩

/-- A reliable channel before LINK_UP. -/
def Channel.reset : Channel := ⟨0, [], 0, false, 0, 0, 0, 0⟩

/-- A channel with nothing to send, and a transmitter at its start. -/
def TxQueue.reset : TxQueue := ⟨[], 0⟩
def LinkTx.reset : LinkTx := ⟨[], 0, 0, 0, 0, false, 0, []⟩

/-- A link that is down. -/
def LinkState.reset : LinkState := ⟨[], [], none, [], false, .reset, 0, false, none⟩

/-- A station after reset. -/
def Station.reset : Station := ⟨.reset, .reset, .idle, .idle, .reset, .reset⟩

/-- SURF of a station after a module reset (R53). -/
def Surf.reset : Surf := ⟨0, 0, none, 0, 0, 0, none, false⟩

/-- BELT after a module reset (R53). -/
def Belt.reset : Belt := ⟨⟨0, 0, 0⟩, ⟨0, 0, 0⟩, none, none, false⟩

/-- A command mailbox whose host has not sent HELLO (R422). -/
def CmdBox.reset : CmdBox := ⟨none, false, [], []⟩

/-- The chain before any link is up: every module ABSENT (R442). -/
def Chain.reset : Chain :=
  { state := [], good := [], grade := [], missed := [], quiet := [], nextSlot := 0, offered := none, readies := [], held := none
    slots := [], sync := none, late := false, gradeAfter := none, gone := none, spoils := [] }

/-- An encoder channel after reset. -/
def Enc.reset : Enc := ⟨0, false, false, none, [], none, [], 0, none, []⟩

/-- A divided output at DA = DB = 0. -/
def DivOut.reset : DivOut := ⟨0, 0, none, []⟩

/-- An axis in OFF. -/
def Axis.reset : Axis :=
  { periods := 0, plan := none, owed := [0, 0, 0], accD := 0, accQ := 0, vd := 0, vq := 0, missed := 0, theta := 0, agree := 0
    caught := false, fadeIn := false, govQ := 0, govNew := [], retries := 0, phaseGood := 0, from_ := 0, enteredAt := 0, exit := 0, emfOff := 0
    iAlpha := 0, iBeta := 0, emfAlpha := 0, emfBeta := 0 }

/-- A bridge with no trip and ENABLE low. -/
def Bridge.reset : Bridge :=
  { trips := [], runs := [], latchAt := none, drive := .off, driveAt := 0, cur := none, prev := none, rearmed := [], rearmAt := 0
    soft := [] }

/-- A bank whose supply has not risen. -/
def Bank.reset : Bank := ⟨true, none⟩

/-- A stepper in OFF at position 0. -/
def Stepper.reset : Stepper :=
  { p := 0, v := 0, a := 0, j := 0, c := 0, vc := 0, tc := 0, at_ := 0, mu := 0, angle := 0, accA := 0, accB := 0, uA := 0, uB := 0, limA := false
    limB := false, go := false, held := false, from_ := 0, enteredAt := 0, exit := 0, mus := [] }

/-- A group with no line. -/
def Group.reset : Group := ⟨[], [], false, []⟩

/-- A rendezvous channel in IDLE. -/
def Rdv.reset : Rdv := ⟨0, false⟩

/-- The MOTION block after reset. -/
def Motion.reset : Motion := ⟨[], [], 0⟩

/-- A Governor slot with its histories clear. -/
def GovSlot.reset : GovSlot := ⟨[0, 0, 0], [0, 0, 0], 0, 0, 0, 0, false, 0, 0, none, none, 0, 0⟩

/-- A Governor unit with nothing queued. -/
def GovUnit.reset : GovUnit := ⟨[], []⟩

/-- An HV channel after reset. -/
def HvCh.reset : HvCh := ⟨0, 0, 0, 0, 0, 0, none⟩

/-- A lamp that has not conducted since the supplies rose. -/
def LampCh.reset : LampCh := ⟨0, false, false, 0, none, 0, 0, false, false, false, 0, 0, none, none, none⟩

/-- A temperature input with no value. -/
def TinCh.reset : TinCh := ⟨[], false, false, []⟩

/-- Mains sense before the first zero-cross. -/
def Mains.reset : Mains := ⟨0, none, false⟩

/-- The thermal supervisor before its first sample. -/
def Thermal.reset : Thermal := ⟨[], [], [], [], false, false, false, [], 0⟩

/-- The Sluice at rest. -/
def Sluice.reset : Sluice :=
  { seq := none, off := (List.range 34).map (· + 1), startAfter := false, retry := false, cmd := none, deadPhases := [], restart := none
    lims := [] }

/-- A Leat node after reset: DISABLED (R339). -/
def LeatNode.reset : LeatNode := ⟨0, 0, 0, 0, 0, 0, 0, none, 0, 0, false, none, 0⟩

/-- A trunk after reset. -/
def Trunk.reset : Trunk := ⟨[], [], [], [], [], false, []⟩

/-- A sheet slot that is FREE. -/
def SheetSlot.reset : SheetSlot := ⟨[], [], false⟩

/-- MSI-X after a reset of a function, as the PCIe specification has it: not enabled, every vector masked, none pending (PRESUMED,
assumption 158). -/
def MsixFn.reset : MsixFn := ⟨false, [], []⟩

/-- The hardware before mains comes on: every register and byte at its reset value, every unit at rest, nothing powered. -/
def Hw.reset : Hw :=
  { regs := [], used := [], frozen := [], latches := [], waitCommit := [], commitAt := [], shadowWas := [], mem := [], w1 := []
    clk := ⟨0, 0, 0, 0⟩
    boot := .reset, pins := .reset, mram := .reset, headrace := .reset, codec := .reset
    stations := [], peers := [], chain := .reset, surf := [], belt := .reset, tofCalc := []
    raised := [], raisedAt := 0, capAt := [], dma := [], ctxResetAt := [], vecShown := [], msixFns := [], boxes := [], jobs := [], sluice := .reset
    encs := [], divs := [], axes := [], bridges := [], banks := [], steppers := [], motion := .reset
    govSlots := [], govUnits := [], hvs := [], lamps := [], tins := [], mains := .reset, thermal := .reset
    trunks := [], sheets := [], beltHist := [], jamAt := none, jamEdges := 0, refRamps := []
    ledger := [], sent := [], due := [], fanIn := 0, fresh := 0 }

end Sys2Proof.Machine
end

