-- ==== Sys2Proof/Machine/Render.lean ====
section
/-! DEFINITION. The pixel arithmetic of the Millrace: warp map, resampling, rendering sets, their validation and their
defaults at module reset (R115–R127, R131). A table is read through a function from offset to byte. -/

namespace Sys2Proof.Machine

/-- The bytes of one table region, by offset. -/
abbrev Region := Nat → Byte

/-- A 16-bit little-endian field of a region. -/
def u16At (r : Region) (o : Nat) : Nat := (r o).toNat + 256 * (r (o + 1)).toNat

/-- A signed 16-bit little-endian field of a region. -/
def s16At (r : Region) (o : Nat) : Int := signed 16 (u16At r o)

/-- A 32-bit little-endian field of a region. -/
def u32At (r : Region) (o : Nat) : Nat := u16At r o + 65536 * u16At r (o + 2)

/-! ### Warp map (R118, R119) -/

def warpRows (r : Region) : Nat := (r 1).toNat
def warpPitchLog2 (r : Region) : Nat := (r 2).toNat

/-- DX (c = 0) or DY (c = 2) of node 99r + j (R118). -/
def warpNode (r : Region) (c row j : Nat) : Int := s16At r (0x40 + c + 4 * (99 * row + j))

/-- The interpolated displacement of exposure pixel x on page line y (R119). -/
def warpD (r : Region) (c x y : Nat) : Int :=
  let rows := warpRows r
  let pl := warpPitchLog2 r
  let jx := x / 1024
  let fx := x % 1024
  let ry := min (y / 2 ^ pl) (rows - 1)
  let fy := if rows - 1 ≤ y / 2 ^ pl then 0 else y / 2 ^ (pl - 10) % 1024
  let ry1 := min (ry + 1) (rows - 1)
  let a := warpNode r c ry jx * (1024 - fx : Nat) * (1024 - fy : Nat)
    + warpNode r c ry (jx + 1) * fx * (1024 - fy : Nat)
    + warpNode r c ry1 jx * (1024 - fx : Nat) * fy
    + warpNode r c ry1 (jx + 1) * fx * fy
  (a + 524288) / 1048576

/-- The kernel weight of phase p and tap i (R118). -/
def kernelWeight (r : Region) (p i : Nat) : Int := s16At r (0x6400 + 8 * p + 2 * i)

/-- u of an exposure pixel (R115). -/
def uOf (r : Region) (xOff x y : Nat) : Int := 128 * ((x : Int) - xOff) - 64 + warpD r 0 x y

/-- v of an exposure pixel; phi is PHI(Y) in 1/64 line (R115). -/
def vOf (r : Region) (x y : Nat) (phi : Int) : Int := 128 * (y : Int) - 64 + warpD r 2 x y + 2 * phi

/-- The lowest input row the kernel reads on a line, over every pixel, before clamping (R112, R115). -/
def lowestRow (r : Region) (y : Nat) (phi : Int) : Int :=
  (List.range 100352).foldl (fun m x => min m (vOf r x y phi / 256 - 1)) (vOf r 0 y phi / 256 - 1)

/-- The highest input row the kernel reads on a line, before clamping (R113, R115). -/
def highestRow (r : Region) (y : Nat) (phi : Int) : Int :=
  (List.range 100352).foldl (fun m x => max m (vOf r x y phi / 256 + 2)) (vOf r 0 y phi / 256 + 2)

/-- Whether an exposure pixel lies outside the page (R116). -/
def outsidePage (width length : Nat) (u v : Int) : Bool :=
  decide (u < -128) || decide (256 * (width : Int) - 128 ≤ u) || decide (v < -128) || decide (256 * (length : Int) - 128 ≤ v)

/-- A tap clamped to 0 to n − 1 (R116). -/
def clampTap (n : Nat) (z : Int) : Nat := (clampI 0 ((n : Int) - 1) z).toNat

/-- The resampled tone (R120); smp gives the sample at a row and column of the page. -/
def resample (r : Region) (smp : Nat → Nat → Sample) (width length : Nat) (u v : Int) : Nat :=
  let iu := u / 256
  let fu := (u % 256).toNat
  let iv := v / 256
  let fv := (v % 256).toNat
  let h (k : Nat) : Int :=
    let row := clampTap length (iv - 1 + k)
    ((List.range 4).foldl (fun a i =>
      a + kernelWeight r fu i * (smp row (clampTap width (iu - 1 + i))).tone) (0 : Int) + 2048) / 4096
  let acc := (List.range 4).foldl (fun a k => a + kernelWeight r fv k * h k) (0 : Int)
  (clampI 0 1023 ((acc + 32768) / 65536)).toNat

/-- The nearest tap of a pixel (R121). -/
def nearestTap (smp : Nat → Nat → Sample) (width length : Nat) (u v : Int) : Sample :=
  let cu := u / 256 + (if 128 ≤ u % 256 then 1 else 0)
  let cv := v / 256 + (if 128 ≤ v % 256 then 1 else 0)
  smp (clampTap length cv) (clampTap width cu)

/-- The spread of the four central taps (R126). -/
def centralSpread (smp : Nat → Nat → Sample) (width length : Nat) (u v : Int) : Nat :=
  let t (a b : Nat) : Nat := (smp (clampTap length (v / 256 + a)) (clampTap width (u / 256 + b))).tone
  max (max (t 0 0) (t 0 1)) (max (t 1 0) (t 1 1)) - min (min (t 0 0) (t 0 1)) (min (t 1 0) (t 1 1))

/-! ### Rendering sets (R123–R126): o is the offset of the set in the region. -/

def setSteps (r : Region) (o : Nat) : Nat := (r (o + 2)).toNat
def setEdgeMode (r : Region) (o : Nat) : Nat := (r (o + 3)).toNat
def setTW (r : Region) (o : Nat) : Nat := u16At r (o + 4)
def setTH (r : Region) (o : Nat) : Nat := u16At r (o + 6)
def setShift (r : Region) (o : Nat) : Nat := u16At r (o + 8)
def setOffX (r : Region) (o : Nat) : Nat := u16At r (o + 0xA)
def setOffY (r : Region) (o : Nat) : Nat := u16At r (o + 0xC)
def setEdgeThr (r : Region) (o : Nat) : Nat := u16At r (o + 0xE)
def setRamp (r : Region) (o k : Nat) : Nat := (r (o + 0x40 + k)).toNat
def setCurve (r : Region) (o t : Nat) : Nat := u16At r (o + 0x800 + 2 * t)
def setThr (r : Region) (o ty tx : Nat) : Nat := u16At r (o + 0x1000 + 2 * (setTW r o * ty + tx))

/-- The threshold of exposure pixel x on page line y (R124). -/
def threshold (r : Region) (o x y : Nat) : Nat :=
  let yy := y + setOffY r o
  let n := yy / setTH r o
  let ty := yy - n * setTH r o
  let tx := (x + setOffX r o + setTW r o - n * setShift r o % setTW r o) % setTW r o
  setThr r o ty tx

/-- The direct level code of a tone (R125). -/
def directCode (r : Region) (o tone : Nat) : Nat := setRamp r o ((setCurve r o tone * setSteps r o + 2048) / 4096)

/-- The screened level code of a tone (R125). -/
def screenedCode (r : Region) (o tone thr : Nat) : Nat :=
  let s := setCurve r o tone * setSteps r o
  setRamp r o (s / 4096 + (if thr < s % 4096 then 1 else 0))

/-- What one exposure pixel gives: its level code, its set where it lies inside the page, and whether it is an edge pixel. -/
structure Pixel where
  code : Nat
  set : Option Nat
  edge : Bool
deriving DecidableEq, Repr

/-- What a station needs to render a line of a page: the image's geometry, the page's RSET_MAP and OUTSIDE_LEVEL. -/
structure RenderCtx where
  width : Nat
  length : Nat
  xOff : Nat
  rsetMap : Nat
  outside : Nat
deriving DecidableEq, Repr

/-- The pixel x of page line y (R115–R126). -/
def renderPixel (c : RenderCtx) (warp rend : Region) (smp : Nat → Nat → Sample) (phi : Int) (y x : Nat) : Pixel :=
  let u := uOf warp c.xOff x y
  let v := vOf warp x y phi
  if outsidePage c.width c.length u v then ⟨c.outside, none, false⟩
  else
    let near := nearestTap smp c.width c.length u v
    let set := c.rsetMap / 2 ^ (4 * near.tag) % 16
    let o := set * 0x9000
    let mode := setEdgeMode rend o
    let tone := resample warp smp c.width c.length u v
    let edge := decide (2 ≤ mode) && decide (setEdgeThr rend o ≤ centralSpread smp c.width c.length u v)
    let code :=
      if edge then directCode rend o (if mode = 3 then near.tone else tone)
      else if mode = 1 then directCode rend o tone
      else screenedCode rend o tone (threshold rend o x y)
    ⟨code, some set, edge⟩

/-- The pixels of one exposure line, in ascending X (R110). -/
def renderLine (c : RenderCtx) (warp rend : Region) (smp : Nat → Nat → Sample) (phi : Int) (y : Nat) : List Pixel :=
  (List.range 100352).map (renderPixel c warp rend smp phi y)

/-- The body of a LINE frame: groups of four level codes in 24-bit little-endian words (R209). -/
def packCodes : List Nat → List Byte
  | a :: b :: c :: d :: rest => toLE 3 (a + 64 * b + 4096 * c + 262144 * d) ++ packCodes rest
  | _ => []

/-! ### Defaults at module reset (R122, R127) -/

/-- 2048 × 16,384 × K(n / 256) of the cubic convolution kernel (R122). -/
def cubic (n : Nat) : Int :=
  let m : Int := n
  if n ≤ 256 then 3 * m ^ 3 - 1280 * m ^ 2 + 33554432
  else if n < 512 then -(m ^ 3) + 1280 * m ^ 2 - 524288 * m + 67108864
  else 0

/-- The default kernel weight of phase p and tap i (R122). -/
def defaultKernel (p i : Nat) : Int :=
  let a := roundHalfUp (cubic (256 + p)) 2048
  let b := roundHalfUp (cubic (256 - p)) 2048
  let c := roundHalfUp (cubic (512 - p)) 2048
  match i with
  | 0 => a
  | 1 => 16384 - a - b - c
  | 2 => b
  | _ => c

/-- The default warp region: the identity map and the default kernel (R122). -/
def defaultWarp (o : Nat) : Byte :=
  if o = 0 then 1
  else if o = 1 then 1
  else if o = 2 then 16
  else if 0x6400 ≤ o ∧ o < 0x6C00 then
    let q := o - 0x6400
    BitVec.ofNat 8 (unsignedOf 16 (defaultKernel (q / 8) (q % 8 / 2)) / 256 ^ (q % 2))
  else 0

/-- The default rendering region: every set near-contone with 64 levels (R127). -/
def defaultRendering (a : Nat) : Byte :=
  let o := a % 0x9000
  if 0x90000 ≤ a then 0
  else if o = 0 then 1
  else if o = 2 then 63
  else if o = 4 ∨ o = 6 ∨ o = 0xE then 1
  else if 0x40 ≤ o ∧ o < 0x80 then BitVec.ofNat 8 (o - 0x40)
  else if 0x800 ≤ o ∧ o < 0x1000 then
    BitVec.ofNat 8 ((((o - 0x800) / 2) * 4095 + 511) / 1023 / 256 ^ (o % 2))
  else if o = 0x1001 then 8
  else 0

/-! ### Validation (R131) -/

/-- The first of 0 to n − 1 that fails a check. -/
def firstBad (n : Nat) (bad : Nat → Bool) : Option Nat := (List.range n).find? bad

/-- The first failing check of a warp region: code and index (R131), the index 0 for a check whose index the spec gives as a dash (DESIGN
CHOICE, log entry 112). -/
def validateWarp (r : Region) : Option (Nat × Nat) :=
  let rows := warpRows r
  let nodes := 99 * rows
  let dy (k : Nat) : Int := s16At r (0x42 + 4 * k)
  let hi := (List.range nodes).foldl (fun m k => max m (dy k)) (dy 0)
  let lo := (List.range nodes).foldl (fun m k => min m (dy k)) (dy 0)
  let kbad (f : Nat → Bool) : Option Nat := firstBad 256 f
  if (r 0).toNat ≠ 1 then some (0x01, 0)
  else if rows < 1 ∨ 64 < rows ∨ warpPitchLog2 r < 10 ∨ 16 < warpPitchLog2 r then some (0x02, 0)
  else match firstBad 0x6400 (fun o => (decide (3 ≤ o ∧ o < 0x40) || decide (0x6340 ≤ o)) && decide ((r o).toNat ≠ 0)) with
  | some o => some (0x03, o)
  | none =>
    match firstBad nodes (fun k => decide (32512 < (s16At r (0x40 + 4 * k)).natAbs)) with
    | some k => some (0x04, k)
    | none =>
      match firstBad nodes (fun k => decide (15360 < (dy k).natAbs)) with
      | some k => some (0x05, k)
      | none =>
        if 2048 < hi - lo then some (0x06, (firstBad nodes (fun k => decide (dy k = hi))).getD 0)
        else match kbad (fun p => decide ((List.range 4).foldl (fun a i => a + kernelWeight r p i) (0 : Int) ≠ 16384)) with
        | some p => some (0x07, p)
        | none =>
          match kbad (fun p => (List.range 4).any fun i =>
              decide (kernelWeight r p i < -8192) || decide (24576 < kernelWeight r p i)) with
          | some p => some (0x08, p)
          | none => none

/-- The first failing check of the rendering set at offset o: code and byte offset in the set (R131, R123). -/
def validateSet (r : Region) (o : Nat) : Option (Nat × Nat) :=
  let steps := setSteps r o
  let tw := setTW r o
  let th := setTH r o
  let rampBad (k : Nat) : Bool :=
    decide (64 ≤ setRamp r o k) || (decide (0 < k) && decide (setRamp r o k < setRamp r o (k - 1)))
  if u16At r o % 2 = 0 then some (0x11, 0)
  else if steps < 1 ∨ 63 < steps ∨ 3 < setEdgeMode r o then some (0x12, 0)
  else if tw < 1 ∨ 256 < tw ∨ th < 1 ∨ 256 < th ∨ 16384 < tw * th ∨ tw ≤ setShift r o ∨ tw ≤ setOffX r o ∨ th ≤ setOffY r o then
    some (0x13, 0)
  else if 2 ≤ setEdgeMode r o ∧ (setEdgeThr r o < 1 ∨ 1023 < setEdgeThr r o) then some (0x14, 0)
  else match firstBad (steps + 1) rampBad with
  | some k => some (0x15, 0x40 + k)
  | none =>
    match firstBad 1024 (fun t => decide (4096 ≤ setCurve r o t)) with
    | some t => some (0x16, 0x800 + 2 * t)
    | none =>
      match firstBad (tw * th) (fun k => decide (4096 ≤ u16At r (o + 0x1000 + 2 * k))) with
      | some k => some (0x16, 0x1000 + 2 * k)
      | none =>
        if 1 < u16At r o then some (0x17, 0)
        else match firstBad 0x800 (fun q =>
            (decide (0x10 ≤ q ∧ q < 0x40) || decide (0x80 ≤ q)) && decide ((r (o + q)).toNat ≠ 0)) with
        | some q => some (0x17, q)
        | none => none

/-- The first failing check of a rendering region: code, set and index (R131), 0 where the spec gives a dash (log entry 112). -/
def validateRendering (r : Region) : Option (Nat × Nat × Nat) :=
  (List.range 16).findSome? fun n => (validateSet r (n * 0x9000)).map fun e => (e.1, n, e.2)

end Sys2Proof.Machine
end

