-- ==== Sys2Proof/Machine/RegReset.lean ====
section
/-! DEFINITION. What every register and every table byte holds after reset: the register tables of the pages, the values that
depend on the page, and the chapters' default banks (R476, R485). -/

namespace Sys2Proof.Machine

/-- Whether an offset of a page lies at a copy of a row's register. -/
def rowCovers (r : FieldRow) (o : Nat) : Bool :=
  if r.count ≤ 1 then decide (o = r.fld.off)
  else decide (r.fld.off ≤ o) && decide ((o - r.fld.off) % r.fld.stride = 0) && decide ((o - r.fld.off) / r.fld.stride < r.count)

/-- The word the rows of a table give at an offset. -/
def rowsWord (rs : List FieldRow) (o : Nat) : Nat :=
  rs.foldl (fun a r => if rowCovers r o then a + (r.reset % 2 ^ (r.fld.hi + 1 - r.fld.lo)) * 2 ^ r.fld.lo else a) 0

/-- The reaction codes of eight sources from source b on (R454). -/
def reactionWord (c : Cls) (b : Nat) : Nat :=
  (List.range 8).foldl (fun a i => a + (resetReaction c (b + i)).1 * 16 ^ i) 0

/-- The scope bits of a page (R454). -/
def scopeWord (c : Cls) : Nat := (List.range 16).foldl (fun a i => a + b2n (resetReaction c i).2 * 2 ^ i) 0

/-- A Faceplate word after reset (R476). -/
def faceReset (p o : Nat) (c : Cls) : Nat :=
  if o = 0x000 then clsCode c * 2 ^ 24 + pageInstance p * 2 ^ 16
  else if o = 0x008 then
    nsrc c + 32 * b2n (hasStaged c) + 64 * b2n (lockable c) + 128 * b2n (alwaysOn c) + 256 * injMask c
      + 65536 * b2n (banked p c)
  else if o = 0x01C then 2 ^ nsrc c - 1
  else if o = 0x028 then reactionWord c 0
  else if o = 0x02C then reactionWord c 8
  else if o = 0x030 then scopeWord c
  else if o = 0x050 ∧ (c = .ident ∨ c = .presence ∨ c = .fantail) then 0
  else rowsWord rowsFACE o

/-- The TYPE of axis n: 0 polygon, 1 station drive, 2 auxiliary (R19, R259). -/
def axisType (n : Nat) : Nat := if n < 8 then 0 else if n < 16 then 1 else 2

/-- The shipped thresholds of a THERMAL page's zone in 0.01 °C: WARN, THROTTLE, SHUTDOWN, RESTART, RATE_MAX (R355). -/
def shippedZone (board : Bool) (z : Nat) : List Nat :=
  if !board then [9500, 10500, 11500, 8500, 500]
  else match z with
  | 0 => [5000, 5500, 6500, 4500, 100]
  | 1 => [10000, 11000, 12000, 9000, 500]
  | 2 => [11000, 12000, 13000, 10000, 1000]
  | _ => [0, 0, 0, 0, 0]

/-- The words of a THERMAL page's zone registers after reset (R355, R363). -/
def zoneReset (board : Bool) (o : Nat) : Nat :=
  let z := (o - 0x200) / 16
  let v := shippedZone board z
  if board && decide (3 ≤ z) then 0
  else match (o - 0x200) % 16 with
  | 0 => v.getD 0 0 + 65536 * v.getD 1 0
  | 4 => v.getD 2 0 + 65536 * v.getD 3 0
  | 8 => v.getD 4 0
  | _ => 0

/-- The value by bank of GATE.DIDT.GROSS (R268). -/
def grossReset (x : Nat) : Nat := if x = 0 then 600 else if x = 1 then 800 else if x = 2 then 1000 else 400

/-- A block register word whose reset value depends on the page or the copy, none where the register table gives it. -/
def specialReset (p o : Nat) (c : Cls) : Option Nat :=
  match c with
  | .time =>
    if 0x100 ≤ o ∧ o < 0x300 ∧ (o - 0x100) % 0x40 = 0x24 then some ((o - 0x100) / 0x40 + 256 * 10000) else none
  | .axis =>
    let n := pageInstance p
    if o = 0x088 then some (axisType n + 2 * 16 + (if n < 8 then 0 else (n - 8) * 256) + 127 * 65536)
    else if o = 0x09C then
      some (match axisType n with
        | 0 => 6000 + 65536 * 52000
        | 1 => 12000 + 65536 * 6000
        | _ => 20000 + 65536 * 6000)
    else none
  | .gate => if o = 0x090 then some (100 + 65536 * grossReset (pageInstance p)) else none
  | .thermalA => if 0x200 ≤ o ∧ o < 0x280 then some (zoneReset false o) else none
  | .thermalB =>
    if 0x200 ≤ o ∧ o < 0x280 then some (zoneReset true o)
    else if o = 0x094 then some (1000 + 65536 * 400)
    else none
  | .mailbox =>
    if 0x100 ≤ o ∧ o < 0x300 ∧ (o - 0x100) % 16 = 4 then
      let m := (o - 0x100) / 16
      some (if m % 2 = 0 then m / 2 + 65536 * 0x0100 else 0x0100 + 65536 * (m / 2))
    else none
  | .hvio => if o = 0x080 ∧ p ≠ pHVIO 0 then some 0 else none
  | _ => none

/-- A register word of W0 after reset, by its address. -/
def regReset (a : Nat) : Word :=
  let p := pageBase a
  let o := pageOff a
  match clsOf p with
  | none => 0
  | some c =>
    if o < 0x80 then BitVec.ofNat 32 (faceReset p o c)
    else match specialReset p o c with
      | some v => BitVec.ofNat 32 v
      | none => BitVec.ofNat 32 (rowsWord (rowsOf c) o)

/-! ### Table banks of W1 (R485) -/

/-- The rule value of PARTNER[b][k] (R180). -/
def partnerRule (b k : Nat) : Nat :=
  if 24 ≤ b ∧ 1 ≤ k ∧ k ≤ 24 ∧ b ≤ 23 + k then b - k
  else if b ≤ 23 ∧ 1 ≤ k ∧ k ≤ 24 ∧ 24 - k ≤ b then b + k
  else 0xFF

/-- A byte of the default emitter bank (R178, R181). -/
def defaultEmit (o : Nat) : Byte :=
  if o = 0 then 1
  else if o = 2 then 1
  else if o = 6 then 60
  else if o = 8 then 0xD0
  else if o = 9 then 0x07
  else if o = 0xA then 128
  else if 0x60 ≤ o ∧ o < 0xC0 then (if o % 2 = 1 then 0x40 else 0)
  else if 0x300 ≤ o ∧ o < 0x7E0 then BitVec.ofNat 8 (partnerRule ((o - 0x300) / 26) ((o - 0x300) % 26))
  else if 0x800 ≤ o ∧ o < 0x2CC0 then (if o % 2 = 1 then 0x80 else 0)
  else 0

/-- The first byte past the table banks of W1; the view begins at 0x200_0000 (R399). -/
def w1TableEnd : Nat := 0x02000000

/-- A byte of the table banks after module reset (R485, R122, R127, R178). The manual gives the Governor coefficient banks no
default: they hold zeros (DESIGN CHOICE, assumption 14). -/
def w1Reset (o : Nat) : Byte :=
  if o = 0x1000 ∨ o = 0x2000 then 1
  else if o < 0x20000 then 0
  else if o < 0x60000 then defaultEmit ((o - 0x20000) % 0x4000)
  else if o < 0x100000 then 0
  else if o < 0x180000 then defaultWarp ((o - 0x100000) % 0x8000)
  else if o < 0x1000000 then 0
  else if o < 0x2000000 then defaultRendering ((o - 0x1000000) % 0x100000)
  else 0

end Sys2Proof.Machine
end

