-- ==== Sys2Proof/Machine/Ops.lean ====
section
/-! DEFINITION. The operations every block shares: reading and writing register fields, raising a source with its reaction and
first-error capture (R452–R456), interrupts and MSI-X messages (R401, R479), the log queue (R377, R378), staged fields (R480),
and the permission of a register write (R398). -/

namespace Sys2Proof.Machine

/-! ### Register fields -/

/-- PRESS_TIME now, as a number (R42). -/
def Hw.now (h : Hw) : Nat := h.clk.time.toNat

/-- The time since the clock started, in units of PRESS_TIME: what durations are measured in, which a setting of PRESS_TIME does not touch
(R43). -/
def Hw.mono (h : Hw) : Stamp := BitVec.ofNat 64 (1024 * h.clk.cycles)

/-- A register word by its W0 address. -/
def Hw.word (h : Hw) (a : Nat) : Word := tget regReset h.regs a

/-- Write a register word by its W0 address. -/
def Hw.setWord (h : Hw) (a : Nat) (v : Word) : Hw := { h with regs := tset regReset h.regs a v }

/-- The W0 address of copy i of a field's register on the page at p. -/
def addrOf (f : Field) (p i : Nat) : Nat := p + f.off + f.stride * i

/-- A register field on the page at p. -/
def Hw.rd (h : Hw) (p : Nat) (f : Field) : Nat := bitsOf (h.word (addrOf f p 0)) f.hi f.lo

/-- Copy i of a register field. -/
def Hw.rdi (h : Hw) (p : Nat) (f : Field) (i : Nat) : Nat := bitsOf (h.word (addrOf f p i)) f.hi f.lo

/-- Whether a one-bit field is 1. -/
def Hw.is (h : Hw) (p : Nat) (f : Field) : Bool := decide (h.rd p f = 1)

/-- Whether copy i of a one-bit field is 1. -/
def Hw.isi (h : Hw) (p : Nat) (f : Field) (i : Nat) : Bool := decide (h.rdi p f i = 1)

/-- Write copy i of a register field. -/
def Hw.wri (h : Hw) (p : Nat) (f : Field) (i v : Nat) : Hw :=
  h.setWord (addrOf f p i) (putBits (h.word (addrOf f p i)) f.hi f.lo v)

/-- Write a register field. -/
def Hw.wr (h : Hw) (p : Nat) (f : Field) (v : Nat) : Hw := h.wri p f 0 v

/-- The largest value of a field. -/
def topOf (f : Field) : Nat := 2 ^ (f.hi + 1 - f.lo) - 1

/-- Add to a saturating counter. -/
def Hw.incBy (h : Hw) (p : Nat) (f : Field) (i n : Nat) : Hw := h.wri p f i (min (topOf f) (h.rdi p f i + n))

/-- Count once in a saturating counter. -/
def Hw.inc (h : Hw) (p : Nat) (f : Field) : Hw := h.incBy p f 0 1

/-- Count once in copy i of a saturating counter. -/
def Hw.inci (h : Hw) (p : Nat) (f : Field) (i : Nat) : Hw := h.incBy p f i 1

/-- Set or clear bit b of a field. -/
def Hw.setBit (h : Hw) (p : Nat) (f : Field) (b : Nat) (v : Bool) : Hw := h.wr p f (putBit (h.rd p f) b v)

/-- Whether bit b of a field is 1. -/
def Hw.bit (h : Hw) (p : Nat) (f : Field) (b : Nat) : Bool := bitAt (h.rd p f) b

/-- A 64-bit value held in a low and a high register. -/
def Hw.rd2 (h : Hw) (p : Nat) (lo hi : Field) (i : Nat) : Nat := h.rdi p lo i + 2 ^ 32 * h.rdi p hi i

/-- Write a value to a low and a high register. -/
def Hw.wr2 (h : Hw) (p : Nat) (lo hi : Field) (i v : Nat) : Hw :=
  (h.wri p lo i (v % 2 ^ 32)).wri p hi i (v / 2 ^ 32 % 2 ^ (hi.hi + 1 - hi.lo))

/-- What a staged field has in use after reset: its reset value, at every unit of its page. -/
def usedReset (a : Nat) : Word := regReset (a % 0x100000)

/-- The value in use of copy i of a staged field (R480). -/
def Hw.usei (h : Hw) (p : Nat) (f : Field) (i : Nat) : Nat := bitsOf (tget usedReset h.used (addrOf f p i)) f.hi f.lo

/-- The value in use of a staged field. -/
def Hw.use (h : Hw) (p : Nat) (f : Field) : Nat := h.usei p f 0

/-- Whether a staged one-bit field is 1 in use. -/
def Hw.usesi (h : Hw) (p : Nat) (f : Field) (i : Nat) : Bool := decide (h.usei p f i = 1)

/-- The value in use of a page-wide staged field at a unit that applies it at a boundary of its own (R480): bridge, channel or
lane u. -/
def Hw.useAt (h : Hw) (u p : Nat) (f : Field) : Nat := h.usei (p + 0x100000 * (u + 1)) f 0

/-- A free value: the next of the values the manual leaves open, and the state with the counter advanced. -/
def Hw.free (h : Hw) (w : Nat) : Nat × Hw := ((Config.freeValue w h.fresh).toNat, { h with fresh := h.fresh + 1 })

/-- Latch a word for a master at the address where it will read it (R58). -/
def Hw.latch (h : Hw) (m : Master) (a : Nat) (v : Word) : Hw :=
  { h with latches := tset (fun _ => (0 : Word)) h.latches (m.toNat * 2 ^ 20 + a) v }

/-- Record something sent. -/
def Hw.send (h : Hw) (x : Sent) : Hw := { h with sent := x :: h.sent }

/-- Leave something for the end of the step. -/
def Hw.later (h : Hw) (d : Due) : Hw := { h with due := h.due ++ [d] }

/-! ### Master identities (R395, R402, R429, R435) -/

/-- The engine kernel as a master, on whichever core it runs (R416). -/
def kernelMaster : Master := 0x0100

/-- Whether a master is one of the engine kernel's cores (R416, R429). -/
def isKernel (m : Master) : Bool := decide (0x0100 ≤ m.toNat ∧ m.toNat ≤ 0x0107)

/-- The host context of a master (R395). -/
def ctxOf (m : Master) : Option Nat := if m.toNat < 16 then some m.toNat else none

/-- Whether a master is host context 0 or the engine kernel. -/
def isTrusted (m : Master) : Bool := decide (m.toNat = 0) || isKernel m

/-! ### The state of the module -/

/-- IDENT.MOD_STS.STATE (R394): 0 BOOT, 1 INIT, 2 READY, 3 BOOT_FAIL, 4 FAULTED. -/
def Hw.modState (h : Hw) : Nat := h.rd pIDENT IDENT.MOD_STS_STATE

/-- The module is READY and not in a module reset (R382, R391). -/
def Hw.ready (h : Hw) : Bool := decide (h.modState = 2) && !h.boot.inReset

/-- The engine kernel runs: from READY on; not in BOOT_FAIL, before READY or in a module reset (R453). -/
def Hw.kernelRuns (h : Hw) : Bool := h.ready

/-! ### The log queue (R377, R378) -/

/-- Queue a log record; a full queue drops it and counts it (R378). The raise of LOG_DROP is the caller's, `Hw.log`. -/
def Hw.logQueue (h : Hw) (r : LogRec) : Hw :=
  if h.mram.queue.length < 64 then
    let h := { h with mram := { h.mram with queue := h.mram.queue ++ [r] } }
    h.wr pSLUICE SLUICE.LOG_QFREE (64 - h.mram.queue.length)
  else
    let h := h.inc pSLUICE SLUICE.LOG_DROP
    { h with mram := { h.mram with dropped := h.mram.dropped + 1 } }

/-! ### Interrupts and MSI-X (R401, R479) -/

/-- Whether a context is working: VF Enable and Bus Master Enable set (R395). -/
def Hw.ctxWorks (h : Hw) (c : Nat) : Bool :=
  h.isi pHOST HOST.CTX_STS_ENABLED c && h.isi pHOST HOST.CTX_STS_BUS_MASTER c

/-- Whether a context is in reset (R411). -/
def Hw.ctxInReset (h : Hw) (c : Nat) : Bool := h.isi pHOST HOST.CTX_STS_IN_RESET c

/-- The entries of a context's MSI-X table that the module backs: the count in effect, and until it takes effect the smaller of
the count shown and VEC_COUNT (R401). -/
def Hw.backed (h : Hw) (c : Nat) : Nat :=
  min (tget (fun _ => 128) h.vecShown c) (h.rdi pHOST HOST.VEC_COUNT c)

/-- Whether an MSI-X message can be sent (R401). -/
def Hw.msixGoes (h : Hw) (c v : Nat) : Bool :=
  decide (v < h.backed c) && !h.ctxInReset c && h.ctxWorks c

/-- The MSI-X state of context c's function. -/
def Hw.msixFn (h : Hw) (c : Nat) : MsixFn := tget (fun _ => MsixFn.reset) h.msixFns c
def Hw.modMsix (h : Hw) (c : Nat) (f : MsixFn → MsixFn) : Hw := { h with msixFns := tset (fun _ => MsixFn.reset) h.msixFns c (f (h.msixFn c)) }

/-- A message that can be sent goes out, or is pending where its vector or function is masked (R401). -/
def Hw.msixOut (h : Hw) (c v : Nat) : Hw :=
  let x := h.msixFn c
  if x.on && x.clear.contains v then h.send (.msix c v)
  else h.modMsix c fun x => if x.pending.contains v then x else { x with pending := x.pending ++ [v] }

/-! ### Sources, reactions and the first-error capture (R452–R456) -/

/-- A capture with no master and access type 0. -/
def cap0 (a : Nat) : Cap := ⟨a, 0xFFFF, 0, false⟩

/-- The reaction code of source i of a page (R453). -/
def Hw.reaction (h : Hw) (p i : Nat) : Nat :=
  if i < 8 then h.rd p FACE.FLT_REACT_LO / 16 ^ i % 16 else h.rd p FACE.FLT_REACT_HI / 16 ^ (i - 8) % 16

/-- The mask of the bits of sources below a page's NSRC, four bits or one bit each. -/
def srcMask (c : Cls) (b bits : Nat) : Nat := 2 ^ (bits * (min (nsrc c) (b + 32 / bits) - b)) - 1

/-- A reaction word as written (R454): bit 2 stays 1 where the shipped reaction has it, bit 3 where it is a module reset. FABRIC_FAULT
keeps its whole reaction (R468). -/
def reactWord (c : Cls) (b v : Nat) : Nat :=
  (List.range 8).foldl (fun v i =>
    let r := resetReaction c (b + i)
    let v := if c = .fantail ∧ b + i = 1 then (putBits (BitVec.ofNat 32 v) (4 * i + 3) (4 * i) r.1).toNat else v
    let v := if bitAt r.1 2 then putBit v (4 * i + 2) true else v
    if bitAt r.1 3 && r.2 then putBit v (4 * i + 3) true else v) (v &&& srcMask c b 4)

/-- FLT_SCOPE as written (R454): a bit is read-only 1 where the shipped reaction is a module reset. -/
def scopeWritten (c : Cls) (v : Nat) : Nat :=
  (List.range 16).foldl (fun v i =>
    let r := resetReaction c i
    if bitAt r.1 3 && r.2 then putBit v i true else v) (v &&& (2 ^ nsrc c - 1))

/-- The raises of this clock, newest first (R456). -/
def Hw.raisedNow (h : Hw) : List Raised := if h.raisedAt = h.mono then h.raised else []

/-- The raises of page p in this clock. -/
def Hw.raisedOn (h : Hw) (p : Nat) : List Raised := h.raisedNow.filter fun r => decide (r.page = p)

/-- The order in which the sources of a page take its first-error capture where several are raised in one clock: the lowest index first
(R456), and on a GATE page SUPPLY, BRIDGE_FAULT, BOOT_UVLO, SHORT (R273). -/
def captureRank (p src : Nat) : Nat := if clsOf p = some .gate then [3, 1, 2, 0].getD src src else src

/-- The first-error capture of page p takes a raise (R455). -/
def Hw.capture (h : Hw) (p i : Nat) (c : Cap) : Hw :=
  let h := h.wr2 p FACE.FE_ADDR_LO FACE.FE_ADDR_HI 0 c.addr
  let h := h.wr p FACE.FE_INFO_MASTER c.master
  let h := h.wr p FACE.FE_INFO_ACCESS c.access
  let h := h.wr p FACE.FE_INFO_SOURCE i
  let h := h.wr p FACE.FE_INFO_INJECTED (b2n c.injected)
  let h := h.wr p FACE.FE_INFO_VALID 1
  let h := h.wr2 p FACE.FE_TIME_LO FACE.FE_TIME_HI 0 h.now
  { h with capAt := tset (fun _ => none) h.capAt p (some h.mono) }

/-- Whether source i takes the capture of page p: it is armed, or took a source of this clock that comes after i (R455, R456). -/
def Hw.captures (h : Hw) (p i : Nat) : Bool :=
  !h.is p FACE.FE_INFO_VALID || (decide (tget (fun _ => (none : Option Stamp)) h.capAt p = some h.mono)
    && decide (captureRank p i < captureRank p (h.rd p FACE.FE_INFO_SOURCE)))

/-- Set FLT_STS and run the first-error capture (R452, R455, R456). -/
def Hw.record (h : Hw) (p i : Nat) (c : Cap) : Hw :=
  let takes := h.captures p i
  let count := if h.is p FACE.FE_INFO_VALID then min 0xFFFFFFFF (h.rd p FACE.FE_COUNT + 1) else 1
  let h : Hw := { h with raised := ⟨p, i, c, h.bit p FACE.EVT_PEND i⟩ :: h.raisedNow, raisedAt := h.mono }
  let h := h.setBit p FACE.FLT_STS i true
  (if takes then h.capture p i c else h).wr p FACE.FE_COUNT count

/-- FE_INFO.VALID is written 1 (R455, R456): the capture is re-armed, and the raises of the same clock are captured after it. -/
def Hw.rearm (h : Hw) (p : Nat) : Hw :=
  let rs := h.raisedOn p
  let h := (h.wr p FACE.FE_INFO_VALID 0).wr p FACE.FE_COUNT 0
  let first := rs.reverse.foldl (fun (a : Option Raised) r => match a with
    | some x => if captureRank p r.source < captureRank p x.source then some r else some x
    | none => some r) none
  match first with
  | some r => (h.capture p r.source r.cap).wr p FACE.FE_COUNT rs.length
  | none => h

/-- The half-period of the Fantail output, in cycles of the 1 GHz system clock (R461). -/
def Hw.fanHalf (h : Hw) : Nat := 500000000 / h.rd pFANTAIL FANTAIL.FT_FREQ

/-- The Fantail output toggles; its first edge comes one half-period later (R463). -/
def Hw.fanStart (h : Hw) : Hw :=
  let h := (h.wr pFANTAIL FANTAIL.FT_STS_TOGGLING 1).wr pFANTAIL FANTAIL.FT_STS_CAUSE 0
  { h with fanIn := h.fanHalf }

/-- One cycle of the Fantail output: an edge every half-period, at the frequency that stands when the last one came (R461). -/
def Hw.fanTick (h : Hw) : Hw :=
  if !h.is pFANTAIL FANTAIL.FT_STS_TOGGLING then h
  else if h.fanIn ≤ 1 then
    let h := h.wr pFANTAIL FANTAIL.FT_STS_LEVEL (1 - h.rd pFANTAIL FANTAIL.FT_STS_LEVEL)
    { h with fanIn := h.fanHalf }
  else { h with fanIn := h.fanIn - 1 }

/-- Stop the Fantail output for a cause of R462: the level is held and the stop is counted. -/
def Hw.stopFantail (h : Hw) (cause page src : Nat) : Hw :=
  let h := h.wr pFANTAIL FANTAIL.FT_STS_TOGGLING 0
  let h := h.wr pFANTAIL FANTAIL.FT_STS_CAUSE cause
  let h := h.inc pFANTAIL FANTAIL.FT_STOPS
  if cause = 1 then (h.wr pFANTAIL FANTAIL.FT_STOP_SRC_PAGE page).wr pFANTAIL FANTAIL.FT_STOP_SRC_SOURCE src else h

/-- What a reaction code does beyond the record, but for interrupts and the Fantail (R453): the trap, and the reset left for the
end of the step. A trap that finds no engine kernel is counted in FE_COUNT. -/
def Hw.react (h : Hw) (p i code : Nat) : Hw :=
  let h := if bitAt code 1 then (if h.kernelRuns then h.send (.trap p i) else h.inc p FACE.FE_COUNT) else h
  if bitAt code 3 then
    (if h.bit p FACE.FLT_SCOPE i then h.later (.moduleReset 2 p i true) else h.later (.blockReset p))
  else h

/-- Raise source i of page p (R452, R453), with fuel for the raises a raise may cause: MSIX_DROP when its message cannot be sent
(R401) and ALIVE_STOPPED when it freezes the Fantail (R462, R473). Both settle: a second MSIX_DROP finds EVT_PEND set, and a
second freeze finds the output frozen. For HUNG the block that hangs is reset, not FANTAIL (R466). -/
def Hw.raiseN : Nat → Nat → Nat → Cap → Hw → Hw
  | 0, _, _, _, h => h
  | n + 1, p, i, c, h =>
    let code := h.reaction p i
    let h := h.record p i c
    let h :=
      if bitAt code 0 then
        let sends := !h.bit p FACE.EVT_PEND i && !h.bit p FACE.EVT_MASK i
        let h := h.setBit p FACE.EVT_PEND i true
        if sends then
          if h.is p FACE.EVT_VECTOR_KERNEL then h.send (.kernelIrq p i)
          else
            let x := h.rd p FACE.EVT_VECTOR_CONTEXT
            let v := h.rd p FACE.EVT_VECTOR_VECTOR
            if h.msixGoes x v then h.msixOut x v
            else Hw.raiseN n pHOST 5 ⟨v, x, 1, false⟩ (h.inc pHOST HOST.MSIX_DROP)
        else h
      else h
    let h :=
      if bitAt code 2 && h.is pFANTAIL FANTAIL.FT_STS_TOGGLING then
        Hw.raiseN n pFANTAIL 0 ⟨p, 0xFFFF, 0, false⟩ (h.stopFantail 1 p i)
      else h
    if p = pFANTAIL ∧ i = 2 ∧ ¬ h.bit pFANTAIL FACE.FLT_SCOPE 2 then
      let h := if bitAt code 1 then (if h.kernelRuns then h.send (.trap p i) else h.inc p FACE.FE_COUNT) else h
      if bitAt code 3 then h.later (.blockReset (pageBase (c.addr % 2 ^ 32))) else h
    else h.react p i code

/-- Raise source i of page p (R452, R453). -/
def Hw.raise (h : Hw) (p i : Nat) (c : Cap) : Hw := Hw.raiseN 6 p i c h

/-- A source's cause persists, or has ended: EVT_RAW (R452). -/
def Hw.persist (h : Hw) (p i : Nat) (v : Bool) : Hw := h.setBit p FACE.EVT_RAW i v

/-- Freeze the Fantail for cause 2 to 5 (R462); a frozen output keeps its first cause. -/
def Hw.freezeFantail (h : Hw) (cause : Nat) : Hw :=
  if h.is pFANTAIL FANTAIL.FT_STS_TOGGLING then (h.stopFantail cause 0 0).raise pFANTAIL 0 (cap0 0) else h

/-- Send an MSI-X message, leave it pending while masked, or count it and raise MSIX_DROP (R401). -/
def Hw.msix (h : Hw) (c v : Nat) : Hw :=
  if h.msixGoes c v then h.msixOut c v else (h.inc pHOST HOST.MSIX_DROP).raise pHOST 5 ⟨v, c, 1, false⟩

/-- FE_ADDR of the SLUICE page: step and rail (R380). -/
def sqCap (pc r : Nat) (inj : Bool) : Cap := ⟨pc % 256 + 256 * r, 0x0300, 7, inj⟩

/-- The capture of a raise of the SLUICE page: the step and the rail where the Sluice stands, or stood last, as SQ_STS shows them. -/
def Hw.sqCapNow (h : Hw) (inj : Bool) : Cap := sqCap (h.rd pSLUICE SLUICE.SQ_STS_PC) (h.rd pSLUICE SLUICE.SQ_STS_RAIL) inj

/-- Queue a log record, raising LOG_DROP where the queue is full (R378, R380). -/
def Hw.log (h : Hw) (r : LogRec) : Hw :=
  let full := decide (64 ≤ h.mram.queue.length)
  let h := h.logQueue r
  if full then h.raise pSLUICE 5 (h.sqCapNow false) else h

/-- PAGE_ID[31:16] of a page, the PAGE field of its log records (R377). -/
def pageTag (p : Nat) : Nat := (regReset p).toNat / 65536

/-- The kind of an engine kernel's log record to which the manual gives none (assumption 20): within 0x1000–0xFFFF (R377). -/
def logKind (k : Nat) : Nat := 0x1000 + (Config.kernelKind k).toNat % 0xF000

/-- A log record of a refused write, for the fields whose chapter says the write is "ignored and logged": the manual gives no
kind, so the kind is an open value of the engine kernel's range (assumption 20). DATA holds the address. -/
def Hw.logRefused (h : Hw) (m : Master) (a : Nat) : Hw :=
  h.log ⟨logKind 3, 0, m.toNat, pageTag (pageBase a), a⟩

/-! ### Fault injection (R458–R460) -/

/-- Whether an injection of a checker at a target of page p is armed. -/
def Hw.injArmed (h : Hw) (p checker target : Nat) : Bool :=
  h.is p FACE.FLT_INJ_PENDING && decide (h.rd p FACE.FLT_INJ_CHECKER = checker ∧ h.rd p FACE.FLT_INJ_TARGET = target)

/-- An injection has acted: FIRED, and its log record, whose kind the manual does not give (assumption 20). -/
def Hw.injFired (h : Hw) (p : Nat) : Hw :=
  let d := h.rd p FACE.FLT_INJ_CHECKER + 256 * h.rd p FACE.FLT_INJ_TARGET
  let h := ((h.wr p FACE.FLT_INJ_PENDING 0).wr p FACE.FLT_INJ_ARM 0).wr p FACE.FLT_INJ_FIRED 1
  h.log ⟨logKind 5, 0, 0xFFFF, pageTag p, d⟩

/-- A fabric transaction to page p: an armed FABRIC_PARITY injection fires (R459, R460). -/
def Hw.fabricUse (h : Hw) (p : Nat) : Hw :=
  if h.injArmed pFANTAIL 3 (p / 4096) then (h.injFired pFANTAIL).raise pFANTAIL 1 ⟨p, 0xFFFF, 0, true⟩ else h

/-! ### Refusals (R398) -/

/-- A refused access: counted in HOST.REFUSED_WR and captured with ACCESS_REFUSED (R398, R399, R475, R486). w1 marks an offset of
W1. -/
def Hw.refuse (h : Hw) (m : Master) (off : Nat) (w1 : Bool) (write : Bool) : Hw :=
  (h.inc pHOST HOST.REFUSED_WR).raise pHOST 3 ⟨off + (if w1 then 2 ^ 63 else 0), m.toNat, b2n write, false⟩

/-- Whether a W0 page answers at all in the module's state (R382, R387, R428): IDENT always; every page from READY on; in
BOOT_FAIL also PRESENCE, MAILBOX and HOST. The engine kernel and the boot write the pages before READY. -/
def Hw.pageServed (h : Hw) (m : Master) (p : Nat) : Bool :=
  decide (p = pIDENT) || h.ready || (isKernel m && !h.boot.inReset && decide (h.modState ≠ 4))
    || (decide (h.modState = 3) && decide (p = pPRESENCE ∨ p = pMAILBOX ∨ p = pHOST))

/-- Whether the block of a page answers its block registers: it is not in reset and not hung (R465, R466). -/
def Hw.blockAnswers (h : Hw) (p : Nat) : Bool :=
  !h.is p FACE.PAGE_STS_IN_RESET && !h.is p FACE.PAGE_STS_HUNG

/-- Whether accesses of a master have effect: a context in reset has none (R411); one link down has none. -/
def Hw.masterActs (h : Hw) (m : Master) : Bool :=
  match ctxOf m with
  | some c => !h.ctxInReset c
  | none => true

/-- Whether a master may write the register at an offset of a page (R398): context 0 and the engine kernel every page; another
context only the registers R398 names. Other masters none. -/
def Hw.mayWrite (h : Hw) (m : Master) (a : Nat) : Bool :=
  if isTrusted m then true
  else match ctxOf m with
  | none => false
  | some c =>
    let p := pageBase a
    let o := pageOff a
    match clsOf p with
    | some .headrace => decide (o = 0xA0 ∨ o = 0xA4 ∨ o = 0xA8 ∨ o = 0xAC) || decide (0x100 + 0x20 * c ≤ o ∧ o < 0x120 + 0x20 * c)
    | some .codecEnc => decide (o = CODEC_ENC.JOB_SUBMIT.off)
    | some .mailbox =>
      decide (0x100 ≤ o ∧ o < 0x300) &&
        (let b := (o - 0x100) / 16
         decide (h.rdi p MAILBOX.MB_BIND_SENDER b = c ∨ h.rdi p MAILBOX.MB_BIND_RECEIVER b = c))
    | some .dma =>
      decide (0x100 ≤ o ∧ o < 0x500) && decide (h.rdi p DMA.CH_OWNER ((o - 0x100) / 64) = c)
        && decide ((o - 0x100) % 64 ≠ 0x20)
    | some .host => decide (o = HOST.VIEW_BASE.off + HOST.VIEW_BASE.stride * c)
    | _ => false

/-- A write of the register at W0 address a by a master, with what it does where it is accepted: nothing while the page is not
served or the context is in reset (R382, R411); refused under R398 where the master may not write it; nothing where the block
of a block register does not answer (R465). -/
def Hw.writeTo (h : Hw) (m : Master) (a : Nat) (effect : Hw → Hw) : Hw :=
  if !h.pageServed m (pageBase a) || !h.masterActs m then h
  else if !h.mayWrite m a then h.refuse m a false true
  else if decide (0x80 ≤ pageOff a) && !h.blockAnswers (pageBase a) then h
  else (effect h).fabricUse (pageBase a)

/-- A write that a chapter accepts from the engine kernel only: from any other master it is ignored and captured on the page's
Faceplate as a refusal, and logged (R434, R463, R380). -/
def Hw.kernelOnly (h : Hw) (m : Master) (a : Nat) (effect : Hw → Hw) : Hw :=
  h.writeTo m a fun h => if isKernel m then effect h else h.logRefused m a

/-! ### Presence (R427) -/

/-- Whether less than 120 s have passed since the last press (R427). -/
def Hw.buttonRuns (h : Hw) : Bool :=
  match h.pins.buttonEnds with
  | some e => decide (h.mono < e)
  | none => false

/-- Whether the presence window is open (R427): the button window runs or the SEAL loop is closed. -/
def Hw.windowOpen (h : Hw) : Bool := h.buttonRuns || h.pins.sealClosed

/-- An attempt at a gated operation of a kind, for kind 1 at a W0 address: raised, logged, and counted as accepted or refused
(R427, R434). -/
def Hw.gated (h : Hw) (m : Nat) (kind addr : Nat) (ok : Bool) : Hw :=
  let h := if ok then h.inc pPRESENCE PRESENCE.PR_OPS else h.inc pPRESENCE PRESENCE.PR_REFUSED
  let h := h.wr pPRESENCE PRESENCE.LAST_OP_MASTER m
  let h := h.wr pPRESENCE PRESENCE.LAST_OP_KIND kind
  let lo := kind % 65536 + 65536 * b2n (!ok)
  let a := if kind = 1 then addr else 0
  let h := h.log ⟨0x1002, b2n ok, m, pageTag pPRESENCE, lo + 2 ^ 32 * a⟩
  h.raise pPRESENCE 1 ⟨lo + 2 ^ 32 * a, m, 1, false⟩

/-- The engine kernel writes a ceiling to the configuration store (R427). -/
def Hw.storeCeiling (h : Hw) (a : Nat) : Hw :=
  { h with mram := { h.mram with ceilings := tset (fun _ => (0 : Word)) h.mram.ceilings a (h.word a) } }

/-- A write of an RWP field: accepted while a presence window is open, refused and logged otherwise (R8, R427). -/
def Hw.gatedWrite (h : Hw) (m : Master) (a : Nat) (effect : Hw → Hw) : Hw :=
  let ok := h.windowOpen
  let h := h.gated m.toNat 1 a ok
  if ok then effect h else h

/-! ### Units by station and the Millpond -/

/-- Station s. -/
def Hw.stn (h : Hw) (s : Nat) : Station := tget (fun _ => Station.reset) h.stations s

/-- Change station s. -/
def Hw.modStn (h : Hw) (s : Nat) (f : Station → Station) : Hw :=
  { h with stations := tset (fun _ => Station.reset) h.stations s (f (h.stn s)) }

/-- The size of the Millpond address space (R59). -/
def mpaEnd : Nat := 72000000000

/-- The first address past the commons (R62). -/
def commonsEnd : Nat := 0x10000000

/-- A byte of the Millpond: an address nothing has written reads the zero of the initialisation at mains-on (R382). -/
def Hw.byte (h : Hw) (a : Nat) : Byte := tget (fun _ => (0 : Byte)) h.mem a

/-- n bytes of the Millpond from an address. -/
def Hw.bytes (h : Hw) (a n : Nat) : List Byte := (List.range n).map fun i => h.byte (a + i)

/-- Write one byte of the Millpond. -/
def Hw.putByte (h : Hw) (a : Nat) (b : Byte) : Hw := { h with mem := tset (fun _ => (0 : Byte)) h.mem a b }

/-- Write bytes to the Millpond from an address; parity follows in the same operation (R59). -/
def Hw.putBytes (h : Hw) (a : Nat) : List Byte → Hw
  | [] => h
  | b :: bs => (h.putByte a b).putBytes (a + 1) bs

/-- A byte of the table banks in W1 (R485). -/
def Hw.table (h : Hw) (o : Nat) : Byte := tget w1Reset h.w1 o

/-- Write a byte of the table banks. -/
def Hw.putTable (h : Hw) (o : Nat) (b : Byte) : Hw := { h with w1 := tset w1Reset h.w1 o b }

/-- A little-endian number of the table banks. -/
def Hw.tableLE (h : Hw) (o n : Nat) : Nat := ofLE ((List.range n).map fun i => h.table (o + i))

/-- A field of n bytes at an offset of row g of the active grade table (R78, R485). -/
def Hw.grade (h : Hw) (g o n : Nat) : Nat := h.tableLE (0x100 * h.rd pHEADRACE HEADRACE.GT_BANK_ACTIVE + 32 * g + o) n

/-- POLY_RPM of a grade (R78). -/
def Hw.polyRpm (h : Hw) (g : Nat) : Nat := h.grade g 4 4

/-- The running grade (R77, R86). -/
def Hw.runGrade (h : Hw) : Nat := h.rd pHEADRACE HEADRACE.HR_STS_RUN_GRADE

/-- The health of the Millpond: how many of the four stacks are lost (R60, R61). -/
def Hw.lostStacks (h : Hw) : Nat := 4 - ((List.range 4).filter fun i => h.bit pHEADRACE HEADRACE.HR_STS_STACK_OK i).length

/-- Whether the Millpond can serve a read: at most one stack is lost (R60, R61). -/
def Hw.storeReads (h : Hw) : Bool := decide (h.lostStacks ≤ 1)

/-- The stack of the data unit that holds an MPA (R59). -/
def stackOf (a : Nat) : Nat :=
  let par := a / 768 % 4
  let u := a % 768 / 256
  if u < par then u else u + 1

/-- Whether the stacks in service can give n bytes from an MPA (R60): at most one is lost, or none of those that hold the bytes. -/
def Hw.stacksGive (h : Hw) (a n : Nat) : Bool :=
  h.storeReads || (List.range (ceilDiv (a % 256 + n) 256)).all fun i => h.bit pHEADRACE HEADRACE.HR_STS_STACK_OK (stackOf (a / 256 * 256 + 256 * i))

/-- The commons range of a context, as MPA from and to (R399). -/
def Hw.commonsRange (h : Hw) (c : Nat) : Nat × Nat :=
  (h.rdi pHOST HOST.COM_BASE c * 65536, min (h.rdi pHOST HOST.COM_LIMIT c * 65536) commonsEnd)

/-- The page-data partition of a context (R62). -/
def Hw.partition (h : Hw) (c : Nat) : Nat × Nat :=
  (min (h.rdi pHEADRACE HEADRACE.PART_BASE c) 34332 * 2097152, min (h.rdi pHEADRACE HEADRACE.PART_LIMIT c) 34332 * 2097152)

/-- Whether a range of n bytes from a lies in a range. -/
def inRange (a n : Nat) (r : Nat × Nat) : Bool := decide (r.1 ≤ a ∧ a + n ≤ r.2)

end Sys2Proof.Machine
end

