-- ==== Sys2Proof/Machine/Shadows.lean ====
section
/-! DEFINITION. Shadow values of staged fields, and the units of a page that wait to take them (R480). -/

namespace Sys2Proof.Machine

/-! ### Taking the shadow (R480) -/

/-- The word of staged fields that a boundary of this clock applies (R482): the one before a write of the same clock. -/
def Hw.shadow (h : Hw) (a : Nat) : Word :=
  match tget (fun _ => none) h.shadowWas a with
  | some (c, w) => if c = h.clk.cycles then w else h.word a
  | none => h.word a

/-- A word with a staged field is about to be written. -/
def Hw.shadowWritten (h : Hw) (a : Nat) : Hw :=
  { h with shadowWas := tset (fun _ => none) h.shadowWas a (some (h.clk.cycles, h.shadow a)) }

/-- Copy i of a staged field takes its shadow value at an offset q of the values in use: 0 for the page's own, 0x100000 × (u + 1)
for unit u of a page-wide field. -/
def Hw.applyField (h : Hw) (p : Nat) (f : Field) (i q : Nat) : Hw :=
  let a := addrOf f p i
  { h with used := tset usedReset h.used (a + q) (putBits (tget usedReset h.used (a + q)) f.hi f.lo (bitsOf (h.shadow a) f.hi f.lo)) }

/-- The staged fields of a page's class. -/
def stagedRows (p : Nat) : List FieldRow :=
  match clsOf p with
  | some c => (rowsOf c).filter fun r => r.staged
  | none => []

/-- Every copy of the staged fields that a test picks takes its shadow value. -/
def Hw.applyRows (h : Hw) (p q : Nat) (sel : FieldRow → Nat → Bool) : Hw :=
  (stagedRows p).foldl (fun h r => forN (max 1 r.count) (fun i h => if sel r i then h.applyField p r.fld i q else h) h) h

/-- Whether a field of a STEP page applies at the chopping period: CHOP_PER, KP and KI (R296). -/
def isChopField (f : Field) : Bool := decide (f = STEP.CHOP_PER ∨ f = STEP.KP ∨ f = STEP.KI)

/-- Unit u of a page takes the shadow values of the fields it applies at a boundary of its own (R480): a channel or slot its own
copies, the tick and the chopping period of a STEP page their fields, a bridge or lane the page's fields at an offset of its own. -/
def Hw.takeShadows (h : Hw) (p u : Nat) : Hw :=
  match clsOf p with
  | some .gate | some .ivina => h.applyRows p (0x100000 * (u + 1)) fun _ _ => true
  | some .feedback | some .feedback2 | some .hvio | some .gov => h.applyRows p 0 fun _ i => decide (i = u)
  | some .step => h.applyRows p 0 fun r _ => isChopField r.fld == decide (u = 1)
  | _ => h.applyRows p 0 fun _ _ => true

/-! ### COMMIT_PENDING -/

/-- The key of unit u of a page in the list of those that wait. -/
def waitKey (p u : Nat) : Nat := p / 4096 * 64 + u

/-- Whether unit u of a page has still to apply a pending COMMIT. -/
def Hw.waits (h : Hw) (p u : Nat) : Bool := h.waitCommit.contains (waitKey p u)

/-- Show COMMIT_PENDING, and COMMIT_WAIT of a GOV page. -/
def Hw.showPending (h : Hw) (p : Nat) : Hw :=
  let v := b2n (h.waitCommit.any fun k => decide (k / 64 = p / 4096))
  let h := h.wr p FACE.PAGE_STS_COMMIT_PENDING v
  if clsOf p = some .gov then h.wr p GOV.GV_STS_COMMIT_WAIT v else h

/-- Unit u of a page waits no longer. -/
def Hw.unitDone (h : Hw) (p u : Nat) : Hw :=
  { h with waitCommit := h.waitCommit.filter fun k => decide (k ≠ waitKey p u) }.showPending p

/-- Whether unit u of a page applies a COMMIT at a boundary of this clock: it waits, and the COMMIT did not come in the same clock (R482). -/
def Hw.appliesNow (h : Hw) (p u : Nat) : Bool :=
  h.waits p u && decide (tget (fun _ => none) h.commitAt p ≠ some h.clk.cycles)

/-- Unit u of a page reaches a boundary that brings nothing but its staged values with it. -/
def Hw.unitBoundary (h : Hw) (p u : Nat) : Hw := if h.appliesNow p u then (h.takeShadows p u).unitDone p u else h

end Sys2Proof.Machine
end

