-- ==== Sys2Proof/Machine/Position.lean ====
section
/-! DEFINITION. SURF and BELT: the rational scale, the runout correction, extrapolation, validity and the belt mapping (R48–R56). -/

namespace Sys2Proof.Machine

/-- A quotient whose rounding the manual leaves open: exact where it divides, else the floor or one more (assumption 2). -/
def approxDiv (num : Int) (den : Nat) : Int :=
  if den = 0 then 0
  else if num % den = 0 then num / den
  else num / den + (if Config.roundsUp num.natAbs den then 1 else 0)

/-! ### Encoder channels by number (R240) -/

/-- The FEEDBACK page of channel c. -/
def fbPage (c : Nat) : Nat := pFEEDBACK (c / 8)

/-- A register field of encoder channel c. -/
def Hw.enc (h : Hw) (c : Nat) (f : Field) : Nat := h.rdi (fbPage c) f (c % 8)

/-- Whether a one-bit field of encoder channel c is 1. -/
def Hw.encIs (h : Hw) (c : Nat) (f : Field) : Bool := decide (h.enc c f = 1)

/-- Write a register field of encoder channel c. -/
def Hw.encWr (h : Hw) (c : Nat) (f : Field) (v : Nat) : Hw := h.wri (fbPage c) f (c % 8) v

/-- The staged value in use of encoder channel c. -/
def Hw.encUse (h : Hw) (c : Nat) (f : Field) : Nat := h.usei (fbPage c) f (c % 8)

/-- The inner state of encoder channel c. -/
def Hw.encSt (h : Hw) (c : Nat) : Enc := tget (fun _ => Enc.reset) h.encs c

/-- Change the inner state of encoder channel c. -/
def Hw.modEnc (h : Hw) (c : Nat) (f : Enc → Enc) : Hw :=
  { h with encs := tset (fun _ => Enc.reset) h.encs c (f (h.encSt c)) }

/-- The signed speed of encoder channel c, 1/16 count/s (R238). -/
def Hw.encSpeed (h : Hw) (c : Nat) : Int := signed 32 (h.enc c FEEDBACK.SPEED)

/-! ### Pages exposing -/

/-- Whether a page is exposing on station s: it has begun its first facet there and not ended its last (R73, R148, R155). -/
def PageRec.exposes (p : PageRec) (s : Nat) : Bool :=
  decide (p.state = .exposing) && bitAt p.mask s && (match p.stn[s]? with
    | some o => o.began && !o.ended
    | none => false)

/-- Whether a page is exposing on station s; otherwise the station is in a gap. -/
def Hw.exposingOn (h : Hw) (s : Nat) : Bool := h.headrace.pages.any fun p => p.exposes s

/-- Whether any page is in state EXPOSING: the press is in no gap of every station. That this, and not the stations' own EXPOSING
flags, is what 'no station is exposing' (R43) and 'a gap on every station' (R487) mean is the model's reading (DEDUCED, assumption 92). -/
def Hw.anyExposing (h : Hw) : Bool := h.headrace.pages.any fun p => decide (p.state = .exposing)

/-! ### SURF (R48–R54) -/

/-- The inner state of SURF of station s. -/
def Hw.surfSt (h : Hw) (s : Nat) : Surf := tget (fun _ => Surf.reset) h.surf s

/-- Change the inner state of SURF of station s. -/
def Hw.modSurf (h : Hw) (s : Nat) (f : Surf → Surf) : Hw :=
  { h with surf := tset (fun _ => Surf.reset) h.surf s (f (h.surfSt s)) }

/-- The drum encoder channel of station s in use. -/
def Hw.drumCh (h : Hw) (s : Nat) : Nat := h.usei pTIME TIME.SURF_CFG_ENC_CH s

/-- Entry i of the runout table of station s in bank b (R49, R485). -/
def Hw.runout (h : Hw) (b s i : Nat) : Int := signed 16 (h.tableLE (0x4000 + 0x1000 * b + 0x200 * s + 2 * (i % 256)) 2)

/-- The runout correction of station s at a count (R49): linear between entries floor(a) and floor(a) + 1, 0 until IDX0 is
latched. -/
def Hw.runoutAt (h : Hw) (s : Nat) (count : Int) : Int :=
  match (h.surfSt s).idx0 with
  | none => 0
  | some i0 =>
    let cpr := h.usei pTIME TIME.COUNTS_PER_REV s
    let b := h.rd pHEADRACE HEADRACE.GT_BANK_ACTIVE
    let n := ((count - i0) % (cpr : Int)).toNat * 256
    let k := n / cpr
    let e0 := h.runout b s k
    let e1 := h.runout b s (k + 1)
    e0 + approxDiv ((e1 - e0) * (n % cpr : Nat)) cpr

/-- One count of R48: the accumulator and base after a count forward or back. -/
def scaleStep (num den acc : Nat) (base : Int) (fwd : Bool) : Nat × Int :=
  if fwd then ((acc + num) % den, base + ((acc + num) / den : Nat))
  else
    let z : Int := (acc : Int) - num
    ((z % (den : Int)).toNat, base + z / (den : Int))

/-- Whether SURF of station s counts true to its drum since an index edge (R54). -/
def Hw.surfCounts (h : Hw) (s : Nat) : Bool :=
  let c := h.drumCh s
  h.usesi pTIME TIME.SURF_CFG_EN s && decide (h.usei pTIME TIME.COUNTS_PER_REV s ≠ 0) && decide (c < 20)
    && h.encIs c FEEDBACK.CH_CFG_EN && h.encIs c FEEDBACK.CH_STS_POS_VALID && !h.encIs c FEEDBACK.CH_STS_HWFAULT
    && (h.surfSt s).indexed

/-- The conditions of R54 on SURF of station s. -/
def Hw.surfOk (h : Hw) (s : Nat) : Bool :=
  h.surfCounts s && !h.isi pTIME TIME.SURF_STS_STALE s && !h.isi pTIME TIME.SURF_STS_REVERSE s

/-- Bring SURF_STS.VALID of station s up to date (R54). A drum revolution in which SURF does not count gives no ratio (R56). -/
def Hw.surfJudge (h : Hw) (s : Nat) : Hw :=
  let h := if h.surfCounts s then h else h.modSurf s fun u => { u with revAt := none }
  h.wri pTIME TIME.SURF_STS_VALID s (b2n (h.surfOk s))

/-- Bring SURF_STS.VALID of every station that follows channel c up to date. -/
def Hw.surfJudgeCh (h : Hw) (c : Nat) : Hw := forN 8 (fun s h => if h.drumCh s = c then h.surfJudge s else h) h

/-- A stale or reversed surface: the flag, the source, and the spoil of the page exposing (R52). -/
def Hw.surfFail (h : Hw) (s : Nat) (flag : Field) : Hw :=
  let h := h.wri pTIME flag s 1
  let h := h.raise pTIME 1 (cap0 s)
  let h := if h.exposingOn s then h.later (.spoilOn s 0x13) else h
  h.surfJudge s

/-- A count of the drum channel moves SURF of station s (R48, R49, R52); the way back is that since the page exposing
began. A channel with a hardware fault does not count for SURF (R235). -/
def Hw.surfCount (h : Hw) (s : Nat) (fwd : Bool) (pos : Int) (t : Stamp) : Hw :=
  let cpr := h.usei pTIME TIME.COUNTS_PER_REV s
  if !h.usesi pTIME TIME.SURF_CFG_EN s || decide (cpr = 0) || h.encIs (h.drumCh s) FEEDBACK.CH_STS_HWFAULT then h
  else
    let spr := h.usei pTIME TIME.SURF_PER_REV s
    let u := h.surfSt s
    let r := scaleStep spr cpr u.acc (u.base : Int) fwd
    let base : Nat := Int.toNat (r.2 % 2 ^ 48)
    let step := (r.2 - (u.base : Int)).natAbs
    let back := if !h.exposingOn s then 0 else if fwd then u.back - step else u.back + step
    let v : Coord := BitVec.ofInt 48 (Int.ofNat base + h.runoutAt s pos)
    let h := h.modSurf s fun u => { u with acc := r.1, base := base, sEdge := v, tEdge := t, back := back }
    let h := h.wr2 pTIME TIME.SURF_LO TIME.SURF_HI s v.toNat
    if !fwd && decide (64 < back) && !h.isi pTIME TIME.SURF_STS_REVERSE s then
      h.surfFail s TIME.SURF_STS_REVERSE
    else h

/-- SURF_s at a time after the last edge (R50): extrapolated with the measured speed, never below the edge value and never
reaching the value of the next forward count. -/
def Hw.surfAt (h : Hw) (s : Nat) (t : Nat) : Coord :=
  let u := h.surfSt s
  let c := h.drumCh s
  let cpr := h.usei pTIME TIME.COUNTS_PER_REV s
  let spr := h.usei pTIME TIME.SURF_PER_REV s
  if cpr = 0 then u.sEdge
  else
    let dt := (BitVec.ofNat 64 t - u.tEdge).toInt.toNat
    let adv := approxDiv (h.encSpeed c * spr * dt) (16 * cpr * 1024000000000)
    let pos := (h.encSt c).pos
    let nxt := scaleStep spr cpr u.acc (u.base : Int) true
    let room := nxt.2 + h.runoutAt s (pos + 1) - ((u.base : Int) + h.runoutAt s pos) - 1
    u.sEdge + BitVec.ofInt 48 (clampI 0 room adv)

/-- SURF_s predicted at most 500 µs ahead (R51): S_now + v·Δ + a·Δ²/2. -/
def Hw.surfPredict (h : Hw) (s : Nat) (now ahead : Nat) : Coord :=
  let c := h.drumCh s
  let cpr := h.usei pTIME TIME.COUNTS_PER_REV s
  let spr := h.usei pTIME TIME.SURF_PER_REV s
  let acc := signed 32 (h.enc c FEEDBACK.ACCEL)
  let v := approxDiv (h.encSpeed c * spr * ahead) (16 * cpr * 1024000000000)
  let a := approxDiv (acc * spr * ahead * ahead) (2 * cpr * 1024000000000 * 1024000000000)
  h.surfAt s now + BitVec.ofInt 48 (v + a)

/-! ### BELT (R55) -/

/-- The belt channel 0 or 1 in use. -/
def Hw.beltCh (h : Hw) (i : Nat) : Nat :=
  if i = 0 then h.use pTIME TIME.BELT_CFG_BELT0_CH else h.use pTIME TIME.BELT_CFG_BELT1_CH

/-- The scale of belt channel i in use: units and counts. -/
def Hw.beltScale (h : Hw) (i : Nat) : Nat × Nat :=
  if i = 0 then (h.use pTIME TIME.BELT_NUM0, h.use pTIME TIME.BELT_DEN0)
  else (h.use pTIME TIME.BELT_NUM1, h.use pTIME TIME.BELT_DEN1)

/-- The inner state of belt channel i. -/
def Belt.ch (b : Belt) (i : Nat) : BeltCh := if i = 0 then b.c0 else b.c1

/-- Change the inner state of belt channel i. -/
def Belt.modCh (b : Belt) (i : Nat) (f : BeltCh → BeltCh) : Belt :=
  if i = 0 then { b with c0 := f b.c0 } else { b with c1 := f b.c1 }

/-- Which channels BELT follows: the one it stays on after a fault, else BELT_SEL (R55): none for the mean. -/
def Hw.beltFollows (h : Hw) : Option Nat :=
  match h.belt.lone with
  | some i => some i
  | none => match h.use pTIME TIME.TIME_CTRL_BELT_SEL with
    | 1 => some 0
    | 2 => some 1
    | _ => none

/-- The scaled and offset position of belt channel i. -/
def Hw.beltOf (h : Hw) (i : Nat) : Int := (h.belt.ch i).base + (h.belt.ch i).off

/-- BELT before it wraps. -/
def Hw.beltValue (h : Hw) : Int :=
  match h.beltFollows with
  | some i => h.beltOf i
  | none => approxDiv (h.beltOf 0 + h.beltOf 1) 2

/-- BELT (R55). -/
def Hw.beltNow (h : Hw) : Coord := BitVec.ofInt 48 h.beltValue

/-- Show BELT and BELT_DIFF in the TIME page. -/
def Hw.beltShow (h : Hw) : Hw :=
  let h := h.wr2 pTIME TIME.BELT_LO TIME.BELT_HI 0 h.beltNow.toNat
  h.wr pTIME TIME.BELT_DIFF (unsignedOf 32 (h.beltOf 0 - h.beltOf 1))

/-- Whether belt channel i has a hardware fault (R235). -/
def Hw.beltFault (h : Hw) (i : Nat) : Bool := h.encIs (h.beltCh i) FEEDBACK.CH_STS_HWFAULT

/-- Judge the agreement of the belt channels (R55): a disagreement beyond BELT_TOL with no hardware fault, while BELT is the mean,
raises BELT_DISAGREE as it begins. -/
def Hw.beltJudge (h : Hw) : Hw :=
  let off := decide (h.beltFollows = none) && !h.beltFault 0 && !h.beltFault 1
    && decide (h.rd pTIME TIME.BELT_TOL < (h.beltOf 0 - h.beltOf 1).natAbs)
  let was := h.bit pTIME FACE.EVT_RAW 2
  let h := h.persist pTIME 2 off
  if off && !was then { h with belt := { h.belt with recal := h.belt.recal || h.kernelRuns } }.raise pTIME 2 (cap0 0) else h

/-- A count of a belt channel moves BELT (R55). -/
def Hw.beltCount (h : Hw) (i : Nat) (fwd : Bool) : Hw :=
  let sc := h.beltScale i
  if sc.2 = 0 then h
  else
    let h := { h with belt := h.belt.modCh i fun b =>
      let r := scaleStep sc.1 sc.2 b.acc b.base fwd
      { b with acc := r.1, base := r.2 } }
    h.beltShow.beltJudge

/-- BELT goes on with channel i alone, without a step (R55). -/
def Hw.beltSwitch (h : Hw) (i : Nat) : Hw :=
  let v := h.beltValue
  let d := v - h.beltOf i
  { h with belt := { (h.belt.modCh i fun b => { b with off := b.off + d }) with lone := some i } }

/-- BELT leaves a channel it follows that has a hardware fault, where the other has none (R55). -/
def Hw.beltLeave (h : Hw) : Hw :=
  let follows (i : Nat) : Bool := match h.beltFollows with
    | none => true
    | some j => decide (j = i)
  match [0, 1].find? fun i => follows i && h.beltFault i && !h.beltFault (1 - i) with
  | some i =>
    let h := (h.beltSwitch (1 - i)).beltShow
    (h.wr pTIME TIME.TIME_STS_DEGRADED 1).raise pTIME 3 (cap0 (h.beltCh i))
  | none => h

/-- A hardware fault of channel c acts on BELT (R55, R235): the other channel takes over, or with both faulted every page in
flight is spoiled. -/
def Hw.beltOnFault (h : Hw) (c : Nat) : Hw :=
  if decide (c ≠ h.beltCh 0 ∧ c ≠ h.beltCh 1) || !h.encIs c FEEDBACK.CH_STS_HWFAULT then h
  else if h.beltFault 0 && h.beltFault 1 then h.later (.spoilFlight 0x13)
  else h.beltLeave

/-- The belt offsets are recalibrated (R55): each channel without a hardware fault reads BELT, which does not step (DEDUCED,
assumption 94). -/
def Hw.beltRecal (h : Hw) : Hw :=
  let v := h.beltValue
  let ch (i : Nat) (h : Hw) : Hw := if h.beltFault i then h else { h with belt := h.belt.modCh i fun b => { b with off := v - b.base } }
  { ch 1 (ch 0 h) with belt := { (ch 1 (ch 0 h)).belt with recal := false } }.beltShow.beltJudge

/-- A channel that BELT has left is free of faults, or faulted again: the revolution after which the engine kernel returns to it counts
from here; and where BELT stands on a channel with a fault, a channel now free of faults takes over (R55). -/
def Hw.beltOnClear (h : Hw) (c : Nat) : Hw :=
  let h := if c = h.beltCh 0 ∨ c = h.beltCh 1 then h.beltLeave else h
  match h.belt.lone with
  | none => h
  | some i =>
    if c = h.beltCh (1 - i) then
      { h with belt := { h.belt with freeAt := if h.encIs c FEEDBACK.CH_STS_HWFAULT then none else some h.beltValue } }
    else h

/-- Whether the channel that BELT has left has been free of faults for a belt revolution (R55; the length of the belt is not stated,
assumption 94). -/
def Hw.beltHealed (h : Hw) : Bool :=
  match h.belt.lone, h.belt.freeAt with
  | some i, some v => !h.beltFault (1 - i) && decide (Config.beltLength ≤ (h.beltValue - v).natAbs)
  | _, _ => false

/-- BELT returns to the mode of BELT_SEL as a commit of the TIME page applies, again without a step: the offsets move so that the mode
gives exactly the value BELT had (R55). A change of BELT_SEL with BELT on no fault's channel is no such return, and BELT takes the new
mode's own value (DESIGN CHOICE, assumption 132). -/
def Hw.beltReturn (h : Hw) : Hw :=
  let v := h.beltValue
  let h := { h with belt := { h.belt with lone := none, freeAt := none } }
  let d := v - h.beltValue
  let h := { h with belt := (h.belt.modCh 0 fun b => { b with off := b.off + d }).modCh 1 fun b => { b with off := b.off + d } }
  let odd := if h.beltFollows = none then 2 * v - (h.beltOf 0 + h.beltOf 1) else 0
  let h := { h with belt := h.belt.modCh 1 fun b => { b with off := b.off + odd } }
  (h.wr pTIME TIME.TIME_STS_DEGRADED 0).beltShow

end Sys2Proof.Machine
end

