-- ==== Sys2Proof/Machine/Encoders.lean ====
section
/-! DEFINITION. The encoder and position inputs: incremental and BiSS-C channels, hardware faults, speed and acceleration, and the
divided outputs (R227–R240, R26). -/

namespace Sys2Proof.Machine

/-- Whether a page's block runs: PAGE_STS.RUNNING (R476). -/
def Hw.runs (h : Hw) (p : Nat) : Bool := h.is p FACE.PAGE_STS_RUNNING

/-- A FEEDBACK capture (R240). -/
def fbCap (c : Nat) : Cap := ⟨c, 0xFFFF, 6, false⟩

/-- Whether encoder channel c counts: its EN is 1 and its page runs. -/
def Hw.encOn (h : Hw) (c : Nat) : Bool := h.encIs c FEEDBACK.CH_CFG_EN && h.runs (fbPage c)

/-! ### Divided outputs (R239) -/

/-- The inner state of divided output d. -/
def Hw.divSt (h : Hw) (d : Nat) : DivOut := tget (fun _ => DivOut.reset) h.divs d

/-- Change the inner state of divided output d. -/
def Hw.modDiv (h : Hw) (d : Nat) (f : DivOut → DivOut) : Hw :=
  { h with divs := tset (fun _ => DivOut.reset) h.divs d (f (h.divSt d)) }

/-- A register field of divided output d. -/
def Hw.div (h : Hw) (d : Nat) (f : Field) : Nat := h.rdi (pFEEDBACK 2) f d

/-- One edge of DA or DB leaves X6 (R239). -/
def Hw.divEdge (h : Hw) (d : Nat) (fwd : Bool) (t : Stamp) : Hw :=
  let up := fwd != decide (h.div d FEEDBACK.DIV_CFG_INV = 1)
  let h := h.modDiv d fun o => { o with phase := (o.phase + (if up then 1 else 3)) % 4, edgeAt := some t }
  h.wri (pFEEDBACK 2) FEEDBACK.DIV_POS d ((h.div d FEEDBACK.DIV_POS + (if up then 1 else 2 ^ 32 - 1)) % 2 ^ 32)

/-- Whether MIN_SP has passed since the last edge of divided output d (R239). -/
def Hw.divFree (h : Hw) (d : Nat) (t : Stamp) : Bool :=
  match (h.divSt d).edgeAt with
  | none => true
  | some e => decide (max 20 (h.div d FEEDBACK.DIV_CFG_MIN_SP) * 1024 ≤ (t - e).toNat)

/-- One output count: it leaves at once, or waits in the backlog; a full backlog drops it (R239). -/
def Hw.divCount (h : Hw) (d : Nat) (fwd : Bool) (t : Stamp) : Hw :=
  let n := (h.divSt d).backlog.length
  if n = 0 ∧ h.divFree d t then h.divEdge d fwd t
  else if n < 255 then
    (h.modDiv d fun o => { o with backlog := o.backlog ++ [fwd] }).wri (pFEEDBACK 2) FEEDBACK.DIV_STS_BACKLOG d (n + 1)
  else
    (h.wri (pFEEDBACK 2) FEEDBACK.DIV_STS_OVERRUN d 1).raise (pFEEDBACK 2) 7 (fbCap (32 + d))

/-- A count of the source drives divided output d through its rational accumulator (R239). -/
def Hw.divDrive (h : Hw) (d : Nat) (fwd : Bool) (t : Stamp) : Hw :=
  let num := h.div d FEEDBACK.DIV_NUM
  let den := h.div d FEEDBACK.DIV_DEN
  if den = 0 then h
  else
    let r := scaleStep num den (h.divSt d).acc 0 fwd
    let h := h.modDiv d fun o => { o with acc := r.1 }
    if r.2 = 0 then h else h.divCount d fwd t

/-- Whether divided output d runs: enabled, its page running, not on hold. -/
def Hw.divOn (h : Hw) (d : Nat) : Bool :=
  decide (h.div d FEEDBACK.DIV_CFG_EN = 1) && h.runs (pFEEDBACK 2) && decide (h.div d FEEDBACK.DIV_STS_HOLD = 0)

/-- The outputs a count of channel c drives. -/
def Hw.divsDrive (h : Hw) (c : Nat) (fwd : Bool) (t : Stamp) : Hw :=
  forN 4 (fun d h => if h.divOn d && decide (h.div d FEEDBACK.DIV_CFG_SRC = c) then h.divDrive d fwd t else h) h

/-- HOLD of the divided outputs on channel c follows its hardware fault; a hold that ends makes up no count (R239). -/
def Hw.divsHold (h : Hw) (c : Nat) (v : Bool) : Hw :=
  forN 4 (fun d h =>
    if h.div d FEEDBACK.DIV_CFG_EN = 1 ∧ h.div d FEEDBACK.DIV_CFG_SRC = c then
      ((h.modDiv d fun o => { o with backlog := [] }).wri (pFEEDBACK 2) FEEDBACK.DIV_STS_BACKLOG d 0).wri (pFEEDBACK 2)
        FEEDBACK.DIV_STS_HOLD d (b2n v)
    else h) h

/-! ### Hardware faults (R235) -/

/-- The causes of R235 on channel c; a block reset of the page counts as one on each enabled channel (R240). -/
def Hw.encFaulty (h : Hw) (c : Nat) : Bool :=
  h.encIs c FEEDBACK.CH_STS_LOSS || h.encIs c FEEDBACK.CH_STS_ILLEGAL || h.encIs c FEEDBACK.CH_STS_SUPPLY_OVL
    || decide (3 ≤ (h.encSt c).badRun) || (h.is (fbPage c) FACE.PAGE_STS_IN_RESET && h.encIs c FEEDBACK.CH_CFG_EN)

/-- Bring the hardware fault of channel c up to date with all that hangs on it (R55, R235, R239, R256). -/
def Hw.encJudge (h : Hw) (c : Nat) : Hw :=
  let v := h.encFaulty c
  if v = h.encIs c FEEDBACK.CH_STS_HWFAULT then h
  else
    let h := h.encWr c FEEDBACK.CH_STS_HWFAULT (b2n v)
    let h := h.setBit (fbPage c) FEEDBACK.FB_STS_HWFAULT (c % 8) v
    let h := (if v then ((h.beltOnFault c).later (.encoderLost c)).later .govInputs else h).beltOnClear c
    (h.divsHold c v).surfJudgeCh c

/-- Set or clear POS_VALID of channel c (R236). -/
def Hw.encValid (h : Hw) (c : Nat) (v : Bool) : Hw :=
  let h := h.encWr c FEEDBACK.CH_STS_POS_VALID (b2n v)
  let h := h.setBit (fbPage c) FEEDBACK.FB_STS_POS_VALID (c % 8) v
  let h := if v then h else h.later (.encoderLost c)
  h.surfJudgeCh c

/-! ### Counts -/

/-- One count of channel c at a stamp: POS, the history for speed, SURF, BELT and the divided outputs (R227, R234). -/
def Hw.encStep (h : Hw) (c : Nat) (fwd : Bool) (t : Stamp) : Hw :=
  let pos := (h.encSt c).pos + (if fwd then 1 else -1)
  let h := h.modEnc c fun e => { e with pos := pos, hist := (t, fwd) :: e.hist }
  let h := h.encWr c FEEDBACK.CH_POS (unsignedOf 32 pos)
  let h := h.encWr c FEEDBACK.CH_STS_STOPPED 0
  let h := forN 8 (fun s h => if h.drumCh s = c then h.surfCount s fwd pos t else h) h
  let h := if h.encIs c FEEDBACK.CH_STS_HWFAULT then h
    else forN 2 (fun i h => if h.beltCh i = c then h.beltCount i fwd else h) h
  if h.encIs c FEEDBACK.CH_STS_HWFAULT then h else h.divsDrive c fwd t

/-- The direction and the counting of an edge from levels (a, b) to (a', b') in a mode: whether it counts, and forward (R227).
X1 counts A rising with B low forward; the same edge passed backward, A falling with B low, counts back (DEDUCED, assumption 30). -/
def quadrature (mode : Nat) (a _b a' b' : Bool) : Bool × Bool :=
  let aEdge := a != a'
  let fwd := if aEdge then a' != b' else a' == b'
  match mode with
  | 0 => (true, fwd)
  | 1 => (aEdge, fwd)
  | _ => (aEdge && !b', fwd)

/-- Whether channel c counts incrementally. -/
def Hw.encCounts (h : Hw) (c : Nat) : Bool := h.encOn c && decide (h.enc c FEEDBACK.CH_CFG_MODE ≠ 3)

/-- The filtered levels of A and B at a front-end tick, and its stamp: the decoder follows them also while the channel does not count. -/
def Hw.encLevels (h : Hw) (c : Nat) (a b : Bool) (t : Stamp) : Hw := h.modEnc c fun e => { e with a := a, b := b, edgeAt := some t }

/-- Filtered edges closer than 20 ns raise OVERSPEED; those of one tick are one illegal transition (R228). -/
def Hw.encFast (h : Hw) (c : Nat) (t : Stamp) : Hw :=
  match (h.encSt c).edgeAt with
  | none => h
  | some u => if (t - u).toNat < 20 * 1024 then h.raise (fbPage c) 5 (fbCap c) else h

/-- A and B change in one front-end tick (R228): the count is lost. -/
def encoderIllegal (c : Nat) (t : Stamp) (h : Hw) : Hw :=
  let e := h.encSt c
  let on := h.encCounts c
  let h := (if on then h.encFast c t else h).encLevels c (!e.a) (!e.b) t
  if !on then h
  else
    let h := h.encWr c FEEDBACK.CH_STS_ILLEGAL 1
    let h := h.inci (fbPage c) FEEDBACK.ERR_CNT (c % 8)
    let h := h.encValid c false
    (h.encJudge c).raise (fbPage c) 1 (fbCap c)

/-- A filtered edge leaves A and B at the given levels (R227, R228). -/
def encoderCount (c : Nat) (a b : Bool) (t : Stamp) (h : Hw) : Hw :=
  let e := h.encSt c
  if e.a == a && e.b == b then h
  else if e.a != a && e.b != b then encoderIllegal c t h
  else if !h.encCounts c then h.encLevels c a b t
  else
    let q := quadrature (h.enc c FEEDBACK.CH_CFG_MODE) e.a e.b a b
    let h := (h.encFast c t).encLevels c a b t
    if q.1 then h.encStep c (q.2 != h.encIs c FEEDBACK.CH_CFG_DIR_INV) t else h

/-- Whether the open-wire detection of channel c watches a line, 0 A, 1 B or 2 Z (R25, R229): Z only while IDX_PERIOD is non-zero; in
BiSS-C mode, where A is the clock output and Z is unused, the data input alone. -/
def Hw.encWatches (h : Hw) (c line : Nat) : Bool :=
  if h.enc c FEEDBACK.CH_CFG_MODE = 3 then decide (line = 1)
  else !decide (line = 2) || !decide (h.encUse c FEEDBACK.IDX_PERIOD = 0)

/-- An input pair stays below 200 mV for 1 µs: line 0 A, 1 B, 2 Z (R229). -/
def encoderSignalLoss (c line : Nat) (h : Hw) : Hw :=
  if !h.encIs c FEEDBACK.CH_CFG_LOSS_EN || !h.runs (fbPage c) || !h.encWatches c line then h
  else
    let h := h.encWr c FEEDBACK.CH_STS_LOSS 1
    (h.encJudge c).raise (fbPage c) 0 (fbCap c)

/-- An ENC5V output overloads (R26). -/
def encSupplyOverload (c : Nat) (h : Hw) : Hw :=
  let h := h.encWr c FEEDBACK.CH_STS_SUPPLY_OVL 1
  (h.encJudge c).raise (fbPage c) 2 (fbCap c)

/-- A cause of a hardware fault ends (R235): the signal is back, or the supply overload is gone. -/
def hwfaultClear (c : Nat) (supply : Bool) (h : Hw) : Hw :=
  let h := h.encWr c (if supply then FEEDBACK.CH_STS_SUPPLY_OVL else FEEDBACK.CH_STS_LOSS) 0
  h.encJudge c

/-- The ratio rho of station s over a drum revolution (R56), measured from index edge to index edge; without belt advance the manual
gives no ratio, and the value is free. -/
def Hw.rhoMeasure (h : Hw) (s : Nat) : Hw :=
  let u := h.surfSt s
  let sv := u.sEdge
  let bv := h.beltNow
  let h := match u.revAt with
    | none => h
    | some (s0, b0) =>
      let ds := (sv - s0).toNat
      let db := (bv - b0).toInt
      if db ≤ 0 then
        let r := h.free 32
        r.2.wri pTIME TIME.RHO s r.1
      else h.wri pTIME TIME.RHO s (unsignedOf 32 (approxDiv (ds * 2 ^ 30 : Nat) db.toNat))
  h.modSurf s fun u => { u with revAt := some (sv, bv) }

/-- A filtered Z rising edge, with A and B as they are in its front-end tick: a count of that tick is in the latched POS (R230, R49,
R54). -/
def encoderIndex (c : Nat) (a b : Bool) (t : Stamp) (h : Hw) : Hw :=
  let h := encoderCount c a b t h
  if !h.encCounts c then h
  else
    let pos := (h.encSt c).pos
    let prev := (h.encSt c).idxAt
    let h := h.encWr c FEEDBACK.IDX_POS (unsignedOf 32 pos)
    let h := h.wr2 (fbPage c) FEEDBACK.IDX_T_LO FEEDBACK.IDX_T_HI (c % 8) t.toNat
    let h := h.modEnc c fun e => { e with idxAt := some pos }
    let per := h.encUse c FEEDBACK.IDX_PERIOD
    let h := match prev with
      | some q => if per ≠ 0 ∧ (pos - q).natAbs ≠ per then h.raise (fbPage c) 4 (fbCap c) else h
      | none => h
    forN 8 (fun s h =>
      if h.drumCh s = c ∧ h.usesi pTIME TIME.SURF_CFG_EN s then
        let h := h.modSurf s fun u =>
          { u with indexed := true, idx0 := match u.idx0 with
            | none => some pos
            | some i => some i }
        (h.rhoMeasure s).surfJudge s
      else h) h

/-! ### BiSS-C (R231–R233) -/

/-- A BiSS-C cycle starts: a frame is clocked out (R231). -/
def bissCycle (c : Nat) (h : Hw) : Hw :=
  if h.encOn c && decide (h.enc c FEEDBACK.CH_CFG_MODE = 3) then h.send (.bissFrame c) else h

/-- The signed difference of two positions modulo 2^bits (R233). -/
def bissDiff (bits : Nat) (new old : Nat) : Int := signed bits (unsignedOf bits ((new : Int) - old))

/-- Several counts of one step, one at a time (R233). -/
def Hw.encSteps (c : Nat) (fwd : Bool) (t : Stamp) : Nat → Hw → Hw
  | 0, h => h
  | n + 1, h => Hw.encSteps c fwd t n (h.encStep c fwd t)

/-- One bit through the CRC of R231, x^6 + x + 1. -/
def crc6Step (r : Nat) (b : Bool) : Nat :=
  let x := 2 * (r % 32)
  if decide (32 ≤ r) != b then x ^^^ 3 else x

/-- The CRC of R231: initial value 0, most significant bit first. -/
def crc6 (bits : List Bool) : Nat := bits.foldl crc6Step 0

/-- A number from its bits, most significant first. -/
def ofBits (bits : List Bool) : Nat := bits.foldl (fun a b => 2 * a + b2n b) 0

/-- What a BiSS-C frame holds after its start bit (R231): the CDS bit, the position, nE and nW, and the CRC. -/
structure BissData where
  value : Nat
  nE : Bool
  nW : Bool
  crcOk : Bool
deriving DecidableEq, Repr

/-- The bits of a BiSS-C frame from the CDS bit on (R231). -/
def bissBits (position : List Bool) (nE nW : Bool) (crc : BitVec 6) : List Bool :=
  false :: position ++ [nE, nW] ++ (List.range 6).map fun i => crc.getLsbD (5 - i)

/-- Take a frame of n position bits apart (R231). The CRC runs over the position, nE and nW (PRESUMED, assumption 93), and arrives
inverted. -/
def bissData (n : Nat) (frame : List Bool) : BissData :=
  let d := (frame.drop 1).take (n + 2)
  { value := ofBits (d.take n), nE := d.getD n false, nW := d.getD (n + 1) false
    crcOk := decide (n + 9 ≤ frame.length) && decide (ofBits ((frame.drop (n + 3)).take 6) = 63 - crc6 d) }

/-- A BiSS-C frame ends, latched at t: whether the start bit came in time, the bits from the CDS bit on, whether SLO went high again
in time, and the line delay measured to the start bit (R231–R233). -/
def bissFrame (c : Nat) (t : Stamp) (started released : Bool) (frame : List Bool) (delay : Nat) (h : Hw) : Hw :=
  let bits := clampN 8 40 (h.enc c FEEDBACK.BISS_CFG_BITS)
  let x := bissData bits frame
  let h' := if started then h.encWr c FEEDBACK.BISS_DELAY (delay % 65536) else h
  if !h.encOn c || decide (h.enc c FEEDBACK.CH_CFG_MODE ≠ 3) then h
  else if !started || !x.crcOk || !x.nE || !released then
    let h := h'.modEnc c fun e => { e with badRun := e.badRun + 1 }
    let h := h.encWr c FEEDBACK.CH_STS_BISS_ERR 1
    let h := h.inci (fbPage c) FEEDBACK.ERR_CNT (c % 8)
    (h.encJudge c).raise (fbPage c) 3 (fbCap c)
  else
    let v := x.value
    let h := h'.encWr c FEEDBACK.CH_STS_WARN (b2n (!x.nW))
    let last := (h.encSt c).lastGood
    let h := (h.modEnc c fun e => { e with badRun := 0, lastGood := some v }).encJudge c
    match last with
    | none => h.modEnc c fun e => { e with good := (t, e.pos) :: e.good }
    | some u =>
      let d := bissDiff bits v u
      if 2 ^ (bits - 2) < d.natAbs then
        let h := h.encWr c FEEDBACK.CH_STS_BISS_ERR 1
        (h.encValid c false).raise (fbPage c) 6 (fbCap c)
      else
        let up := decide (0 < d) != h.encIs c FEEDBACK.CH_CFG_DIR_INV
        let h := Hw.encSteps c up t d.natAbs h
        h.modEnc c fun e => { e with good := (t, e.pos) :: e.good }

/-! ### Speed and acceleration (R237, R238) -/

/-- 16 × counts per second of n counts over a time in PRESS_TIME units. -/
def speedOf (n : Int) (dt : Nat) : Int := approxDiv (n * 16 * 1024000000000) dt

/-- The counts per quadrature cycle of a mode (R227). -/
def countsPerCycle (mode : Nat) : Nat := if mode = 0 then 4 else if mode = 1 then 2 else 1

/-- The counts of the history within a time before an instant. -/
def within (hist : List (Stamp × Bool)) (t : Stamp) (units : Nat) : List (Stamp × Bool) :=
  hist.takeWhile fun x => decide ((t - x.1).toNat < units)

/-- Whether the newest n counts run one way. -/
def oneWay (hist : List (Stamp × Bool)) : Bool :=
  match hist with
  | [] => true
  | x :: xs => xs.all fun y => y.2 == x.2

/-- The speed of R237 by PERIOD: E counts over the time of the last E + 1 stamps, and no faster than one count in the time since the
last. 0 until E counts in one direction have arrived. -/
def speedPeriod (e : Nat) (hist : List (Stamp × Bool)) (t : Stamp) : Int :=
  let w := hist.take (e + 1)
  if w.length < e + 1 ∨ !oneWay (w.take e) then 0
  else match hist, w.getLast? with
  | x :: _, some y =>
    let sign : Int := if x.2 then 1 else -1
    let v := speedOf e (x.1 - y.1).toNat
    let ts := (t - x.1).toNat
    if v * ts > 16 * 1024000000000 then sign * speedOf 1 ts else sign * v
  | _, _ => 0

/-- The newest counts of a history that run one way. -/
def newestWay (hist : List (Stamp × Bool)) : List (Stamp × Bool) :=
  match hist with
  | [] => []
  | x :: _ => hist.takeWhile fun y => y.2 == x.2

/-- Whether fewer than n counts have come since a reversal (R237). -/
def reversing (n : Nat) (hist : List (Stamp × Bool)) : Bool :=
  decide ((newestWay hist).length < n) && decide ((newestWay hist).length < hist.length)

/-- The speed of R237 by WINDOW: m − 1 counts over the time from the first to the last of the m counts, which all run one way. A single
count spans no time, and the manual gives no speed for it (none). -/
def speedWindow (w : List (Stamp × Bool)) : Option Int :=
  match w, w.getLast? with
  | x :: _ :: _, some y =>
    let sign : Int := if x.2 then 1 else -1
    some (sign * speedOf ((w.length : Int) - 1) (x.1 - y.1).toNat)
  | [_], _ => none
  | _, _ => some 0

/-- The good samples a BiSS-C speed takes: those of the window, and at least the last two (R237; DEDUCED, assumption 133). -/
def bissWindow (good : List (Stamp × Int)) (t : Stamp) (units : Nat) : List (Stamp × Int) :=
  let w := good.takeWhile fun x => decide ((t - x.1).toNat < units)
  good.take (max 2 w.length)

/-- Whether the front end of channel c works on, counting or not: its block is not in reset (R237). -/
def Hw.encLives (h : Hw) (c : Nat) : Bool := !h.is (fbPage c) FACE.PAGE_STS_IN_RESET

/-- The speed update instant of channel c (R237, R238), whether it counts or stands disabled. -/
def speedUpdate (c : Nat) (t : Stamp) (h : Hw) : Hw :=
  let h := h.unitBoundary (fbPage c) (c % 8)
  if !h.encLives c then h
  else
    let e := h.encSt c
    let win := max 4 (h.encUse c FEEDBACK.SPD_CFG_WIN) * 1024000
    let mode := h.enc c FEEDBACK.CH_CFG_MODE
    let w := within e.hist t win
    let hi := h.encUse c FEEDBACK.SPD_CFG_CHG_HI
    let lo := h.encUse c FEEDBACK.SPD_CFG_CHG_LO
    let window := if h.encIs c FEEDBACK.CH_STS_METHOD then decide (lo < w.length) else decide (hi ≤ w.length)
    let s : Option Int :=
      if h.encIs c FEEDBACK.CH_STS_STOPPED then some 0
      else if mode = 3 then
        (let g := bissWindow e.good t win
         match g, g.getLast? with
         | x :: _ :: _, some y => some (speedOf (x.2 - y.2) (x.1 - y.1).toNat)
         | _, _ => some 0)
      else if reversing (countsPerCycle mode) e.hist then some 0
      else if window then speedWindow (newestWay w)
      else some (speedPeriod (countsPerCycle mode) e.hist t)
    let r : Int × Hw := match s with
      | some v => (v, h)
      | none =>
        let f := h.free 32
        (signed 32 f.1, f.2)
    let v := r.1
    let h := r.2
    let sp := signed 32 (satSigned 32 v)
    let old := e.speeds.getD 63 0
    let acc := approxDiv ((sp - old) * 1000000) 1024
    let h := h.encWr c FEEDBACK.SPEED (satSigned 32 v)
    let h := h.encWr c FEEDBACK.ACCEL (satSigned 32 acc)
    let h := h.encWr c FEEDBACK.CH_STS_METHOD (b2n (window && decide (mode ≠ 3)))
    h.modEnc c fun e =>
      { e with speeds := (sp :: e.speeds).take 64
               hist := e.hist.take ((within e.hist t (256 * 1024000)).length + 5)
               good := bissWindow e.good t (256 * 1024000) }

/-- No count for STALL ms (R237). -/
def encoderStall (c : Nat) (h : Hw) : Hw :=
  if !h.encLives c then h
  else (h.encWr c FEEDBACK.SPEED 0).encWr c FEEDBACK.CH_STS_STOPPED 1

/-! ### Register writes of the FEEDBACK pages -/

/-- A write of 1 to ILLEGAL or BISS_ERR (R236). -/
def encoderErrClear (m : Master) (c : Nat) (illegal biss : Bool) (h : Hw) : Hw :=
  h.writeTo m (addrOf FEEDBACK.CH_STS_ILLEGAL (fbPage c) (c % 8)) fun h =>
    if !illegal && !biss then h
    else
      let h := if illegal then h.encWr c FEEDBACK.CH_STS_ILLEGAL 0 else h
      let h := if biss then h.encWr c FEEDBACK.CH_STS_BISS_ERR 0 else h
      (h.encJudge c).encValid c true

/-- A write of CH_CFG.EN (R240): enabling starts counting with POS true to the encoder. -/
def encoderEnWrite (m : Master) (c : Nat) (v : Bool) (h : Hw) : Hw :=
  h.writeTo m (addrOf FEEDBACK.CH_CFG_EN (fbPage c) (c % 8)) fun h =>
    let was := h.encIs c FEEDBACK.CH_CFG_EN
    let h := h.encWr c FEEDBACK.CH_CFG_EN (b2n v)
    if v && !was then h.encValid c true else (h.encJudge c).surfJudgeCh c

/-- The stamp of the last count of channel c (R234). -/
def Hw.encStamp (h : Hw) (c : Nat) : Nat :=
  match (h.encSt c).hist with
  | [] => 0
  | x :: _ => x.1.toNat

/-- A backlogged count leaves X6 once MIN_SP allows (R239). -/
def divOutputEdge (d : Nat) (t : Stamp) (h : Hw) : Hw :=
  match (h.divSt d).backlog with
  | [] => h
  | x :: xs =>
    if h.divOn d && h.divFree d t then
      let h := h.modDiv d fun o => { o with backlog := xs }
      (h.wri (pFEEDBACK 2) FEEDBACK.DIV_STS_BACKLOG d xs.length).divEdge d x t
    else h

/-- Start divided output d from zero (R239). -/
def Hw.divStart (h : Hw) (d : Nat) : Hw :=
  let h := h.modDiv d fun _ => DivOut.reset
  let h := h.wri (pFEEDBACK 2) FEEDBACK.DIV_POS d 0
  let h := h.wri (pFEEDBACK 2) FEEDBACK.DIV_STS_BACKLOG d 0
  let h := h.wri (pFEEDBACK 2) FEEDBACK.DIV_STS_RUNNING d 1
  let src := h.div d FEEDBACK.DIV_CFG_SRC
  h.wri (pFEEDBACK 2) FEEDBACK.DIV_STS_HOLD d (b2n (decide (src < 20) && h.encIs src FEEDBACK.CH_STS_HWFAULT))

/-- A write of DIV_CFG (R239, R240): refused while NUM exceeds DEN or DEN is 0; SRC, INV and MIN_SP only while the output is
disabled. -/
def divCfgWrite (m : Master) (d : Nat) (w : Word) (h : Hw) : Hw :=
  let p := pFEEDBACK 2
  h.writeTo m (addrOf FEEDBACK.DIV_CFG_EN p d) fun h =>
    if h.div d FEEDBACK.DIV_DEN = 0 ∨ h.div d FEEDBACK.DIV_DEN < h.div d FEEDBACK.DIV_NUM then h.wr p FEEDBACK.FB_STS_CFG_REFUSED 1
    else
      let en := bitsOf w 0 0
      let was := h.div d FEEDBACK.DIV_CFG_EN
      let same := decide (bitsOf w 5 1 = h.div d FEEDBACK.DIV_CFG_SRC) && decide (bitsOf w 6 6 = h.div d FEEDBACK.DIV_CFG_INV)
        && decide (bitsOf w 15 8 = h.div d FEEDBACK.DIV_CFG_MIN_SP)
      let h :=
        if was = 1 then (if same then h else h.wr p FEEDBACK.FB_STS_CFG_REFUSED 1)
        else ((h.wri p FEEDBACK.DIV_CFG_SRC d (bitsOf w 5 1)).wri p FEEDBACK.DIV_CFG_INV d (bitsOf w 6 6)).wri p
          FEEDBACK.DIV_CFG_MIN_SP d (bitsOf w 15 8)
      let h := h.wri p FEEDBACK.DIV_CFG_EN d en
      if en = 1 ∧ was = 0 then h.divStart d
      else if en = 0 then h.wri p FEEDBACK.DIV_STS_RUNNING d 0
      else h

/-! ### Block reset (R240) -/

/-- The encoder channels of FEEDBACK page i: 0–19 in all (R25). -/
def fbChannels (i : Nat) : List Nat := (List.range 20).filter fun c => decide (c / 8 = i)

/-- A block reset of a FEEDBACK page begins. -/
def Hw.resetFeedback (h : Hw) (i : Nat) : Hw :=
  let chans := fbChannels i
  let h := chans.foldl (fun h c =>
    let h := h.modEnc c fun e => { e with pos := 0, hist := [], idxAt := none, speeds := [], badRun := 0, lastGood := none, good := [] }
    let h := h.encWr c FEEDBACK.CH_POS 0
    let h := h.encWr c FEEDBACK.SPEED 0
    let h := h.encWr c FEEDBACK.ACCEL 0
    h.encWr c FEEDBACK.ERR_CNT 0) h
  let h := if i = 2 then forN 4 (fun d h => h.modDiv d fun o => { o with acc := 0 }) h else h
  let h := chans.foldl (fun h c => h.encJudge c) h
  forN 8 (fun s h =>
    if h.exposingOn s && (decide (h.drumCh s / 8 = i) || decide (h.beltCh 0 / 8 = i) || decide (h.beltCh 1 / 8 = i)) then
      h.later (.spoilOn s 0x13)
    else h) h

end Sys2Proof.Machine
end

