-- ==== Sys2Proof/Machine/Legs.lean ====
section
/-! DEFINITION. The legs of the half-bridges: what their modulators command, dead time, what holds a leg off, and which of its two
switches is on (R253, R260, R264, R266, R269–R271, R277, R280). -/

namespace Sys2Proof.Machine

/-! ### Banks, bridges and legs -/

/-- Bridges of gate bank x, A to F. -/
def bankBridges (x : Nat) : Nat := [8, 8, 4, 6, 6, 4].getD x 0

/-- Legs of a bridge of bank x: three of an axis, four of a stepper. -/
def bankLegs (x : Nat) : Nat := if x < 3 then 3 else 4

/-- The axis or stepper of bridge b of bank x. -/
def bankUnit (x b : Nat) : Nat := if x < 3 then 8 * x + b else 6 * (x - 3) + b

/-- Bridge b of bank x, and its change. -/
def Hw.bridge (h : Hw) (x b : Nat) : Bridge := tget (fun _ => Bridge.reset) h.bridges (8 * x + b)
def Hw.modBridge (h : Hw) (x b : Nat) (f : Bridge → Bridge) : Hw :=
  { h with bridges := tset (fun _ => Bridge.reset) h.bridges (8 * x + b) (f (h.bridge x b)) }

/-- The supply of bank x, and its change. -/
def Hw.bank (h : Hw) (x : Nat) : Bank := tget (fun _ => Bank.reset) h.banks x
def Hw.modBank (h : Hw) (x : Nat) (f : Bank → Bank) : Hw :=
  { h with banks := tset (fun _ => Bank.reset) h.banks x (f (h.bank x)) }

/-- Whether an E-STOP has taken the unit of bridge b of bank x off and the engine kernel has not re-armed it (R34). -/
def Hw.unitHeld (h : Hw) (x b : Nat) : Bool :=
  if x < 3 then bitAt h.pins.heldAx (bankUnit x b) else bitAt h.pins.heldStp (bankUnit x b)

/-- The engine kernel re-arms the unit of bridge b of bank x with both E-STOP loops closed (R34). -/
def Hw.rearmUnit (h : Hw) (x b : Nat) : Hw :=
  if !h.pins.estop1 || !h.pins.estop2 then h
  else if x < 3 then { h with pins := { h.pins with heldAx := putBit h.pins.heldAx (bankUnit x b) false } }
  else { h with pins := { h.pins with heldStp := putBit h.pins.heldStp (bankUnit x b) false } }

/-- Whether the gate stage holds every ENABLE of bridge b of bank x low: a latched bridge fault, the bank off, an E-STOP, or MBUS out of
its range (R18, R34, R267, R271). -/
def Hw.stageHeld (h : Hw) (x b : Nat) : Bool :=
  h.bit (pGATE x) GATE.BRIDGE_LATCH b || h.is (pGATE x) GATE.GD_STS_BANK_OFF || !h.pins.estop1 || !h.pins.estop2 || h.unitHeld x b
    || h.is pSUPPLY SUPPLY.MBUS_STS_OV || h.is pSUPPLY SUPPLY.MBUS_STS_UV

/-! ### What the modulator commands -/

/-- The modulator of bridge b of bank x commands its legs (R257, R277); a change begins without pulses. -/
def Hw.setDrive (h : Hw) (x b : Nat) (d : Drive) : Hw :=
  h.modBridge x b fun r => if r.drive = d then r else { r with drive := d, driveAt := h.clk.time, cur := none, prev := none }

/-- PULSE of leg i at a time within the period. -/
def Pulses.high (p : Pulses) (i : Nat) (t : Nat) : Bool :=
  let e : Int := (t : Int) - p.start.toNat
  decide (512 * p.lead.getD i 0 ≤ e ∧ e < 512 * p.trail.getD i 0)

/-- PULSE of leg i of a bridge at a time. -/
def Bridge.pulse (r : Bridge) (i : Nat) (t : Nat) : Bool :=
  match r.cur with
  | some p => if p.start.toNat ≤ t then p.high i t else (match r.prev with
    | some q => q.high i t
    | none => false)
  | none => false

/-- The times at which PULSE of leg i may change: the edges of a period and its start. -/
def Pulses.edges (p : Pulses) (i : Nat) : List Nat :=
  [p.start.toNat, (p.start.toNat + 512 * p.lead.getD i 0).toNat, (p.start.toNat + 512 * p.trail.getD i 0).toNat]

/-- The last time up to t at which ENABLE or PULSE of leg i of a bridge has changed (R260). -/
def Bridge.lastEdge (r : Bridge) (i : Nat) (t : Nat) : Nat :=
  let es := (match r.cur with
    | some p => p.edges i
    | none => []) ++ (match r.prev with
    | some p => p.edges i
    | none => [])
  let es := es.filter fun e => decide (0 < e ∧ e ≤ t) && decide (r.pulse i e ≠ r.pulse i (e - 1))
  let e0 := if r.rearmed.contains i then max r.driveAt.toNat r.rearmAt.toNat else r.driveAt.toNat
  es.foldl max e0

/-- ENABLE of the legs of a bridge from its modulator, with the time of its last rise: in PRECHARGE on a spinning rotor the low sides get
up to 32 pulses of 1 µs, one every 20 µs, until every bootstrap is charged, and on a standing one 25 µs (R253, R264). -/
def Bridge.enable (r : Bridge) (charged : Bool) (t : Nat) : Bool × Nat :=
  let e := t - r.driveAt.toNat
  match r.drive with
  | .off => (false, r.driveAt.toNat)
  | .on => (true, r.driveAt.toNat)
  | .charge false => (decide (e < 25 * 1024000), r.driveAt.toNat)
  | .charge true => (!charged && decide (e % (20 * 1024000) < 1024000 ∧ e / (20 * 1024000) < 32), t - e % (20 * 1024000))

/-! ### The switches (R260, R266, R270) -/

/-- The switches of a leg, high and low, from ENABLE, PULSE, and the time since the last change of either (R260): both off while ENABLE
is low and until DEAD_NS has run, then the one that PULSE selects. -/
def switches (enable pulse : Bool) (since dead : Nat) : Bool × Bool :=
  if !enable || decide (since < 1024 * dead) then (false, false) else (pulse, !pulse)

/-- Whether every bootstrap of bridge b of bank x is charged. -/
def Hw.bridgeCharged (h : Hw) (x b : Nat) : Bool :=
  (List.range (bankLegs x)).all fun i => h.bit (pGATE x) GATE.BOOT_OK (bankLegs x * b + i)

/-- The switches of leg l of bank x at a time, high and low (R260): its ENABLE is held low by its bridge's latch, the bank, E-STOP or MBUS
and by a trip, and its high side stays off while its bootstrap is not charged (R266, R267, R270, R271). -/
def Hw.legSwitches (h : Hw) (x l : Nat) (t : Stamp) : Bool × Bool :=
  let b := l / bankLegs x
  let i := l % bankLegs x
  let r := h.bridge x b
  let en := r.enable (h.bridgeCharged x b) t.toNat
  let enable := en.1 && !h.stageHeld x b && !(r.trips.any fun k => decide (k.leg = l))
  let s := switches enable (r.pulse i t.toNat) (t.toNat - max en.2 (r.lastEdge i t.toNat)) (h.rd (pGATE x) GATE.DEAD_DEAD_NS)
  (s.1 && h.bit (pGATE x) GATE.BOOT_OK l, s.2)

/-- Whether the soft turn-off of a trip still runs at a time: 500 ns (R269). -/
def Trip.runs (k : Trip) (t : Stamp) : Bool := decide ((t - k.at_).toNat < 500 * 1024)

/-- Whether a switch of leg l of bank x (side 0 low, 1 high) is turning off softly at a time: a trip has taken it within the last 500 ns,
whatever has come since (R269). -/
def Hw.turningSoft (h : Hw) (x l side : Nat) (t : Stamp) : Bool :=
  let r := h.bridge x (l / bankLegs x)
  (r.trips ++ r.soft).any fun k => decide (k.leg = l ∧ k.side = side) && k.runs t

/-- The trips of a bridge whose soft turn-off still runs at a time. -/
def Bridge.softAt (r : Bridge) (t : Stamp) : List Trip := (r.trips ++ r.soft).filter fun k => k.runs t

/-- A bridge after a module reset at a stamp: ENABLE is low, and a switch taken by a trip goes on turning off softly (R274). -/
def Bridge.afterReset (r : Bridge) (now : Stamp) : Bridge := { Bridge.reset with soft := r.softAt now }

/-! ### Periods of a modulator (R264, R270, R271) -/

/-- A period of the modulator of bridge b of bank x starts at t: legs that tripped in the period before are re-armed, trips in a row go
on counting (R270, R271). Answers the trips of the period before. -/
def Hw.bridgePeriod (h : Hw) (x b : Nat) (t : Stamp) : List Trip × Hw :=
  let r := h.bridge x b
  let legs := (r.trips.map Trip.leg).eraseDups
  (r.trips, h.modBridge x b fun r =>
    { r with trips := [], soft := r.softAt t, rearmed := legs.map fun l => l % bankLegs x, rearmAt := t
             runs := legs.map fun l => (l, tget (fun _ => 0) r.runs l + 1) })

/-- The end of the high pulse of leg i in a period, if it has one. -/
def Pulses.fall (p : Pulses) (i : Nat) : Option Int :=
  if p.lead.getD i 0 < p.trail.getD i 0 then some (p.start.toNat + 512 * p.trail.getD i 0) else none

/-- The low-side time of leg i of a bridge from its last high-side turn-on up to the new period's, in units of PRESS_TIME; none where no
turn-on stands in the periods before (R264). After a trip both switches are off until the re-arm; one that comes before the pulse of its
period leaves the turn-on of the period before as the last. -/
def Bridge.lowTime (r : Bridge) (tripAt : Option Stamp) (old new : Pulses) (i : Nat) : Option Int :=
  let newOn : Int := new.start.toNat + 512 * new.lead.getD i 0
  match tripAt with
  | none => (old.fall i).map fun e => newOn - e
  | some k =>
    let at_ : Int := k.toNat
    let rest := newOn - r.rearmAt.toNat
    let pulsed := (old.fall i).isSome && decide (old.start.toNat + 512 * old.lead.getD i 0 ≤ at_)
    (if pulsed then old.fall i else r.prev.bind fun p => p.fall i).map fun e => max 0 (at_ - e) + rest

/-- Whether leg i of a bridge turns its high side on in the new period with less than REFRESH_MIN ns of low-side time since it last turned
on (R264). A pulse that goes on from one period into the next is no new turn-on. -/
def Bridge.missesRefresh (r : Bridge) (tripAt : Option Stamp) (old new : Pulses) (refresh i : Nat) : Bool :=
  (new.fall i).isSome && (match r.lowTime tripAt old new i with
    | some d => (tripAt.isSome || decide (0 < d)) && decide (d < 1024 * refresh)
    | none => false)

/-- The modulator of bridge b of bank x gives its pulses for the period that starts, after the trips of the period before; high-side
turn-ons without refresh are counted (R264). -/
def Hw.setPulses (h : Hw) (x b : Nat) (trips : List Trip) (new : Pulses) : Hw :=
  let r := h.bridge x b
  let refresh := h.useAt b (pGATE x) GATE.REFRESH_REFRESH_MIN
  let miss := match r.cur with
    | some old => ((List.range (bankLegs x)).filter fun i =>
        r.missesRefresh ((trips.find? fun k => decide (k.leg % bankLegs x = i)).map Trip.at_) old new refresh i).length
    | none => 0
  (h.incBy (pGATE x) GATE.REFRESH_MISS 0 miss).modBridge x b fun r => { r with prev := r.cur, cur := some new }

end Sys2Proof.Machine
end

