-- ==== Sys2Proof/Machine/Trig.lean ====
section
/-! DEFINITION. The cosine of R283 over 1024 steps of a turn: a quarter turn scaled by 2^32, close enough that I_SET times it rounds
exactly for every current of R283. -/

namespace Sys2Proof.Machine

/-- cos(2π k / 1024) × 2^32 for k = 0 to 256, in rows of eight. -/
def cosRows : List (List Nat) := [
  [4294967296, 4294886444, 4294643893, 4294239650, 4293673732, 4292946160, 4292056960, 4291006167],
  [4289793820, 4288419964, 4286884652, 4285187942, 4283329896, 4281310585, 4279130086, 4276788480],
  [4274285855, 4271622305, 4268797931, 4265812840, 4262667143, 4259360959, 4255894413, 4252267634],
  [4248480760, 4244533933, 4240427302, 4236161021, 4231735252, 4227150159, 4222405917, 4217502704],
  [4212440704, 4207220108, 4201841112, 4196303920, 4190608739, 4184755784, 4178745276, 4172577440],
  [4166252509, 4159770720, 4153132319, 4146337555, 4139386683, 4132279966, 4125017671, 4117600071],
  [4110027446, 4102300081, 4094418266, 4086382299, 4078192482, 4069849124, 4061352537, 4052703044],
  [4043900968, 4034946641, 4025840401, 4016582591, 4007173558, 3997613658, 3987903250, 3978042699],
  [3968032378, 3957872662, 3947563934, 3937106583, 3926501002, 3915747591, 3904846754, 3893798902],
  [3882604450, 3871263820, 3859777440, 3848145741, 3836369162, 3824448145, 3812383140, 3800174601],
  [3787822988, 3775328765, 3762692404, 3749914379, 3736995171, 3723935269, 3710735162, 3697395348],
  [3683916329, 3670298613, 3656542712, 3642649144, 3628618433, 3614451106, 3600147697, 3585708745],
  [3571134792, 3556426389, 3541584088, 3526608449, 3511500034, 3496259414, 3480887161, 3465383855],
  [3449750080, 3433986423, 3418093478, 3402071844, 3385922125, 3369644927, 3353240863, 3336710553],
  [3320054617, 3303273682, 3286368382, 3269339351, 3252187232, 3234912670, 3217516315, 3199998822],
  [3182360851, 3164603066, 3146726136, 3128730733, 3110617535, 3092387225, 3074040487, 3055578014],
  [3037000500, 3018308645, 2999503152, 2980584729, 2961554089, 2942411948, 2923159027, 2903796051],
  [2884323748, 2864742853, 2845054101, 2825258235, 2805355999, 2785348143, 2765235421, 2745018589],
  [2724698408, 2704275644, 2683751066, 2663125446, 2642399561, 2621574191, 2600650120, 2579628136],
  [2558509031, 2537293599, 2515982640, 2494576955, 2473077351, 2451484637, 2429799626, 2408023134],
  [2386155981, 2364198992, 2342152991, 2320018810, 2297797281, 2275489241, 2253095531, 2230616993],
  [2208054473, 2185408821, 2162680890, 2139871536, 2116981616, 2094011993, 2070963532, 2047837100],
  [2024633568, 2001353810, 1977998702, 1954569124, 1931065957, 1907490086, 1883842400, 1860123788],
  [1836335144, 1812477362, 1788551342, 1764557983, 1740498191, 1716372869, 1692182927, 1667929275],
  [1643612827, 1619234497, 1594795204, 1570295869, 1545737412, 1521120759, 1496446837, 1471716574],
  [1446930903, 1422090755, 1397197066, 1372250773, 1347252816, 1322204136, 1297105676, 1271958380],
  [1246763195, 1221521071, 1196232957, 1170899806, 1145522571, 1120102207, 1094639673, 1069135926],
  [1043591926, 1018008636, 992387019, 966728038, 941032661, 915301854, 889536587, 863737830],
  [837906553, 812043729, 786150333, 760227338, 734275721, 708296459, 682290530, 656258914],
  [630202589, 604122538, 578019742, 551895183, 525749847, 499584716, 473400776, 447199012],
  [420980412, 394745962, 368496651, 342233465, 315957395, 289669429, 263370557, 237061769],
  [210744057, 184418409, 158085819, 131747276, 105403774, 79056303, 52705856, 26353424],
  [0]]

/-- cos(2π k / 1024) × 2^32 for k from 0 to 256. -/
def cosQuarter (k : Nat) : Nat := (cosRows.getD (k / 8) []).getD (k % 8) 0

/-- cos(2π w / 1024) × 2^32. -/
def cos1024 (w : Nat) : Int :=
  let k := w % 1024
  if k ≤ 256 then cosQuarter k
  else if k ≤ 512 then -(cosQuarter (512 - k) : Int)
  else if k ≤ 768 then -(cosQuarter (k - 512) : Int)
  else cosQuarter (1024 - k)

/-- round_half_up(i × cos(2π w / 1024)) (R283). -/
def cosTimes (i w : Nat) : Int := roundHalfUp (i * cos1024 w) (2 ^ 32)

/-- round_half_up(i × sin(2π w / 1024)) (R283). -/
def sinTimes (i w : Nat) : Int := cosTimes i (w + 768)

end Sys2Proof.Machine
end

