-- ==== Sys2Proof/Machine/Axes.lean ====
section
/-! DEFINITION. Motor field control: the axis state machine, current control, modulation with window opening, polygon start and
catch, trips and exits (R241–R259). -/

namespace Sys2Proof.Machine

/-! ### Axes by number -/

/-- The inner state of axis n. -/
def Hw.ax (h : Hw) (n : Nat) : Axis := tget (fun _ => Axis.reset) h.axes n

/-- Change the inner state of axis n. -/
def Hw.modAx (h : Hw) (n : Nat) (f : Axis → Axis) : Hw :=
  { h with axes := tset (fun _ => Axis.reset) h.axes n (f (h.ax n)) }

/-- AX_STS.STATE of axis n (R257): 0 OFF, 1 CATCH, 2 WAIT, 3 PRECHARGE, 4 ALIGN, 5 RAMP, 6 HANDOVER, 7 RUN, 8 FAULT. -/
def Hw.axState (h : Hw) (n : Nat) : Nat := h.rd (pAXIS n) AXIS.AX_STS_STATE

/-- Whether axis n is a polygon (R19). -/
def isPoly (n : Nat) : Bool := decide (n < 8)

/-- The GATE page of axis n and its bridge there. -/
def axisBank (n : Nat) : Nat := if n < 8 then 0 else if n < 16 then 1 else 2
def axisBridge (n : Nat) : Nat := if n < 8 then n else if n < 16 then n - 8 else n - 16

/-- Any page between EXPOSING and FUSED. -/
def Hw.pagesInFlight (h : Hw) : Bool :=
  h.headrace.pages.any fun p => decide (p.state = .exposing ∨ p.state = .exposed ∨ p.state = .transferred ∨ p.state = .fused)

/-- Whether the modulator of an axis runs in a state: ALIGN, RAMP, HANDOVER and RUN (R257). -/
def modulates (st : Nat) : Bool := decide (4 ≤ st ∧ st ≤ 7)

/-- What axis n commands its bridge in a state (R253, R257). -/
def Hw.axDrive (h : Hw) (n st : Nat) : Drive :=
  if modulates st then .on else if st = 3 then .charge (h.ax n).caught else .off

/-- Enter a state of R257; leaving RUN ends the observer's validity. The modulator and its counts go on from one
state with ENABLE high to the next (R245, R246). -/
def Hw.axEnter (h : Hw) (n st : Nat) : Hw :=
  let p := pAXIS n
  let old := h.axState n
  let h := h.later (.axisMoved n old st)
  let h := h.wr p AXIS.AX_STS_STATE st
  let h := h.wr p FACE.PAGE_STS_STATE st
  let h := h.modAx n fun a =>
    let a := { a with periods := 0, agree := 0, from_ := old, enteredAt := h.clk.cycles, exit := 0, emfOff := 0 }
    if modulates old && modulates st then a else { a with missed := 0, plan := none, owed := [0, 0, 0] }
  let h := h.setDrive (axisBank n) (axisBridge n) (h.axDrive n st)
  if st = 7 then h.inc p AXIS.STARTS_START_CNT
  else h.wr p AXIS.AX_STS_OBS_VALID 0

/-- A drum or belt axis that stops with a page in flight makes the engine kernel perform the jam stop (R258). -/
def Hw.axStopJam (h : Hw) (n : Nat) : Hw :=
  if 8 ≤ n ∧ n ≤ 16 ∧ h.pagesInFlight then h.later (.jam 5) else h

/-! The exits of R258 come in its order: of several in one clock the first row alone has its effect. -/

/-- Whether axis n has left its state by a row of R258 in this clock. -/
def Hw.axExited (h : Hw) (n : Nat) : Bool := decide ((h.ax n).exit ≠ 0 ∧ (h.ax n).enteredAt = h.clk.cycles)

/-- The state of axis n from which the exits of this clock lead. -/
def Hw.axExitFrom (h : Hw) (n : Nat) : Nat := if h.axExited n then (h.ax n).from_ else h.axState n

/-- Whether a cause of a row of R258 takes axis n out of its state: no earlier row has in this clock, and FAULT is left by MBUS_LOW and
EN = 0 alone. -/
def Hw.axExitGoes (h : Hw) (n row : Nat) : Bool :=
  if h.axExited n then decide (row < (h.ax n).exit) else decide (h.axState n ≠ 8 ∨ row = 2 ∨ row = 5)

/-- Axis n goes to a state by a row of R258. -/
def Hw.axExit (h : Hw) (n row st : Nat) : Hw :=
  let from_ := h.axExitFrom n
  (h.axEnter n st).modAx n fun a => { a with exit := row, from_ := from_ }

/-- The row of R258 of a source of an AXIS page. -/
def axRow (src : Nat) : Nat := if src = 3 then 1 else if src = 0 then 3 else 4

/-- Axis n faults with a source and, for CONTROL, a cause (R258, R259). An axis already in FAULT stays there. -/
def Hw.axFault (h : Hw) (n src cause : Nat) : Hw :=
  let p := pAXIS n
  let st := h.axExitFrom n
  if !h.axExitGoes n (axRow src) then h
  else
    let h := h.axExit n (axRow src) 8
    let h := if src = 1 then (h.wr p AXIS.AX_STS_LAST_CAUSE cause).inc p AXIS.STARTS_START_FAIL else h
    let h := h.raise p src (cap0 (st + 256 * cause))
    h.axStopJam n

/-- The gate stage or E-STOP disables axis n (R258, first row). -/
def Hw.axStageOff (h : Hw) (n : Nat) : Hw := h.axFault n 3 0

/-- MBUS is low: axis n goes to OFF with EN cleared, unless the gate stage has taken it in this clock (R18, R258). -/
def Hw.axMbusLow (h : Hw) (n : Nat) : Hw :=
  let p := pAXIS n
  let st := h.axState n
  let h := (h.wr p AXIS.AX_STS_MBUS_LOW 1).persist p 2 true
  if !h.axExitGoes n 2 then h
  else
    let c := cap0 (h.axExitFrom n)
    let h := ((h.wr p AXIS.AX_CTRL_EN 0).axExit n 2 0).raise p 2 c
    if st = 0 then h else h.axStopJam n

/-- Axis n goes to OFF from whatever state. -/
def Hw.axToOff (h : Hw) (n : Nat) : Hw :=
  let st := h.axState n
  let h := h.axExit n 5 0
  if st = 0 ∨ st = 8 then h else h.axStopJam n

/-- Axis n goes to OFF: EN written 0 (R258, last row). -/
def Hw.axOff (h : Hw) (n : Nat) : Hw := if h.axExitGoes n 5 then h.axToOff n else h

/-- An encoder channel is faulted or lost its position: the axes in RUN on it fault (R256). -/
def Hw.axEncoderLost (h : Hw) (c : Nat) : Hw :=
  forN 20 (fun n h =>
    if !isPoly n && decide (h.axState n = 7) && decide (h.rd (pAXIS n) AXIS.AX_CFG_ENC_CH = c) then h.axFault n 1 5 else h) h

/-! ### Enabling, catching, starting -/

/-- AX_CTRL.EN of axis n is 1 (R252, R257): in OFF it starts CATCH or PRECHARGE, is refused while MBUS is low and is ignored in FAULT.
Only the engine kernel's own write of it re-arms the unit. -/
def Hw.axisEnable (h : Hw) (n : Nat) (rearm : Bool) : Hw :=
  let p := pAXIS n
  if h.axState n ≠ 0 ∨ h.is p AXIS.AX_STS_MBUS_LOW then h
  else
    let h := h.wr p AXIS.AX_CTRL_EN 1
    let h := if rearm then h.rearmUnit (axisBank n) (axisBridge n) else h
    if h.stageHeld (axisBank n) (axisBridge n) then h.axStageOff n
    else if isPoly n then h.axEnter n 1
    else h.axEnter n 3

/-- A write of AX_CTRL.EN (R252, R257, R258): 1 in OFF starts CATCH or PRECHARGE, is refused while MBUS is low and is ignored in
FAULT; 0 goes to OFF. The engine kernel's write re-arms the axis after an E-STOP (R34); an axis whose ENABLE the gate stage holds low
reports STAGE_OFF (R18, R34, R258, R267, R271; assumption 89). -/
def axisEnWrite (m : Master) (n : Nat) (v : Bool) (h : Hw) : Hw :=
  let p := pAXIS n
  h.writeTo m (addrOf AXIS.AX_CTRL_EN p 0) fun h =>
    if v then h.axisEnable n (isKernel m) else (h.wr p AXIS.AX_CTRL_EN 0).axOff n

/-- ALIGN_REQ: ELEC_OFS is measured at the next enable of an encoder axis (R256). -/
def alignReq (m : Master) (n : Nat) (h : Hw) : Hw :=
  let p := pAXIS n
  h.writeTo m (addrOf AXIS.AX_CTRL_ALIGN_REQ p 0) fun h => if isPoly n then h else h.wr p AXIS.AX_CTRL_ALIGN_REQ 1

/-- 2π × 10^15 (R247): the quotients that take it are rounded openly (assumption 4). -/
def twoPi15 : Nat := 6283185307179586

/-- KE × ω_e in 2 mV units as a fraction (R247, R252, R256): the mechanical speed in 1/16 rpm, the pole pairs, and KE in µV·s. -/
def emfNum (speed : Int) (polePairs ke : Nat) : Int := speed * polePairs * ke * twoPi15
def emfDen : Nat := 192000 * 10 ^ 16

/-- KE × ω_e in 2 mV units. -/
def backEmf (speed : Int) (polePairs ke : Nat) : Int := approxDiv (emfNum speed polePairs ke) emfDen

/-- ω_e × L_PH × i of R247 in 2 mV units, for L_PH in 0.1 µH and i in 2 mA units. -/
def decouple (speed : Int) (polePairs lPh : Nat) (i : Int) : Int :=
  approxDiv (speed * polePairs * lPh * i * twoPi15) (960 * 10 ^ 22)

/-- Whether a back-EMF amplitude in 2 mV units lies within ±25 % of KE × ω_e (R251, R252). -/
def amplitudeOk (amp : Nat) (speed : Int) (polePairs ke : Nat) : Bool :=
  let e := (emfNum speed polePairs ke).natAbs
  decide (4 * ((amp * emfDen : Nat) - (e : Int)).natAbs ≤ e)

/-- Whether a mechanical speed in 1/16 rpm exceeds SPD_LIM (R248). -/
def Hw.overSpeed (h : Hw) (n : Nat) (speed : Int) : Bool := decide (16 * h.use (pAXIS n) AXIS.LIMITS_SPD_LIM < speed.natAbs)

/-- The outcome of a back-EMF measurement (R248, R252): signed mechanical speed in 1/16 rpm, electrical angle, and the amplitude of the
phase back-EMF in 2 mV units. -/
def Hw.catchOutcome (h : Hw) (n : Nat) (speed : Int) (theta amp : Nat) : Hw :=
  let p := pAXIS n
  let still : Int := 16 * h.rd p AXIS.CATCH_STILL
  let hand : Int := 16 * h.rd p AXIS.RAMP_HANDOVER
  let ampOk := amplitudeOk amp speed (h.rd p AXIS.AX_CFG_POLE_PAIRS) (h.use p AXIS.KE)
  let h := (h.wr p AXIS.SPEED_EST (satSigned 32 speed)).wr p AXIS.ANGLE_THETA (theta % 65536)
  if h.overSpeed n speed then h.axFault n 1 6
  else if speed.natAbs < still.toNat then (h.modAx n fun a => { a with caught := false }).axEnter n 3
  else if speed < 0 ∨ !ampOk then h.axFault n 1 3
  else if hand ≤ speed then
    (h.modAx n fun a => { a with caught := true, theta := theta % 65536 }).axEnter n 3
  else if h.axState n = 2 then h
  else h.axEnter n 2

/-- CATCH_MEAS ends (R252). -/
def catchMeasureDone (n : Nat) (speed : Int) (theta amp : Nat) (h : Hw) : Hw :=
  if h.axState n = 1 then h.catchOutcome n speed theta amp else h

/-- The rotor is measured again in WAIT (R252). -/
def catchWaitRemeasure (n : Nat) (speed : Int) (theta amp : Nat) (h : Hw) : Hw :=
  if h.axState n = 2 then h.catchOutcome n speed theta amp else h

/-- WAIT has lasted CATCH_WAIT (R252). -/
def catchWaitTimeout (n : Nat) (h : Hw) : Hw := if h.axState n = 2 then h.axFault n 1 3 else h

/-- The mechanical speed of an encoder axis from its channel, 1/16 rpm (R256). -/
def Hw.axEncSpeed (h : Hw) (n : Nat) : Int :=
  let p := pAXIS n
  approxDiv (h.encSpeed (h.rd p AXIS.AX_CFG_ENC_CH) * 60 * h.rd p AXIS.ANG_NUM)
    (h.rd p AXIS.ANG_DEN * 65536 * max 1 (h.rd p AXIS.AX_CFG_POLE_PAIRS))

/-- The electrical angle of the encoder, before ELEC_OFS (R256). -/
def Hw.axEncAngle (h : Hw) (n : Nat) : Nat :=
  let p := pAXIS n
  h.enc (h.rd p AXIS.AX_CFG_ENC_CH) FEEDBACK.CH_POS * h.rd p AXIS.ANG_NUM / h.rd p AXIS.ANG_DEN % 65536

/-- A polygon's start has succeeded: its retries are counted anew and the head fault of a failed start ends (R250). -/
def Hw.polyStarted (h : Hw) (n : Nat) : Hw :=
  let h := h.modAx n fun a => { a with retries := 0 }
  { h with headrace := { h.headrace with headFault := putBit h.headrace.headFault (16 + n) false } }

/-- Whether the channel of encoder axis n has a hardware fault or no valid position (R256). -/
def Hw.axChannelBad (h : Hw) (n : Nat) : Bool :=
  let c := h.rd (pAXIS n) AXIS.AX_CFG_ENC_CH
  h.encIs c FEEDBACK.CH_STS_HWFAULT || !h.encIs c FEEDBACK.CH_STS_POS_VALID

/-- Enter RUN with the integrators preset to the back-EMF at the present speed (R252, R256). An encoder axis whose channel is faulted
faults at once (R256). -/
def Hw.axRun (h : Hw) (n : Nat) (fade : Bool) : Hw :=
  let p := pAXIS n
  let sp := if isPoly n then signed 32 (h.rd p AXIS.SPEED_EST) else h.axEncSpeed n
  let e := backEmf sp (h.rd p AXIS.AX_CFG_POLE_PAIRS) (h.use p AXIS.KE)
  let h := h.axEnter n 7
  let h := h.modAx n fun a => { a with accD := 0, accQ := e * 65536, vd := 0, vq := e, fadeIn := fade }
  if isPoly n then h.polyStarted n else if h.axChannelBad n then h.axFault n 1 5 else h

/-- The bits of an axis's three legs in its gate bank (R19). -/
def axisLegs (n : Nat) : List Nat := (List.range 3).map fun i => 3 * axisBridge n + i

/-- Every bootstrap of the axis is charged (R253, R256): RUN for a caught polygon and for an encoder axis whose offset is known,
else ALIGN. -/
def prechargeDone (n : Nat) (h : Hw) : Hw :=
  let p := pAXIS n
  if h.axState n ≠ 3 then h
  else
    let h := (axisLegs n).foldl (fun h l => h.setBit (pGATE (axisBank n)) GATE.BOOT_OK l true) h
    if isPoly n then
      (if (h.ax n).caught then (h.axRun n true).wr p AXIS.AX_STS_OBS_VALID 1 else h.axEnter n 4)
    else if h.is p AXIS.AX_CTRL_ALIGN_REQ || !h.is p AXIS.AX_STS_OFS_VALID then
      (h.wr p AXIS.AX_CTRL_ALIGN_REQ 0).axEnter n 4
    else h.axRun n false

/-- The bootstraps are not charged in time (R253, R264). -/
def prechargeFail (n : Nat) (h : Hw) : Hw := if h.axState n = 3 then h.axFault n 1 7 else h

/-- T_ALIGN ends (R249, R256): RAMP for a polygon; an encoder axis takes ELEC_OFS and runs. -/
def alignDone (n : Nat) (h : Hw) : Hw :=
  let p := pAXIS n
  if h.axState n ≠ 4 then h
  else if isPoly n then (h.axEnter n 5).modAx n fun a => { a with theta := 0 }
  else
    let ofs := (65536 - h.axEncAngle n) % 65536
    let h := h.wr p AXIS.ELEC_OFS ofs
    let h := { h with used := tset usedReset h.used (addrOf AXIS.ELEC_OFS p 0) (h.word (addrOf AXIS.ELEC_OFS p 0)) }
    (h.wr p AXIS.AX_STS_OFS_VALID 1).axRun n false

/-- After 64 HANDOVER periods a polygon runs on its observer; a head fault of a failed start ends (R250). -/
def handoverDone (n : Nat) (h : Hw) : Hw :=
  if h.axState n ≠ 6 then h
  else
    let h := h.axEnter n 7
    let h := h.wr (pAXIS n) AXIS.AX_STS_OBS_VALID 1
    (h.modAx n fun a => { a with fadeIn := false }).polyStarted n

/-- HANDOVER is not reached within HO_TIMEOUT (R250). -/
def handoverTimeout (n : Nat) (h : Hw) : Hw := if h.axState n = 5 then h.axFault n 1 1 else h

/-- The observer reports the loss of speed or back-EMF (R251), beside what the period start judges. -/
def observerLoss (n : Nat) (h : Hw) : Hw := if isPoly n && decide (h.axState n = 7) then h.axFault n 1 2 else h

/-- The cycle of the last sample of the Governor slot that axis n names, or of its entry into RUN. -/
def Hw.axHeard (h : Hw) (n : Nat) : Nat :=
  let j := h.rd (pAXIS n) AXIS.AX_CFG_GOV_SLOT
  max (h.ax n).enteredAt (if j < 96 then (tget (fun _ => GovSlot.reset) h.govSlots j).sampledAt else 0)

/-- The Governor slot has not sampled within GOV_WD µs (R258); a missed sample and one that keeps its output are samples (R305). -/
def govSilent (n : Nat) (h : Hw) : Hw :=
  if h.axState n = 7 ∧ h.use (pAXIS n) AXIS.AX_CTRL_IQ_SRC = 0 ∧ 1000 * h.use (pAXIS n) AXIS.GOV_WD < h.clk.cycles - h.axHeard n then
    h.axFault n 1 8
  else h

/-- The engine kernel retries a failed polygon start, at most three times; then the polygon is a head fault of its station (R250). -/
def polyStartRetry (n : Nat) (h : Hw) : Hw :=
  if !isPoly n || decide (h.axState n ≠ 8) || !h.kernelRuns then h
  else if (h.ax n).retries < 3 then
    let h := h.modAx n fun a => { a with retries := a.retries + 1 }
    let h := (h.wr (pAXIS n) AXIS.AX_CTRL_EN 0).axOff n
    axisEnWrite kernelMaster n true h
  else { h with headrace := { h.headrace with headFault := putBit h.headrace.headFault (16 + n) true } }

/-! ### Modulation (R243–R245) -/

/-- The i-th of a list of integers. -/
def nthI (l : List Int) (i : Nat) : Int := l.getD i 0

/-- The phases from largest to smallest on-time; equal on-times keep the order U, V, W. -/
def sortPhases (on : List Int) : Nat × Nat × Nat :=
  let u := nthI on 0
  let v := nthI on 1
  let w := nthI on 2
  if v ≤ u ∧ w ≤ u then (if w ≤ v then (0, 1, 2) else (0, 2, 1))
  else if w ≤ v then (if w ≤ u then (1, 0, 2) else (1, 2, 0))
  else (if v ≤ u then (2, 0, 1) else (2, 1, 0))

/-- Replace entry i of a list. -/
def setI (l : List Int) (i : Nat) (v : Int) : List Int := l.set i v

/-- Window opening (R245): on-times in half nanoseconds over a period of 2T half nanoseconds, and MIN_WIN in half nanoseconds. Answers
the plan, whether any pulse moved, and the on-time owed to the mid phase. -/
def openWindows (on : List Int) (twoT win : Int) : PwmPlan × Bool × Int :=
  let o := sortPhases on
  let a := o.1
  let b := o.2.1
  let c := o.2.2
  let lead : List Int := on.map fun x => (twoT - x) / 2
  let trail : List Int := on.map fun x => (twoT + x) / 2
  let tA := nthI lead b - nthI lead a
  let tB := nthI lead c - nthI lead b
  let dA := if tA < win then win - tA else 0
  let leadA := nthI lead a - dA
  let rest := if leadA < 0 then -leadA else 0
  let lead1 := setI (setI lead a (leadA + rest)) b (nthI lead b + rest)
  let trail1 := setI (setI trail a (nthI trail a - dA + rest)) b (nthI trail b + rest)
  let excess := if twoT < nthI trail1 b then nthI trail1 b - twoT else 0
  let trail2 := setI trail1 b (nthI trail1 b - excess)
  let dB := if tB < win then win - tB else 0
  let lead3 := setI lead1 c (nthI lead1 c + dB)
  let trail3 := setI trail2 c (nthI trail2 c + dB)
  ({ maxPh := a, midPh := b, minPh := c, lead := lead3, trail := trail3
     sampleA := decide (win ≤ nthI lead3 b - nthI lead3 a), sampleB := decide (win ≤ nthI lead3 c - nthI lead3 b) },
   decide (dA ≠ 0 ∨ dB ≠ 0), excess)

/-- The cosine of an angle of 2^-16 turn, times 2^32: the table's entry turned by the rest of the angle, in units of 2^-42. -/
def cosTurn (theta : Nat) : Int :=
  let w := theta % 65536 / 64
  let d : Int := (theta % 64 : Nat) * 421657428
  let s : Int := d - d * d * d / (6 * 2 ^ 84)
  let c : Int := 2 ^ 42 - d * d / 2 ^ 43
  (cos1024 w * c - cos1024 (w + 768) * s) / 2 ^ 42

/-- The Clarke and Park transforms of two phase currents at an angle (R247): d and q, for the amplitude of a phase (assumption 4). -/
def park (iu iv : Int) (theta : Nat) : Int × Int :=
  let c := cosTurn theta
  let s := cosTurn (theta + 49152)
  let a := iu * 4294967296
  let b := (iu + 2 * iv) * 2479700525
  (approxDiv (a * c + b * s) (2 ^ 64), approxDiv (b * c - a * s) (2 ^ 64))

/-- The inverse Park transform times 2^32: the α and β voltages of a d and q vector at an angle (R243). -/
def invPark (vd vq : Int) (theta : Nat) : Int × Int :=
  let c := cosTurn theta
  let s := cosTurn (theta + 49152)
  (vd * c - vq * s, vd * s + vq * c)

/-- The three phase voltages of a d and q vector at an angle, by inverse Clarke (R243). -/
def phaseVoltages (vd vq : Int) (theta : Nat) : List Int :=
  let v := invPark vd vq theta
  let r := v.2 * 7439101574
  [approxDiv v.1 (2 ^ 32), approxDiv (r - v.1 * 2 ^ 32) (2 ^ 65), approxDiv (-r - v.1 * 2 ^ 32) (2 ^ 65)]

/-- A vector beyond the circle V_bus/√3 scaled onto it at unchanged angle (R243). -/
def ontoCircle (vd vq : Int) (vbus : Nat) : Int × Int :=
  let m := Nat.sqrt (3 * (vd * vd + vq * vq).toNat * 2 ^ 64)
  (approxDiv (vd * vbus * 2 ^ 32) m, approxDiv (vq * vbus * 2 ^ 32) m)

/-- The on-times of the three phases in half nanoseconds for phase voltages at a bus voltage, limited for the bootstraps' refresh and
with what is owed from the period before (R243, R245, R264). -/
def onTimes (vs owed : List Int) (twoT vbus refresh : Int) : List Int :=
  let u := nthI vs 0
  let v := nthI vs 1
  let w := nthI vs 2
  let hi := max u (max v w)
  let lo := min u (min v w)
  (List.range 3).map fun i =>
    let x := approxDiv (twoT * (vbus + 2 * nthI vs i - hi - lo)) (2 * vbus).toNat
    clampI 0 (twoT - 2 * refresh) (x + nthI owed i)

/-! ### A period (R242, R244, R246–R248, R250) -/

/-- The shunt current of a converter code less the offset, 2 mA units: ±16, ±32 or ±64 A over ±8192 codes (R244). -/
def shuntCurrent (n : Nat) (code ofs : Int) : Int := approxDiv ((code - ofs) * 8000 * 2 ^ axisType n) 8192

/-- A moving average of weight 1/64 (R244). -/
def filter64 (old new : Int) : Int := old + approxDiv (new - old) 64

/-- The open-loop electrical angle after k periods of T ns at RAMP_ACC, 2^-16 turn (R249). -/
def rampAngle (acc t pp k : Nat) : Nat :=
  (approxDiv ((acc * pp * (k * t) * (k * t) * 65536 : Nat)) (2 * 60 * 1000000000000000000)).toNat % 65536

/-- The open-loop speed after k periods, 1/16 rpm (R249). -/
def rampSpeed (acc t k : Nat) : Int := approxDiv ((16 * acc * k * t : Nat)) 1000000000

/-- The difference of two angles as a signed number. -/
def angleDiff (a b : Nat) : Int := signed 16 (unsignedOf 16 ((a : Int) - b))

/-- A linear move from a to b at step j of 64. -/
def ramp64 (a b : Int) (j : Nat) : Int := if 64 ≤ j then b else a + approxDiv ((b - a) * j) 64

/-- The current references of the axis's state (R247, R249, R250, R257), d and q. -/
def Hw.axRefs (h : Hw) (n : Nat) : Int × Int :=
  let p := pAXIS n
  let a := h.ax n
  let idRef := signed 16 (h.use p AXIS.REF_ID_REF)
  let lim (q : Int) : Int := clampI (-(h.use p AXIS.IQ_LIMITS_IQ_NEG_LIM : Int)) (h.use p AXIS.IQ_LIMITS_IQ_LIM) q
  let q := if h.use p AXIS.AX_CTRL_IQ_SRC = 1 then signed 16 (h.rd p AXIS.REF_IQ_REF) else a.govQ
  match h.axState n with
  | 4 => (h.rd p AXIS.START_I_I_ALIGN, 0)
  | 5 => (h.rd p AXIS.START_I_I_RAMP, 0)
  | 6 => (ramp64 (h.rd p AXIS.START_I_I_RAMP) idRef a.periods, lim (ramp64 (h.rd p AXIS.START_I_I_RAMP) q a.periods))
  | _ => (idRef, lim (if a.fadeIn then ramp64 0 q a.periods else q))

/-- The angle of the axis's state for this period (R249, R250, R256, R257). -/
def Hw.axAngle (h : Hw) (n obsTheta : Nat) : Nat :=
  let p := pAXIS n
  let a := h.ax n
  match h.axState n with
  | 4 => 0
  | 5 => rampAngle (h.rd p AXIS.RAMP_RAMP_ACC) (h.rd p AXIS.PWM_PER) (h.rd p AXIS.AX_CFG_POLE_PAIRS) a.periods
  | 6 => ((a.theta : Int) + clampI (-364) 364 (angleDiff obsTheta a.theta)).toNat % 65536
  | _ => if isPoly n then obsTheta % 65536 else (h.use p AXIS.ELEC_OFS + h.axEncAngle n) % 65536

/-- MIN_WIN and the period of axis n in half nanoseconds, MIN_WIN at most T/4 (R259). -/
def Hw.axWin (h : Hw) (n : Nat) : Int :=
  min (2 * (h.use (pAXIS n) AXIS.WIN_MIN_WIN : Int)) ((h.rd (pAXIS n) AXIS.PWM_PER : Int) / 2)

/-- The current controllers of R247 with the limit of R243: new voltage and integrators from the errors. -/
def Hw.axControl (h : Hw) (n : Nat) (speed id iq : Int) (vbus : Nat) : Hw :=
  let p := pAXIS n
  let a := h.ax n
  let r := h.axRefs n
  let ed := r.1 - id
  let eq := r.2 - iq
  let accD := signed 48 (unsignedOf 48 (a.accD + h.use p AXIS.KI_KI_D * ed))
  let accQ := signed 48 (unsignedOf 48 (a.accQ + h.use p AXIS.KI_KI_Q * eq))
  let pp := h.rd p AXIS.AX_CFG_POLE_PAIRS
  let lph := h.use p AXIS.MOTOR_L_PH
  let ff := decide (h.use p AXIS.AX_CTRL_FF_EN = 1)
  let vd0 := (h.use p AXIS.KP_KP_D * ed) / 256 + accD / 65536
  let vq0 := (h.use p AXIS.KP_KP_Q * eq) / 256 + accQ / 65536
  let vd := if ff then vd0 - decouple speed pp lph iq else vd0
  let vq := if ff then vq0 + decouple speed pp lph id + backEmf speed pp (h.use p AXIS.KE) else vq0
  let limited := decide ((vbus * vbus : Nat) < 3 * (vd * vd + vq * vq))
  let v := if limited then ontoCircle vd vq vbus else (vd, vq)
  let grows (k e v : Int) : Bool := decide (0 < k * e * v)
  let h := h.wr p AXIS.AX_STS_LIMITED (b2n limited)
  let h := (h.wr p AXIS.V_OUT_VD (satSigned 16 v.1)).wr p AXIS.V_OUT_VQ (satSigned 16 v.2)
  h.modAx n fun a =>
    { a with vd := v.1, vq := v.2
             accD := if limited && grows (h.use p AXIS.KI_KI_D) ed vd then a.accD else accD
             accQ := if limited && grows (h.use p AXIS.KI_KI_Q) eq vq then a.accQ else accQ }

/-- The pulses of the period that starts at t for the present voltage, after the trips of the period before (R243, R245, R264). -/
def Hw.axModulate (h : Hw) (n vbus : Nat) (trips : List Trip) (t : Stamp) : Hw :=
  let p := pAXIS n
  let a := h.ax n
  let twoT : Int := 2 * h.rd p AXIS.PWM_PER
  if vbus = 0 then h
  else
    let vs := phaseVoltages a.vd a.vq a.theta
    let on := onTimes vs a.owed twoT vbus (h.useAt (axisBridge n) (pGATE (axisBank n)) GATE.REFRESH_REFRESH_MIN)
    let r := openWindows on twoT (h.axWin n)
    let owed := setI [0, 0, 0] r.1.midPh r.2.2
    let h := if r.2.1 then h.inc p AXIS.SHIFT_CNT else h
    let h := if r.2.2 ≠ 0 then h.inc p AXIS.CARRY_CNT else h
    let h := if r.1.sampleA && r.1.sampleB then h else h.inc p AXIS.SKIP_CNT
    let h := h.setPulses (axisBank n) (axisBridge n) trips ⟨t, r.1.lead, r.1.trail⟩
    h.modAx n fun a => { a with plan := some r.1, owed := owed }

/-- The hand-over criterion of R250, judged each period in RAMP; the observer is valid from 600 rpm. -/
def Hw.axHandover (h : Hw) (n obsTheta : Nat) (obsSpeed : Int) : Hw :=
  let p := pAXIS n
  let a := h.ax n
  let sp := rampSpeed (h.rd p AXIS.RAMP_RAMP_ACC) (h.rd p AXIS.PWM_PER) a.periods
  let agree := if (angleDiff obsTheta a.theta).natAbs ≤ 5461 then a.agree + 1 else 0
  let h := h.modAx n fun a => { a with agree := agree }
  if 16 * (h.rd p AXIS.RAMP_HANDOVER : Int) ≤ sp ∧ 9600 ≤ obsSpeed.natAbs ∧ 64 ≤ agree ∧ 20 * (obsSpeed - sp).natAbs ≤ sp.toNat then
    let th := a.theta
    (h.axEnter n 6).modAx n fun a => { a with theta := th }
  else h

/-- The Governor's newest output that arrived at least 200 ns before the period start is latched; later ones wait (R258). -/
def Hw.axLatchQ (h : Hw) (n : Nat) (t : Stamp) : Hw :=
  h.modAx n fun a =>
    match a.govNew.find? fun x => decide (204800 ≤ (t - x.2).toNat) with
    | some x => { a with govQ := x.1, govNew := a.govNew.takeWhile fun y => decide ((t - y.2).toNat < 204800) }
    | none => a

/-- The phase currents that a period's samples give, U, V, W (R244, R248): each of the two windows alone gives one. -/
def phaseCurrents (n : Nat) (pl : PwmPlan) (ofs codeA codeB : Int) : List Int :=
  let iMax := if pl.sampleA then shuntCurrent n codeA ofs else 0
  let iMin := if pl.sampleB then -(shuntCurrent n codeB ofs) else 0
  let iMid := if pl.sampleA && pl.sampleB then -(iMax + iMin) else 0
  setI (setI (setI [0, 0, 0] pl.maxPh iMax) pl.minPh iMin) pl.midPh iMid

/-- Whether a phase current reconstructed from the samples of the period before exceeds I_LIM (R248). A period with a tripped leg has no
sample (R270). -/
def Hw.overCurrent (h : Hw) (n : Nat) (tripped : Bool) (ofs codeA codeB : Int) : Bool :=
  match (h.ax n).plan with
  | some pl => !tripped && (phaseCurrents n pl ofs codeA codeB).any fun i => decide (h.use (pAXIS n) AXIS.LIMITS_I_LIM < i.natAbs)
  | none => false

/-- The back-EMF the observer estimates from the phase voltages of the period before, which lay at the angle `th` of that period, R_PH and
L_PH (R250): e = v − R·i − L·di/dt in α and β, in 2 mV units. -/
def Hw.axObserve (h : Hw) (n : Nat) (iu iv : Int) (th : Nat) : Hw :=
  let p := pAXIS n
  let r : Int := h.use p AXIS.MOTOR_R_PH
  let l : Int := h.use p AXIS.MOTOR_L_PH
  let per := h.rd p AXIS.PWM_PER
  let iA := iu
  let iB := approxDiv ((iu + 2 * iv) * 2479700525) (2 ^ 32)
  h.modAx n fun a =>
    let v := invPark a.vd a.vq th
    let e (v i i0 : Int) : Int := approxDiv v (2 ^ 32) - approxDiv (r * i) 1000 - approxDiv (100 * l * (i - i0)) per
    { a with iAlpha := iA, iBeta := iB, emfAlpha := e v.1 iA a.iAlpha, emfBeta := e v.2 iB a.iBeta }

/-- The magnitude of the observer's back-EMF in 2 mV units (R251). -/
def Axis.emf (a : Axis) : Nat := Nat.sqrt (a.emfAlpha * a.emfAlpha + a.emfBeta * a.emfBeta).toNat

/-- In RUN a polygon whose back-EMF differs from KE × ω_e by more than 25 % for 10 ms has lost its observer (R251). -/
def Hw.axEmfJudge (h : Hw) (n : Nat) (speed : Int) : Hw :=
  let p := pAXIS n
  if h.axState n ≠ 7 then h
  else
    let ok := amplitudeOk (h.ax n).emf speed (h.rd p AXIS.AX_CFG_POLE_PAIRS) (h.use p AXIS.KE)
    let h := h.modAx n fun a => { a with emfOff := if ok then 0 else a.emfOff + h.rd p AXIS.PWM_PER }
    if 10000000 ≤ (h.ax n).emfOff then h.axFault n 1 2 else h

/-- The currents and the modulator of axis n in a PWM period (R244–R246, R250, R251): the shunt codes of the two windows against the
offset, the trips of the period before, the angle of that period and the present one. -/
def Hw.axPeriod (h : Hw) (n : Nat) (trips : List Trip) (ofs speed codeA codeB : Int) (vbus obsTheta : Nat) (obsSpeed : Int)
    (old th : Nat) (t : Stamp) : Hw :=
  let p := pAXIS n
  let st := h.axState n
  match (h.ax n).plan with
  | some pl =>
    if trips.isEmpty && pl.sampleA && pl.sampleB then
      let cur := phaseCurrents n pl ofs codeA codeB
      let dq := park (nthI cur 0) (nthI cur 1) th
      let h := if isPoly n then (h.axObserve n (nthI cur 0) (nthI cur 1) old).axEmfJudge n obsSpeed else h
      if h.axState n ≠ st then h else
      let h := (h.wr p AXIS.I_MEAS_ID_MEAS (satSigned 16 dq.1)).wr p AXIS.I_MEAS_IQ_MEAS (satSigned 16 dq.2)
      let h := h.modAx n fun a => { a with missed := 0 }
      let h := (h.axControl n speed dq.1 dq.2 vbus).axModulate n vbus trips t
      if st = 5 then h.axHandover n obsTheta obsSpeed else h
    else
      let h := h.modAx n fun a => { a with missed := a.missed + 1 }
      if 8 < (h.ax n).missed then h.axFault n 1 4
      else
        let h := h.axModulate n vbus trips t
        if st = 5 then h.axHandover n obsTheta obsSpeed else h
  | none => h.axModulate n vbus trips t

/-- What a period starts with: the trips of the period before, the shunt offset and the speed, and the state that shows them. -/
structure AxStart where
  trips : List Trip
  ofs : Int
  speed : Int
  hw : Hw

/-- A period of axis n starts at t: waiting shadows apply, the trips of the last period end, SPEED_EST and ISHUNT_OFS are formed, and
slots triggered by the axis get their sample (R246, R258, R270, R298, R480). -/
def Hw.axBegin (h : Hw) (n : Nat) (zero obsSpeed : Int) (t : Stamp) : AxStart :=
  let p := pAXIS n
  let h := (h.unitBoundary p 0).unitBoundary (pGATE (axisBank n)) (axisBridge n)
  let br := h.bridgePeriod (axisBank n) (axisBridge n) t
  let h := br.2
  let speed := if isPoly n then obsSpeed else h.axEncSpeed n
  let h := h.wr p AXIS.SPEED_EST (satSigned 32 speed)
  let ofs := filter64 (signed 16 (h.rd p AXIS.ANGLE_ISHUNT_OFS)) zero
  let h := h.wr p AXIS.ANGLE_ISHUNT_OFS (satSigned 16 ofs)
  ⟨br.1, ofs, speed, h.later (.trigger 2 n)⟩

/-- A PWM period of axis n starts at t (R242): the shunt codes of the two windows and of the zero vector of the period before, the bus
voltage in 2 mV units, and what the back-EMF observer of a polygon gives, or measures in CATCH and WAIT: angle and mechanical speed in
1/16 rpm. The trips of R248 come in the order of R258; a polygon in RUN below 600 rpm has lost its observer (R251). -/
def axisPeriodStart (n : Nat) (codeA codeB zero : Int) (vbus obsTheta : Nat) (obsSpeed : Int) (t : Stamp) (h : Hw) : Hw :=
  let p := pAXIS n
  let b := h.axBegin n zero obsSpeed t
  let speed := b.speed
  let ofs := b.ofs
  let h := b.hw
  let st := h.axState n
  if !h.runs p then h
  else if !modulates st then
    let h := if isPoly n && decide (st ≠ 3) then h.wr p AXIS.ANGLE_THETA (obsTheta % 65536) else h
    if 1 ≤ st ∧ st ≤ 3 ∧ h.overSpeed n speed then h.axFault n 1 6 else h
  else if h.overCurrent n (!b.trips.isEmpty) ofs codeA codeB then h.axFault n 0 0
  else if h.overSpeed n speed then h.axFault n 1 6
  else if isPoly n && decide (st = 7) && decide (obsSpeed < 9600) then h.axFault n 1 2
  else
    let h := h.axLatchQ n t
    let old := (h.ax n).theta
    let th := h.axAngle n obsTheta
    let h := (h.modAx n fun a => { a with theta := th, periods := a.periods + 1 }).wr p AXIS.ANGLE_THETA th
    h.axPeriod n b.trips ofs speed codeA codeB vbus obsTheta obsSpeed old th t

/-! ### Block reset (R259) -/

/-- A block reset of an AXIS page: ENABLE drops, OFF, the counters clear; configuration and ELEC_OFS stay. -/
def Hw.resetAxis (h : Hw) (n : Nat) : Hw :=
  let p := pAXIS n
  let h := (h.wr p AXIS.AX_CTRL_EN 0).axToOff n
  let h := h.modAx n fun a => { Axis.reset with retries := a.retries, phaseGood := a.phaseGood }
  [AXIS.SHIFT_CNT, AXIS.CARRY_CNT, AXIS.SKIP_CNT, AXIS.STARTS_START_CNT, AXIS.STARTS_START_FAIL].foldl (fun h f => h.wr p f 0) h

end Sys2Proof.Machine
end

