-- ==== Sys2Proof/Machine/Profiles.lean ====
section
/-! DEFINITION. The time-optimal profile of a stepper (R284, R285): jerk-limited motion with bounds on jerk, acceleration and speed,
exact at every tick. The trajectory is chosen tick by tick by the time-optimal law: accelerate towards the limit speed on the side of
the goal until the position where the axis would come to rest reaches the goal, then come to rest; the last three ticks meet the goal
exactly. Jerk never exceeds J_MAX. -/

namespace Sys2Proof.Machine

/-! A tick of 1 µs at constant jerk is exact in these units: j in J, a in J·µs, v in J·µs²/2 and p in J·µs³/6, where J is 2^-48 full
steps per second cubed. -/

/-- Units of p in a microstep. -/
def pPerStep : Nat := 23437500000000000 * 2 ^ 48

/-- Units of v in a full step per second. -/
def vPerFs : Nat := 2000000000000 * 2 ^ 48

/-- Units of a in a full step per second squared. -/
def aPerFs : Nat := 1000000 * 2 ^ 48

/-- Units of j in a full step per second cubed. -/
def jPerFs : Nat := 2 ^ 48

/-- Position, speed and acceleration of a profile. -/
structure Kin where
  p : Int
  v : Int
  a : Int
deriving DecidableEq, Repr

/-- One tick of 1 µs at constant jerk j, exactly. -/
def Kin.tick (k : Kin) (j : Int) : Kin := ⟨k.p + 3 * k.v + 3 * k.a + j, k.v + 2 * k.a + j, k.a + j⟩

/-- The distance covered in coming to rest from speed v ≥ 0 side by side with acceleration a, where the speed reached by taking a to
zero is not negative: jerk down to −k, hold, jerk back. The time of the hold is no whole number of ticks. -/
def restDown (jj aMax v a : Int) : Int :=
  let k0 : Int := (((jj * v + a * a) / 2).toNat.sqrt : Nat)
  let k := min k0 aMax
  let t := a + k
  let base := 3 * v * t * jj + 3 * a * t * t - t * t * t + k * k * k
  if k0 ≤ aMax ∨ k = 0 then base / (jj * jj)
  else
    let hold := jj * v + a * a - 2 * k * k
    let v1 := jj * v + a * a - k * k
    (4 * k * base + 3 * hold * (2 * v1 - hold)) / (4 * k * jj * jj)

/-- The distance covered in coming to rest from speed v and acceleration a in the least time. -/
def restDist (jMax aMax : Nat) (v a : Int) : Int :=
  let jj : Int := jMax
  if jj = 0 then 0
  else if 0 ≤ jj * v + a * a.natAbs then restDown jj aMax v a else -(restDown jj aMax (-v) (-a))

/-- The largest acceleration from which, braked tick by tick at J_MAX, the speed does not pass a goal w ahead: with q full ticks of
jerk and a rest x − q·J it still gains x·(2q + 2) − q·(q + 1)·J. -/
def accFor (jj w : Nat) : Nat :=
  let q := ((4 * (w / jj) + 1).sqrt - 1) / 2
  (w + jj * (q * (q + 1))) / (2 * q + 2)

/-- The jerk that takes v to a goal speed with a = 0 in the least time and not past it. An acceleration above a new A_MAX returns to it
at J_MAX (R285). -/
def velJerk (jMax aMax : Nat) (v a goal : Int) : Int :=
  let w := goal - v - a
  let want : Int := if 0 ≤ w then accFor jMax w.natAbs else -(accFor jMax w.natAbs : Int)
  clampI (-(jMax : Int)) jMax (clampI (-(aMax : Int)) aMax want - a)

/-- One tick towards a speed; true where it is reached. -/
def velTick (jMax aMax : Nat) (k : Kin) (goal : Int) : Kin × Bool :=
  if k.a.natAbs ≤ jMax ∧ (goal - k.v - k.a).natAbs ≤ 1 then (⟨k.p + 3 * k.v + 2 * k.a, goal, 0⟩, true)
  else (k.tick (velJerk jMax aMax k.v k.a goal), false)

/-- The first jerk of the three ticks that bring position, speed and acceleration to zero, where all three stay within J_MAX and
the accelerations between within A_MAX. -/
def posLast (jMax aMax : Nat) (r : Kin) : Option Int :=
  let dp := -(r.p + 9 * r.v + 27 * r.a)
  let dv := -(r.v + 6 * r.a)
  let j1 := roundHalfUp (dp - 3 * dv - 2 * r.a) 6
  let j2 := roundHalfUp (dv + r.a - 4 * j1) 2
  let j3 := -r.a - j1 - j2
  if j1.natAbs ≤ jMax ∧ j2.natAbs ≤ jMax ∧ j3.natAbs ≤ jMax ∧ (r.a + j1).natAbs ≤ aMax ∧ (r.a + j1 + j2).natAbs ≤ aMax then some j1
  else none

/-- Whether one tick at jerk −a ends at zero, within the rounding of the last three ticks. -/
def Kin.lastTick (r : Kin) (jMax : Nat) : Bool :=
  decide (r.a.natAbs ≤ jMax ∧ (r.v + r.a).natAbs ≤ 12 ∧ (r.p - r.a).natAbs ≤ 40)

/-- How far short of the goal at 0 an axis would come to rest, counted in a direction. -/
def Kin.short (r : Kin) (jMax aMax : Nat) (sgn : Int) : Int := -(sgn * (r.p + restDist jMax aMax r.v r.a))

/-- One tick towards a position that moves at speed vf, under a bound on speed; true where it is reached. In the tick in which braking
begins the jerk lies between the one that goes on and the one that brakes, by the shortfalls they leave. -/
def posTick (jMax aMax : Nat) (vMax : Int) (k : Kin) (goal vf : Int) : Kin × Bool :=
  let r : Kin := ⟨k.p - goal, k.v - vf, k.a⟩
  if r.lastTick jMax then (⟨goal + 3 * vf, vf, 0⟩, true)
  else
    match posLast jMax aMax r with
    | some j => (k.tick j, false)
    | none =>
      let sgn : Int := if 0 ≤ r.short jMax aMax 1 then 1 else -1
      let on := velJerk jMax aMax r.v r.a (sgn * vMax - vf)
      let sOn := (r.tick on).short jMax aMax sgn
      if 0 ≤ sOn then (k.tick on, false)
      else
        let brake := velJerk jMax aMax r.v r.a 0
        let sBrake := (r.tick brake).short jMax aMax sgn
        (k.tick (if sBrake ≤ 0 then brake else brake + (on - brake) * sBrake / (sBrake - sOn)), false)

end Sys2Proof.Machine
end

