-- ==== Sys2Proof/Machine/Steppers.lean ====
section
/-! DEFINITION. Stepper axes, motion profiles, interpolation groups and the image–sheet rendezvous (R277–R296). -/

namespace Sys2Proof.Machine

/-! ### Units -/

/-- The inner state of stepper n. -/
def Hw.stp (h : Hw) (n : Nat) : Stepper := tget (fun _ => Stepper.reset) h.steppers n

/-- Change the inner state of stepper n. -/
def Hw.modStp (h : Hw) (n : Nat) (f : Stepper → Stepper) : Hw :=
  { h with steppers := tset (fun _ => Stepper.reset) h.steppers n (f (h.stp n)) }

/-- STEP_STS.STATE of stepper n (R277): 0 OFF, 1 PRECHARGE, 2 HOLD, 3 MOVE, 4 FAULT. -/
def Hw.stpState (h : Hw) (n : Nat) : Nat := h.rd (pSTEP n) STEP.STEP_STS_STATE

/-- Group g. -/
def Hw.grp (h : Hw) (g : Nat) : Group := tget (fun _ => Group.reset) h.motion.groups g

/-- Change group g. -/
def Hw.modGrp (h : Hw) (g : Nat) (f : Group → Group) : Hw :=
  { h with motion := { h.motion with groups := tset (fun _ => Group.reset) h.motion.groups g (f (h.grp g)) } }

/-- Rendezvous channel r. -/
def Hw.rdv (h : Hw) (r : Nat) : Rdv := tget (fun _ => Rdv.reset) h.motion.rdvs r

/-- Change rendezvous channel r. -/
def Hw.modRdv (h : Hw) (r : Nat) (f : Rdv → Rdv) : Hw :=
  { h with motion := { h.motion with rdvs := tset (fun _ => Rdv.reset) h.motion.rdvs r (f (h.rdv r)) } }

/-- A register field of copy i of the MOTION page, and its write. -/
def Hw.mo (h : Hw) (f : Field) (i : Nat) : Nat := h.rdi pMOTION f i
def Hw.moWr (h : Hw) (f : Field) (i v : Nat) : Hw := h.wri pMOTION f i v

/-- Whether group g moves. -/
def Hw.grpMoving (h : Hw) (g : Nat) : Bool := decide (h.mo MOTION.GRP_STS_MOVING g = 1)

/-- The state of rendezvous channel r (R292): 0 IDLE, 1 PURSUE, 2 LOCKED. -/
def Hw.rdvState (h : Hw) (r : Nat) : Nat := h.mo MOTION.RDV_STS_STATE r

/-- The rendezvous channel that drives stepper n, 4 for none. -/
def Hw.rdvOf (h : Hw) (n : Nat) : Nat :=
  match (List.range 4).find? fun r => decide (h.rdvState r ≠ 0 ∧ h.mo MOTION.RDV_CTRL_AXIS r = n) with
  | some r => r
  | none => 4

/-- The moving group of stepper n, 4 for none. -/
def Hw.grpOf (h : Hw) (n : Nat) : Nat :=
  match (List.range 4).find? fun g => h.grpMoving g && bitAt (h.mo MOTION.GRP_CFG_MEMBERS g) n with
  | some g => g
  | none => 4

/-- The GATE page of stepper m, its bridge there and the bits of its four legs. -/
def stepBank (m : Nat) : Nat := 3 + m / 6
def stepBridge (m : Nat) : Nat := m % 6
def stepLegs (m : Nat) : List Nat := (List.range 4).map fun i => 4 * stepBridge m + i

/-- Enter a state of R277. OFF and FAULT clear POS_VALID; HOLD begins at I_RUN (R283). ENABLE of the four legs is high in PRECHARGE, HOLD
and MOVE; in PRECHARGE there are no pulses, so that all four low sides are on. -/
def Hw.stpEnter (h : Hw) (n st : Nat) : Hw :=
  let p := pSTEP n
  let old := h.stpState n
  let h := h.wr p STEP.STEP_STS_STATE st
  let h := h.wr p FACE.PAGE_STS_STATE st
  let h := if st = 0 ∨ st = 4 then h.wr p STEP.STEP_STS_POS_VALID 0 else h
  let h := h.setDrive (stepBank n) (stepBridge n) (if st = 0 ∨ st = 4 then .off else .on)
  h.modStp n fun s => { s with go := false, held := false, from_ := old, enteredAt := h.clk.cycles, exit := 0 }

/-- A group stops moving: its marks clear. -/
def Hw.grpEnd (h : Hw) (g : Nat) : Hw :=
  let h := h.moWr MOTION.GRP_STS_MOVING g 0
  let h := h.setBit pMOTION MOTION.MO_STS_GRP_MOVING g false
  let h := forN 16 (fun n h =>
    if bitAt (h.mo MOTION.GRP_CFG_MEMBERS g) n then h.wr (pSTEP n) STEP.STEP_STS_IN_GROUP 0 else h) h
  h.modGrp g fun _ => Group.reset

/-- A rendezvous channel returns to IDLE: its axis goes to VELOCITY mode with the speed goal of V_TGT, or 0 (R292, R294, R296). -/
def Hw.rdvEnd (h : Hw) (r : Nat) (stop : Bool) : Hw :=
  let n := h.mo MOTION.RDV_CTRL_AXIS r
  let h := h.moWr MOTION.RDV_STS_STATE r 0
  let h := h.setBit pMOTION MOTION.MO_STS_RDV_LOCKED r false
  let h := h.setBit pMOTION MOTION.MO_STS_RDV_ACTIVE r false
  let h := h.wr (pSTEP n) STEP.STEP_CTRL_MODE 1
  let h := if stop then h.wr (pSTEP n) STEP.V_TGT 0 else h
  let h := h.modRdv r fun _ => Rdv.reset
  if h.stpState n = 2 ∨ h.stpState n = 3 then h.modStp n fun s => { s with go := true } else h

/-- A rendezvous fails with a condition of R294; the kernel treats it as a jam (R294, R347). -/
def Hw.rdvFail (h : Hw) (r cond : Nat) : Hw :=
  let h := h.rdvEnd r true
  (h.raise pMOTION 1 (cap0 (r + 256 + 4096 * cond))).later (.jam 5)

/-- A stop of stepper n that freezes μ (R288): VEL and ACC show it. -/
def Hw.stpFreeze (h : Hw) (n : Nat) : Hw :=
  let h := h.modStp n fun s => { s with p := s.mu * pPerStep, v := 0, a := 0, j := 0, c := s.mu, vc := 0 }
  (h.wr (pSTEP n) STEP.VEL 0).wr (pSTEP n) STEP.ACC 0

/-! The exits of R278 come in its order: of several in one clock the first row alone has its effect. -/

/-- Whether stepper n has left its state by a row of R278 in this clock. -/
def Hw.stpExited (h : Hw) (n : Nat) : Bool := decide ((h.stp n).exit ≠ 0 ∧ (h.stp n).enteredAt = h.clk.cycles)

/-- The state of stepper n from which the exits of this clock lead. -/
def Hw.stpExitFrom (h : Hw) (n : Nat) : Nat := if h.stpExited n then (h.stp n).from_ else h.stpState n

/-- Whether a cause of a row of R278 takes stepper n out of its state: no earlier row has in this clock, and FAULT is left by MBUS_LOW and
EN = 0 alone. -/
def Hw.stpExitGoes (h : Hw) (n row : Nat) : Bool :=
  if h.stpExited n then decide (row < (h.stp n).exit) else decide (h.stpState n ≠ 4 ∨ row = 2 ∨ row = 6)

/-- Stepper n goes to a state by a row of R278, its profile ended. -/
def Hw.stpExit (h : Hw) (n row st : Nat) : Hw :=
  let from_ := h.stpExitFrom n
  ((h.stpFreeze n).stpEnter n st).modStp n fun s => { s with exit := row, from_ := from_ }

/-- Whether an immediate stop acts on stepper n: it is, or was until a later row of this clock, in HOLD or MOVE. -/
def Hw.stpHalts (h : Hw) (n : Nat) : Bool := decide (h.stpExitFrom n = 2 ∨ h.stpExitFrom n = 3) && h.stpExitGoes n 5

/-- The stop itself of R288, without what hangs on it: HOLD with POS_VALID 0, HALT, the count. RES starts again at 0 (DESIGN CHOICE,
assumption 31). -/
def Hw.stpHaltOne (h : Hw) (n : Nat) : Hw :=
  let p := pSTEP n
  let st := h.stpExitFrom n
  if h.stpHalts n then
    let h := h.stpExit n 5 2
    let h := (h.wr p STEP.STEP_STS_POS_VALID 0).wr p STEP.STEP_STS_RES 0
    (h.inc p STEP.HALT_CNT).raise p 1 (cap0 (st + 256 * 5))
  else h

/-- An immediate stop, a fault or a drop to OFF of stepper n halts its moving group (R291) and fails its rendezvous (R294). Leaving
through OFF counts as a fault here (DESIGN CHOICE, assumption 32). -/
def Hw.stpHurt (h : Hw) (n : Nat) : Hw :=
  let g := h.grpOf n
  let r := h.rdvOf n
  let h :=
    if g < 4 then
      let ms := below 16 fun m => bitAt (h.mo MOTION.GRP_CFG_MEMBERS g) m
      let h := h.grpEnd g
      let h := ms.foldl (fun h m => if m = n then h else h.stpHaltOne m) h
      h.raise pMOTION 0 (cap0 g)
    else h
  if r < 4 then h.rdvFail r 5 else h

/-- An immediate stop of stepper n (R288), once in a clock. -/
def Hw.stpHalt (h : Hw) (n : Nat) : Hw := if h.stpHalts n then (h.stpHaltOne n).stpHurt n else h

/-- Stepper n faults with a cause of R278, which is its row. An axis already in FAULT stays there. -/
def Hw.stpFault (h : Hw) (n cause : Nat) : Hw :=
  let p := pSTEP n
  let st := h.stpExitFrom n
  if !h.stpExitGoes n cause then h
  else
    let h := h.stpExit n cause 4
    let h := (h.wr p STEP.STEP_STS_LAST_CAUSE cause).inc p STEP.FAULT_CNT
    (h.raise p 0 (cap0 (st + 256 * cause))).stpHurt n

/-- The gate stage or E-STOP disables stepper n (R278 row 1). -/
def Hw.stpStageOff (h : Hw) (n : Nat) : Hw := h.stpFault n 1

/-- Stepper n goes to OFF by a row, with EN cleared. -/
def Hw.stpToOff (h : Hw) (n row : Nat) : Hw :=
  let st := h.stpState n
  let h := (h.stpExit n row 0).wr (pSTEP n) STEP.STEP_CTRL_EN 0
  if st = 2 ∨ st = 3 then h.stpHurt n else h

/-- EN of stepper n is written 0 (R278 row 6). -/
def Hw.stpOff (h : Hw) (n : Nat) : Hw := if h.stpExitGoes n 6 then h.stpToOff n 6 else h.wr (pSTEP n) STEP.STEP_CTRL_EN 0

/-- MBUS is low: stepper n goes to OFF with EN cleared, unless the gate stage has taken it in this clock (R278 row 2). -/
def Hw.stpMbusLow (h : Hw) (n : Nat) : Hw :=
  let p := pSTEP n
  let st := h.stpExitFrom n
  let h := h.wr p STEP.STEP_STS_MBUS_LOW 1
  if h.stpExitGoes n 2 then ((h.stpToOff n 2).wr p STEP.STEP_STS_LAST_CAUSE 2).raise p 0 (cap0 (st + 256 * 2)) else h

/-! ### Enabling (R277, R278) -/

/-- STEP_CTRL.EN of stepper n is 1 (R277): in OFF it starts PRECHARGE, is refused while MBUS is low and ignored in FAULT. Only the
engine kernel's own write of it re-arms the unit. -/
def Hw.stepEnable (h : Hw) (n : Nat) (rearm : Bool) : Hw :=
  let p := pSTEP n
  if h.is p STEP.STEP_STS_MBUS_LOW then h.wr p STEP.STEP_STS_CFG_REFUSED 1
  else if h.stpState n ≠ 0 then h
  else
    let h := h.wr p STEP.STEP_CTRL_EN 1
    let h := if rearm then h.rearmUnit (stepBank n) (stepBridge n) else h
    if h.stageHeld (stepBank n) (stepBridge n) then h.stpStageOff n else h.stpEnter n 1

/-- A write of STEP_CTRL.EN (R277, R278): 1 in OFF starts PRECHARGE, is refused while MBUS is low and ignored in FAULT; 0 goes to
OFF. The engine kernel's write re-arms the stepper after an E-STOP (R34); one whose ENABLE the gate stage holds low reports STAGE_OFF
(R18, R34, R267, R271; assumption 89). -/
def stepEnWrite (m : Master) (n : Nat) (v : Bool) (h : Hw) : Hw :=
  let p := pSTEP n
  h.writeTo m (addrOf STEP.STEP_CTRL_EN p 0) fun h =>
    if v then h.stepEnable n (isKernel m) else h.stpOff n

/-- All four bootstraps are charged (R277). -/
def stepPrechargeDone (n : Nat) (h : Hw) : Hw :=
  if h.stpState n ≠ 1 then h
  else
    let h := (stepLegs n).foldl (fun h l => h.setBit (pGATE (stepBank n)) GATE.BOOT_OK l true) h
    (h.stpFreeze n).stpEnter n 2

/-- The bootstraps are not charged within 200 µs (R277). -/
def stepPrechargeFail (n : Nat) (h : Hw) : Hw := if h.stpState n = 1 then h.stpFault n 4 else h

/-- A write of STOP_NOW (R288). -/
def stopNow (m : Master) (n : Nat) (h : Hw) : Hw := h.writeTo m (addrOf STEP.STEP_CTRL_STOP_NOW (pSTEP n) 0) fun h => h.stpHalt n

/-! ### Goals (R285, R289, R290) -/

/-- Whether stepper n takes a goal: HOLD or MOVE. -/
def Hw.stpTakes (h : Hw) (n : Nat) : Bool := decide (h.stpState n = 2 ∨ h.stpState n = 3)

/-- A write of a goal field: refused for a member of a moving group (R290), discarded where an exit of R278 takes the axis in the same
clock, else stored and taken up at the next tick (R285). -/
def Hw.stpGoal (h : Hw) (n : Nat) (f : Field) (v : Nat) : Hw :=
  let p := pSTEP n
  if h.grpOf n < 4 then h.wr p STEP.STEP_STS_CFG_REFUSED 1
  else if h.stpExited n then h
  else
    let h := h.wr p f v
    if h.stpTakes n then h.modStp n fun s => { s with go := true } else h

/-- A write of TARGET (R285). -/
def targetWrite (m : Master) (n : Nat) (v : Word) (h : Hw) : Hw :=
  h.writeTo m (addrOf STEP.TARGET (pSTEP n) 0) fun h => h.stpGoal n STEP.TARGET v.toNat

/-- A write of V_TGT (R285). -/
def vTgtWrite (m : Master) (n : Nat) (v : BitVec 16) (h : Hw) : Hw :=
  h.writeTo m (addrOf STEP.V_TGT (pSTEP n) 0) fun h => h.stpGoal n STEP.V_TGT v.toNat

/-- A write of MODE (R285, R296): 2 and 3 are refused, and every value while a rendezvous drives the axis. -/
def modeWrite (m : Master) (n v : Nat) (h : Hw) : Hw :=
  h.writeTo m (addrOf STEP.STEP_CTRL_MODE (pSTEP n) 0) fun h =>
    if 2 ≤ v ∨ h.rdvOf n < 4 then h.wr (pSTEP n) STEP.STEP_STS_CFG_REFUSED 1 else h.stpGoal n STEP.STEP_CTRL_MODE v

/-- μ with the sign of DIR_INV (R283). -/
def Hw.stpSign (h : Hw) (n : Nat) (z : Int) : Int := if h.is (pSTEP n) STEP.STEP_CFG_DIR_INV then -z else z

/-- A write of POS_SET (R289). -/
def posSet (m : Master) (n : Nat) (v : Word) (h : Hw) : Hw :=
  let p := pSTEP n
  h.writeTo m (addrOf STEP.POS_SET p 0) fun h =>
    if h.stpState n ≠ 2 then h.wr p STEP.STEP_STS_CFG_REFUSED 1
    else
      let z : Int := v.toInt
      let h := h.modStp n fun s =>
        { s with angle := s.angle + h.stpSign n s.mu - h.stpSign n z, mu := z, c := z, p := z * pPerStep }
      (h.wr p STEP.POS v.toNat).wr p STEP.STEP_STS_POS_VALID 1

/-! ### Interpolation between commands (R286, R287) -/

/-- G of a resolution (R286). -/
def coarseG (res : Nat) : Nat := 4 ^ res

/-- |v| in v units at which the next coarser resolution is entered from res, and at which it is left again (R286): 300, 750, 1500 and
3000 full steps per second, and 270, 675, 1350 and 2700. -/
def coarseUp (res : Nat) : Nat := [300, 750, 1500, 3000].getD res 0 * vPerFs
def coarseDown (res : Nat) : Nat := [270, 675, 1350, 2700].getD res 0 * vPerFs

/-- Whether a speed asks for the next coarser resolution than res: at the level, for full step above it. -/
def wantsCoarser (res : Nat) (v : Int) : Bool :=
  if res = 3 then decide (coarseUp 3 < v.natAbs) else decide (res < 3 ∧ coarseUp res ≤ v.natAbs)

/-- Whether a speed asks for the next finer resolution than res. -/
def wantsFiner (res : Nat) (v : Int) : Bool := decide (0 < res ∧ v.natAbs < coarseDown (res - 1))

/-- The coarse grid point last passed at a position with a speed (R286). -/
def coarseAt (g : Nat) (p v : Int) : Int :=
  let q : Int := (pPerStep : Int) * g
  if 0 ≤ v then g * (p / q) else -(g * ((-p) / q))

/-- The profile's position at a time up to 1 µs after its last tick. -/
def Stepper.posAt (s : Stepper) (t : Stamp) : Int :=
  let x : Int := min 1024000 (t - s.at_).toNat
  s.p + 3 * s.v * x / 1024000 + 3 * s.a * x * x / 1024000 ^ 2

/-- μ from a command c and what the axis has moved since: within the grid of the resolution (R287). -/
def muFrom (g : Nat) (c v d : Int) : Int :=
  let top : Int := (g : Int) - 1
  if 0 < v then c + clampI 0 top d else if v < 0 then c + clampI (-top) 0 d else c

/-- The interpolated μ of a stepper at a time (R287): from the last command, or from a grid point passed since the last tick. -/
def Stepper.muAt (s : Stepper) (g : Nat) (t : Stamp) : Int :=
  let c := coarseAt g (s.posAt t) s.v
  if c = s.c then muFrom g s.c s.vc (roundHalfUp (128 * s.vc * (t - s.tc).toNat) (1024000000000000000000000 * 2 ^ 48))
  else muFrom g c s.v (roundHalfUp (s.posAt t - c * pPerStep) pPerStep)

/-- μ of stepper n at a time. A frozen or resting axis keeps its μ. -/
def Hw.stpMuAt (h : Hw) (n : Nat) (t : Stamp) : Int :=
  if h.stpState n = 3 then (h.stp n).muAt (coarseG (h.rd (pSTEP n) STEP.STEP_STS_RES)) t else (h.stp n).mu

/-- A command is issued at the grid point c, unless it is the last: its time is that at which the profile passed the point, by the speed at
the tick t and in whole units (R286, R287; DESIGN CHOICE, assumption 145). -/
def Stepper.issue (s : Stepper) (c : Int) (t : Stamp) : Stepper :=
  if c = s.c then s
  else
    let back : Int := if s.v = 0 then 0 else clampI 0 1024000 ((s.p - c * pPerStep) * 1024000 / (3 * s.v))
    { s with c := c, vc := s.v, tc := t - BitVec.ofInt 64 back }

/-- The coarse command after a tick (R286): a crossing of the grid in the direction of motion issues a command, and a change of
resolution waits for the coarser grid. -/
def Hw.stpCoarse (h : Hw) (n : Nat) (t : Stamp) : Hw :=
  let p := pSTEP n
  let h := h.modStp n fun s => { s with at_ := t }
  let s := h.stp n
  let res := h.rd p STEP.STEP_STS_RES
  let issue (h : Hw) (res : Nat) : Hw := h.modStp n fun s => s.issue (coarseAt (coarseG res) s.p s.v) t
  let h := issue h res
  let c := (h.stp n).c
  let h :=
    if wantsCoarser res s.v && decide (c % (coarseG (res + 1) : Int) = 0) then
      (h.wr p STEP.STEP_STS_RES (res + 1)).inc p STEP.RES_CHG
    else if wantsFiner res s.v && decide (c % (coarseG res : Int) = 0) then
      (h.wr p STEP.STEP_STS_RES (res - 1)).inc p STEP.RES_CHG
    else h
  issue h (h.rd p STEP.STEP_STS_RES)

/-- Show VEL and ACC (R296). -/
def Hw.stpShow (h : Hw) (n : Nat) : Hw :=
  let p := pSTEP n
  let s := h.stp n
  (h.wr p STEP.VEL (satSigned 32 (approxDiv (16 * s.v) vPerFs))).wr p STEP.ACC (satSigned 32 (approxDiv s.a aPerFs))

/-- Take up a kinematic state; the jerk of the tick is the change of a (R284). -/
def Hw.stpSet (h : Hw) (n : Nat) (k : Kin) : Hw := h.modStp n fun s => { s with p := k.p, v := k.v, a := k.a, j := k.a - s.a }

/-- The kinematic state of stepper n. -/
def Hw.stpKin (h : Hw) (n : Nat) : Kin :=
  let s := h.stp n
  ⟨s.p, s.v, s.a⟩

/-- A profile ends at rest: HOLD (R277). -/
def Hw.stpRest (h : Hw) (n : Nat) : Hw :=
  let h := (h.modStp n fun s => { s with mu := s.p / pPerStep, c := s.p / pPerStep, vc := 0 }).stpEnter n 2
  h.wr (pSTEP n) STEP.POS (unsignedOf 32 (h.stp n).mu)

/-- The target of stepper n as an unwrapped position in microsteps (R285). -/
def Hw.stpTarget (h : Hw) (n : Nat) : Int :=
  let q := (h.stp n).p / pPerStep
  q + signed 32 (unsignedOf 32 (h.rd (pSTEP n) STEP.TARGET - q))

/-! ### BELT's gear (R292) -/

/-- BELT's speed in units per second times 16. -/
def Hw.beltSpeed16 (h : Hw) : Int :=
  let one (i : Nat) : Int := approxDiv (h.encSpeed (h.beltCh i) * (h.beltScale i).1) (h.beltScale i).2
  match h.beltFollows with
  | some i => one i
  | none => approxDiv (one 0 + one 1) 2

/-- The signed 48-bit difference of two BELT values. -/
def beltDiff (a b : Nat) : Int := signed 48 (unsignedOf 48 ((a : Int) - b))

/-- B_MEET of channel r. -/
def Hw.bMeet (h : Hw) (r : Nat) : Nat := h.rd2 pMOTION MOTION.B_MEET_LO MOTION.B_MEET_HI r

/-- x_g of channel r in microsteps (R292). -/
def Hw.gearAt (h : Hw) (r : Nat) : Int :=
  signed 32 (h.mo MOTION.MU_MEET r)
    - beltDiff (h.bMeet r) h.beltNow.toNat * h.mo MOTION.GEAR_NUM r / h.mo MOTION.GEAR_DEN r

/-- dx_g/dt of channel r in v units. -/
def Hw.gearSpeed (h : Hw) (r : Nat) : Int :=
  approxDiv (h.beltSpeed16 * h.mo MOTION.GEAR_NUM r * vPerFs) (16 * 256 * h.mo MOTION.GEAR_DEN r)

/-- x_g as an unwrapped position near the axis. -/
def Hw.gearGoal (h : Hw) (r n : Nat) : Int :=
  let q := (h.stp n).p / pPerStep
  q + signed 32 (unsignedOf 32 (h.gearAt r - q))

/-! ### The 1 µs tick (R284–R294) -/

/-- The limits in use of stepper n in profile units: J_MAX, A_MAX and V_MAX. -/
def Hw.stpLims (h : Hw) (n : Nat) : Nat × Nat × Nat :=
  (h.use (pSTEP n) STEP.J_MAX * jPerFs, h.use (pSTEP n) STEP.A_MAX * aPerFs, min 10000 (h.use (pSTEP n) STEP.V_MAX) * vPerFs)

/-- The limits of a group's lead (R290): each of its limits in use replaced by the least over the members that move, to 2^-48 of a full
step per second cubed. -/
def Hw.leadLims (h : Hw) (g lead : Nat) : Nat × Nat × Nat :=
  let line := (h.grp g).line
  let dLead := match line.find? fun x => decide (x.1 = lead) with
    | some x => x.2.2.natAbs
    | none => 0
  line.foldl (fun l x =>
    if x.2.2 = 0 then l
    else
      let m := h.stpLims x.1
      let k := x.2.2.natAbs
      (min l.1 (m.1 * dLead / k), min l.2.1 (m.2.1 * dLead / k), min l.2.2 (m.2.2 * dLead / k))) (h.stpLims lead)

/-- One tick of a stepper that follows its own goal (R284). A goal just written starts a move where it differs from rest at the
goal. -/
def Hw.stpTick (h : Hw) (n : Nat) (t : Stamp) : Hw :=
  let p := pSTEP n
  let mode := h.rd p STEP.STEP_CTRL_MODE
  let vt : Int := signed 16 (h.rd p STEP.V_TGT)
  let moves : Bool := match mode with
    | 0 => decide ((h.stp n).p ≠ h.stpTarget n * pPerStep)
    | 1 => decide (vt ≠ 0)
    | _ => true
  let h := if h.stpState n = 2 ∧ (h.stp n).go ∧ moves then h.stpEnter n 3 else h.modStp n fun s => { s with go := false }
  if h.stpState n ≠ 3 then h
  else
    let l := h.stpLims n
    let k := h.stpKin n
    let v : Int := l.2.2
    let r := match mode with
      | 0 => posTick l.1 l.2.1 v k (h.stpTarget n * pPerStep) 0
      | 1 => velTick l.1 l.2.1 k (clampI (-v) v (vt * vPerFs))
      | _ => posTick l.1 l.2.1 v k (h.gearGoal (h.rdvOf n) n * pPerStep) (h.gearSpeed (h.rdvOf n))
    let h := ((h.stpSet n r.1).stpCoarse n t).stpShow n
    if r.2 && (decide (mode = 0) || (decide (mode = 1) && decide (vt = 0))) then h.stpRest n else h

/-- The lead of a set of distances: the largest magnitude, the lowest number among equals (R290). -/
def leadOf (line : List (Nat × Int × Int)) : Nat :=
  (line.foldl (fun (b : Nat × Nat) x => if b.2 < x.2.2.natAbs then (x.1, x.2.2.natAbs) else b) (16, 0)).1

/-- Start group g on a line from rest: each target as given, each start at its present position (R290). -/
def Hw.grpStart (h : Hw) (g : Nat) (targets : List (Nat × Int)) : Hw :=
  let line : List (Nat × Int × Int) := targets.map fun x =>
    let s := (h.stp x.1).p / pPerStep
    (x.1, s, x.2 - s)
  let lead := leadOf line
  if lead = 16 then h
  else
    let h := h.modGrp g fun _ => ⟨line, targets, false, []⟩
    let h := (h.moWr MOTION.GRP_STS_LEAD g lead).moWr MOTION.GRP_STS_MOVING g 1
    let h := h.setBit pMOTION MOTION.MO_STS_GRP_MOVING g true
    line.foldl (fun h x => (h.stpEnter x.1 3).wr (pSTEP x.1) STEP.STEP_STS_IN_GROUP 1) h

/-- Place the other members of group g on the line of its lead (R290). -/
def Hw.grpFollow (h : Hw) (g lead : Nat) (s0 d0 : Int) (t : Stamp) : Hw :=
  let pl := (h.stp lead).p
  let vl := (h.stp lead).v
  let al := (h.stp lead).a
  (h.grp g).line.foldl (fun h x =>
    if x.1 = lead then h
    else
      let sgn : Int := if d0 < 0 then -1 else 1
      let den := d0.natAbs
      let pos := x.2.1 + roundHalfUp (x.2.2 * sgn * (pl - s0 * pPerStep)) (den * pPerStep)
      let h := h.stpSet x.1 ⟨pos * pPerStep, approxDiv (x.2.2 * sgn * vl) den, approxDiv (x.2.2 * sgn * al) den⟩
      (h.stpCoarse x.1 t).stpShow x.1) h

/-- One tick of group g (R290, R291): the lead moves to its target or stops, the members follow the line; at the end every member is on its
own target. -/
def Hw.grpTick (h : Hw) (g : Nat) (t : Stamp) : Hw :=
  if !h.grpMoving g then h
  else
    let lead := h.mo MOTION.GRP_STS_LEAD g
    let gr := h.grp g
    let x := match gr.line.find? fun x => decide (x.1 = lead) with
      | some x => x.2
      | none => (0, 0)
    let l := h.leadLims g lead
    let k := h.stpKin lead
    let goal := match gr.ends.find? fun x => decide (x.1 = lead) with
      | some x => x.2
      | none => x.1 + x.2
    let r := if gr.stopping then velTick l.1 l.2.1 k 0 else posTick l.1 l.2.1 l.2.2 k (goal * pPerStep) 0
    let h := ((h.stpSet lead r.1).stpCoarse lead t).stpShow lead
    let h := h.grpFollow g lead x.1 x.2 t
    if !r.2 then h
    else
      let h := if gr.stopping then h else gr.ends.foldl (fun h x => h.stpSet x.1 ⟨x.2 * pPerStep, 0, 0⟩) h
      let h := (gr.line.map Prod.fst).foldl (fun h m => h.stpRest m) h
      let h := h.grpEnd g
      if gr.stopping then h.grpStart g gr.next else h

/-- One tick of rendezvous channel r (R292, R294): lock after 64 ticks within RDV_TOL, the checks at LOCK_LEAD, release past the
meeting point. -/
def Hw.rdvTick (h : Hw) (r : Nat) (t : Stamp) : Hw :=
  let st := h.rdvState r
  if st = 0 then h
  else
    let n := h.mo MOTION.RDV_CTRL_AXIS r
    let b := h.beltNow.toNat
    let e := signed 32 (unsignedOf 32 (h.stpMuAt n t - h.gearAt r))
    let near := if e.natAbs ≤ h.mo MOTION.RDV_TOL r then (h.rdv r).near + 1 else 0
    let h := h.modRdv r fun c => { c with near := near }
    let h :=
      if st = 1 ∧ 64 ≤ near then
        (h.moWr MOTION.RDV_STS_STATE r 2).setBit pMOTION MOTION.MO_STS_RDV_LOCKED r true
      else h
    let st := h.rdvState r
    if 0 ≤ beltDiff b (h.bMeet r) + h.mo MOTION.LOCK_LEAD r ∧ !(h.rdv r).stamped then h.rdvFail r 3
    else if 0 ≤ beltDiff b (h.bMeet r) + h.mo MOTION.LOCK_LEAD r ∧ st ≠ 2 then h.rdvFail r 4
    else if st = 2 ∧ (h.mo MOTION.REL_DIST r : Int) < beltDiff b (h.bMeet r) then h.rdvEnd r false
    else h

/-- BELT enters the sheet tracker's history every 1 µs, which holds 8 ms (R341). -/
def Hw.beltSample (h : Hw) (t : Stamp) : Hw := { h with beltHist := ((t, h.beltNow) :: h.beltHist).take 8001 }

/-- The 1 µs tick of MOTION at t (R284); the sheet tracker samples BELT in the same microsecond. -/
def motionTick (t : Stamp) (h : Hw) : Hw :=
  let h := forN 16 (fun n h => h.unitBoundary (pSTEP n) 0) (h.beltSample t)
  if !h.runs pMOTION then h
  else
    let h := forN 4 (fun g h => h.grpTick g t) h
    let h := forN 16 (fun n h => if h.stpTakes n && decide (h.grpOf n = 4) then h.stpTick n t else h) h
    let h := forN 4 (fun r h => h.rdvTick r t) h
    let k := h.motion.ticks
    let h := { h with motion := { h.motion with ticks := k + 1 } }
    if k % 4 = 0 then
      forN 16 (fun n h => h.modStp n fun s => { s with mus := ((t, h.stpMuAt n t) :: s.mus).take 257 }) h
    else h

/-! ### The chopper (R279–R283) -/

/-- One phase's controller (R279): integrator, voltage and whether the duty is at its limit, from the references in 1 mA and 2 mA, the
gains, the limit of the duty as voltage, and what was there. -/
def chopPhase (kp ki : Nat) (iRef iMeas acc : Int) (lim : Bool) (uMax : Nat) : Int × Int × Bool :=
  let e := approxDiv iRef 2 - iMeas
  let acc1 := if lim then acc else signed 48 (unsignedOf 48 (acc + ki * e))
  let u := signed 32 (unsignedOf 32 ((kp * e) / 256 + acc1 / 65536))
  (acc1, u, decide (uMax ≤ u.natAbs))

/-- I_SET of stepper n in mA (R283). -/
def Hw.iSet (h : Hw) (n : Nat) : Nat :=
  let f := if h.stpState n = 2 ∧ (h.stp n).held then STEP.CURRENT_I_HOLD else STEP.CURRENT_I_RUN
  min 5657 (h.use (pSTEP n) f)

/-- The controllers of both phases of stepper n in a chop period (R279), for the measured currents and the position mu. -/
def Hw.chop (h : Hw) (n : Nat) (iA iB : Int) (vbus : Nat) (mu : Int) : Hw :=
  let p := pSTEP n
  let s := h.stp n
  let w := unsignedOf 32 (h.stpSign n mu + s.angle + 128) % 1024
  let per := h.rd p STEP.CHOP_PER
  let refresh := h.useAt (stepBridge n) (pGATE (stepBank n)) GATE.REFRESH_REFRESH_MIN
  let uMax := (per - refresh) * vbus / max 1 per
  let i := h.iSet n
  let ra := chopPhase (h.use p STEP.KP) (h.use p STEP.KI) (cosTimes i w) iA s.accA s.limA uMax
  let rb := chopPhase (h.use p STEP.KP) (h.use p STEP.KI) (sinTimes i w) iB s.accB s.limB uMax
  h.modStp n fun s =>
    { s with accA := ra.1, uA := ra.2.1, limA := ra.2.2, accB := rb.1, uB := rb.2.1, limB := rb.2.2 }

/-- The on-times of legs AP, AN, BP and BN in ns for the present voltages (R280). -/
def Hw.chopOn (h : Hw) (n vbus : Nat) : List Nat :=
  let s := h.stp n
  let per := h.rd (pSTEP n) STEP.CHOP_PER
  let refresh := h.useAt (stepBridge n) (pGATE (stepBank n)) GATE.REFRESH_REFRESH_MIN
  let on (u : Int) : Nat := min (per - refresh) (approxDiv (u.natAbs * per : Nat) vbus).toNat
  let pair (u : Int) : List Nat := if 0 ≤ u then [on u, 0] else [0, on u]
  pair s.uA ++ pair s.uB

/-- The pulses of the period that starts at t: each leg high for its on-time about the period's centre (R280). -/
def Hw.chopPulses (h : Hw) (n vbus : Nat) (trips : List Trip) (t : Stamp) : Hw :=
  let per : Int := h.rd (pSTEP n) STEP.CHOP_PER
  let on := h.chopOn n vbus
  if vbus = 0 then h
  else h.setPulses (stepBank n) (stepBridge n) trips ⟨t, on.map fun (x : Nat) => per - x, on.map fun (x : Nat) => per + x⟩

/-- A chopper period of axis n starts at t: waiting shadows apply, and the trips of the last period end (R270, R480). -/
def Hw.chopBegin (h : Hw) (n : Nat) (t : Stamp) : List Trip × Hw :=
  ((h.unitBoundary (pSTEP n) 1).unitBoundary (pGATE (stepBank n)) (stepBridge n)).bridgePeriod (stepBank n) (stepBridge n) t

/-- A chopping period of stepper n starts at t (R279–R283): the phase currents at the period centre in 2 mA units and the bus voltage in
2 mV units. In a period with a tripped leg the controller does not update, and the previous voltage is applied again (R281). -/
def chopPeriodStart (n : Nat) (iA iB : Int) (vbus : Nat) (t : Stamp) (h : Hw) : Hw :=
  let p := pSTEP n
  let br := h.chopBegin n t
  let h := br.2
  if !h.stpTakes n || !h.runs p then h
  else
    let h := (h.wr p STEP.I_MEAS_IA (satSigned 16 iA)).wr p STEP.I_MEAS_IB (satSigned 16 iB)
    let trip := h.use p STEP.I_TRIP
    if trip < 2 * iA.natAbs ∨ trip < 2 * iB.natAbs then h.stpFault n 3
    else
      let mu := h.stpMuAt n t
      let h := (h.modStp n fun s => { s with mu := mu }).wr p STEP.POS (unsignedOf 32 mu)
      let h := if br.1.isEmpty then h.chop n iA iB vbus mu else h
      h.chopPulses n vbus br.1 t

/-- The axis has been at rest for HOLD_DELAY (R283). -/
def holdCurrentReduce (n : Nat) (h : Hw) : Hw :=
  if h.stpState n = 2 then h.modStp n fun s => { s with held := true } else h

/-! ### Groups (R290, R291) -/

/-- How many of 16 bits are set. -/
def popCount16 (n : Nat) : Nat := (below 16 fun i => bitAt n i).length

/-- A write of GRP_CFG (R290). -/
def grpCfgWrite (m : Master) (g : Nat) (w : Word) (h : Hw) : Hw :=
  h.writeTo m (addrOf MOTION.GRP_CFG_MEMBERS pMOTION g) fun h =>
    let ms := bitsOf w 15 0
    let en := bitsOf w 31 31
    let clash := decide (en = 1) && ((List.range 4).any fun k =>
      decide (k ≠ g) && decide (h.mo MOTION.GRP_CFG_EN k = 1) && decide (h.mo MOTION.GRP_CFG_MEMBERS k &&& ms ≠ 0))
    let old := h.mo MOTION.GRP_CFG_MEMBERS g
    let moving := decide (h.mo MOTION.GRP_CFG_EN g = 1) && ((List.range 16).any fun n => bitAt old n && decide (h.stpState n = 3))
    if 4 < popCount16 ms ∨ clash ∨ moving then h.moWr MOTION.GRP_STS_REFUSED g 1
    else (h.moWr MOTION.GRP_CFG_MEMBERS g ms).moWr MOTION.GRP_CFG_EN g en

/-- Whether every new target lies on the running line within one microstep (R291), from the present exact positions. -/
def Hw.onLine (h : Hw) (g : Nat) (targets : List (Nat × Int)) : Bool :=
  let lead := h.mo MOTION.GRP_STS_LEAD g
  let line := (h.grp g).line
  let left (n : Nat) : Int := match targets.find? fun x => decide (x.1 = n) with
    | some x => x.2 * pPerStep - (h.stp n).p
    | none => 0
  let dLead := match line.find? fun x => decide (x.1 = lead) with
    | some x => x.2.2
    | none => 0
  line.all fun x => decide ((left x.1 * dLead - left lead * x.2.2).natAbs ≤ dLead.natAbs * pPerStep)

/-- A write of GRP_GO (R290, R291), discarded where an exit of R278 takes a member in the same clock. A group that is not enabled refuses it
(DESIGN CHOICE, assumption 32). -/
def grpGo (m : Master) (g : Nat) (h : Hw) : Hw :=
  h.writeTo m (addrOf MOTION.GRP_GO pMOTION g) fun h =>
    let ms := below 16 fun n => bitAt (h.mo MOTION.GRP_CFG_MEMBERS g) n
    let moving := h.grpMoving g
    let bad := ms.any fun n => !h.stpTakes n || (decide (h.stpState n = 3) && !moving)
    if ms.any fun n => h.stpExited n then h
    else if h.mo MOTION.GRP_CFG_EN g = 0 ∨ !h.runs pMOTION ∨ bad then h.moWr MOTION.GRP_STS_REFUSED g 1
    else
      let targets := ms.map fun n => (n, h.stpTarget n)
      if !moving then (h.moWr MOTION.GRP_STS_REDIRECT g 0).grpStart g targets
      else if h.onLine g targets && !(h.grp g).stopping then
        h.modGrp g fun gr => { gr with ends := targets }
      else (h.moWr MOTION.GRP_STS_REDIRECT g 1).modGrp g fun gr => { gr with stopping := true, next := targets }

/-! ### Rendezvous (R292–R294) -/

/-- A write of RDV_CTRL.GO (R292): in IDLE with the axis in HOLD or MOVE the channel starts PURSUE. Otherwise it is refused;
an exit of R278 of the same clock discards it. -/
def rdvGo (m : Master) (r : Nat) (h : Hw) : Hw :=
  h.writeTo m (addrOf MOTION.RDV_CTRL_GO pMOTION r) fun h =>
    let n := h.mo MOTION.RDV_CTRL_AXIS r
    if h.stpExited n then h
    else if h.rdvState r ≠ 0 ∨ !h.stpTakes n ∨ h.rdvOf n < 4 ∨ h.grpOf n < 4 then h.moWr MOTION.RDV_STS_REFUSED r 1
    else
      let h := (h.moWr MOTION.RDV_STS_STATE r 1).moWr MOTION.RDV_STS_CORRECTED r 0
      let h := h.setBit pMOTION MOTION.MO_STS_RDV_ACTIVE r true
      let h := h.modRdv r fun _ => Rdv.reset
      let h := h.wr (pSTEP n) STEP.STEP_CTRL_MODE 2
      h.modStp n fun s => { s with go := true }

/-- A write of RDV_CTRL.ABORT (R292, R295). -/
def rdvAbort (m : Master) (r : Nat) (h : Hw) : Hw :=
  h.writeTo m (addrOf MOTION.RDV_CTRL_ABORT pMOTION r) fun h => if h.rdvState r = 0 then h else h.rdvEnd r true

/-- μ at a time between two entries of a history, newest first, interpolated linearly (R293). -/
def muBetween (t : Stamp) : List (Stamp × Int) → Option Int
  | x :: y :: rest =>
    if x.1 = t then some x.2
    else if y.1.toNat ≤ t.toNat ∧ t.toNat < x.1.toNat then
      some (y.2 + approxDiv ((x.2 - y.2) * (t - y.1).toNat) (x.1 - y.1).toNat)
    else muBetween t (y :: rest)
  | [x] => if x.1 = t then some x.2 else none
  | [] => none

/-- μ of stepper n at a past time, interpolated in its history up to the present; none where the time is older than the history or later than the
present (R293, R294). -/
def Hw.muLookup (h : Hw) (n : Nat) (t : Stamp) : Option Int :=
  if h.now < t.toNat then none
  else muBetween t ((h.clk.time, h.stpMuAt n h.clk.time) :: (h.stp n).mus)

/-- The sheet tracker's lead-edge stamp for a sheet at a checkpoint reaches the channels that name them (R293). -/
def Hw.rdvStamp (h : Hw) (sheet cp : Nat) (t : Stamp) : Hw :=
  forN 4 (fun r h =>
    if h.rdvState r ≠ 0 ∧ h.mo MOTION.RDV_SHEET_SHEET r = sheet ∧ h.mo MOTION.RDV_SHEET_CP r = cp ∧ !(h.rdv r).stamped then
      let n := h.mo MOTION.RDV_CTRL_AXIS r
      match h.muLookup n t with
      | none => h.rdvFail r 2
      | some mu =>
        let new := mu + h.mo MOTION.LE_DIST r
        let corr := signed 32 (unsignedOf 32 (new - signed 32 (h.mo MOTION.MU_MEET r)))
        let h := (h.moWr MOTION.MU_MEET r (unsignedOf 32 new)).moWr MOTION.LAST_CORR r (unsignedOf 32 corr)
        let h := (h.moWr MOTION.RDV_STS_CORRECTED r 1).modRdv r fun c => { c with stamped := true, near := 0 }
        if h.mo MOTION.RDV_MAX r < corr.natAbs then h.rdvFail r 1
        else
          let h := h.moWr MOTION.RDV_STS_STATE r 1
          h.setBit pMOTION MOTION.MO_STS_RDV_LOCKED r false
    else h) h

/-! ### Block resets (R295, R296) -/

/-- A block reset of a STEP page: ENABLE drops, OFF, the counters clear. -/
def Hw.resetStep (h : Hw) (n : Nat) : Hw :=
  let h := h.stpToOff n 6
  [STEP.HALT_CNT, STEP.RES_CHG, STEP.FAULT_CNT].foldl (fun h f => h.wr (pSTEP n) f 0) h

/-- A block reset of the MOTION page: every stepper in a group or under a channel halts, and every channel returns to IDLE. -/
def Hw.resetMotion (h : Hw) : Hw :=
  let h := forN 16 (fun n h => if h.grpOf n < 4 ∨ h.rdvOf n < 4 then h.stpHalt n else h) h
  forN 4 (fun r h => if h.rdvState r = 0 then h else h.rdvEnd r true) h

/-- The sheet tracker's jam line (R288). -/
def Hw.stpJam (h : Hw) : Hw :=
  forN 16 (fun n h => if h.is (pSTEP n) STEP.STEP_CFG_JAM_STOP then h.stpHalt n else h) h

end Sys2Proof.Machine
end

