-- ==== Sys2Proof/Machine/Gate.lean ====
section
/-! DEFINITION. The gate drive: short trips and latches, bootstrap and bank supplies (R260–R276). -/

namespace Sys2Proof.Machine

/-- STAGE_OFF is reported to the unit of bridge b of bank x (R258, R278). -/
def Hw.stageOff (h : Hw) (x b : Nat) : Hw :=
  if x < 3 then h.axStageOff (bankUnit x b) else h.stpStageOff (bankUnit x b)

/-- STAGE_OFF is reported to every unit of bank x. -/
def Hw.bankStageOff (h : Hw) (x : Nat) : Hw := forN (bankBridges x) (fun b h => h.stageOff x b) h

/-- Whether the unit of bridge b of bank x is in OFF. -/
def Hw.unitOff (h : Hw) (x b : Nat) : Bool :=
  if x < 3 then decide (h.axState (bankUnit x b) = 0) else decide (h.stpState (bankUnit x b) = 0)

/-- Whether a state of a unit of bank x drives its bridge for R266: RUN and ALIGN of an axis, PRECHARGE, HOLD and MOVE of a stepper. -/
def driving (x st : Nat) : Bool := if x < 3 then decide (st = 7 ∨ st = 4) else decide (1 ≤ st ∧ st ≤ 3)

/-- Whether a falling bootstrap of bridge b of bank x is an event (R266): its unit is in a state that drives the bridge, or was until
another gate event of the same clock (R273). -/
def Hw.unitDrives (h : Hw) (x b : Nat) : Bool :=
  let u := bankUnit x b
  if x < 3 then driving x (h.axState u) || (driving x (h.ax u).from_ && decide ((h.ax u).enteredAt = h.clk.cycles))
  else driving x (h.stpState u) || (driving x (h.stp u).from_ && decide ((h.stp u).enteredAt = h.clk.cycles))

/-! ### Events of one clock (R273) -/

/-- FE_ADDR of the GATE pages (R276). -/
def gateCap (leg side bridge : Nat) : Cap := cap0 (leg + 32 * side + 256 * bridge)

/-- Whether bridge b of bank x was held off before this clock by its latch or its bank: then no switch of it can trip. -/
def Hw.heldBefore (h : Hw) (x b : Nat) : Bool :=
  (h.bit (pGATE x) GATE.BRIDGE_LATCH b && !decide ((h.bridge x b).latchAt = some h.clk.cycles))
    || (h.is (pGATE x) GATE.GD_STS_BANK_OFF && !decide ((h.bank x).fellAt = some h.clk.cycles))

/-! ### Trips (R268–R271) -/

/-- A trip of leg l is recorded: LEG_TRIPPED, TRIP_CNT, LAST_TRIP and SHORT (R270). -/
def Hw.tripLeg (h : Hw) (x l side : Nat) (gross blanked : Bool) : Hw :=
  let p := pGATE x
  let b := l / bankLegs x
  let h := h.modBridge x b fun r => { r with trips := ⟨l, side, h.clk.time⟩ :: r.trips }
  let h := (h.setBit p GATE.LEG_TRIPPED l true).inc p GATE.TRIP_CNT
  let h := (h.wr p GATE.LAST_TRIP_LEG l).wr p GATE.LAST_TRIP_SIDE side
  let h := (h.wr p GATE.LAST_TRIP_GROSS (b2n gross)).wr p GATE.LAST_TRIP_BLANKED (b2n blanked)
  (h.wr p GATE.LAST_TRIP_BRIDGE b).raise (pGATE x) 0 (gateCap l side b)

/-- Whether the trip of leg l completes the condition of a bridge fault (R271): a second leg in the period, or TRIP_REPEAT periods in a
row. -/
def Hw.faultsBridge (h : Hw) (x l : Nat) : Bool :=
  let b := l / bankLegs x
  let r := h.bridge x b
  decide (2 ≤ (r.trips.map Trip.leg).eraseDups.length)
    || decide (h.useAt b (pGATE x) GATE.GD_CTRL_TRIP_REPEAT ≤ tget (fun _ => 0) r.runs l + 1)

/-- A bridge fault is latched (R271). -/
def Hw.latchBridge (h : Hw) (x l side : Nat) : Hw :=
  let p := pGATE x
  let b := l / bankLegs x
  let h := h.modBridge x b fun r => { r with latchAt := some h.clk.cycles }
  let h := ((h.setBit p GATE.BRIDGE_LATCH b true).inc p GATE.BRIDGE_CNT).raise (pGATE x) 1 (gateCap l side b)
  h.stageOff x b

/-- A switch of leg l of bank x exceeds a threshold (R268–R271, R273): side 0 low or 1 high, by GROSS or NORM, inside the blanking time
or not; NORM is not active there. Both thresholds on one switch are one trip. The leg is off until its modulator's next period; two legs
in a period, or TRIP_REPEAT periods in a row, latch the bridge. -/
def shortTrip (x l side : Nat) (gross blanked : Bool) (h : Hw) : Hw :=
  let p := pGATE x
  let b := l / bankLegs x
  if bankBridges x ≤ b ∨ (blanked ∧ !gross) ∨ h.heldBefore x b then h
  else if (h.bridge x b).trips.any fun k => decide (k.leg = l ∧ k.side = side) then
    (if gross && decide (h.rd p GATE.LAST_TRIP_LEG = l ∧ h.rd p GATE.LAST_TRIP_SIDE = side) then h.wr p GATE.LAST_TRIP_GROSS 1 else h)
  else
    let h := h.tripLeg x l side gross blanked
    if h.faultsBridge x l && !h.bit p GATE.BRIDGE_LATCH b then h.latchBridge x l side else h

/-! ### Supplies (R265–R267) -/

/-- The bootstrap of leg l of bank x is measured (R265, R266): BOOT_OK rises above 9.5 V and falls below 8.5 V. A fall while the unit
drives takes the bridge off. -/
def bootUvlo (x l mv : Nat) (h : Hw) : Hw :=
  let p := pGATE x
  let b := l / bankLegs x
  if bankBridges x ≤ b then h
  else if !h.bit p GATE.BOOT_OK l then (if 9500 < mv then h.setBit p GATE.BOOT_OK l true else h)
  else if 8500 ≤ mv then h
  else
    let ev := h.unitDrives x b
    let h := h.setBit p GATE.BOOT_OK l false
    if ev then ((h.inc p GATE.UVLO_CNT).raise (pGATE x) 2 (gateCap l 1 b)).stageOff x b else h

/-- VGD_x is measured, in mV (R265): undervoltage below 10.5 V until above 11.0 V, over-voltage above 13.5 V until below 13.0 V. -/
def Hw.vgdMeasure (h : Hw) (x mv : Nat) : Hw :=
  let p := pGATE x
  let under := if (h.bank x).under then decide (mv ≤ 11000) else decide (mv < 10500)
  let high := if h.is p GATE.GD_STS_VGD_OV then decide (13000 ≤ mv) else decide (13500 < mv)
  let h := (h.modBank x fun k => { k with under := under }).wr p GATE.VGD_MEAS (min 65535 mv)
  (h.wr p GATE.GD_STS_VGD_OV (b2n high)).wr p GATE.GD_STS_VGD_OK (b2n (!under && !high))

/-- The supply of gate bank x has left its range (R267): the bank goes off with SUPPLY and STAGE_OFF. -/
def Hw.bankFails (h : Hw) (x : Nat) : Hw :=
  let p := pGATE x
  let h := h.modBank x fun k => { k with fellAt := some h.clk.cycles }
  let h := (h.wr p GATE.GD_STS_BANK_OFF 1).persist p 3 true
  ((h.raise (pGATE x) 3 (gateCap 0 0 0)).raise pSUPPLY 5 (cap0 (12 + x))).bankStageOff x

/-- The supply monitor of gate bank x reads VGD_x (R265, R267): a fall of VGD_OK, also of one that had come back, is an event. -/
def vgdUvlo (x mv : Nat) (h : Hw) : Hw :=
  let was := h.is (pGATE x) GATE.GD_STS_VGD_OK
  let h := h.vgdMeasure x mv
  if was && !h.is (pGATE x) GATE.GD_STS_VGD_OK then h.bankFails x else h

/-- VGD_OK has been 1 for 1 ms (R267): BANK_OFF clears, and the bootstraps are taken as empty. -/
def bankOffClear (x : Nat) (h : Hw) : Hw :=
  let p := pGATE x
  if !h.is p GATE.GD_STS_VGD_OK ∨ !h.is p GATE.GD_STS_BANK_OFF then h
  else ((h.wr p GATE.GD_STS_BANK_OFF 0).wr p GATE.BOOT_OK 0).persist p 3 false

/-- A write of BRIDGE_CLR (R271): each bridge named is released if its unit is in OFF, and otherwise refused. -/
def bridgeClr (m : Master) (x mask : Nat) (h : Hw) : Hw :=
  let p := pGATE x
  h.writeTo m (addrOf GATE.BRIDGE_CLR p 0) fun h =>
    forN (bankBridges x) (fun b h =>
      if !bitAt mask b then h
      else if h.unitOff x b then (h.setBit p GATE.BRIDGE_LATCH b false).modBridge x b fun r => { r with latchAt := none }
      else h.wr p GATE.GD_STS_CFG_REFUSED 1) h

/-- Every ENABLE goes low over the line of R275: E-STOP, MBUS supervision and module resets report to each unit. -/
def Hw.allStageOff (h : Hw) : Hw := forN 16 (fun m h => h.stpStageOff m) (forN 20 (fun n h => h.axStageOff n) h)

/-- Every ENABLE goes low as a module reset has it (R274, R370, R387): axes and steppers are in OFF, with no STAGE_OFF. -/
def Hw.allUnitsOff (h : Hw) : Hw :=
  let h := forN 20 (fun n h => (h.wr (pAXIS n) AXIS.AX_CTRL_EN 0).axToOff n) h
  forN 16 (fun m h => h.stpToOff m 6) h

/-- Every axis and stepper goes to OFF for MBUS (R18). -/
def Hw.allMbusLow (h : Hw) : Hw := forN 16 (fun m h => h.stpMbusLow m) (forN 20 (fun n h => h.axMbusLow n) h)

/-- MBUS is back: the units stop reporting MBUS_LOW (R18). -/
def Hw.allMbusOk (h : Hw) : Hw :=
  let h := forN 20 (fun n h => (h.wr (pAXIS n) AXIS.AX_STS_MBUS_LOW 0).persist (pAXIS n) 2 false) h
  forN 16 (fun m h => h.wr (pSTEP m) STEP.STEP_STS_MBUS_LOW 0) h

/-- A block reset of a GATE page (R275). -/
def Hw.resetGate (h : Hw) (x : Nat) : Hw :=
  let p := pGATE x
  let h := h.bankStageOff x
  let h := forN (bankBridges x) (fun b h => h.modBridge x b fun r => { r with latchAt := none }) h
  [GATE.BRIDGE_LATCH, GATE.TRIP_CNT, GATE.BRIDGE_CNT, GATE.UVLO_CNT, GATE.REFRESH_MISS].foldl (fun h f => h.wr p f 0) h

end Sys2Proof.Machine
end

