-- ==== Sys2Proof/Machine/Governor.lean ====
section
/-! DEFINITION. The Governor: slots, samples, the block-floating compensator, regions, banks, deadlines and faults (R297–R314). -/

namespace Sys2Proof.Machine

/-! ### Slots by number -/

/-- The unit and local number of slot j (R297). -/
def govUnitOf (j : Nat) : Nat := j / 24
def govPage (j : Nat) : Nat := pGOV (j / 24)

/-- A register field of slot j, its value in use, and its write. -/
def Hw.sl (h : Hw) (j : Nat) (f : Field) : Nat := h.rdi (govPage j) f (j % 24)
def Hw.slUse (h : Hw) (j : Nat) (f : Field) : Nat := h.usei (govPage j) f (j % 24)
def Hw.slWr (h : Hw) (j : Nat) (f : Field) (v : Nat) : Hw := h.wri (govPage j) f (j % 24) v
def Hw.slIs (h : Hw) (j : Nat) (f : Field) : Bool := decide (h.sl j f = 1)

/-- The inner state of slot j. -/
def Hw.gov (h : Hw) (j : Nat) : GovSlot := tget (fun _ => GovSlot.reset) h.govSlots j

/-- Change the inner state of slot j. -/
def Hw.modGov (h : Hw) (j : Nat) (f : GovSlot → GovSlot) : Hw :=
  { h with govSlots := tset (fun _ => GovSlot.reset) h.govSlots j (f (h.gov j)) }

/-- Governor unit g. -/
def Hw.govU (h : Hw) (g : Nat) : GovUnit := tget (fun _ => GovUnit.reset) h.govUnits g

/-- Change Governor unit g. -/
def Hw.modGovU (h : Hw) (g : Nat) (f : GovUnit → GovUnit) : Hw :=
  { h with govUnits := tset (fun _ => GovUnit.reset) h.govUnits g (f (h.govU g)) }

/-- A GOV capture (R314). -/
def govCap (j : Nat) : Cap := ⟨j, 0x0500, 0, false⟩

/-! ### Coefficient banks (R307, R309) -/

/-- The W1 offset of bank b of slot j (R485). -/
def govBase (j b : Nat) : Nat := 0x10000 + 0x200 * j + 0x100 * b

/-- An unsigned and a signed field of a coefficient bank. -/
def Hw.gcU (h : Hw) (j b o n : Nat) : Nat := h.tableLE (govBase j b + o) n
def Hw.gcS (h : Hw) (j b o n : Nat) : Int := signed (8 * n) (h.gcU j b o n)

/-- REG_SEL, NREG, OUT_MIN, OUT_MAX and INT_INIT of a bank. -/
def Hw.regSel (h : Hw) (j b : Nat) : Nat := h.gcU j b 1 1 % 4
def Hw.nReg (h : Hw) (j b : Nat) : Nat := h.gcU j b 1 1 / 4 % 4 + 1
def Hw.outMin (h : Hw) (j b : Nat) : Int := h.gcS j b 0x14 4
def Hw.outMax (h : Hw) (j b : Nat) : Int := h.gcS j b 0x18 4
def Hw.intInit (h : Hw) (j b : Nat) : Int := h.gcS j b 0x1C 4

/-- The offsets of the mantissas of region set ρ: B[0..3], A[1..3], KI, KB. -/
def mantissaOffs (r : Nat) : List Nat := (List.range 9).map fun i => 0x44 + 0x30 * r + 4 * i

/-- A failing check of R309: code and index. -/
abbrev GovReject := Nat × Nat

/-- The first of a list of offsets where a check fails, as a rejection with its code. -/
def firstFail (code : Nat) (offs : List Nat) (bad : Nat → Bool) : Option GovReject := (offs.find? bad).map fun o => (code, o)

/-- The validation of bank b of slot j (R309): the first failing check, none on a pass. -/
def Hw.govValidate (h : Hw) (j b : Nat) : Option GovReject :=
  let u (o n : Nat) : Nat := h.gcU j b o n
  let s (o n : Nat) : Int := h.gcS j b o n
  let nr := h.nReg j b
  let sel := h.regSel j b
  let tgt := h.slUse j GOV.SL_LINK_TGT
  let inRange (z : Int) : Bool := decide (tgt = 0) || decide (tgt = 3) || decide (0 ≤ z ∧ z ≤ 65535)
  let regs := List.range nr
  let checks : List (Option GovReject) := [
    (if u 0 1 = 1 then none else some (0x31, 0)),
    (if 16 ≤ u 1 1 ∨ (sel = 1 ∧ (List.range 8).any (fun g => decide (nr ≤ u 2 2 / 4 ^ g % 4))) then some (0x32, 0) else none),
    (if sel = 2 ∨ sel = 3 then firstFail 0x33 ((List.range (nr - 2)).map fun t => 8 + 4 * (t + 1)) (fun o => decide (s o 4 ≤ s (o - 4) 4))
     else none),
    (if s 0x18 4 ≤ s 0x14 4 then some (0x34, 0x14) else firstFail 0x34 [0x14, 0x18, 0x1C] fun o => !inRange (s o 4)),
    firstFail 0x35 (regs.flatMap fun r => [0x40 + 0x30 * r, 0x41 + 0x30 * r, 0x42 + 0x30 * r]) (fun o => decide (s o 1 < -8 ∨ 23 < s o 1)),
    firstFail 0x36 (regs.flatMap mantissaOffs) (fun o => decide (s o 4 < -8388608 ∨ 8388607 < s o 4)),
    (if h.slUse j GOV.SL_CFG_ORDER = 0 then
      firstFail 0x37 (regs.flatMap fun r => [0x44 + 0x30 * r + 12, 0x54 + 0x30 * r + 8]) (fun o => decide (u o 4 ≠ 0))
     else none),
    firstFail 0x38 (((List.range 32).map fun i => 0x20 + i)
      ++ (regs.flatMap fun r => (0x43 + 0x30 * r) :: (List.range 8).map fun i => 0x68 + 0x30 * r + i)) (fun o => decide (u o 1 ≠ 0))]
  checks.findSome? id

/-- Record a rejection: LAST_REJECT and CONFIG_REJECT (R309). -/
def Hw.govReject (h : Hw) (j : Nat) (r : GovReject) : Hw :=
  let p := govPage j
  let h := ((h.wr p GOV.LAST_REJECT_SLOT (j % 24)).wr p GOV.LAST_REJECT_CHECK r.1).wr p GOV.LAST_REJECT_INDEX r.2
  h.raise p 2 (govCap j)

/-! ### Load and exclusivity (R300, R306) -/

/-- A configuration reader: slot and field to value. -/
abbrev SlotView := Nat → Field → Nat

/-- The evaluation time in ns (R297). -/
def evalNs (v : SlotView) (j : Nat) : Nat := if v j GOV.SL_CFG_ORDER = 1 then 52 else 40

/-- The sample period of slot j in ns by its trigger's configured rate (R298, R306), with fuel for cascades; 0 where it has none. -/
def Hw.samplePeriod (h : Hw) (v : SlotView) : Nat → Nat → Nat
  | 0, _ => 0
  | n + 1, j =>
    let d := v j GOV.SL_TIME_DIV + 1
    let x := v j GOV.SL_CFG_TRIG_IDX
    match v j GOV.SL_CFG_TRIG with
    | 0 => 1000 * d
    | 1 => h.rdi (pHVIO (x / 14)) HVIO.HV_PER (x % 14) * d
    | 2 => h.rd (pAXIS x) AXIS.PWM_PER * d
    | 3 => 60000000000 / (10 * max 1 (h.polyRpm h.runGrade)) * d
    | 4 => h.samplePeriod v n x * d
    | 5 => (if h.rd pLAMP LAMP.MAINS_HALF = 0 then 8330000 else h.rd pLAMP LAMP.MAINS_HALF) * d
    | _ => 0

/-- The sum of a list of fractions, as numerator and denominator. -/
def fracSum (l : List (Nat × Nat)) : Nat × Nat := l.foldl (fun a x => if x.2 = 0 then a else (a.1 * x.2 + x.1 * a.2, a.2 * x.2)) (0, 1)

/-- The static load of unit g with a set of slots (R306), as a fraction. -/
def Hw.govLoad (h : Hw) (v : SlotView) (g : Nat) (on : Nat → Bool) : Nat × Nat :=
  fracSum (((List.range 24).map fun i => 24 * g + i).filterMap fun j => if on j then some (evalNs v j, h.samplePeriod v 96 j) else none)

/-- The values in use. -/
def Hw.inUse (h : Hw) : SlotView := fun j f => h.slUse j f

/-- The shadow values, which a COMMIT would take up. -/
def Hw.inShadow (h : Hw) : SlotView := fun j f => h.sl j f

/-- The values in use once every pending COMMIT has been applied. -/
def Hw.afterCommits (h : Hw) : SlotView := fun j f => if h.waits (govPage j) (j % 24) then h.sl j f else h.slUse j f

/-- Whether slot j is enabled. -/
def Hw.govEn (h : Hw) (j : Nat) : Bool := h.slIs j GOV.SL_CFG_EN

/-- Show the static load of unit g. -/
def Hw.govShowLoad (h : Hw) (g : Nat) : Hw :=
  let l := h.govLoad h.inUse g h.govEn
  h.wr (pGOV g) GOV.LOAD_STATIC (approxDiv (1000 * l.1 : Nat) l.2).toNat

/-- Whether a load is above 850/1000. -/
def overLoad (l : Nat × Nat) : Bool := decide (850 * l.2 < 1000 * l.1)

/-- The HV or lamp channel a slot names as target in a view, if any. -/
def slotTarget (v : SlotView) (j : Nat) : Option (Nat × Nat) :=
  let t := v j GOV.SL_LINK_TGT
  if t = 1 ∨ t = 2 then some (t, v j GOV.SL_LINK_TGT_IDX) else none

/-- Whether two slots of a set name one HV or lamp channel as target, whichever of their values each then has in use: slots apply a COMMIT
at instants of their own (R300, R480; DEDUCED, assumption 144). -/
def targetClash (vs : List SlotView) (on : Nat → Bool) (j : Nat) : Bool :=
  vs.any fun v => (slotTarget v j).isSome &&
    (List.range 96).any fun k => decide (k ≠ j) && on k && vs.any fun w => decide (slotTarget w k = slotTarget v j)

/-- Whether a COMMIT of unit g is refused (R300, R306): the rejection. -/
def Hw.govCommitRefused (h : Hw) (g : Nat) : Option (Nat × GovReject) :=
  let v : SlotView := fun j f => if j / 24 = g then h.sl j f else h.afterCommits j f
  let js := ((List.range 24).map fun i => 24 * g + i).filter h.govEn
  if overLoad (h.govLoad v g h.govEn) then some (js.headD (24 * g), (0x3A, 0))
  else match js.find? (targetClash [v, h.inUse] h.govEn) with
    | some j => some (j, (0x3B, 0))
    | none => none

/-- What the values that slot j would take up now break, written into the shadows after the COMMIT was accepted (R300, R306, R480;
assumption 144). -/
def Hw.govTakeRefused (h : Hw) (j : Nat) : Option GovReject :=
  if !h.govEn j then none
  else if overLoad (h.govLoad h.afterCommits (govUnitOf j) h.govEn) then some (0x3A, 0)
  else if targetClash [fun k f => if k = j then h.sl k f else h.slUse k f] h.govEn j then some (0x3B, 0)
  else none

/-! ### Outputs -/

/-- What slot j gives a sample of this clock (R312): the output it had before one of the same clock. -/
def Hw.outNow (h : Hw) (j : Nat) : Nat :=
  match (h.gov j).outWas with
  | some (c, v) => if c = h.clk.cycles then v else h.sl j GOV.SL_OUT
  | none => h.sl j GOV.SL_OUT

/-- The reference register of slot j for a sample of this clock (R312): its value before a write of the same clock. -/
def Hw.refNow (h : Hw) (j : Nat) : Nat :=
  match (h.gov j).refWas with
  | some (c, v) => if c = h.clk.cycles then v else h.sl j GOV.SL_REF
  | none => h.sl j GOV.SL_REF

/-- A ramped reference at a cycle of the system clock. -/
def Ramp.value (r : Ramp) (now : Nat) : Int :=
  let d : Nat := r.step * (now - r.since) / r.per
  if r.from_ ≤ r.goal then min r.goal (r.from_ + d) else max r.goal (r.from_ - d)

/-- SL_REF of slot j follows the ramp on which the engine kernel moves it, if any. -/
def Hw.rampRef (h : Hw) (j : Nat) : Hw :=
  match tget (fun _ => none) h.refRamps j with
  | none => h
  | some r =>
    let v := r.value h.clk.cycles
    let h := h.slWr j GOV.SL_REF (unsignedOf 32 v)
    if v = r.goal then { h with refRamps := tset (fun _ => none) h.refRamps j none } else h

/-- SL_REF of slot j is written: a ramp ends, and a sample of the same clock takes the value before (R312). -/
def Hw.refWritten (h : Hw) (j : Nat) : Hw :=
  let h := h.rampRef j
  let h := h.modGov j fun s => { s with refWas := some (h.clk.cycles, h.refNow j) }
  { h with refRamps := tset (fun _ => none) h.refRamps j none }

/-- The engine kernel starts to ramp the reference of slot j. -/
def Hw.startRamp (h : Hw) (j : Nat) (goal : Int) (step per : Nat) : Hw :=
  let h := h.rampRef j
  let r : Ramp := ⟨signed 32 (h.sl j GOV.SL_REF), goal, step, per, h.clk.cycles⟩
  { h with refRamps := tset (fun _ => none) h.refRamps j (some r) }

/-- SL_REF of the slot whose word is read, while it is ramped; none for another word. -/
def Hw.refRead (h : Hw) (a : Nat) : Option Nat :=
  ((List.range 96).find? fun j => (tget (fun _ => none) h.refRamps j).isSome && decide (a = addrOf GOV.SL_REF (govPage j) (j % 24))).map
    fun j => (h.rampRef j).sl j GOV.SL_REF

/-- The engine kernel writes the reference of slot j. -/
def Hw.setRef (h : Hw) (j : Nat) (v : Int) : Hw := (h.refWritten j).slWr j GOV.SL_REF (unsignedOf 32 v)

/-- The running grade for a sample of this clock (R312): the grade before a change of the same clock. -/
def Hw.gradeNow (h : Hw) : Nat :=
  match h.headrace.gradeWas with
  | some (c, g) => if c = h.clk.cycles then g else h.runGrade
  | none => h.runGrade

/-- Slot j takes the shadow values of a COMMIT that waits for it (R314, R480). -/
def Hw.govCommit (h : Hw) (j : Nat) : Hw :=
  let p := govPage j
  if !h.waits p (j % 24) then h
  else match h.govTakeRefused j with
    | some r => (h.govReject j r).unitDone p (j % 24)
    | none => ((h.takeShadows p (j % 24)).govShowLoad (govUnitOf j)).unitDone p (j % 24)

/-- The Governor's demand on lamp channel k for a zero-cross of this clock (R331): the one before an output of the same clock. -/
def Hw.demandNow (h : Hw) (k : Nat) : Nat :=
  match (tget (fun _ => LampCh.reset) h.lamps k).demWas with
  | some (c, v) => if c = h.clk.cycles then v else h.rdi pLAMP LAMP.LC_DEM_DEM k
  | none => h.rdi pLAMP LAMP.LC_DEM_DEM k

/-- The demand on lamp channel k is about to change. -/
def Hw.demandWas (h : Hw) (k : Nat) : Hw :=
  let l := { tget (fun _ => LampCh.reset) h.lamps k with demWas := some (h.clk.cycles, h.demandNow k) }
  { h with lamps := tset (fun _ => LampCh.reset) h.lamps k l }

/-- The output y of slot j goes to SL_OUT and the target (R300), and to the axes that name the slot (R258). -/
def Hw.govOut (h : Hw) (j : Nat) (y : Int) : Hw :=
  let h := (h.modGov j fun s => { s with outWas := some (h.clk.cycles, h.outNow j) }).slWr j GOV.SL_OUT (unsignedOf 32 y)
  let i := h.slUse j GOV.SL_LINK_TGT_IDX
  let h := match h.slUse j GOV.SL_LINK_TGT with
    | 1 => { h with hvs := tset (fun _ => HvCh.reset) h.hvs i { tget (fun _ => HvCh.reset) h.hvs i with duty := (clampI 0 65535 y).toNat } }
    | 2 => if i < 8 then (h.demandWas i).wri pLAMP LAMP.LC_DEM_DEM i (clampI 0 65535 y).toNat else h
    | _ => h
  forN 20 (fun n h =>
    if h.rd (pAXIS n) AXIS.AX_CFG_GOV_SLOT = j then h.modAx n fun a => { a with govNew := ((y, h.clk.time) :: a.govNew).take 8 } else h) h

/-- The safe value of slot j (R310): the value of [OUT_MIN, OUT_MAX] nearest 0; for an HV target duty 0. -/
def Hw.govSafe (h : Hw) (j : Nat) : Int :=
  let b := h.sl j GOV.SL_STS_ACTIVE_BANK
  if h.slUse j GOV.SL_LINK_TGT = 1 then 0 else clampI (h.outMin j b) (h.outMax j b) 0

/-- Drop the samples of slot j that wait. -/
def Hw.govDrop (h : Hw) (j : Nat) : Hw :=
  h.modGovU (govUnitOf j) fun u => { u with queue := u.queue.filter fun x => decide (x.slot ≠ j) }

/-- Slot j stops with its safe value. -/
def Hw.govStop (h : Hw) (j : Nat) : Hw :=
  let h := (h.govDrop j).slWr j GOV.SL_STS_RUNNING 0
  h.govOut j (h.govSafe j)

/-- Slot j faults (R311) with INPUT_FAULT, or by its 16th miss, whose DEADLINE has been raised. -/
def Hw.govFault (h : Hw) (j : Nat) (input : Bool) : Hw :=
  let h := (h.govStop j).slWr j GOV.SL_STS_FAULTED 1
  let h := h.setBit (govPage j) GOV.FAULTED (j % 24) true
  (if input then h.raise (govPage j) 1 (govCap j) else h).later .govInputs

/-- Whether a sample of slot j waits. -/
def Hw.govWaits (h : Hw) (j : Nat) : Bool := (h.govU (govUnitOf j)).queue.any fun x => decide (x.slot = j)

/-- Slot j starts afresh with an integrator value (R310, R311). -/
def Hw.govStart (h : Hw) (j : Nat) (i : Int) : Hw :=
  let h := h.modGov j fun s =>
    { GovSlot.reset with
      i := i, validating := s.validating, refWas := s.refWas, outWas := s.outWas, pendAt := s.pendAt, sampledAt := s.sampledAt }
  h.slWr j GOV.SL_STS_REGION 0

/-! ### Sampling (R298–R300, R311) -/

/-- Whether slot j evaluates: enabled, not faulted, and its unit's engine good. -/
def Hw.govRuns (h : Hw) (j : Nat) : Bool := h.slIs j GOV.SL_STS_RUNNING && h.runs (govPage j)

/-- The input of slot j (R299). -/
def Hw.govInput (h : Hw) (j : Nat) : Int :=
  let i := h.slUse j GOV.SL_CFG_IN_IDX
  match h.slUse j GOV.SL_CFG_INSRC with
  | 0 => signed 16 (h.rdi (pHVIO (i / 14)) HVIO.HV_SENSE_VS (i % 14))
  | 1 => signed 16 (h.rdi (pHVIO (i / 14)) HVIO.HV_SENSE_IS (i % 14))
  | 2 => signed 32 (h.rd (pAXIS i) AXIS.SPEED_EST)
  | 3 => h.encSpeed i
  | 4 => signed 32 (h.enc i FEEDBACK.CH_POS)
  | 5 => signed 32 (h.rd (pSCANCLK i) SCANCLK.PHASE_ERR)
  | 6 => signed 16 (h.rdi pLAMP LAMP.TIN_VAL_VALUE i)
  | 7 => signed 32 (h.outNow i)
  | _ => 0

/-- Whether the source of slot j's input reports a fault (R311). -/
def Hw.govSourceFault (h : Hw) (j : Nat) : Bool :=
  let i := h.slUse j GOV.SL_CFG_IN_IDX
  match h.slUse j GOV.SL_CFG_INSRC with
  | 3 => h.encIs i FEEDBACK.CH_STS_HWFAULT
  | 4 => h.encIs i FEEDBACK.CH_STS_HWFAULT
  | 5 => !h.is (pSCANCLK i) SCANCLK.SC_STS_LOCKED
  | 6 => h.isi pLAMP LAMP.TIN_VAL_FAULT i
  | 7 => h.slIs i GOV.SL_STS_FAULTED
  | _ => false

/-- Whether the input of slot j is at full scale (R311). -/
def Hw.govFull (h : Hw) (j : Nat) : Bool :=
  decide (h.slUse j GOV.SL_CFG_INSRC < 2) && (decide (h.govInput j = 32767) || decide (h.govInput j = -32768))

/-- The reference of slot j (R300). -/
def Hw.govRef (h : Hw) (j : Nat) : Int :=
  let r := signed 32 (h.refNow j)
  let k := h.slUse j GOV.SL_LINK_REF_SLOT
  if h.slUse j GOV.SL_LINK_REF_ADD = 1 ∧ k < 96 then signed 32 (satSigned 32 (r + signed 32 (h.outNow k))) else r

/-- Whether a slot takes samples at all now: one that reads an axis only in HANDOVER or RUN (R311). -/
def Hw.govTakes (h : Hw) (j : Nat) : Bool :=
  let i := h.slUse j GOV.SL_CFG_IN_IDX
  decide (h.slUse j GOV.SL_CFG_INSRC ≠ 2) || decide (h.axState i = 6 ∨ h.axState i = 7)

/-- A pending bank switch takes effect (R308). -/
def Hw.govFlip (h : Hw) (j : Nat) : Hw :=
  let h := h.slWr j GOV.SL_STS_ACTIVE_BANK (1 - h.sl j GOV.SL_STS_ACTIVE_BANK)
  (h.slWr j GOV.SL_STS_SW_PEND 0).slWr j GOV.SL_STS_REGION 0

/-- A slot that is no longer enabled stops, and a switch or COMMIT that waits for it takes effect at once (R308, R310, R314). -/
def Hw.govOff (h : Hw) (j : Nat) : Hw :=
  let h := (h.govStop j).govCommit j
  if h.slIs j GOV.SL_STS_SW_PEND then h.govFlip j else h

/-- A trigger of a source comes (R298): every (DIV + 1)th makes a sample of the slots it is for; a mains zero-cross has no index. -/
def Hw.govTrigger (h : Hw) (src idx : Nat) : Hw :=
  forN 96 (fun j h =>
    if h.govRuns j && decide (h.slUse j GOV.SL_CFG_TRIG = src) && (decide (src = 5) || decide (h.slUse j GOV.SL_CFG_TRIG_IDX = idx)) then
      h.modGov j fun s =>
        if h.slUse j GOV.SL_TIME_DIV ≤ s.count then { s with count := 0, due := s.due + 1 } else { s with count := s.count + 1 }
    else h) h

/-- The speed slot of axis n: the slot its AX_CFG names; none for 127. -/
def Hw.speedSlot (h : Hw) (n : Nat) : Option Nat :=
  let j := h.rd (pAXIS n) AXIS.AX_CFG_GOV_SLOT
  if j < 96 then some j else none

/-- The engine kernel ramps the speed reference of axis n to the running grade's POLY_RPM: 6500 rpm/s, in 1/16 rpm (R251, R255). -/
def Hw.rampPoly (h : Hw) (j : Nat) : Hw := h.startRamp j (16 * h.polyRpm h.runGrade : Nat) (16 * 6500) 1000000000

/-- A queue with a new sample: after those that arrived before, and among those of the same clock in ascending slot order (R297). -/
def insertSample (s : GovSample) : List GovSample → List GovSample
  | [] => [s]
  | x :: xs => if x.at_ = s.at_ ∧ s.slot < x.slot then s :: x :: xs else x :: insertSample s xs

/-- What waits for the sample instant of slot j takes effect, unless it came in the same clock (R308, R312, R314): a COMMIT, and a switch of
banks. -/
def Hw.govBoundary (h : Hw) (j : Nat) : Hw :=
  let h := if h.appliesNow (govPage j) (j % 24) then h.govCommit j else h
  if h.slIs j GOV.SL_STS_SW_PEND && decide ((h.gov j).pendAt ≠ h.clk.cycles) then h.govFlip j else h

/-- The sample instant of slot j (R298, R311): the input fault wins; else what waits takes effect, the input and reference are latched and
the sample is queued. -/
def Hw.govTake (h : Hw) (j : Nat) : Hw :=
  if !h.govRuns j || !h.govEn j || !h.govTakes j then h
  else
    let was := (h.gov j).full
    let full := if h.govFull j then was + 1 else 0
    let h := h.modGov j fun s => { s with full := full }
    if h.govSourceFault j ∨ 8 ≤ full then h.govFault j true
    else
      let b := h.sl j GOV.SL_STS_ACTIVE_BANK
      let h := (h.govBoundary j).rampRef j
      let x := h.govInput j
      let new := decide (h.sl j GOV.SL_STS_ACTIVE_BANK ≠ b)
      let s : GovSample := ⟨j, x, h.govRef j, h.gradeNow, h.sl j GOV.SL_STS_ACTIVE_BANK, h.clk.time, new, h.sl j GOV.SL_X, was, none⟩
      let h := h.modGov j fun g => { g with sampledAt := h.clk.cycles }
      (h.slWr j GOV.SL_X (unsignedOf 32 x)).modGovU (govUnitOf j) fun u => { u with queue := insertSample s u.queue }

/-- Every slot whose source reports a fault faults (R311). -/
def Hw.govInputs (h : Hw) : Hw :=
  forN 96 (fun j h => if h.slIs j GOV.SL_STS_RUNNING && h.govSourceFault j then h.govFault j true else h) h

/-! ### Evaluation (R301–R304) -/

/-- rnd of R301: round half up by an arithmetic shift. -/
def rnd (a : Int) (sh : Nat) : Int := if sh = 0 then a else (a + (2 ^ (sh - 1) : Nat)) / (2 ^ sh : Nat)

/-- sat32. -/
def sat32 (z : Int) : Int := clampI (-2147483648) 2147483647 z

/-- The region by bands (R303): v against THR[1..nreg−1] with hysteresis, from region ρ. -/
def bandRegion (nreg : Nat) (thr : Nat → Int) (hyst v : Int) (r : Nat) : Nat :=
  match ((List.range nreg).filter fun k => decide (r < k ∧ thr k ≤ v)).getLast? with
  | some k => k
  | none =>
    match (List.range r).find? fun k => decide (v < thr (k + 1) - hyst) with
    | some k => k
    | none => r

/-- The region from which the evaluation of a sample selects its own (R303): 0 for the first sample of a bank. -/
def Hw.govFrom (h : Hw) (s : GovSample) : Nat := if s.fresh then 0 else h.sl s.slot GOV.SL_STS_REGION

/-- The region the evaluation of a sample uses (R303). -/
def Hw.govRegion (h : Hw) (s : GovSample) : Nat :=
  let thr (k : Nat) : Int := h.gcS s.slot s.bank (8 + 4 * (k - 1)) 4
  let hyst : Int := h.gcU s.slot s.bank 4 4
  let nr := h.nReg s.slot s.bank
  let now := h.govFrom s
  match h.regSel s.slot s.bank with
  | 0 => 0
  | 1 => h.gcU s.slot s.bank 2 2 / 4 ^ s.grade % 4
  | 2 => bandRegion nr thr hyst s.r now
  | _ => bandRegion nr thr hyst s.x now

/-- The compensator of R302 in a region of a bank: y, y_sat and the slot's state after. -/
def Hw.govCompute (h : Hw) (s : GovSample) (region : Nat) : Int × Int × GovSlot :=
  let j := s.slot
  let g := s.own.getD (h.gov j)
  let o := 0x40 + 0x30 * region
  let m (k : Nat) : Int := h.gcS j s.bank (o + 4 + 4 * k) 4
  let sh (k : Nat) : Nat := (23 - h.gcS j s.bank (o + k) 1).toNat
  let n := if h.slUse j GOV.SL_CFG_ORDER = 1 then 3 else 2
  let e := sat32 (s.r - s.x)
  let es := e :: g.e
  let accB := (List.range (n + 1)).foldl (fun a i => a + m i * nthI es i) 0
  let accA := (List.range n).foldl (fun a i => a + m (4 + i) * nthI g.u i) 0
  let u := sat32 (rnd accB (sh 0) - rnd accA (sh 1))
  let i := if h.slUse j GOV.SL_CFG_INT_EN = 1 then sat32 (g.i + rnd (m 7 * e + m 8 * g.w) (sh 2)) else 0
  let y := sat32 (u + i)
  let ys := clampI (h.outMin j s.bank) (h.outMax j s.bank) y
  (y, ys, { g with e := es.take 3, u := (u :: g.u).take 3, i := i, w := sat32 (ys - y), misses := 0 })

/-- The busy fraction of unit g over the last 1 ms, in 1/1000 (R314). -/
def Hw.govPeak (h : Hw) (g : Nat) : Nat :=
  let ns := (((h.govU g).busy.filter fun x => decide ((h.mono - x.1).toNat < 1024000000)).map Prod.snd).sum
  min 1000 (approxDiv (ns : Nat) 1000).toNat

/-- LOAD of unit g as a read of its word shows it, by the rates its triggers now have and the evaluations of the last 1 ms (R306, R314);
none for another word. -/
def Hw.govLoadRead (h : Hw) (a : Nat) : Option Nat :=
  ((List.range 4).find? fun g => decide (a = addrOf GOV.LOAD_STATIC (pGOV g) 0)).map fun g =>
    (h.govShowLoad g).rd (pGOV g) GOV.LOAD_STATIC + 2 ^ 16 * h.govPeak g

/-- The evaluation of a sample in unit g ends (R299–R304): the region, the output and whether it saturated, the wait and the load. A slot
disabled meanwhile then takes its safe value and stops, or goes on where it has been enabled again (R310). -/
def Hw.govEvaluate (h : Hw) (g : Nat) (s : GovSample) : Hw :=
  let p := pGOV g
  let j := s.slot
  let r := h.govRegion s
  let h := if r ≠ h.govFrom s then h.inc p GOV.REG_CHG else h
  let c := h.govCompute s r
  let h := if s.own.isNone then (h.slWr j GOV.SL_STS_REGION r).modGov j fun _ => c.2.2 else h
  let h := h.slWr j GOV.SL_STS_SAT (b2n (decide (c.1 ≠ c.2.1)))
  let h := h.govOut j c.2.1
  let ns := (h.now - s.at_.toNat) / 1024
  let ev := evalNs h.inUse j
  let wait := ns - (12 + ev)
  let h := if h.rd p GOV.QWAIT_MAX < wait then h.wr p GOV.QWAIT_MAX (min 65535 wait) else h
  let h := h.modGovU g fun u =>
    { u with busy := (h.mono, ev) :: u.busy.takeWhile fun x => decide ((h.mono - x.1).toNat < 1024000000) }
  if !h.govEn j then h.govOff j
  else if s.own.isSome then (h.modGovU g fun u => { u with queue := u.queue.filter fun x => x.own.isNone || decide (x.slot ≠ j) }).govOut j (h.govSafe j)
  else h

/-- Whether the deadline of a sample has passed, in an earlier clock than this (R305, R312). -/
def Hw.govLate (h : Hw) (s : GovSample) : Bool := decide (1024 * h.slUse s.slot GOV.SL_DL_DEADLINE < h.now - s.at_.toNat)

/-- A sample is abandoned at its deadline (R305); the 16th miss in a row faults the slot (R311). The slot's state, SL_OUT and the target
stay. -/
def Hw.govMiss (h : Hw) (s : GovSample) : Hw :=
  let j := s.slot
  let p := govPage j
  let h := h.slWr j GOV.SL_STS_MISSED 1
  let h := (h.inc p GOV.MISS_CNT).raise p 0 (govCap j)
  let h := h.modGov j fun g => { g with misses := g.misses + 1 }
  if !h.govEn j then h.govOff j else if 16 ≤ (h.gov j).misses then h.govFault j false else h

/-- The evaluation at the head of unit g's queue completes (R302–R304), or has been abandoned at its deadline (R305). -/
def govEvalDone (g : Nat) (h : Hw) : Hw :=
  match (h.govU g).queue with
  | [] => h
  | s :: rest =>
    let late := h.govLate s
    let h := h.modGovU g fun u => { u with queue := rest }
    if late then h.govMiss s else (h.govEvaluate g s).govTrigger 4 s.slot

/-- The oldest sample of slot j whose deadline has passed is abandoned (R305). -/
def govDeadlineMiss (j : Nat) (h : Hw) : Hw :=
  match (h.govU (govUnitOf j)).queue.find? fun x => decide (x.slot = j) with
  | some s => if h.govLate s then (h.modGovU (govUnitOf j) fun u => { u with queue := u.queue.erase s }).govMiss s else h
  | none => h

/-! ### Enable and switch (R308, R310) -/

/-- A write of SL_CFG.EN = 1 (R310). An evaluation of the slot from before still completes with the slot's state of then. -/
def govSlotEn (m : Master) (j : Nat) (h : Hw) : Hw :=
  h.writeTo m (addrOf GOV.SL_CFG_EN (govPage j) (j % 24)) fun h =>
    if h.govEn j then h
    else
      let b := h.sl j GOV.SL_STS_ACTIVE_BANK
      match h.govValidate j b with
      | some r => h.govReject j r
      | none =>
        let on (k : Nat) : Bool := decide (k = j) || h.govEn k
        let vs := [h.inUse, h.afterCommits]
        if vs.any fun v => overLoad (h.govLoad v (govUnitOf j) on) then h.govReject j (0x3A, 0)
        else if targetClash vs on j then h.govReject j (0x3B, 0)
        else
          let own := h.gov j
          let h := h.modGovU (govUnitOf j) fun u =>
            { u with queue := u.queue.map fun x => if x.slot = j then { x with own := some own } else x }
          let h := (h.slWr j GOV.SL_CFG_EN 1).slWr j GOV.SL_STS_FAULTED 0
          let h := h.setBit (govPage j) GOV.FAULTED (j % 24) false
          let h := (h.govStart j (h.intInit j b)).govShowLoad (govUnitOf j)
          if h.is (govPage j) GOV.GV_STS_ENGINE_FAULT then h else h.slWr j GOV.SL_STS_RUNNING 1

/-- A sample of slot j taken in this clock is not taken after all (R312). -/
def Hw.govUntake (h : Hw) (j : Nat) : Hw :=
  match (h.govU (govUnitOf j)).queue.find? fun x => decide (x.slot = j ∧ x.at_ = h.clk.time) with
  | none => h
  | some s =>
    let h := (h.slWr j GOV.SL_X s.xWas).modGov j fun g => { g with full := s.fullWas }
    h.modGovU (govUnitOf j) fun u => { u with queue := u.queue.erase s }

/-- A write of SL_CFG.EN = 0 (R310): an evaluation in flight completes first; then the safe value. A sample of the same clock is not taken
(R312). A faulted slot stays faulted until EN is 1 again (R311). -/
def govSlotDisable (m : Master) (j : Nat) (h : Hw) : Hw :=
  h.writeTo m (addrOf GOV.SL_CFG_EN (govPage j) (j % 24)) fun h =>
    if !h.govEn j then h
    else
      let h := (h.slWr j GOV.SL_CFG_EN 0).govShowLoad (govUnitOf j)
      let h := (h.slWr j GOV.SL_STS_RUNNING 0).govUntake j
      if h.govWaits j then h else h.govOff j

/-- A write of SL_STS.SWITCH (R308). -/
def govBankSwitch (m : Master) (j : Nat) (h : Hw) : Hw :=
  h.writeTo m (addrOf GOV.SL_STS_SWITCH (govPage j) (j % 24)) fun h =>
    if (h.gov j).validating ∨ h.slIs j GOV.SL_STS_SW_PEND then h.slWr j GOV.SL_STS_BUSY 1
    else h.modGov j fun s => { s with validating := true }

/-- The validation of the inactive bank of slot j ends (R308). -/
def govValidateDone (j : Nat) (h : Hw) : Hw :=
  if !(h.gov j).validating then h
  else
    let h := h.modGov j fun s => { s with validating := false }
    match h.govValidate j (1 - h.sl j GOV.SL_STS_ACTIVE_BANK) with
    | some r => h.govReject j r
    | none =>
      if h.govEn j then (h.modGov j fun s => { s with pendAt := h.clk.cycles }).slWr j GOV.SL_STS_SW_PEND 1 else h.govFlip j

/-- Whether a W1 write into bank b of slot j is accepted (R308). -/
def Hw.govBankOpen (h : Hw) (j b : Nat) : Bool :=
  let act := h.sl j GOV.SL_STS_ACTIVE_BANK
  if b = act then !h.govEn j else !(h.gov j).validating && !h.slIs j GOV.SL_STS_SW_PEND

/-- A W1 write into a bank of slot j is dropped (R308, R314). -/
def Hw.govRefuseWrite (h : Hw) (m : Master) (j off : Nat) : Hw :=
  (h.inc (govPage j) GOV.REFUSED).raise (govPage j) 2 ⟨off, m.toNat, 1, false⟩

/-! ### Faults, resets, axes (R311, R313) -/

/-- An uncorrectable error of unit g's state memory, or a failure of its checker (R313). -/
def Hw.govEngine (h : Hw) (g : Nat) (inj : Bool) : Hw :=
  let p := pGOV g
  let h := (h.wr p GOV.GV_STS_ENGINE_FAULT 1).raise p 3 { govCap (24 * g) with injected := inj }
  forN 24 (fun i h => h.govStop (24 * g + i)) h

/-- The engine fault of unit g. -/
def govEngineFault (g : Nat) (h : Hw) : Hw := h.govEngine g false

/-- Slot j samples as its TRIG_DELAY ends (R298): a TIMER slot at its tick, one of the other sources where a trigger of it has made a
sample; a reserved TRIG makes none. An armed ECC injection acts on this read of the unit's state memory (R459, R460). -/
def govSample (j : Nat) (h : Hw) : Hw :=
  let p := govPage j
  if h.slUse j GOV.SL_CFG_TRIG ≠ 0 ∧ (h.gov j).due = 0 then h
  else
  let h := h.modGov j fun s => { s with due := s.due - 1 }
  if h.injArmed p 2 0 then (h.injFired p).govEngine (govUnitOf j) true
  else if h.injArmed p 1 0 then (h.injFired p).govTake j
  else h.govTake j

/-- GV_CTRL.STAT_CLR (R314). -/
def gvStatClr (m : Master) (g : Nat) (h : Hw) : Hw :=
  h.writeTo m (addrOf GOV.GV_CTRL_STAT_CLR (pGOV g) 0) fun h =>
    ((h.wr (pGOV g) GOV.QWAIT_MAX 0).wr (pGOV g) GOV.MISS_CNT 0).wr (pGOV g) GOV.REG_CHG 0

/-- An axis changed its state: the slots that read its speed follow (R311). The engine kernel's reference of a polygon that starts follows its
speed into HANDOVER and ramps from RUN on (R251; DEDUCED, assumption 103). -/
def Hw.govAxis (h : Hw) (n old new : Nat) : Hw :=
  forN 96 (fun j h =>
    if h.slUse j GOV.SL_CFG_INSRC ≠ 2 ∨ h.slUse j GOV.SL_CFG_IN_IDX ≠ n then h
    else if !h.govEn j && h.govWaits j then (if new = 7 ∧ old = 6 then h else h.govOff j)
    else if h.slIs j GOV.SL_STS_RUNNING then
      let b := h.sl j GOV.SL_STS_ACTIVE_BANK
      if new = 8 ∧ (old = 6 ∨ old = 7) then h.govFault j true
      else if new = 6 then
        let h := if isPoly n && decide (h.speedSlot n = some j) && h.kernelRuns then h.setRef j (signed 32 (h.rd (pAXIS n) AXIS.SPEED_EST)) else h
        (h.govDrop j).govStart j (clampI (h.outMin j b) (h.outMax j b) (h.rd (pAXIS n) AXIS.START_I_I_RAMP))
      else if new = 7 ∧ old = 3 then (h.govDrop j).govStart j (h.intInit j b)
      else if new = 7 then
        if isPoly n && decide (h.speedSlot n = some j) && h.kernelRuns then h.rampPoly j else h
      else h.govDrop j
    else h) h

/-- A block reset of a GOV page (R313). -/
def Hw.resetGov (h : Hw) (g : Nat) : Hw :=
  let p := pGOV g
  let h := forN 24 (fun i h =>
    let j := 24 * g + i
    let h := h.govStop j
    let h := ((h.slWr j GOV.SL_CFG_EN 0).slWr j GOV.SL_STS_FAULTED 0).slWr j GOV.SL_STS_SW_PEND 0
    h.modGov j fun _ => GovSlot.reset) h
  let h := h.modGovU g fun _ => GovUnit.reset
  [GOV.QWAIT_MAX, GOV.MISS_CNT, GOV.FAULTED, GOV.REFUSED, GOV.REG_CHG, GOV.GV_STS_ENGINE_FAULT, GOV.LOAD_STATIC].foldl
    (fun h f => h.wr p f 0) h

/-! ### Phase engagement and catch sets of polygons (R255, R390) -/

/-- The phase slot of axis n: the slot that feeds the speed slot's reference (R390); none where REF_ADD is 0. -/
def Hw.phaseSlot (h : Hw) (n : Nat) : Option Nat :=
  match h.speedSlot n with
  | none => none
  | some j =>
    let k := h.sl j GOV.SL_LINK_REF_SLOT
    if h.sl j GOV.SL_LINK_REF_ADD = 1 ∧ k < 96 then some k else none

/-- Little-endian bytes into the table banks. -/
def Hw.putLE (h : Hw) (o n v : Nat) : Hw := ((toLE n v).zipIdx).foldl (fun h x => h.putTable (o + x.2) x.1) h

/-- The engine kernel bounds the speed offset of a phase slot to ±0.04 % of the reference during pull-in, through OUT_MIN and OUT_MAX of
its active bank (R255, R300; DEDUCED, assumption 103). -/
def Hw.boundOffset (h : Hw) (j : Nat) : Hw :=
  let b := h.sl j GOV.SL_STS_ACTIVE_BANK
  let d : Int := (16 * h.polyRpm h.runGrade * 4 / 10000 : Nat)
  (h.putLE (govBase j b + 0x14) 4 (unsignedOf 32 (-d))).putLE (govBase j b + 0x18) 4 (unsignedOf 32 d)

/-- The engine kernel engages the phase term of station n's polygon (R255): the axis in RUN within ±0.04 % of the reference and the
scan clock LOCKED; a faulted phase slot is disabled first. The 100 ms of R255 are the command's own condition. -/
def phaseEngage (n : Nat) (h : Hw) : Hw :=
  let want := 16 * h.polyRpm h.runGrade
  let sp := signed 32 (h.rd (pAXIS n) AXIS.SPEED_EST)
  if !h.kernelRuns || !h.is (pSCANCLK n) SCANCLK.SC_STS_LOCKED || decide (h.axState n ≠ 7)
      || decide (4 * want < 10000 * (sp - want).natAbs) then h
  else match h.phaseSlot n with
    | none => h
    | some j =>
      let h := if h.slIs j GOV.SL_STS_FAULTED then govSlotDisable kernelMaster j h else h
      if h.govEn j then h else govSlotEn kernelMaster j (h.boundOffset j)

/-- At a change of POLY_RPM the engine kernel ramps the speed reference of polygon n from where it stands, and disables the phase slot until
it is engaged again (R255). -/
def Hw.polyRamp (n : Nat) (h : Hw) : Hw :=
  match h.speedSlot n with
  | none => h
  | some j =>
    let h := h.rampPoly j
    match h.phaseSlot n with
    | some k => govSlotDisable kernelMaster k h
    | none => h

/-- The polygons follow a change of POLY_RPM (R255). -/
def Hw.polyRamps (h : Hw) (changed : Bool) : Hw := if changed && h.kernelRuns then forN 8 Hw.polyRamp h else h

/-- The fields of an AXIS page a catch set holds (R390), those of its Faceplate among them: every RW and RWL field but EN, ALIGN_REQ and
IQ_REF. -/
def catchRows : List FieldRow :=
  (rowsFACE ++ rowsAXIS).filter fun r =>
    (decide (r.acc = .rw) || decide (r.acc = .rwl)) && decide (r.fld ≠ AXIS.AX_CTRL_EN) && decide (r.fld ≠ AXIS.AX_CTRL_ALIGN_REQ)
      && decide (r.fld ≠ AXIS.REF_IQ_REF) && decide (r.fld ≠ FACE.PAGE_CTRL_EN)

/-- The registers of slot j a catch set holds. -/
def catchSlotAddrs (j : Nat) : List Nat :=
  [GOV.SL_CFG_EN, GOV.SL_LINK_TGT, GOV.SL_REF, GOV.SL_TIME_DIV, GOV.SL_DL_DEADLINE].map fun f => addrOf f (govPage j) (j % 24)

/-- The slots whose values a catch set of axis n holds. -/
def Hw.catchSlots (h : Hw) (n : Nat) : List Nat := (h.speedSlot n).toList ++ (h.phaseSlot n).toList

/-- The words of the catch set's AXIS fields: each register of the page with such a field. -/
def Hw.catchAxisRegs (h : Hw) (n : Nat) : List (Nat × Word) :=
  (catchRows.map fun r => addrOf r.fld (pAXIS n) 0).eraseDups.map fun a => (a, h.word a)

/-- The CRC-32C of a catch set's registers, banks and POLY_RPM (R88, R390): the order of its bytes is not stated (assumption 155). -/
def catchCrc (regs : List (Nat × Word)) (bank : List (Nat × Byte)) (rpm : Nat) : Nat :=
  crc32c ((regs.flatMap fun x => toLE 4 x.1 ++ toLE 4 x.2.toNat) ++ (bank.flatMap fun x => toLE 4 x.1 ++ [x.2]) ++ toLE 4 rpm)

/-- The catch set of axis n as it stands (R390); the active coefficient banks are kept for bank 0, which a module reset leaves active. -/
def Hw.catchSetOf (h : Hw) (n : Nat) : CatchSet :=
  let js := h.catchSlots n
  let regs := h.catchAxisRegs n ++ js.flatMap fun j => (catchSlotAddrs j).map fun a => (a, h.word a)
  let bank := js.flatMap fun j => (List.range 256).map fun i =>
    (govBase j 0 + i, h.table (govBase j (h.sl j GOV.SL_STS_ACTIVE_BANK) + i))
  let rpm := h.polyRpm h.runGrade
  ⟨regs, bank, rpm, catchCrc regs bank rpm⟩

/-- The valid catch set of axis n: one that is stored, and whose CRC-32C agrees (R390). -/
def Hw.validCatch (h : Hw) (n : Nat) : Option CatchSet :=
  (tget (fun _ => (none : Option CatchSet)) h.mram.catchSets n).filter fun c => decide (c.crc = catchCrc c.regs c.bank c.polyRpm)

/-- The engine kernel stores the catch set of polygon n while its axis is in RUN (R390). -/
def catchSetStore (n : Nat) (h : Hw) : Hw :=
  if h.axState n = 7 then
    { h with mram := { h.mram with catchSets := tset (fun _ => (none : Option CatchSet)) h.mram.catchSets n (some (h.catchSetOf n)) } }
  else h

/-- Load a word into a register and into the values in use. -/
def Hw.setBoth (h : Hw) (a : Nat) (v : Word) : Hw :=
  let h := h.setWord a v
  { h with used := tset usedReset h.used a v }

/-- Load a catch set into the AXIS page, field by field, and into the Governor slots, the slots disabled (R390). -/
def Hw.catchLoad (h : Hw) (n : Nat) (c : CatchSet) : Hw :=
  let p := pAXIS n
  let h := catchRows.foldl (fun (h : Hw) r =>
    let a := addrOf r.fld p 0
    match c.regs.find? fun x => decide (x.1 = a) with
    | some x => h.setBoth a (putBits (h.word a) r.fld.hi r.fld.lo (bitsOf x.2 r.fld.hi r.fld.lo))
    | none => h) h
  let h := c.regs.foldl (fun h x => if pageBase x.1 = p then h else h.setBoth x.1 x.2) h
  let h := (h.catchSlots n).foldl (fun h j => h.slWr j GOV.SL_CFG_EN 0) h
  let h := c.bank.foldl (fun h x => h.putTable x.1 x.2) h
  let h := if h.is p FACE.PAGE_CTRL_FREEZE then h.later (.holdView p) else h
  match h.speedSlot n with
  | some j => h.setRef j (16 * c.polyRpm : Nat)
  | none => h

/-- The stations of this module: those its CMAP entry names, and all eight where it names none (R440). -/
def Hw.ownStations (h : Hw) : Nat :=
  let m := h.usei pPEERA PEER.CMAP_STATIONS (h.rd pPEERA PEER.CHAIN_CFG_MODULE)
  if m = 0 then 255 else m

/-- The engine kernel enables the speed slot of axis n, where AX_CFG names one, and then the axis (R383, R390). -/
def Hw.bringAxis (h : Hw) (n : Nat) : Hw :=
  let h := match h.speedSlot n with
    | some j => if h.govEn j then h else govSlotEn kernelMaster j h
    | none => h
  axisEnWrite kernelMaster n true h

/-- The terminals of polygon n show no rotation above STILL any more (R390): one that coasted without a catch set may start, and does
where bring-up waits for it. -/
def Hw.coastOver (h : Hw) (n : Nat) : Hw :=
  if !bitAt h.boot.coasting n then h
  else
    let h := { h with boot := { h.boot with coasting := putBit h.boot.coasting n false } }
    if bitAt h.ownStations n && h.jobs.any (fun j => decide (j.opcode = 0x11)) then h.bringAxis n else h

/-- The engine kernel sees to the polygon axes that are off, by a mask of those whose terminals show rotation: after a module reset it
restores them (R254, R390). A polygon without a valid catch set coasts and is logged; the manual gives no kind for it (assumption 20). -/
def polyCatchRestore (mask : Nat) (h : Hw) : Hw :=
  if !h.kernelRuns then h
  else forN 8 (fun n h =>
    if !bitAt mask n then h.coastOver n
    else if h.axState n ≠ 0 ∨ bitAt h.boot.coasting n then h
    else match h.validCatch n with
      | none =>
        (h.log ⟨logKind 4, 0, 0x0100, pageTag (pAXIS n), n⟩) |> fun h => { h with boot := { h.boot with coasting := putBit h.boot.coasting n true } }
      | some c => (h.catchLoad n c).bringAxis n) h

end Sys2Proof.Machine
end

