-- ==== Sys2Proof/Machine/HighVoltage.lean ====
section
/-! DEFINITION. The high-voltage channels and the process setpoint table (R315–R321, R332). -/

namespace Sys2Proof.Machine

/-! ### Channels by number -/

/-- The HVIO page of channel c. -/
def hvPage (c : Nat) : Nat := pHVIO (c / 14)

/-- A register field of channel c, its value in use, and its write. -/
def Hw.hv (h : Hw) (c : Nat) (f : Field) : Nat := h.rdi (hvPage c) f (c % 14)
def Hw.hvUse (h : Hw) (c : Nat) (f : Field) : Nat := h.usei (hvPage c) f (c % 14)
def Hw.hvWr (h : Hw) (c : Nat) (f : Field) (v : Nat) : Hw := h.wri (hvPage c) f (c % 14) v

/-- The inner state of channel c. -/
def Hw.hvCh (h : Hw) (c : Nat) : HvCh := tget (fun _ => HvCh.reset) h.hvs c

/-- Change the inner state of channel c. -/
def Hw.modHv (h : Hw) (c : Nat) (f : HvCh → HvCh) : Hw :=
  { h with hvs := tset (fun _ => HvCh.reset) h.hvs c (f (h.hvCh c)) }

/-- The station whose HVEN serves channel c (R32, R315). -/
def hvStation (c : Nat) : Nat := if c < 40 then c / 5 else 7

/-- The role of channel c (R320). -/
def hvRole (c : Nat) : Nat := if c < 40 then c % 5 else if c = 40 then 5 else 6

/-- Whether channel c is enabled, is tripped, and finds its HVEN high. -/
def Hw.hvEn (h : Hw) (c : Nat) : Bool := decide (h.hv c HVIO.HV_CFG_EN = 1)
def Hw.hvTripped (h : Hw) (c : Nat) : Bool := h.bit (hvPage c) HVIO.HV_STS_TRIPPED (c % 14)
def Hw.hvHigh (h : Hw) (c : Nat) : Bool := bitAt h.pins.hven (hvStation c)

/-- Whether the PWM output of channel c may be other than low (R315). -/
def Hw.hvLive (h : Hw) (c : Nat) : Bool := h.hvEn c && !h.hvTripped c && h.hvHigh c && h.runs (hvPage c)

/-- Show RUNNING of channel c, and the output low where it is held low. -/
def Hw.hvShow (h : Hw) (c : Nat) : Hw :=
  let h := h.setBit (hvPage c) HVIO.HV_STS_RUNNING (c % 14) (h.hvLive c)
  if h.hvLive c then h else h.hvWr c HVIO.HV_OUT 0

/-- An enabled channel finds its HVEN low (R315). -/
def Hw.hvLoss (h : Hw) (c : Nat) : Hw := if h.hvEn c && !h.hvHigh c then h.raise (hvPage c) 3 (cap0 c) else h

/-- The channels that HVEN_s serves. -/
def hvenChannels (s : Nat) : List Nat := (List.range 42).filter fun c => decide (hvStation c = s)

/-- HVEN_s goes high or low (R32, R315). -/
def Hw.setHven (h : Hw) (s : Nat) (v : Bool) : Hw :=
  let h := { h with pins := { h.pins with hven := putBit h.pins.hven s v } }
  (hvenChannels s).foldl (fun h c => (h.hvShow c).hvLoss c) h

/-- A page between EXPOSING and FUSED on station s. -/
def Hw.carries (h : Hw) (s : Nat) : Bool :=
  h.headrace.pages.any fun p => bitAt p.mask s
    && decide (p.state = .exposing ∨ p.state = .exposed ∨ p.state = .transferred ∨ p.state = .fused)

/-! ### Periods, conversions and trips (R315–R317) -/

/-- A PWM period of channel c starts (R315): staged values and the new duty apply, the duty at most DUTY_MAX. -/
def hvPeriodStart (c : Nat) (h : Hw) : Hw :=
  let h := h.unitBoundary (hvPage c) (c % 14)
  let d := if h.hvUse c HVIO.HV_CFG_SRC = 1 then h.hv c HVIO.HV_DUTY_DUTY_MAN else (h.hvCh c).duty
  let h := ((h.hvShow c).hvLoss c).govTrigger 1 c
  if h.hvLive c then h.hvWr c HVIO.HV_OUT (min d (h.hvUse c HVIO.HV_DUTY_DUTY_MAX)) else h

/-- Channel c trips (R317): the output is held low, TRIPPED latched, the source raised, and the jam stop follows where a page is
carried. -/
def Hw.hvTrip (h : Hw) (c src : Nat) : Hw :=
  let h := h.setBit (hvPage c) HVIO.HV_STS_TRIPPED (c % 14) true
  let h := (h.modHv c fun s => { s with tripAt := some h.clk.cycles }).incBy (hvPage c) HVIO.HV_CNT (c % 14) 1
  let h := (h.hvShow c).raise (hvPage c) src (cap0 c)
  if 40 ≤ c ∨ h.carries (hvStation c) then h.later (.jam 5) else h

/-- Full scale of a code. -/
def fullScale (code : Int) : Bool := decide (code = 32767 ∨ code = -32768)

/-- A VS and IS conversion of channel c completes (R316, R317), whatever the page's EN. Conversions of an open test are not among these; an
open input reads 0x8000. A trip of a channel already tripped holds it against an HV_CLR of the same clock (R331). -/
def hvConversion (c : Nat) (vs is : BitVec 16) (h : Hw) : Hw :=
  if !h.blockAnswers (hvPage c) then h
  else
    let v : Int := if 2 ≤ (h.hvCh c).openV then -32768 else vs.toInt
    let i : Int := if 2 ≤ (h.hvCh c).openI then -32768 else is.toInt
    let h := (h.hvWr c HVIO.HV_SENSE_VS (unsignedOf 16 v)).hvWr c HVIO.HV_SENSE_IS (unsignedOf 16 i)
    let bump (b : Bool) (n : Nat) : Nat := if b then n + 1 else 0
    let h := h.modHv c fun s =>
      { s with overV := bump (decide ((h.hv c HVIO.HV_TRIP_V_TRIP : Int) ≤ v)) s.overV
               overI := bump (decide (h.hv c HVIO.HV_TRIP_I_TRIP ≤ i.natAbs)) s.overI
               full := bump (fullScale v || fullScale i) s.full }
    let s := h.hvCh c
    let src : Option Nat := if 2 ≤ s.full ∧ h.hvEn c then some 2 else if 2 ≤ s.overV then some 0 else if 2 ≤ s.overI then some 1 else none
    match src with
    | none => h
    | some x => if h.hvTripped c then h.modHv c fun s => { s with tripAt := some h.clk.cycles } else h.hvTrip c x

/-- An open-connection test of the voltage or current input of channel c ends (R316): an input that fails twice in a row reads 0x8000. -/
def hvOpenTest (c : Nat) (current pass : Bool) (h : Hw) : Hw :=
  if !h.blockAnswers (hvPage c) then h
  else
    let h := h.modHv c fun s =>
      if current then { s with openI := if pass then 0 else s.openI + 1 }
      else { s with openV := if pass then 0 else s.openV + 1 }
    let s := h.hvCh c
    if current then (if 2 ≤ s.openI then h.hvWr c HVIO.HV_SENSE_IS 0x8000 else h)
    else if 2 ≤ s.openV then h.hvWr c HVIO.HV_SENSE_VS 0x8000
    else h

/-- A write of HV_CLR of HVIO page i (R317): TRIPPED clears on disabled channels, but for a trip of the same clock (R331). -/
def hvClr (m : Master) (i mask : Nat) (h : Hw) : Hw :=
  h.writeTo m (addrOf HVIO.HV_CLR (pHVIO i) 0) fun h =>
    forN 14 (fun k h =>
      let c := 14 * i + k
      if bitAt mask k && !h.hvEn c && decide ((h.hvCh c).tripAt ≠ some h.clk.cycles) then
        h.setBit (hvPage c) HVIO.HV_STS_TRIPPED k false
      else h) h

/-- A write of HV_CFG.EN (R315). -/
def hvEnWrite (m : Master) (c : Nat) (v : Bool) (h : Hw) : Hw :=
  h.writeTo m (addrOf HVIO.HV_CFG_EN (hvPage c) (c % 14)) fun h =>
    ((h.hvWr c HVIO.HV_CFG_EN (b2n v)).hvShow c).hvLoss c

/-- An output driver's own check fails (R332). -/
def pwmFault (c : Nat) (h : Hw) : Hw := h.raise (hvPage c) 5 (cap0 c)

/-! ### The process setpoint table (R319–R321) -/

/-- Fields of the process setpoint table in bank b. -/
def Hw.hvSet (h : Hw) (b p c : Nat) : Int := signed 32 (h.tableLE (0x1000 + 0x1000 * b + 0x40 + 0xA8 * p + 4 * c) 4)
def Hw.fusSet (h : Hw) (b f k : Nat) : Nat := h.tableLE (0x1000 + 0x1000 * b + 0xAC0 + 0x10 * f + 2 * k) 2
def Hw.mediaScale (h : Hw) (b m r : Nat) : Nat := h.tableLE (0x1000 + 0x1000 * b + 0xBC0 + 0x10 * m + 2 * r) 2

/-- Whether an offset of the process setpoint table is reserved (R319): MEDIA has a row for each of the 64 media classes of R65. -/
def ptReserved (o : Nat) : Bool :=
  decide (1 ≤ o ∧ o < 64) || decide (0xFC0 ≤ o) || (decide (0xBC0 ≤ o) && decide (14 ≤ (o - 0xBC0) % 16))

/-- The checks of R321 on bank b: the code of the first that fails. -/
def Hw.ptCheck (h : Hw) (b : Nat) : Option Nat :=
  let medias := List.range 64
  let top (r : Nat) : Nat := medias.foldl (fun a m => max a (h.mediaScale b m r)) 0
  if h.table (0x1000 + 0x1000 * b) ≠ 1 then some 0x41
  else if (List.range 0x1000).any fun o => ptReserved o && decide (h.table (0x1000 + 0x1000 * b + o) ≠ 0) then some 0x42
  else if medias.any fun m => (List.range 7).any fun r => decide (32768 < h.mediaScale b m r) then some 0x43
  else if (List.range 42).any fun c => (List.range 16).any fun p =>
      decide ((h.hv c HVIO.HV_TRIP_V_TRIP : Int) ≤ roundHalfUp (h.hvSet b p c * top (hvRole c)) 16384) then some 0x44
  else none

/-- A write of PT_BANK.SWITCH (R321). A SWITCH while one is pending changes nothing (DEDUCED, assumption 33). -/
def ptBankSwitch (m : Master) (h : Hw) : Hw :=
  let p := pHVIO 0
  h.writeTo m (addrOf HVIO.PT_BANK_SWITCH p 0) fun h =>
    if h.is p HVIO.PT_BANK_SWITCH_PEND then h
    else match h.ptCheck (1 - h.rd p HVIO.PT_BANK_ACTIVE) with
      | some code => (h.wr p HVIO.PT_BANK_REJECT code).raise p 4 (cap0 0)
      | none => (h.wr p HVIO.PT_BANK_REJECT 0).wr p HVIO.PT_BANK_SWITCH_PEND 1

/-- At the gap the validated bank becomes active (R321). -/
def ptBankApply (h : Hw) : Hw :=
  let p := pHVIO 0
  if h.is p HVIO.PT_BANK_SWITCH_PEND && !h.anyExposing then
    (h.wr p HVIO.PT_BANK_ACTIVE (1 - h.rd p HVIO.PT_BANK_ACTIVE)).wr p HVIO.PT_BANK_SWITCH_PEND 0
  else h

/-- The slot whose target is HV channel c: the enabled one (R300), else the first that names it. -/
def Hw.hvSlot (h : Hw) (c : Nat) : Option Nat :=
  let names (j : Nat) : Bool := decide (h.slUse j GOV.SL_LINK_TGT = 1 ∧ h.slUse j GOV.SL_LINK_TGT_IDX = c)
  match (List.range 96).find? fun j => names j && h.govEn j with
  | some j => some j
  | none => (List.range 96).find? names

/-- Whether a page has still to come to the station of channel c (R320); to the transfers of channels 40 and 41 before it exposes. -/
def PageRec.comesTo (g : PageRec) (c : Nat) : Bool :=
  if 40 ≤ c then decide (g.state = .admitted)
  else decide (g.state = .admitted ∨ g.state = .exposing) && bitAt g.mask (hvStation c) && !(match g.stn[hvStation c]? with
    | some o => o.began
    | none => false)

/-- The page that comes to channel c's station next: of those that have still to come the one whose belt point comes first (R320). -/
def Hw.hvPage? (h : Hw) (c : Nat) : Option PageRec :=
  let ahead (g : PageRec) : Int := signed 48 (unsignedOf 48 ((g.beltP.toNat : Int) - h.beltNow.toNat))
  (h.headrace.pages.filter fun g => g.comesTo c).foldl (fun a g => match a with
    | none => some g
    | some b => if ahead g < ahead b then some g else some b) none

/-- The reference of channel c for a page (R320). -/
def Hw.hvRef (h : Hw) (c : Nat) (pg : PageRec) : Int :=
  let b := h.rd (pHVIO 0) HVIO.PT_BANK_ACTIVE
  let p := h.grade h.runGrade 0x10 1 % 16
  roundHalfUp (h.hvSet b p c * h.mediaScale b (pg.media % 64) (hvRole c)) 16384

/-- In the gap before a page the kernel has moved the reference of channel c for us µs (R320): at most HV_RAMP counts per µs. -/
def hvRefRamp (c us : Nat) (h : Hw) : Hw :=
  if !h.kernelRuns then h
  else match h.hvSlot c, h.hvPage? c with
  | some j, some pg =>
    if decide (c < 40) && h.exposingOn (hvStation c) then h
    else
      let h := h.rampRef j
      let now := signed 32 (h.sl j GOV.SL_REF)
      let step : Int := h.rd (hvPage c) HVIO.HV_RAMP * us
      h.setRef j (clampI (now - step) (now + step) (h.hvRef c pg))
  | _, _ => h

/-- At a grade change the engine kernel sets the references of the fuser's slots from FUS_SET of the running grade's FUSER_SET (R320). -/
def Hw.fuserRefs (h : Hw) : Hw :=
  if !h.kernelRuns then h
  else
    let b := h.rd (pHVIO 0) HVIO.PT_BANK_ACTIVE
    let f := h.grade h.runGrade 0x11 1 % 16
    forN 96 (fun j h =>
      let k := h.slUse j GOV.SL_LINK_TGT_IDX
      if decide (h.slUse j GOV.SL_LINK_TGT = 2) && decide (k < 8) then h.setRef j (h.fusSet b f k) else h) h

/-- A block reset of an HVIO page (R332). -/
def Hw.resetHvio (h : Hw) (i : Nat) : Hw :=
  let h := forN 14 (fun k h =>
    let c := 14 * i + k
    let h := ((h.hvWr c HVIO.HV_CFG_EN 0).hvWr c HVIO.HV_CNT 0).hvWr c HVIO.HV_OUT 0
    h.modHv c fun s => { s with overV := 0, overI := 0, full := 0 }) h
  (h.wr (pHVIO i) HVIO.HV_STS_TRIPPED 0).wr (pHVIO i) HVIO.HV_STS_RUNNING 0

end Sys2Proof.Machine
end

