-- ==== Sys2Proof/Machine/Lamps.lean ====
section
/-! DEFINITION. Fuser lamps: zero-cross, bursts and inrush, the mains budget, current faults and the fuser's temperature limits
(R322–R331, R333). -/

namespace Sys2Proof.Machine

/-- The inner state of lamp channel k. -/
def Hw.lamp (h : Hw) (k : Nat) : LampCh := tget (fun _ => LampCh.reset) h.lamps k

/-- Change the inner state of lamp channel k. -/
def Hw.modLamp (h : Hw) (k : Nat) (f : LampCh → LampCh) : Hw :=
  { h with lamps := tset (fun _ => LampCh.reset) h.lamps k (f (h.lamp k)) }

/-- A register field of lamp channel k, and its write. -/
def Hw.lc (h : Hw) (k : Nat) (f : Field) : Nat := h.rdi pLAMP f k
def Hw.lcWr (h : Hw) (k : Nat) (f : Field) (v : Nat) : Hw := h.wri pLAMP f k v

/-- LC_STS.STATE of lamp channel k (R325): 0 OFF, 1 WAIT, 2 INRUSH, 3 RUN, 4 HELD, 5 LOCKED. -/
def Hw.lcState (h : Hw) (k : Nat) : Nat := h.lc k LAMP.LC_STS_STATE

/-- LAMP_k goes high or low; a lamp that goes low has conducted until now (R324, R330). -/
def Hw.lampPin (h : Hw) (k : Nat) (v : Bool) : Hw :=
  let was := bitAt h.pins.lamp k
  let h := if v then h else h.modLamp k fun l => { l with riseAt := none, fallAt := none }
  let h := { h with pins := { h.pins with lamp := putBit h.pins.lamp k v } }
  if v then h.modLamp k fun l => { l with lastOn := some h.mono }
  else if was then h.modLamp k fun l => { l with lastOn := some h.mono, decays := true }
  else h

/-- Show which channel is in INRUSH. -/
def Hw.lpShow (h : Hw) : Hw :=
  match (List.range 8).find? fun k => decide (h.lcState k = 2) with
  | some k => (h.wr pLAMP LAMP.LP_STS_INRUSH_CH k).wr pLAMP LAMP.LP_STS_INRUSH_ACT 1
  | none => h.wr pLAMP LAMP.LP_STS_INRUSH_ACT 0

/-- Enter a state of R325. acc is 32,768 on entry to RUN (R323). -/
def Hw.lcEnter (h : Hw) (k st : Nat) : Hw :=
  let h := h.lcWr k LAMP.LC_STS_STATE st
  let h := h.modLamp k fun l =>
    { l with acc := if st = 3 then 32768 else l.acc, second := false, granted := false, soft := 0, since := h.clk.cycles, refused := 0 }
  let h := h.lcWr k LAMP.LC_STS_DEFERRED 0
  (if st = 2 ∨ st = 3 then h else h.lampPin k false).lpShow

/-- The demand of channel k (R323); one that the Governor gave in this clock is not yet used (R331). -/
def Hw.lcDem (h : Hw) (k : Nat) : Nat := if h.lc k LAMP.LC_CFG_SRC = 1 then h.lc k LAMP.LC_DEM_DEM_MAN else h.demandNow k

/-- Whether the lamp is cold (R324). -/
def Hw.lcCold (h : Hw) (k : Nat) : Bool :=
  match (h.lamp k).lastOn with
  | none => true
  | some t => decide (h.lc k LAMP.LC_CFG_COLD_S * 1024000000000 ≤ (h.mono - t).toNat)

/-- A channel in OFF with EN and demand leaves it (R325). -/
def Hw.lcWake (h : Hw) (k : Nat) : Hw :=
  if h.lcState k = 0 ∧ h.lc k LAMP.LC_CFG_EN = 1 ∧ 0 < h.lcDem k ∧ h.is pLAMP LAMP.LP_STS_ZC_OK ∧ h.runs pLAMP then
    (if h.lcCold k then h.lcEnter k 1 else (h.lcEnter k 3).wri pLAMP LAMP.LC_CNT_STARTS k (min 65535 (h.lc k LAMP.LC_CNT_STARTS + 1)))
  else h

/-- Every lamp drops and returns to OFF, but for HELD and LOCKED (R325, R333). -/
def Hw.lampsOff (h : Hw) : Hw :=
  forN 8 (fun k h => if h.lcState k = 4 ∨ h.lcState k = 5 then h.lampPin k false else h.lcEnter k 0) h

/-- E-STOP switches the lamps off until the kernel re-arms them (R34): EN clears, so that re-arming is a new write of EN (DESIGN CHOICE,
assumption 34). -/
def Hw.lampsEstop (h : Hw) : Hw := forN 8 (fun k h => h.lcWr k LAMP.LC_CFG_EN 0) h.lampsOff

/-- Mains sense is lost (R329). -/
def mainsSenseLost (h : Hw) : Hw :=
  if h.is pLAMP LAMP.LP_STS_ZC_OK then
    let h := (h.wr pLAMP LAMP.LP_STS_ZC_OK 0).lampsOff
    let h := { h with mains := { h.mains with regular := 0 } }
    (h.persist pLAMP 6 true).raise pLAMP 6 (cap0 0)
  else { h with mains := { h.mains with regular := 0 } }

/-! ### Zero-cross and grants (R322–R327) -/

/-- α of inrush half-cycle i of channel k, in ns (R324). -/
def Hw.lcAlpha (h : Hw) (k i : Nat) : Nat :=
  let s := h.lc k LAMP.LC_CFG_SOFT_HC
  ceilDiv (9 * h.rd pLAMP LAMP.MAINS_HALF * (s - i)) (10 * max 1 s)

/-- LAMP_k conducts in the half-cycle that begins now: it rises α ns after its zero-cross and falls 300 µs before the next (R322). -/
def Hw.lcConduct (h : Hw) (k alpha : Nat) : Hw :=
  let z := h.clk.cycles
  let h := if alpha = 0 then h.lampPin k true else h.lampPin k false
  h.modLamp k fun l =>
    { l with riseAt := if alpha = 0 then none else some (z + alpha), fallAt := some (z + (h.rd pLAMP LAMP.MAINS_HALF - 300000)) }

/-- The half-cycle that begins at a zero-cross, for channel k. -/
def Hw.lcHalf (h : Hw) (k : Nat) (rising : Bool) : Hw :=
  let st := h.lcState k
  if st = 2 then
    let h := h.lcConduct k (h.lcAlpha k (h.lamp k).soft)
    h.modLamp k fun l => { l with soft := l.soft + 1, conducts := true, inrush := true }
  else if st = 3 then
    let l := h.lamp k
    let acc := if rising then min 131071 (l.acc + h.lcDem k) else l.acc
    let starts := rising && l.granted && decide (65536 ≤ acc)
    let on := starts || (!rising && l.second)
    let h := if on then h.lcConduct k 0 else h.lampPin k false
    h.modLamp k fun l =>
      { l with acc := if starts then acc - 65536 else acc, second := starts, granted := false, conducts := on, inrush := false }
  else h.modLamp k fun l => { l with conducts := false, inrush := false }

/-- Whether a half-cycle of d units of PRESS_TIME is one of 45 to 65 Hz (R329). -/
def mainsRegular (d : Nat) : Bool := decide (1024000000000 ≤ 130 * d ∧ 90 * d ≤ 1024000000000)

/-- A zero-cross of the mains sense at t (R323, R329): the half-cycle period is measured, and the granted half-cycles begin. A period
outside 45 to 65 Hz loses mains sense. -/
def zeroCross (rising : Bool) (t : Stamp) (h : Hw) : Hw :=
  if !h.blockAnswers pLAMP then h
  else
    let d : Nat := match h.mains.last with
      | none => 0
      | some u => (t - u).toNat
    let first := h.mains.last.isNone
    let h : Hw := { h with mains := { h.mains with last := some t, rising := rising } }
    let h := h.later (.trigger 5 0)
    if first then h
    else
      let h := h.wr pLAMP LAMP.MAINS_HALF (min 16777215 (d / 1024))
      if !mainsRegular d then mainsSenseLost h
      else
        let h := { h with mains := { h.mains with regular := h.mains.regular + 1 } }
        let h :=
          if 10 ≤ h.mains.regular ∧ !h.is pLAMP LAMP.LP_STS_ZC_OK then
            (h.wr pLAMP LAMP.LP_STS_ZC_OK 1).persist pLAMP 6 false
          else h
        let h := forN 8 (fun k h => h.lcWake k) h
        if h.is pLAMP LAMP.LP_STS_ZC_OK then forN 8 (fun k h => h.lcHalf k rising) h else h

/-- The last measured rms of lamp k in mA of the lamp (R326): the CT reading times the transformer's ratio. -/
def Hw.lampRms (h : Hw) (k : Nat) : Nat := h.lc k LAMP.LC_MEAS_RMS * Config.ctRatio k / 10

/-- A grant of group 3 or 4 is refused (R326). -/
def Hw.lcRefuse (h : Hw) (k halves : Nat) : Hw :=
  let h := (h.inc pLAMP LAMP.DEFER_CNT).lcWr k LAMP.LC_STS_DEFERRED 1
  let n := (h.lamp k).refused
  let h := h.modLamp k fun l => { l with refused := n + halves }
  if n < 100 ∧ 100 ≤ n + halves then h.raise pLAMP 7 (cap0 k) else h

/-- A grant of group 3 or 4 is made. -/
def Hw.lcGrant (h : Hw) (k : Nat) : Hw :=
  (h.modLamp k fun l => { l with granted := true, refused := 0 }).lcWr k LAMP.LC_STS_DEFERRED 0

/-- The grants of the half-cycle to come (R326): inrush and second halves stand, lamps that burst are granted within BUDGET, and one
lamp that waits may start. A lamp that conducts now and is not granted still counts with its last rms. -/
def Hw.grantRound (h : Hw) (rising : Bool) : Hw :=
  let h := forN 8 (fun k h =>
    if h.lcState k = 2 ∧ h.lc k LAMP.LC_CFG_SOFT_HC ≤ (h.lamp k).soft then
      (h.lcEnter k 3).modLamp k fun l => { l with decays := true }
    else h.modLamp k fun l => { l with granted := false }) h
  let inr := (List.range 8).filter fun k => decide (h.lcState k = 2)
  let sec := (List.range 8).filter fun k => decide (h.lcState k = 3) && !rising && (h.lamp k).second
  let cands := if rising then
      (List.range 8).filter fun k => decide (h.lcState k = 3) && decide (65536 ≤ min 131071 ((h.lamp k).acc + h.lcDem k))
    else []
  let waits := (List.range 8).filter fun k => decide (h.lcState k = 1)
  let flows (k : Nat) : Bool := (h.lamp k).decays || bitAt h.pins.lamp k
  let fading (k : Nat) : Nat := if flows k && !inr.contains k && !sec.contains k then h.lampRms k else 0
  let base := (inr.map fun k => h.lc k LAMP.LC_CUR_I_INR).sum + (sec.map fun k => h.lc k LAMP.LC_CUR_I_NOM).sum
    + ((List.range 8).map fading).sum
  let budget := h.rd pLAMP LAMP.BUDGET
  let r := cands.foldl (fun (x : Nat × Hw) k =>
    let sum := x.1 - fading k + h.lc k LAMP.LC_CUR_I_NOM
    if sum ≤ budget then (sum, x.2.lcGrant k) else (x.1, x.2.lcRefuse k 2)) (base, h)
  let r := match waits.foldl (fun (b : Option Nat) k =>
      match b with
      | none => some k
      | some j => if (h.lamp k).since < (h.lamp j).since then some k else some j) none with
    | none => r
    | some k =>
      let sum := r.1 - fading k + h.lc k LAMP.LC_CUR_I_INR
      if inr.isEmpty && decide (sum ≤ budget) then
        (sum, ((r.2.lcEnter k 2).incBy pLAMP LAMP.LC_CNT_STARTS k 1))
      else (r.1, r.2.lcRefuse k 1)
  r.2.wr pLAMP LAMP.BUDGET_USE (min 65535 r.1)

/-- Whether a channel conducts from the start of the half-cycle to come, by the grants as they stand. -/
def Hw.lcStays (h : Hw) (k : Nat) (rising : Bool) : Bool :=
  let l := h.lamp k
  decide (h.lcState k = 3) && (if rising then l.granted else l.second)

/-- The scheduler's grants at Z − 200 µs for the half-cycle to come, positive-going or not (R326). A LAMP_k that stayed high for a half-cycle
that is then not granted falls. -/
def lampGrant (rising : Bool) (h : Hw) : Hw :=
  if !h.runs pLAMP || !h.is pLAMP LAMP.LP_STS_ZC_OK then h
  else
    let h := h.grantRound rising
    forN 8 (fun k h => if bitAt h.pins.lamp k && (h.lamp k).fallAt.isNone && !h.lcStays k rising then h.lampPin k false else h) h

/-- One clock of the lamp outputs (R322): LAMP_k rises α after the zero-cross, and falls 300 µs before the next, but where the next half-cycle
conducts from its start, as the grants would be made now (DEDUCED, assumption 118). -/
def Hw.lampsTick (h : Hw) : Hw :=
  forN 8 (fun k h =>
    let now := h.clk.cycles
    let due (x : Option Nat) : Bool := match x with
      | some c => decide (c ≤ now)
      | none => false
    let h := if due (h.lamp k).riseAt then (h.lampPin k true).modLamp k fun l => { l with riseAt := none } else h
    if due (h.lamp k).fallAt then
      if (h.grantRound !h.mains.rising).lcStays k !h.mains.rising then h.modLamp k fun l => { l with fallAt := none } else h.lampPin k false
    else h) h

/-! ### Current faults (R328) -/

/-- Lamp k is locked off with a source (R328). -/
def Hw.lcLock (h : Hw) (k src : Nat) : Hw :=
  let h := (h.lcEnter k 5).incBy pLAMP LAMP.LC_CNT_TRIPS k 1
  h.raise pLAMP src (cap0 k)

/-- The envelope E_k of lamp k in 0.1 mA at the CT (R328). -/
def Hw.lampEnvelope (h : Hw) (k : Nat) : Nat := if h.lcState k = 2 then h.lc k LAMP.LC_ENV_INR_PK else h.lc k LAMP.LC_ENV_RUN_PK

/-- The instantaneous current of lamp k, in 0.1 mA at the CT, is compared with twice its envelope (R328), whatever the page's EN. -/
def lampShort (k peak : Nat) (h : Hw) : Hw :=
  if h.lcState k = 5 ∨ !h.blockAnswers pLAMP ∨ peak ≤ 2 * h.lampEnvelope k then h else h.lcLock k 0

/-- A half-cycle of lamp k ends with a peak and an rms in 0.1 mA at the CT (R328, R326). -/
def lampHalfCycleEnd (k peak rms : Nat) (h : Hw) : Hw :=
  if !h.blockAnswers pLAMP then h
  else
    let h := (h.lcWr k LAMP.LC_MEAS_PEAK (min 65535 peak)).lcWr k LAMP.LC_MEAS_RMS (min 65535 rms)
    let pk := h.lc k LAMP.LC_ENV_RUN_PK
    let l := h.lamp k
    let on := l.conducts || bitAt h.pins.lamp k
    let excess := if 5 * pk < 4 * peak ∧ !l.inrush then l.excess + 1 else 0
    let stuck := if pk < 50 * rms ∧ !on then l.stuck + 1 else 0
    let h := h.modLamp k fun l =>
      { l with excess := excess, stuck := stuck, decays := if on || decide (pk ≤ 50 * rms) then l.decays else false }
    let h := if bitAt h.pins.lamp k then h.modLamp k fun l => { l with lastOn := some h.mono } else h
    let h := if stuck = 2 then h.raise pLAMP 2 (cap0 k) else h
    if 2 ≤ excess ∧ h.lcState k ≠ 5 then (h.lcLock k 1).modLamp k fun l => { l with excess := 0 } else h

/-! ### Register writes (R325, R330) -/

/-- LC_CFG.EN of lamp k is 1 (R325, R330): refused for a channel with no guard input enabled; nothing while the lamp is held off after an
E-STOP, which only the engine kernel's own write of it ends (R34). -/
def Hw.lampEnable (h : Hw) (k : Nat) (rearm : Bool) : Hw :=
  if h.lc k LAMP.LC_CFG_G0_EN = 0 ∧ h.lc k LAMP.LC_CFG_G1_EN = 0 then h.wr pLAMP LAMP.LP_STS_CFG_REFUSED 1
  else if !h.pins.estop1 || !h.pins.estop2 || (bitAt h.pins.heldLamp k && !rearm) then h
  else ({ h with pins := { h.pins with heldLamp := putBit h.pins.heldLamp k false } }.lcWr k LAMP.LC_CFG_EN 1).lcWake k

/-- A write of LC_CFG.EN (R325, R330): refused for a channel with no guard input enabled. With an E-STOP loop open, or before the engine
kernel has re-armed the lamp after one, a write of 1 leaves it off (R34). -/
def lampEnWrite (m : Master) (k : Nat) (v : Bool) (h : Hw) : Hw :=
  h.writeTo m (addrOf LAMP.LC_CFG_EN pLAMP k) fun h =>
    if v then h.lampEnable k (isKernel m)
    else
      let h := h.lcWr k LAMP.LC_CFG_EN 0
      if h.lcState k = 4 ∨ h.lcState k = 5 then h else h.lcEnter k 0

/-- A write of LOCK_CLR (R325). -/
def lockClr (m : Master) (mask : Nat) (h : Hw) : Hw :=
  h.writeTo m (addrOf LAMP.LOCK_CLR pLAMP 0) fun h =>
    forN 8 (fun k h => if bitAt mask k && decide (h.lcState k = 5) && decide (h.lc k LAMP.LC_CFG_EN = 0) then h.lcEnter k 0 else h) h

/-- The guard inputs of lamp k that are enabled. -/
def Hw.guards (h : Hw) (k : Nat) : List Nat :=
  (if h.lc k LAMP.LC_CFG_G0_EN = 1 then [h.lc k LAMP.LC_CFG_GUARD0] else [])
    ++ (if h.lc k LAMP.LC_CFG_G1_EN = 1 then [h.lc k LAMP.LC_CFG_GUARD1] else [])

/-- Whether input t is valid, below RESTART and within RATE_MAX (R330). -/
def Hw.tinGood (h : Hw) (t : Nat) : Bool :=
  decide (h.rdi pLAMP LAMP.TIN_VAL_FAULT t = 0)
    && decide (signed 16 (h.rdi pLAMP LAMP.TIN_VAL_VALUE t) < (h.rdi pLAMP LAMP.TIN_LIM_RESTART t : Int))
    && decide (signed 16 (h.rdi pLAMP LAMP.TIN_RATE_RATE t) ≤ h.rdi pLAMP LAMP.TIN_RATE_RATE_MAX t)

/-- A write of FUS_CLR (R330). A limit crossed at the same time holds the channel (R331). -/
def fusClr (m : Master) (mask : Nat) (h : Hw) : Hw :=
  h.writeTo m (addrOf LAMP.FUS_CLR pLAMP 0) fun h =>
    forN 8 (fun k h => if bitAt mask k && decide (h.lcState k = 4) && (h.guards k).all h.tinGood then h.lcEnter k 0 else h) h

/-! ### Fuser temperatures (R330) -/

/-- Every channel guarded by input t enters HELD; a locked channel stays LOCKED (R330, R331). -/
def Hw.hold (h : Hw) (t : Nat) : Hw :=
  forN 8 (fun k h => if (h.guards k).contains t && decide (h.lcState k ≠ 5) && decide (h.lcState k ≠ 4) then h.lcEnter k 4 else h) h

/-- Whether LAMP_k has been low throughout the last 100 ms. -/
def Hw.lampLow (h : Hw) (k : Nat) : Bool :=
  !bitAt h.pins.lamp k && (match (h.lamp k).lastOn with
    | none => true
    | some t => decide (102400000000 ≤ (h.mono - t).toNat))

/-- Input t reads as faulty: no update in 200 µs, or the node's fault flag (R330). -/
def Hw.tinBad (h : Hw) (t : Nat) : Hw :=
  let was := h.isi pLAMP LAMP.TIN_VAL_FAULT t
  let h := (h.wri pLAMP LAMP.TIN_VAL_FAULT t 1).hold t
  if was then h else (h.raise pLAMP 5 (cap0 (16 + t))).later .govInputs

/-- Input t is updated from a node's VALUE frame (R330). -/
def Hw.tinUpdate (h : Hw) (t : Nat) (v : Int) (fault : Bool) : Hw :=
  let h := h.wri pLAMP LAMP.TIN_VAL_VALUE t (unsignedOf 16 v)
  if fault then h.tinBad t
  else
    let u := tget (fun _ => TinCh.reset) h.tins t
    let hist := u.hist.takeWhile fun x => decide ((h.mono - x.1).toNat ≤ 102400000000)
    let old := match hist.getLast? with
      | some x => x.2
      | none => v
    let rate := v - old
    let excess := decide ((h.rdi pLAMP LAMP.TIN_LIM_CEIL t : Int) ≤ v)
    let fast := decide ((h.rdi pLAMP LAMP.TIN_RATE_RATE_MAX t : Int) < rate)
    let h := (h.wri pLAMP LAMP.TIN_VAL_FAULT t 0).wri pLAMP LAMP.TIN_RATE_RATE t (satSigned 16 rate)
    let low := if fast then (List.range 8).filter fun k => (h.guards k).contains t && h.lampLow k else []
    let h := { h with tins := tset (fun _ => TinCh.reset) h.tins t ⟨(h.mono, v) :: hist, excess, fast, low⟩ }
    let h := if excess ∨ fast then h.hold t else h
    let h := if excess && !u.overCeil then h.raise pLAMP 3 (cap0 (16 + t)) else h
    let h := if fast && !u.overRate then h.raise pLAMP 4 (cap0 (16 + t)) else h
    (low.filter fun k => !u.stuck.contains k).foldl (fun h k => h.raise pLAMP 2 (cap0 k)) h

/-- No update of input t for 200 µs (R330). -/
def tinTimeout (t : Nat) (h : Hw) : Hw :=
  if h.isi pLAMP LAMP.TIN_MAP_EN t ∧ h.blockAnswers pLAMP then h.tinBad t else h

/-- A block reset of the LAMP page (R333): every LAMP_k drops, and every channel but LOCKED and HELD ones returns to OFF. -/
def Hw.resetLamp (h : Hw) : Hw := h.lampsOff

end Sys2Proof.Machine
end

