-- ==== Sys2Proof/Machine/Temperature.lean ====
section
/-! DEFINITION. Temperature supervision: cross-checked sensors, zones, the thermal grade, shutdown and restart, compensation
(R352–R363). -/

namespace Sys2Proof.Machine

/-! ### Sensors and zones (R352) -/

/-- Sensors by one number: die 0–31, board B0–B11 as 32–43. The page and the index of a sensor on it. -/
def snsPage (i : Nat) : Nat := if i < 32 then pTHERMALA else pTHERMALB
def snsIdx (i : Nat) : Nat := if i < 32 then i else i - 32

/-- The neighbours of a sensor, but for the model neighbours of SUP (R352). -/
def snsNeighbours (i : Nat) : List Nat :=
  if i < 32 then
    let r := i / 8
    let z := i % 8
    (if 0 < r then [i - 8] else []) ++ (if r < 3 then [i + 8] else []) ++ [8 * r + (z + 1) % 8, 8 * r + (z + 7) % 8]
  else if i < 36 then ([32, 33, 34, 35] : List Nat).filter fun k => decide (k ≠ i)
  else if i < 39 then ([36, 37, 38] : List Nat).filter fun k => decide (k ≠ i)
  else ([39, 40, 41, 42, 43] : List Nat).filter fun k => decide (k ≠ i)

/-- Zones by one number: die 0–7, CP 8, SUP 9, STG 10. The zone of a sensor, its page, its index there, and its sensors. -/
def zoneOf (i : Nat) : Nat := if i < 32 then i % 8 else if i < 36 then 8 else if i < 39 then 9 else 10
def zonePage (z : Nat) : Nat := if z < 8 then pTHERMALA else pTHERMALB
def zoneIdx (z : Nat) : Nat := if z < 8 then z else z - 8
def zoneSensors (z : Nat) : List Nat := (List.range 44).filter fun i => decide (zoneOf i = z)

/-- A signed register field of zone z. -/
def Hw.zn (h : Hw) (z : Nat) (f : Field) : Int := signed 16 (h.rdi (zonePage z) f (zoneIdx z))

/-- TOL of a sensor in 0.01 °C (R353). -/
def snsTol (i : Nat) : Nat := if i < 32 then 600 else if i < 36 then 1000 else if i < 39 then 800 else 1500

/-- Whether sensor i is marked BROKEN. -/
def Hw.snsBroken (h : Hw) (i : Nat) : Bool := h.bit (snsPage i) THERMAL.BROKEN (snsIdx i)

/-- Whether the model neighbour of supply phase p may be valid: the phase is good and not isolated (R16, R352). -/
def Hw.phaseGood (h : Hw) (p : Nat) : Bool := !h.sluice.deadPhases.contains p

/-- How many valid neighbours a sensor has when a set of sensors is uncheckable (R352, R353); the model neighbour of a SUP sensor
counts while its phase is good and a CP sensor is valid. -/
def Hw.validCount (h : Hw) (un : List Nat) (i : Nat) : Nat :=
  let ok (k : Nat) : Bool := !h.snsBroken k && !un.contains k
  let model := decide (36 ≤ i ∧ i < 39) && h.phaseGood (i - 36) && ((List.range 4).any fun k => ok (32 + k))
  ((snsNeighbours i).filter ok).length + b2n model

/-- The uncheckable sensors (R353): those left with fewer than two valid neighbours, grown from none until nothing changes. -/
def Hw.uncheckable (h : Hw) : Nat → List Nat → List Nat
  | 0, un => un
  | n + 1, un =>
    let next := (List.range 44).filter fun i => decide (h.validCount un i < 2)
    if next = un then un else h.uncheckable n next

/-- One sample's readings: raw values by sensor, converter faults by sensor, model values by phase, and the uncheckable sensors. -/
structure Reading where
  raw : List Int
  bad : Nat
  model : List Int
  un : List Nat
deriving DecidableEq, Repr

/-- The raw values of the valid neighbours of sensor i. -/
def Hw.validRaws (h : Hw) (x : Reading) (i : Nat) : List Int :=
  let ok (k : Nat) : Bool := !h.snsBroken k && !x.un.contains k
  ((snsNeighbours i).filter ok).map (nthI x.raw)
    ++ (if decide (36 ≤ i ∧ i < 39) && h.phaseGood (i - 36) && ((List.range 4).any fun k => ok (32 + k)) then
          [nthI x.model (i - 36)]
        else [])

/-- The largest of a list of integers. -/
def maxI : List Int → Int
  | [] => 0
  | x :: xs => xs.foldl max x

/-- The effective value of sensor i, and whether it is substituted (R353). -/
def Hw.effective (h : Hw) (x : Reading) (i : Nat) : Int × Bool :=
  let raw := nthI x.raw i
  let vs := h.validRaws x i
  if x.un.contains i then (max raw (h.zn (zoneOf i) THERMAL.ZLIM0_THROTTLE), false)
  else
    let off := vs.all fun v => decide ((snsTol i : Int) < (raw - v).natAbs)
    if h.snsBroken i || off || decide (raw < -4000 ∨ 15000 < raw) || bitAt x.bad i then (maxI vs + 400, true) else (raw, false)

/-! ### The grade of R357 -/

/-- The kernel moves TH_GRADE; each change raises TH_STEP_EVT and the grade change of R77 is looked at. -/
def Hw.thGrade (h : Hw) (g : Nat) : Hw :=
  if g = h.rd pTHERMALA THERMAL.TH_GRADE then h
  else ((h.wr pTHERMALA THERMAL.TH_GRADE g).raise pTHERMALA 7 (cap0 0)).later .gradeCheck

/-- Whether zone z is in throttle (R356). -/
def Hw.inThrottle (h : Hw) (z : Nat) : Bool :=
  decide (h.rdi (zonePage z) THERMAL.ZSTS_THROTTLE (zoneIdx z) = 1) || decide (h.rdi (zonePage z) THERMAL.ZSTS_RATE_OVER (zoneIdx z) = 1)

/-- Whether any zone is in throttle. -/
def Hw.anyThrottle (h : Hw) : Bool := (List.range 11).any h.inThrottle

/-- A zone has entered throttle: the kernel steps TH_GRADE up (R357). -/
def Hw.thUp (h : Hw) : Hw := if h.kernelRuns then h.thGrade (min 7 (h.rd pTHERMALA THERMAL.TH_GRADE + 1)) else h

/-- A THERMAL capture (R363). -/
def thCap (i z : Nat) : Cap := cap0 (snsIdx i + 256 * zoneIdx z)

/-- The hottest sensor of a list by effective value. -/
def Hw.hottest (h : Hw) (is : List Nat) : Nat × Int :=
  is.foldl (fun (b : Nat × Int) i =>
    let v := signed 16 (h.rdi (snsPage i) THERMAL.SNS_EFF (snsIdx i))
    if b.2 < v then (i, v) else b) (is.headD 0, -32769)

/-- Judge zone z after a sample (R355, R356). -/
def Hw.zoneJudge (h : Hw) (z : Nat) : Hw :=
  let p := zonePage z
  let k := zoneIdx z
  let t := h.hottest (zoneSensors z)
  let v := t.2
  let was := h.inThrottle z
  let warn := decide (h.zn z THERMAL.ZLIM0_WARN ≤ v)
  let thr := decide (h.zn z THERMAL.ZLIM0_THROTTLE ≤ v)
  let warnWas := h.bit p THERMAL.TS_STS_WARN k
  let thrWas := h.bit p THERMAL.TS_STS_THROTTLE k
  let h := h.wri p THERMAL.ZSTS_ZONE_VAL k (unsignedOf 16 v)
  let h := (h.wri p THERMAL.ZSTS_WARN k (b2n warn)).setBit p THERMAL.TS_STS_WARN k warn
  let h := (h.wri p THERMAL.ZSTS_THROTTLE k (b2n thr)).setBit p THERMAL.TS_STS_THROTTLE k thr
  let h := (h.persist p 0 (decide (h.rd p THERMAL.TS_STS_WARN ≠ 0))).persist p 1 (decide (h.rd p THERMAL.TS_STS_THROTTLE ≠ 0))
  let h := if warn && !warnWas then h.raise p 0 (thCap t.1 z) else h
  let h := if thr && !thrWas then h.raise p 1 (thCap t.1 z) else h
  if !was && h.inThrottle z then h.thUp else h

/-- The supervisor's state after a shutdown: COOLING, but a LOCKOUT stays (R360). -/
def Hw.coolingState (h : Hw) : Hw := h.wr pTHERMALB THERMAL.SD_STS_STATE (if h.mram.lockout then 2 else 1)

/-- Shut the module down for zone z (R358): the cause is latched and the shutdown follows. -/
def Hw.thShutdown (h : Hw) (z : Nat) : Hw :=
  let t := h.hottest (zoneSensors z)
  let p := pTHERMALB
  let h := { h with thermal := { h.thermal with down := true } }.coolingState.wr p THERMAL.SD_STS_LAST_ZONE (zoneIdx z)
  let h := (h.wr p THERMAL.SD_STS_LAST_SENSOR (snsIdx t.1)).wr p THERMAL.SD_STS_LAST_BOARD (b2n (decide (8 ≤ z)))
  (h.inc p THERMAL.SD_CNT).later (.shutdown 5)

/-- Show the hottest effective value of a page. -/
def Hw.showMax (h : Hw) (p : Nat) (is : List Nat) : Hw :=
  let t := h.hottest is
  (h.wr p THERMAL.MAX_EFF_VALUE (unsignedOf 16 t.2)).wr p THERMAL.MAX_EFF_SENSOR (snsIdx t.1)

/-- What a sensor's effective value counts in its zone's rate: a substitute without SUBST_MARGIN, so that the loss of one sensor is no
rise in temperature (R5, R353, R355; assumption 90). -/
def rateValue (e : Int × Bool) : Int := if e.2 then e.1 - 400 else e.1

/-- The supervisor takes one sample of every sensor (R353, R354, R356, R358): readings, substitutes and models, zone values, and the
shutdown of a zone that is hot twice in a row: nothing prevents it, and only one that already stands has it done. -/
def Hw.supervise (h : Hw) (raw : List (BitVec 16)) (bad : Nat) (power : List Nat) : Hw :=
  let rs := (List.range 44).map fun i => (raw.getD i 0).toInt
  let un := h.uncheckable 44 []
  let x0 : Reading := ⟨rs, bad, [], un⟩
  let cp := maxI (([32, 33, 34, 35] : List Nat).map fun i => (h.effective x0 i).1)
  let model := (List.range 3).map fun p => cp + approxDiv (60 * Config.phaseLoss p (power.getD p 0) : Nat) 1000
  let x : Reading := { x0 with model := model }
  let effs := (List.range 44).map fun i => h.effective x i
  let h := forN 3 (fun p h => h.wri pTHERMALB THERMAL.SUP_MODEL p (satSigned 16 (nthI model p))) h
  let h := forN 44 (fun i h =>
    let e := effs.getD i (0, false)
    let h := h.wri (snsPage i) THERMAL.SNS_RAW (snsIdx i) (unsignedOf 16 (nthI rs i))
    let h := h.wri (snsPage i) THERMAL.SNS_EFF (snsIdx i) (satSigned 16 e.1)
    let n := tget (fun _ => 0) h.thermal.subst i
    let h := { h with thermal := { h.thermal with subst := tset (fun _ => 0) h.thermal.subst i (if e.2 then min 1000 (n + 1) else 0) } }
    let isUn := un.contains i
    let wasUn := h.bit (snsPage i) THERMAL.UNCHECK (snsIdx i)
    let h := h.setBit (snsPage i) THERMAL.UNCHECK (snsIdx i) isUn
    if isUn && !wasUn then h.raise (snsPage i) 4 (thCap i (zoneOf i)) else h) h
  let h := forN 11 (fun z h => { h with thermal := { h.thermal with
    basis := tset (fun _ => 0) h.thermal.basis z (maxI ((zoneSensors z).map fun i => rateValue (effs.getD i (0, false)))) } }) h
  let h := (h.showMax pTHERMALA (List.range 32)).showMax pTHERMALB ((List.range 12).map fun i => 32 + i)
  let h := forN 11 (fun z h => h.zoneJudge z) h
  let h := forN 11 (fun z h =>
    let hot := decide (h.zn z THERMAL.ZLIM1_SHUTDOWN ≤ h.zn z THERMAL.ZSTS_ZONE_VAL)
    let n := if hot then min 2 (tget (fun _ => 0) h.thermal.hot z + 1) else 0
    { h with thermal := { h.thermal with hot := tset (fun _ => 0) h.thermal.hot z n } }) h
  if h.thermal.down then h
  else match (List.range 11).find? fun z => decide (2 ≤ tget (fun _ => 0) h.thermal.hot z) with
    | some z => h.thShutdown z
    | none => h

/-- A sample of all sensors (R352–R358): raw values in 0.01 °C of die sensors 0–31 and board sensors B0–B11, converter faults as a mask in
the same order, and the measured output powers of the three supply phases in mW. -/
def thermalSample (raw : List (BitVec 16)) (bad : Nat) (power : List Nat) (h : Hw) : Hw :=
  if !h.boot.vaon then h else h.supervise raw bad power

/-- A sensor has been under substitution for 1000 samples in a row (R353). -/
def sensorBroken (i : Nat) (h : Hw) : Hw :=
  if decide (tget (fun _ => 0) h.thermal.subst i < 1000) || h.snsBroken i then h
  else (h.setBit (snsPage i) THERMAL.BROKEN (snsIdx i) true).raise (snsPage i) 3 (thCap i (zoneOf i))

/-- The rate of zone z is evaluated (R355), over the values of `rateValue`. -/
def Hw.rateZone (z : Nat) (h : Hw) : Hw :=
  let p := zonePage z
  let k := zoneIdx z
  let v := tget (fun _ => 0) h.thermal.basis z
  let hist := tget (fun _ => ([] : List Int)) h.thermal.hist z
  let rate := match hist[9]? with
    | some w => v - w
    | none => 0
  let h := { h with thermal := { h.thermal with hist := tset (fun _ => ([] : List Int)) h.thermal.hist z ((v :: hist).take 10) } }
  let excess := decide ((h.rdi p THERMAL.ZRATE_RATE_MAX k : Int) < rate)
  let was := h.inThrottle z
  let overWas := h.bit p THERMAL.TS_STS_RATE k
  let h := h.wri p THERMAL.ZRATE_RATE k (satSigned 16 rate)
  let h := (h.wri p THERMAL.ZSTS_RATE_OVER k (b2n excess)).setBit p THERMAL.TS_STS_RATE k excess
  let h := h.persist p 2 (decide (h.rd p THERMAL.TS_STS_RATE ≠ 0))
  let h := if excess && !overWas then h.raise p 2 (thCap (h.hottest (zoneSensors z)).1 z) else h
  if !was && h.inThrottle z then h.thUp else h

/-- The rates are evaluated, every 100 ms (R355): the zone value less that of 1 s before. -/
def thermalRateEval (h : Hw) : Hw := if !h.boot.vaon then h else forN 11 (Hw.rateZone) h

/-- TH_STEP seconds have passed in throttle (R357). -/
def thStepTimer (h : Hw) : Hw := if h.anyThrottle then h.thUp else h

/-- TH_CLEAR seconds have passed with every zone below THROTTLE − TH_HYST and no rate above its limit (R357). -/
def thClearTimer (h : Hw) : Hw :=
  let hyst : Int := h.rd pTHERMALA THERMAL.TH_CFG_TH_HYST
  let calm := (List.range 11).all fun z =>
    decide (h.zn z THERMAL.ZSTS_ZONE_VAL < h.zn z THERMAL.ZLIM0_THROTTLE - hyst)
      && decide (h.rdi (zonePage z) THERMAL.ZSTS_RATE_OVER (zoneIdx z) = 0)
  if calm && h.kernelRuns then h.thGrade (h.rd pTHERMALA THERMAL.TH_GRADE - 1) else h

/-- The valid CP sensors have differed by more than 6.00 °C for 10 s (R354), by their effective values, as every decision of the chapter. -/
def cpSpread (h : Hw) : Hw :=
  let vs := (([32, 33, 34, 35] : List Nat).filter fun i =>
    !h.snsBroken i && !h.bit (snsPage i) THERMAL.UNCHECK (snsIdx i)).map fun i => signed 16 (h.rdi (snsPage i) THERMAL.SNS_EFF (snsIdx i))
  if vs.any fun a => vs.any fun b => decide (600 < a - b) then h.raise pTHERMALB 6 (thCap 32 8) else h

/-! ### Restart (R359, R360) -/

/-- Whether every zone value lies below its RESTART; for a re-arm, uncheckable sensors are taken at their raw value (R359, R360). -/
def Hw.allCool (h : Hw) (rearm : Bool) : Bool :=
  (List.range 11).all fun z =>
    let v (i : Nat) : Int :=
      if rearm && h.bit (snsPage i) THERMAL.UNCHECK (snsIdx i) then signed 16 (h.rdi (snsPage i) THERMAL.SNS_RAW (snsIdx i))
      else signed 16 (h.rdi (snsPage i) THERMAL.SNS_EFF (snsIdx i))
    (zoneSensors z).all fun i => decide (v i < h.zn z THERMAL.ZLIM1_RESTART)

/-- Restarts made in the last 60 minutes. -/
def Hw.recentRestarts (h : Hw) : List Stamp :=
  h.mram.restarts.filter fun t => decide ((h.mono - t).toNat < 3600 * 1024000000000)

/-- A restart that counts towards the limit, or LOCKOUT where three have been made in 60 minutes (R360, R365, R372): what follows a
restart that may be made is the caller's. RESTART_LIMIT is raised at once where the module is up. In LOCKOUT no restart is made. -/
def Hw.counted (h : Hw) (go : Hw → Hw) : Hw :=
  let p := pTHERMALB
  let rs := h.recentRestarts
  if h.mram.lockout then h
  else if 3 ≤ rs.length then
    let h := { h with mram := { h.mram with lockout := true } }.wr p THERMAL.SD_STS_STATE 2
    if h.kernelRuns then h.raise p 7 (cap0 0) else { h with thermal := { h.thermal with limit := true } }
  else
    let h := { h with mram := { h.mram with restarts := h.mono :: rs } }
    go ((h.wr p THERMAL.SD_STS_STATE 0).wr p THERMAL.SD_STS_RESTARTS (rs.length + 1))

/-- LOCKOUT ends (R360): the module restarts, the count clears and the re-arm is logged as a gated operation (R427). A RESTART_LIMIT that
waits for READY is still raised there. -/
def Hw.lockoutEnd (h : Hw) : Hw :=
  let p := pTHERMALB
  let h := h.gated 0xFFFF 4 0 true
  let h := { h with mram := { h.mram with lockout := false, restarts := [] }
                    thermal := { h.thermal with recovered := true, down := false } }
  ((h.wr p THERMAL.SD_STS_STATE 0).wr p THERMAL.SD_STS_RESTARTS 0).later (.again 5)

/-- A SEAL loop that stands closed ends LOCKOUT once every zone is below RESTART (R360). -/
def Hw.sealEndsLockout (h : Hw) : Hw :=
  if h.mram.lockout && h.pins.sealClosed && h.allCool true then h.lockoutEnd else h

/-- Every zone has been below its RESTART for 10 s (R359, R360): the supervisor restarts the module after a shutdown of its own, or enters
LOCKOUT; LOCKOUT ends where the SEAL loop is closed. -/
def thermalRestart (h : Hw) : Hw :=
  if !h.boot.vaon then h
  else
    let h := if h.rd pTHERMALB THERMAL.SD_STS_STATE = 1 ∧ h.thermal.down ∧ h.allCool false then
        h.counted fun h => { h with thermal := { h.thermal with recovered := true, down := false } }.later (.again 5)
      else h
    h.sealEndsLockout

/-- Physical presence is shown (R360): in LOCKOUT with every zone below RESTART it ends LOCKOUT; in LOCKOUT otherwise it is logged and
ignored. -/
def Hw.lockoutPresence (h : Hw) : Hw :=
  let p := pTHERMALB
  if h.rd p THERMAL.SD_STS_STATE ≠ 2 then h
  else if h.allCool true then h.lockoutEnd
  else h.log ⟨logKind 8, 1, 0xFFFF, pageTag p, h.rd p THERMAL.SD_STS_LAST_ZONE⟩

/-- At READY the kernel logs a restart's cause and raises what waited for it (R359, R360). -/
def Hw.thermalReady (h : Hw) : Hw :=
  let p := pTHERMALB
  let h := if h.thermal.recovered then
      (h.log ⟨logKind 7, 0, 0x0100, pageTag p, h.rd p THERMAL.SD_STS_LAST_ZONE + 256 * h.rd p THERMAL.SD_STS_LAST_SENSOR⟩).raise p 5
        (cap0 (h.rd p THERMAL.SD_STS_LAST_SENSOR + 256 * h.rd p THERMAL.SD_STS_LAST_ZONE))
    else h
  let h := if h.thermal.limit then h.raise p 7 (cap0 0) else h
  { h with thermal := { h.thermal with recovered := false, limit := false } }

/-! ### Compensation and register writes (R362, R363) -/

/-- Whether a temperature lies within the range of compensation (R362), and the nearer end of it where it does not. -/
def compOk (v : Int) : Bool := decide (-1000 ≤ v ∧ v ≤ 12500)
def compClamp (v : Int) : Int := max (-1000) (min 12500 v)

/-- The sense converters (R362): the shunts of 20 axes and 16 steppers, 42 HV outputs, 8 current transformers, MBUS and six VGD rails. With
the oscillator as number 0 they are the correctors 1–93. -/
def convCount : Nat := 93

/-- The effective value of a sensor as last sampled. -/
def Hw.snsEff (h : Hw) (i : Nat) : Int := signed 16 (h.rdi (snsPage i) THERMAL.SNS_EFF (snsIdx i))

/-- The temperature used by corrector c (R362): die zone 6 for the oscillator, else the nearest SUP or STG sensor. -/
def Hw.compTemp (h : Hw) (c : Nat) : Int :=
  if c = 0 then h.zn 6 THERMAL.ZSTS_ZONE_VAL else h.snsEff (36 + (Config.compSensor c).toNat)

/-- A correction moves towards another by at most one LSB (R362). -/
def compStep (old want : Int) : Int := if old < want then old + 1 else if want < old then old - 1 else old

/-- Corrector c takes a step towards the correction of its clamped temperature (R362). -/
def Hw.compCorrect (c : Nat) (h : Hw) : Hw :=
  let want := (Config.compCoeff c (BitVec.ofInt 16 (compClamp (h.compTemp c)))).toInt
  let old := tget (fun _ => 0) h.thermal.corr c
  { h with thermal := { h.thermal with corr := tset (fun _ => 0) h.thermal.corr c (compStep old want) } }

/-- The temperatures used for correction that lie outside its range (R362): bit 0 die zone 6, bit 1 + k the sensor B(4 + k) where it is the
nearest of some converter. -/
def Hw.compOutside (h : Hw) : Nat :=
  (List.range 8).foldl (fun m k =>
    let used := (List.range convCount).any fun c => decide ((Config.compSensor (c + 1)).toNat = k)
    putBit m (k + 1) (used && !compOk (h.snsEff (36 + k)))) (b2n (!compOk (h.zn 6 THERMAL.ZSTS_ZONE_VAL)))

/-- The sensor of bit k of `compOutside`. -/
def Hw.compSource (h : Hw) (k : Nat) : Nat := if k = 0 then (h.hottest (zoneSensors 6)).1 else 35 + k

/-- Every 10 ms the oscillator and the converter references are corrected (R362). COMP_FAULT is raised for each temperature that has left
the range since. -/
def tempComp (h : Hw) : Hw :=
  if !h.boot.vaon then h
  else
    let p := pTHERMALA
    let h := forN (convCount + 1) Hw.compCorrect h
    let out := h.compOutside
    let was := h.thermal.compOut
    let h := { h with thermal := { h.thermal with compOut := out } }
    let h := (h.wr p THERMAL.COMP_STS_OSC_OK (b2n (!bitAt out 0))).wr p THERMAL.COMP_STS_REF_OK (b2n (decide (out < 2)))
    let h := h.persist p 5 (decide (out ≠ 0))
    forN 9 (fun k h => if bitAt out k && !bitAt was k then h.raise p 5 (thCap (h.compSource k) (zoneOf (h.compSource k))) else h) h

/-- A write of 1 to BROKEN bits of THERMAL_A or THERMAL_B (R353): those sensors are judged again. -/
def sensorRejudge (m : Master) (board : Bool) (mask : Nat) (h : Hw) : Hw :=
  let p := if board then pTHERMALB else pTHERMALA
  h.writeTo m (addrOf THERMAL.BROKEN p 0) fun h =>
    forN (if board then 12 else 32) (fun k h =>
      if bitAt mask k then
        let i := if board then 32 + k else k
        let h := h.setBit p THERMAL.BROKEN k false
        { h with thermal := { h.thermal with subst := tset (fun _ => 0) h.thermal.subst i 0 } }
      else h) h

/-- The supervisor's own checker fails (R363): the kernel sets TH_GRADE to 7 and stops the press at the next gap. -/
def supervisorFault (h : Hw) : Hw :=
  let h := h.raise pTHERMALA 6 (cap0 0)
  if h.kernelRuns then
    let h := h.thGrade 7
    { h with headrace := { h.headrace with stopAtGap := true } }
  else h

end Sys2Proof.Machine
end

