-- ==== Sys2Proof/Machine/Framing.lean ====
section
/-! DEFINITION. What a lane of a link carries: frames as cells, cells in codewords and stripes, alignment and training codewords, the
scrambler and the Reed-Solomon code (R195–R199, R202, R207, R208). -/

namespace Sys2Proof.Machine

/-! ### Reed-Solomon (544,514) over GF(2^10) (R195)

The generator of IEEE 802.3 clause 91 is the product of x − α^i, i = 0 to 29, with α a root of x^10 + x^3 + 1 (PRESUMED, assumption 113).
Polynomials are lists of coefficients, highest power first. -/

/-- Twice a field element, and α^i. -/
def gfDouble (a : Nat) : Nat := if a < 512 then 2 * a else (2 * a) ^^^ 0x409
def gfPower : Nat → Nat
  | 0 => 1
  | i + 1 => gfDouble (gfPower i)

/-- The product of a field element and the low n bits of another. -/
def gfTimes : Nat → Nat → Nat → Nat
  | 0, _, _ => 0
  | n + 1, a, b => (if b % 2 = 1 then a else 0) ^^^ gfTimes n (gfDouble a) (b / 2)

/-- The product of two field elements. -/
def gfMul (a b : Nat) : Nat := gfTimes 10 a b

/-- A polynomial times x − a. -/
def rsTimesRoot (p : List Nat) (a : Nat) : List Nat := List.zipWith (· ^^^ ·) (p ++ [0]) (0 :: p.map (gfMul a))

/-- The generator polynomial. -/
def rsGenerator : List Nat := (List.range 30).foldl (fun p i => rsTimesRoot p (gfPower i)) [1]

/-- The remainder after one more message symbol. -/
def rsStep (g r : List Nat) (m : Nat) : List Nat :=
  let f := m ^^^ r.headD 0
  List.zipWith (· ^^^ ·) (r.drop 1 ++ [0]) ((g.drop 1).map (gfMul f))

/-- Symbol i of a message, and the number whose 10-bit symbols are a list, the first least significant. -/
def Message.symbol (m : Message) (i : Nat) : Nat := m.toNat / 1024 ^ i % 1024
def ofSymbols : List Nat → Nat
  | [] => 0
  | a :: as => a + 1024 * ofSymbols as

/-- The 30 parity symbols of a message. -/
def rsParity (m : Message) : List Nat :=
  ((List.range 514).map m.symbol).foldl (rsStep rsGenerator) (List.replicate 30 0)

/-- A codeword as it leaves, bit 0 first: the message, then its parity. -/
def rsCodeword (m : Message) : BitVec 5440 := BitVec.ofNat 5440 (m.toNat + 2 ^ 5140 * ofSymbols (rsParity m))

/-! ### The scrambler (R197) -/

/-- The next bit of the sequence: its 39th and 58th last bits together, of a register whose bit i is the bit i + 1 places back. The key bit
is this feedback, so the first one after all ones is 0 (DESIGN CHOICE, assumption 131). -/
def scramblerBit (r : Nat) : Nat := b2n (r.testBit 38 ^^ r.testBit 57)

/-- The next n bits of the sequence, the first least significant, and the register after them. -/
def scramblerBits : Nat → Nat → Nat × Nat
  | 0, r => (0, r)
  | n + 1, r =>
    let b := scramblerBit r
    let y := scramblerBits n ((2 * r + b) % 2 ^ 58)
    (b + 2 * y.1, y.2)

/-! ### Frames and cells (R198, R207) -/

/-- The bytes of a frame: header with BODY_LEN, body and CRC-32C. -/
def Frame.bytes (f : Frame) : List Byte :=
  let bs := toLE 1 f.ftype ++ toLE 1 f.flags ++ toLE 2 f.seq ++ toLE 2 f.ack ++ toLE 2 (ceilDiv f.body.length 4) ++ toLE 8 f.param ++ f.body
  bs ++ toLE 4 (crc32c bs)

/-- The header of a cell: CH, SOF, EOF, LEN, CR_CH and CR_CNT. -/
def cellHeader (ch : Nat) (sof eof : Bool) (len crCh crCnt : Nat) : Nat :=
  ch % 8 + 8 * b2n sof + 16 * b2n eof + 32 * (len % 128) + 2 ^ 12 * (crCh % 8) + 2 ^ 15 * (crCnt % 256)

/-- A cell: its header and 124 payload bytes. -/
def cellOf (ch : Nat) (sof eof : Bool) (crCh crCnt : Nat) (payload : List Byte) : List Byte :=
  toLE 4 (cellHeader ch sof eof payload.length crCh crCnt) ++ payload ++ List.replicate (124 - payload.length) 0

/-! ### Cell slots (R208) -/

/-- The frames that wait on a channel of the transmitter. -/
def LinkTx.queue (t : LinkTx) (ch : Nat) : TxQueue := tget (fun _ => TxQueue.reset) t.queues ch
def LinkTx.setQueue (t : LinkTx) (ch : Nat) (q : TxQueue) : LinkTx := { t with queues := tset (fun _ => TxQueue.reset) t.queues ch q }

/-- A frame joins its channel. -/
def LinkTx.push (t : LinkTx) (f : Frame) : LinkTx :=
  t.setQueue f.ch { t.queue f.ch with frames := (t.queue f.ch).frames ++ [f] }

/-- The channels in the order a slot looks at them: TIME, PLAN, LINE, then MGMT and TABLE in turn; the 32nd slot is kept for those two
(the choice of the slot: DESIGN CHOICE, assumption 114). -/
def LinkTx.order (t : LinkTx) : List Nat :=
  let rel := if t.turn then [3, 4] else [4, 3]
  if t.slot % 32 = 31 then rel ++ [5, 2, 1] else [5, 2, 1] ++ rel

/-- The cell of the next slot with a credit count in its header, and the transmitter after it. -/
def LinkTx.cell (t : LinkTx) (crCh crCnt : Nat) : List Byte × LinkTx :=
  let u := { t with slot := (t.slot + 1) % 32 }
  match t.order.find? fun c => !(t.queue c).frames.isEmpty with
  | none => (cellOf 0 false false crCh crCnt [], u)
  | some c =>
    let q := t.queue c
    match q.frames with
    | [] => (cellOf 0 false false crCh crCnt [], u)
    | f :: fs =>
      let rest := f.bytes.drop q.off
      let last := decide (rest.length ≤ 124)
      let u := u.setQueue c (if last then ⟨fs, 0⟩ else ⟨f :: fs, q.off + 124⟩)
      (cellOf c (decide (q.off = 0)) last crCh crCnt (rest.take 124), if c = 3 ∨ c = 4 then { u with turn := !u.turn } else u)

/-! ### Messages (R196, R197, R199, R202) -/

/-- n bits of a message from bit lo. -/
def Message.bits (m : Message) (lo n : Nat) : Nat := m.toNat / 2 ^ lo % 2 ^ n

/-- The message of a data codeword with five cells, whose header is 0. -/
def dataMessage (cells : List (List Byte)) : Message := BitVec.ofNat 5140 (2 ^ 20 * ofLE cells.flatten)

/-- The header of cell j of a data codeword. -/
def Message.cellHeader (m : Message) (j : Nat) : Nat := m.bits (20 + 1024 * j) 32

/-- The messages of the lanes of a head link's stripe: the cells in turn on A and B, and their parity on P. -/
def stripeMessage (cells : List (List Byte)) (k : Nat) : Message :=
  let half (r : Nat) : Message := dataMessage ((cells.zipIdx.filter fun c => decide (c.2 % 2 = r)).map Prod.fst)
  if k < 2 then half k else half 0 ^^^ half 1

/-- An alignment codeword's fields (R196). -/
structure AlignRec where
  laneId : Nat
  station : Nat
  seq : Nat
  rxOk : Nat
  retrain : Nat
deriving DecidableEq, Repr

/-- AM. -/
def alignMark : Nat := 0xC1A69E2D53B8074F

/-- The message of an alignment codeword as received: AM, and the fields that follow it; the rest of its bits carry nothing (R196). -/
def alignMessage (am : BitVec 64) (fields : BitVec 54) : Message := BitVec.ofNat 5140 (am.toNat + 2 ^ 64 * fields.toNat)

/-- The message of an alignment codeword, and the fields of a received one, none where AM is wrong. -/
def AlignRec.message (a : AlignRec) : Message :=
  BitVec.ofNat 5140 (alignMark + 2 ^ 64 * (a.laneId % 256) + 2 ^ 72 * (a.station % 256) + 2 ^ 80 * (a.seq % 2 ^ 32) + 2 ^ 112 * (a.rxOk % 8)
    + 2 ^ 115 * (a.retrain % 8))
def Message.align (m : Message) : Option AlignRec :=
  if m.bits 0 64 = alignMark then some ⟨m.bits 64 8, m.bits 72 8, m.bits 80 32, m.bits 112 3, m.bits 115 3⟩ else none

/-- The 36 bytes of a TS record. -/
def TsRec.bytes (t : TsRec) : List Byte :=
  let bs := toLE 1 t.tsType ++ toLE 1 t.laneId ++ toLE 1 t.station ++ toLE 1 t.verMin ++ toLE 1 t.verMax ++ toLE 1 t.verAgreed
    ++ toLE 1 t.reason ++ toLE 1 t.caps ++ toLE 2 t.crTable ++ toLE 2 t.crMgmt ++ toLE 2 t.lineBufs ++ toLE 1 t.tablesValid ++ toLE 1 0
    ++ toLE 2 t.vendor ++ toLE 2 t.model ++ toLE 8 t.serial ++ toLE 4 t.fw
  bs ++ toLE 4 (crc32c bs)

/-- The record that 36 bytes hold. -/
def tsOfBytes (b : List Byte) : TsRec :=
  let f (o n : Nat) : Nat := fieldLE b o n
  ⟨f 0 1, f 1 1, f 2 1, f 3 1, f 4 1, f 5 1, f 6 1, f 7 1, f 8 2, f 10 2, f 12 2, f 14 1, f 16 2, f 18 2, f 20 8, f 28 4⟩

/-- The message of a training codeword: the record 17 times. -/
def TsRec.message (t : TsRec) : Message := BitVec.ofNat 5140 (2 + 2 ^ 20 * ofLE (List.replicate 17 t.bytes).flatten)

/-- Copy i of the record in a training codeword. -/
def Message.copy (m : Message) (i : Nat) : List Byte := toLE 36 (m.bits (20 + 288 * i) 288)

/-- The TS record of a received message: the first copy with a right CRC; none where there is none or KIND is not training. -/
def Message.ts (m : Message) : Option TsRec :=
  if m.bits 0 2 ≠ 2 then none
  else (((List.range 17).map m.copy).find? fun b => decide (fieldLE b 32 4 = crc32c (b.take 32))).map tsOfBytes

end Sys2Proof.Machine
end

