-- ==== Sys2Proof/Machine/PageOps.lean ====
section
/-! DEFINITION. Live pages and what every chapter does to them: completion records, pins, spoil, reprint, return to RESIDENT and
release (R63, R64, R73, R81–R85, R153), and the frames a station's link carries away. -/

namespace Sys2Proof.Machine

/-! ### Pages by descriptor index -/

/-- The live page bound to a descriptor index (R68). -/
def Hw.page? (h : Hw) (d : Nat) : Option PageRec := h.headrace.pages.find? fun p => decide (p.desc = d)

/-- Change the live page bound to a descriptor index. -/
def Hw.modPage (h : Hw) (d : Nat) (f : PageRec → PageRec) : Hw :=
  { h with headrace := { h.headrace with pages := h.headrace.pages.map fun p => if p.desc = d then f p else p } }

/-- A page on station s. -/
def PageRec.on (p : PageRec) (s : Nat) : OnStation := p.stn.getD s OnStation.reset

/-- Change a page on station s. -/
def PageRec.modOn (p : PageRec) (s : Nat) (f : OnStation → OnStation) : PageRec := { p with stn := p.stn.set s (f (p.on s)) }

/-- Whether a page uses station s. -/
def PageRec.uses (p : PageRec) (s : Nat) : Bool := bitAt p.mask s

/-- The code of a page state (R73). -/
def PState.code : PState → Nat
  | .submitted => 0
  | .resident => 1
  | .admitted => 2
  | .exposing => 3
  | .exposed => 4
  | .transferred => 5
  | .fused => 6
  | .delivered => 7
  | .spoiled => 8

/-- Whether a page lies between EXPOSING and FUSED. -/
def PState.inFlight (s : PState) : Bool := decide (3 ≤ s.code ∧ s.code ≤ 6)

/-- The columns and rows of billets of a page (R69). -/
def PageRec.cols (p : PageRec) : Nat := ceilDiv p.widthIn 256
def PageRec.rows (p : PageRec) : Nat := ceilDiv p.lengthIn 64

/-! ### Pins (R63) -/

/-- The ranges pinned by a plane: its index and its data. -/
def PageRec.planePins (p : PageRec) (pl : Plane) : List (Nat × Nat) :=
  if pl.verified then
    [(pl.indexAddr * 64, pl.indexAddr * 64 + 8 * p.cols * p.rows), (pl.dataBase * 64, pl.dataBase * 64 + pl.dataLen)]
  else []

/-- The ranges a page pins. -/
def PageRec.pins (p : PageRec) : List (Nat × Nat) :=
  (List.range 8).flatMap fun s =>
    if p.uses s then (match p.planes[s]? with
      | some pl => p.planePins pl
      | none => []) else []

/-- The ranges under pin. -/
def Hw.pins' (h : Hw) : List (Nat × Nat) := h.headrace.pages.flatMap PageRec.pins

/-- The pins of a page are released in this clock (R63, R408). -/
def Hw.unpin (h : Hw) (p : PageRec) : Hw :=
  let r := h.headrace
  { h with headrace := { r with unpinned := p.pins ++ (if r.unpinnedAt = h.mono then r.unpinned else []), unpinnedAt := h.mono } }

/-- Insert a range into a list ordered by its lower bound. -/
def insertRange (r : Nat × Nat) : List (Nat × Nat) → List (Nat × Nat)
  | [] => [r]
  | x :: xs => if r.1 ≤ x.1 then r :: x :: xs else x :: insertRange r xs

/-- How many bytes an ordered list of ranges covers from an address on. -/
def coverFrom : Nat → List (Nat × Nat) → Nat
  | _, [] => 0
  | a, r :: rs =>
    let lo := max a r.1
    let hi := max lo r.2
    (hi - lo) + coverFrom hi rs

/-- Bytes under pin, each counted once. -/
def pinBytes (rs : List (Nat × Nat)) : Nat := coverFrom 0 (rs.foldr insertRange [])

/-- Whether any pin covers a byte of a range. -/
def Hw.pinned (h : Hw) (a n : Nat) : Bool := h.pins'.any fun r => decide (a < r.2 ∧ r.1 < a + n)

/-- Whether a DMA write of a range is refused as pinned: a pin released in the same clock still protects it (R63, R408). -/
def Hw.dmaPinned (h : Hw) (a n : Nat) : Bool :=
  h.pinned a n || (decide (h.headrace.unpinnedAt = h.mono) && h.headrace.unpinned.any fun r => decide (a < r.2 ∧ r.1 < a + n))

/-! ### What the HEADRACE page shows of the pages (R86) -/

/-- The planes of a page that are verified, by station. -/
def PageRec.verifiedMask (p : PageRec) : Nat :=
  (List.range 8).foldl (fun a s => a + b2n (match p.planes[s]? with
    | some pl => pl.verified
    | none => false) * 2 ^ s) 0

/-- Show the page that QUERY_IDX names. -/
def Hw.showQuery (h : Hw) : Hw :=
  let p := pHEADRACE
  match h.page? (h.rd p HEADRACE.QUERY_IDX) with
  | none => h.setWord (addrOf HEADRACE.QUERY_STS_STATE p 0) 0xF
  | some g =>
    let h := (h.wr p HEADRACE.QUERY_STS_STATE g.state.code).wr p HEADRACE.QUERY_STS_ATTEMPT g.attempt
    let h := (h.wr p HEADRACE.QUERY_STS_PLANES g.verifiedMask).wr p HEADRACE.QUERY_STS_REASON g.reason
    h.wr p HEADRACE.QUERY_STS_CTX g.ctx

/-- Show PAGES_LIVE, PIN_BYTES, IDLE and the query after a change of pages. -/
def Hw.showPages (h : Hw) : Hw :=
  let p := pHEADRACE
  let n := pinBytes h.pins'
  let busy := h.headrace.pages.any fun g => decide (2 ≤ g.state.code ∧ g.state.code ≤ 6)
  let h := (h.wr p HEADRACE.PAGES_LIVE h.headrace.pages.length).wr2 p HEADRACE.PIN_BYTES_LO HEADRACE.PIN_BYTES_HI 0 n
  (h.wr p HEADRACE.HR_STS_IDLE (b2n (!busy))).showQuery

/-! ### Completion records (R83–R85) -/

/-- The kinds of completion records (R83). -/
inductive RecKind where
  | state | planeOk | planeReject | submitReject | released | withdrawRefused | duplicate
deriving DecidableEq, Repr

/-- The code of a record kind. -/
def RecKind.code : RecKind → Nat
  | .state => 0
  | .planeOk => 1
  | .planeReject => 2
  | .submitReject => 3
  | .released => 4
  | .withdrawRefused => 5
  | .duplicate => 6

/-- The fields of a completion record but for TIME and SEQ. -/
structure Completion where
  pageId : Nat
  desc : Nat
  state : Nat
  kind : RecKind
  reason : Nat
  attempt : Nat
  station : Nat
  job : Nat
deriving DecidableEq, Repr

/-- The 32 bytes of a completion record (R83). -/
def Completion.bytes (c : Completion) (time seq : Nat) : List Byte :=
  toLE 4 c.pageId ++ toLE 4 (c.desc % 2 ^ 20 + c.state % 16 * 2 ^ 24) ++ toLE 1 c.kind.code ++ toLE 1 c.reason ++ toLE 1 c.attempt
    ++ toLE 1 c.station ++ toLE 4 c.job ++ toLE 8 time ++ toLE 4 seq ++ toLE 4 0

/-- QUERY_STS keeps the last reason other than NONE that a record gave for a live page (R86; DEDUCED, assumption 45). -/
def Hw.noteReason (h : Hw) (c : Completion) : Hw :=
  if c.state = 15 ∨ c.reason = 0 then h else (h.modPage c.desc fun g => { g with reason := c.reason }).showQuery

/-- A completion record for a context's ring (R85): written, or lost with the count and, where the ring is full, RING_OVF. SEQ counts
either way. A record whose place lies past the commons or under a pin is lost as with no ring (R64; DESIGN CHOICE, assumption 100). -/
def Hw.complete (h : Hw) (ctx : Nat) (c : Completion) : Hw :=
  let p := pHEADRACE
  let seq := tget (fun _ => 0) h.headrace.seq ctx
  let h := h.noteReason c
  let h := { h with headrace := { h.headrace with seq := tset (fun _ => 0) h.headrace.seq ctx ((seq + 1) % 2 ^ 32) } }
  if h.rdi p HEADRACE.RING_CFG_EN ctx = 0 then h.inci p HEADRACE.RING_LOST ctx
  else
    let size := 2 ^ h.rdi p HEADRACE.RING_CFG_LOG2SIZE ctx
    let head := h.rdi p HEADRACE.RING_HEAD ctx % size
    let a := h.rdi p HEADRACE.RING_BASE ctx * 4096 + head * 32
    if commonsEnd < a + 32 ∨ h.pinned a 32 then h.inci p HEADRACE.RING_LOST ctx
    else if (head + 1) % size = h.rdi p HEADRACE.RING_TAIL ctx % size then
      (h.inci p HEADRACE.RING_LOST ctx).raise p 2 ⟨ctx, ctx, 0, false⟩
    else
      (h.putBytes a (c.bytes h.now seq)).wri p HEADRACE.RING_HEAD ctx ((head + 1) % size)

/-- A record about a live page. -/
def PageRec.completion (g : PageRec) (k : RecKind) (reason station : Nat) : Completion :=
  ⟨g.pageId, g.desc, g.state.code, k, reason, g.attempt, station, g.jobId⟩

/-- Record about the live page at a descriptor index. -/
def Hw.pageRecord (h : Hw) (d : Nat) (k : RecKind) (reason station : Nat) : Hw :=
  match h.page? d with
  | some g => h.complete g.ctx (g.completion k reason station)
  | none => h

/-! ### Banks in use (R128) -/

/-- Show IN_USE of the warp, rendering and emitter banks of station s: the active bank, and every bank recorded by a page that has
not finished its last line there. -/
def Hw.showInUse (h : Hw) (s : Nat) : Hw :=
  let on (f : OnStation → Bool) (bank : Recorded → Nat) : Nat :=
    h.headrace.pages.foldl (fun a g =>
      if g.uses s && decide (g.state = .admitted ∨ g.state = .exposing) && !f (g.on s) then putBit a (bank (g.on s).recd) true else a) 0
  let w := on OnStation.rendered Recorded.warp
  let c := on OnStation.rendered Recorded.screen
  let e := on OnStation.ended Recorded.emit
  let h := h.wr (pWARP s) WARP.WBANK_IN_USE (putBit w (h.rd (pWARP s) WARP.WBANK_ACTIVE) true)
  let h := h.wr (pSCREEN s) SCREEN.SBANK_IN_USE (putBit c (h.rd (pSCREEN s) SCREEN.SBANK_ACTIVE) true)
  let u := putBit e (h.rd (pEMIT s) EMIT.EBANK_ACTIVE) true
  let h := h.modStn s fun t => { t with emit := { t.emit with viol := t.emit.viol &&& u } }
  (h.wr (pEMIT s) EMIT.EBANK_IN_USE u).wr (pEMIT s) EMIT.HEALTH_STS_CEIL_VIOL (b2n (decide ((h.stn s).emit.viol ≠ 0)))

/-- Show IN_USE of every station. -/
def Hw.showAllInUse (h : Hw) : Hw := forN 8 (fun s h => h.showInUse s) h

/-! ### Frames to a head (R207, R214) -/

/-- A frame without SEQ or ACK. -/
def plainFrame (ch ftype param : Nat) (body : List Byte) : Frame := ⟨ch, ftype, 0, 0, 0, param, body⟩

/-- Send a frame of an unreliable channel to the head of station s while its link is up. -/
def Hw.ivSend (h : Hw) (s : Nat) (f : Frame) : Hw :=
  if h.is (pIVINA s) IVINA.IV_STS_LINK_UP then
    (h.send (.frame (.ivina s) f)).modStn s fun t => { t with link := { t.link with tx := t.link.tx.push f } }
  else h

/-- ABORT of a page on station s (R153, R214). -/
def Hw.abort (h : Hw) (s d : Nat) : Hw := h.ivSend s (plainFrame 2 0x21 d [])

/-! ### Stopping a page on its stations (R153) -/

/-- The Millrace of station s drops the page it prefills or renders. -/
def Hw.millDrop (h : Hw) (s : Nat) : Hw :=
  let p := pPIPE s
  let h := h.modStn s fun t => { t with mill := { Mill.reset with doneAt := t.mill.doneAt } }
  let h := ((h.wr p PIPE.PIPE_STS_PREFILL 0).wr p PIPE.PIPE_STS_RENDER 0).wr p PIPE.PIPE_STS_IDLE 1
  let h := (h.wr p PIPE.REQ_LEVEL 0).wr p PIPE.CUR_LINE_VALID 0
  (h.wr (pDECODE s) DECODE.DEC_STS_BUSY 0).wr (pDECODE s) DECODE.DEC_STS_RETRY 0

/-- Show whether a page has begun on station s and not ended there (R155). -/
def Hw.showExposing (h : Hw) (s : Nat) : Hw := h.wr (pSWATH s) SWATH.SW_STS_EXPOSING (b2n (h.exposingOn s))

/-- Every station stops a page: requests dropped, the planner leaves it, ABORT sent where it has begun or was planned (R153). -/
def Hw.stopPage (h : Hw) (d : Nat) : Hw :=
  match h.page? d with
  | none => h
  | some g =>
    let h := forN 8 (fun s h =>
      if g.uses s then
        let h := if (h.stn s).mill.cur = some d then h.millDrop s else h
        let h := if (g.on s).planner.started && !(g.on s).ended then h.abort s d else h
        h
      else h) h
    let h := h.modPage d fun g =>
      { g with stn := g.stn.map fun o => { o with ended := o.ended || o.began, planner := { o.planner with left := true } } }
    forN 8 (fun s h => if g.uses s then (h.showExposing s).later (.revive s) else h) h

/-! ### State changes -/

/-- A page enters a state, with its record (R73, R83). -/
def Hw.enterState (h : Hw) (d : Nat) (st : PState) (reason : Nat) : Hw :=
  let h := h.modPage d fun g => { g with state := st, reason := reason }
  (h.pageRecord d .state reason 0xFF).showPages

/-- The joint slot of a page, where the chain is on (R446). -/
def Hw.slotOf (h : Hw) (d : Nat) : Option Nat :=
  if h.is pPEERA PEER.CHAIN_CFG_CHAIN_EN then (h.chain.slots.find? fun x => decide (x.2 = d)).map Prod.fst else none

/-- A page leaves its joint slot. -/
def Hw.leaveSlot (h : Hw) (d : Nat) : Hw :=
  { h with chain := { h.chain with slots := h.chain.slots.filter fun x => decide (x.2 ≠ d) } }

/-- A page is released with a reason: its record, then its pins and its slot in the table go (R63, R67). -/
def Hw.releasePage (h : Hw) (d reason : Nat) : Hw :=
  let h := h.modPage d fun g => { g with reason := reason }
  let h := h.pageRecord d .released reason 0xFF
  let h := match h.page? d with
    | some g => h.unpin g
    | none => h
  let h := { h with headrace := { h.headrace with pages := h.headrace.pages.filter fun g => decide (g.desc ≠ d) } }
  ((h.leaveSlot d).showPages.showAllInUse).later .gradeCheck

/-- A page leaves its slot for RESIDENT with nothing recorded on its stations. -/
def PageRec.unslot (g : PageRec) : PageRec :=
  { g with state := .resident, fed := false, stn := List.replicate 8 OnStation.reset }

/-- A page admitted and not started returns to RESIDENT, with no attempt counted; its sheet, if fed, is purged (R82, R154, R497). -/
def Hw.returnPage (h : Hw) (d : Nat) : Hw :=
  match h.page? d with
  | none => h
  | some g =>
    if g.state ≠ .admitted then h
    else
      let h := if g.fed then h.later (.purge d) else h
      let h := ((h.stopPage d).leaveSlot d).modPage d PageRec.unslot
      ((h.pageRecord d .state 0 0xFF).showPages.showAllInUse).later .gradeCheck

/-- A page is returned under R154 or R497: the other modules of a joint slot hear of it (R449). -/
def Hw.dropPage (h : Hw) (d : Nat) : Hw :=
  match h.slotOf d with
  | some n => (h.returnPage d).later (.chainDrop n)
  | none => h.returnPage d

/-- Whether a spoil reason allows automatic reprint (R81). -/
def reprints (reason : Nat) : Bool := decide (reason ≠ 0x15 ∧ reason ≠ 0x18)

/-- Whether a spoiled page is reprinted (R82). -/
def PageRec.reprintable (g : PageRec) (reason : Nat) : Bool :=
  g.autoReprint && reprints reason && decide (g.attempt + 1 < g.reprintMax)

/-- The other modules hear of a spoiled page of a joint slot (R449); one spoiled for PEER came from them. The page stays the slot's until
it is released or admitted again, for a RELEASE that may follow. -/
def Hw.tellSpoil (h : Hw) (d reason : Nat) (released : Bool) : Hw :=
  match h.slotOf d with
  | none => h
  | some n =>
    let h := if reason = 0x16 then h else h.later (.chainSpoil n reason)
    if released then h.later (.chainRelease n) else h

/-- Spoil one page (R81): stop it everywhere, record it, purge its sheet; it is reprinted, or ends SPOILED and is released. A reprinted
page goes to the head of the submission order. -/
def Hw.spoilAlone (h : Hw) (d reason : Nat) : Hw :=
  match h.page? d with
  | none => h
  | some g =>
    let h := (h.stopPage d).later (.purge d)
    let h := h.enterState d .spoiled reason
    let h := h.raise pHEADRACE 3 (cap0 (d + 2 ^ 24 * reason))
    let h := if 2 ≤ g.state.code ∧ g.state.code ≤ 6 then h.tellSpoil d reason (!g.reprintable reason) else h
    if g.reprintable reason then
      let h := h.modPage d fun g => { g.unslot with attempt := g.attempt + 1 }
      let h := match h.page? d with
        | some g => { h with headrace := { h.headrace with pages := g :: h.headrace.pages.filter fun x => decide (x.desc ≠ d) } }
        | none => h
      ((h.pageRecord d .state 0 0xFF).showPages.showAllInUse).later .gradeCheck
    else h.releasePage d (if g.autoReprint && reprints reason then 0x22 else reason)

/-- Whether a page stands admitted in a joint slot, or in flight from one (R449). -/
def Hw.inJointSlot (h : Hw) (g : PageRec) : Bool := decide (2 ≤ g.state.code ∧ g.state.code ≤ 6) && (h.slotOf g.desc).isSome

/-- Spoil every page that a test picks, with a reason, and where one of them is in a joint slot every page from EXPOSING to FUSED with them
(R449). Pages spoiled together keep their order (R82): the last of them goes to the head of the order first. -/
def Hw.spoilWhere (h : Hw) (sel : PageRec → Bool) (reason : Nat) : Hw :=
  let all := h.headrace.pages.any fun g => sel g && h.inJointSlot g
  ((h.headrace.pages.filter fun g => sel g || (all && g.state.inFlight)).map PageRec.desc).reverse.foldl (fun h d => h.spoilAlone d reason) h

/-- Spoil one page. -/
def Hw.spoilOne (h : Hw) (d reason : Nat) : Hw := h.spoilWhere (fun g => decide (g.desc = d)) reason

/-- Spoil the page exposing on station s (R52, R153). -/
def Hw.spoilStation (h : Hw) (s reason : Nat) : Hw :=
  h.spoilWhere (fun g => g.exposes s) reason

/-- Spoil the page that station s carries: exposing there, or planned there (R155, R477). -/
def Hw.spoilCarried (h : Hw) (s reason : Nat) : Hw :=
  h.spoilWhere (fun g => g.uses s && !(g.on s).ended && decide (g.state = .admitted ∨ g.state = .exposing)
    && ((g.on s).began || (g.on s).planner.started)) reason

end Sys2Proof.Machine
end

