-- ==== Sys2Proof/Machine/Links.lean ====
section
/-! DEFINITION. The Ivina link layer of the head links and the peer ports: lanes and their training, codeword losses, reliable channels
and credits, protocol violations, laser permission and the head's status (R193–R226, R437). -/

namespace Sys2Proof.Machine

/-! ### Links by name -/

/-- The page of a link, and the Link it is in the record of messages. -/
def LinkId.page : LinkId → Nat
  | .head s => pIVINA s
  | .peer p => if p.val = 0 then pPEERA else pPEERB
def LinkId.link : LinkId → Link
  | .head s => .ivina s
  | .peer p => .peer p

/-- How many lanes a link has, and how many it needs (R201, R206, R437). -/
def LinkId.lanes : LinkId → Nat
  | .head _ => 3
  | .peer _ => 2
def LinkId.needs : LinkId → Nat
  | .head _ => 2
  | .peer _ => 1

/-- LANE_ID of lane k of a link (R196, R437). -/
def LinkId.laneId : LinkId → Nat → Nat
  | .head _, k => k
  | .peer _, k => 3 + k

/-- The state of a link. -/
def Hw.lk (h : Hw) : LinkId → LinkState
  | .head s => (h.stn s).link
  | .peer p => tget (fun _ => LinkState.reset) h.peers p

/-- Change the state of a link. -/
def Hw.modLk (h : Hw) (l : LinkId) (f : LinkState → LinkState) : Hw :=
  match l with
  | .head s => h.modStn s fun t => { t with link := f t.link }
  | .peer p => { h with peers := tset (fun _ => LinkState.reset) h.peers p (f (h.lk l)) }

/-- Lane k of a link, and its change. -/
def Hw.lane (h : Hw) (l : LinkId) (k : Nat) : Lane := tget (fun _ => Lane.reset) (h.lk l).lanes k
def Hw.modLane (h : Hw) (l : LinkId) (k : Nat) (f : Lane → Lane) : Hw :=
  h.modLk l fun x => { x with lanes := tset (fun _ => Lane.reset) x.lanes k (f (tget (fun _ => Lane.reset) x.lanes k)) }

/-- Reliable channel c of a link, and its change. -/
def Hw.chan (h : Hw) (l : LinkId) (c : Nat) : Channel := tget (fun _ => Channel.reset) (h.lk l).chans c
def Hw.modChan (h : Hw) (l : LinkId) (c : Nat) (f : Channel → Channel) : Hw :=
  h.modLk l fun x => { x with chans := tset (fun _ => Channel.reset) x.chans c (f (tget (fun _ => Channel.reset) x.chans c)) }

/-- EN and the LANE_EN bits of a link. -/
def Hw.linkEn (h : Hw) : LinkId → Bool
  | .head s => h.is (pIVINA s) IVINA.IV_CTRL_EN
  | .peer p => h.is (LinkId.peer p).page PEER.PR_CTRL_EN
def Hw.laneEn (h : Hw) (l : LinkId) (k : Nat) : Bool :=
  match l with
  | .head s => h.bit (pIVINA s) IVINA.IV_CTRL_LANE_EN k
  | .peer p => h.bit (LinkId.peer p).page PEER.PR_CTRL_LANE_EN k

/-- Whether a link is up (R206, R437). -/
def Hw.linkUp (h : Hw) : LinkId → Bool
  | .head s => h.is (pIVINA s) IVINA.IV_STS_LINK_UP
  | .peer p => h.is (LinkId.peer p).page PEER.PR_STS_LINK_UP

/-- The code of a lane state (R201). -/
def LaneState.code : LaneState → Nat
  | .disabled => 0
  | .detect => 1
  | .negotiate => 2
  | .confirm => 3
  | .active => 4
  | .failed => 5
  | .quarantine => 6

/-- The source numbers of LINK_FAIL, PROTOCOL and QUARANTINE on the link's page (R226, R451). -/
def LinkId.srcLinkFail : LinkId → Nat
  | .head _ => 1
  | .peer _ => 0
def LinkId.srcProtocol : LinkId → Nat
  | .head _ => 2
  | .peer _ => 1
def LinkId.srcQuarantine : LinkId → Nat
  | .head _ => 3
  | .peer _ => 2

/-- This module's number in the chain. -/
def Hw.moduleNo (h : Hw) : Nat := h.rd pPEERA PEER.CHAIN_CFG_MODULE

/-- The module next to this one on a peer port (R435). -/
def Hw.neighbour (h : Hw) (p : Nat) : Nat := if p = 0 then h.moduleNo - 1 else (h.moduleNo + 1) % 16

/-- The capture of a PEER page for a far module: reason and channel (R451). -/
def peerCap (m reason ch : Nat) : Cap := ⟨reason % 256 + 256 * (ch % 8), 0x0400 + m, 6, false⟩

/-- A link's capture: of a head reason, channel and lane, and SEQ or g (R226); of a peer port the far module, reason and channel (R451). -/
def Hw.linkCap (h : Hw) (l : LinkId) (reason ch lane detail : Nat) : Cap :=
  match l with
  | .head s => ⟨reason % 256 + 256 * (ch % 8) + 4096 * (lane % 4) + 2 ^ 32 * detail, 0x0600 + s.val, 6, false⟩
  | .peer p => peerCap (h.neighbour p) reason ch

/-- FLAGS[7:4] of a frame the module originates: on a peer port its number (R436). -/
def Hw.origin (h : Hw) : LinkId → Nat
  | .head _ => 0
  | .peer _ => 16 * h.moduleNo

/-! ### Reliable channels (R219, R220) -/

/-- Show the credits held towards the head (R226). -/
def Hw.showCredits (h : Hw) : LinkId → Hw
  | .head s =>
    (h.wr (pIVINA s) IVINA.CREDITS_TABLE (min 255 (h.chan (.head s) 3).credits)).wr (pIVINA s) IVINA.CREDITS_MGMT
      (min 255 (h.chan (.head s) 4).credits)
  | .peer _ => h

/-- Whether a channel can take a frame: a credit, a place in the window of 64, and not failed. -/
def Channel.open' (c : Channel) : Bool := decide (0 < c.credits ∧ c.unacked.length < 64) && !c.failed

/-- A frame leaves on a link: it is handed over and waits in the transmitter for its cell slots (R207, R208). -/
def Hw.frameOut (h : Hw) (l : LinkId) (f : Frame) : Hw :=
  (h.send (.frame l.link f)).modLk l fun x => { x with tx := x.tx.push f }

/-- Hand one frame of a reliable channel to the link: SEQ, credit and the window (R219, R220). -/
def Hw.relNow (h : Hw) (l : LinkId) (f : Frame) : Hw :=
  let c := h.chan l f.ch
  let g : Frame := { f with seq := c.txSeq }
  let h := h.modChan l f.ch fun c => { c with txSeq := (c.txSeq + 1) % 65536, unacked := c.unacked ++ [g], credits := c.credits - 1 }
  (h.frameOut l g).showCredits l

/-- Send a frame of a reliable channel: at once, or as soon as the channel takes it (R219, R220). -/
def Hw.relSend (h : Hw) (l : LinkId) (f : Frame) : Hw :=
  if !h.linkUp l then h
  else if (h.chan l f.ch).open' && !((h.lk l).waiting.any fun g => decide (g.ch = f.ch)) then h.relNow l f
  else h.modLk l fun x => { x with waiting := x.waiting ++ [f] }

/-- Send the waiting frames that their channels now take, oldest first. -/
def Hw.relFlush : Nat → LinkId → Hw → Hw
  | 0, _, h => h
  | n + 1, l, h =>
    match (h.lk l).waiting.find? fun f => (h.chan l f.ch).open' with
    | none => h
    | some f => Hw.relFlush n l ((h.modLk l fun x => { x with waiting := x.waiting.erase f }).relNow l f)

/-! ### Violations (R221, R222) -/

/-- Count and record a violation the module finds (R222). -/
def Hw.violationFound (h : Hw) (l : LinkId) (inj : Bool) (reason ch lane seq detail : Nat) : Hw :=
  let h := match l with
    | .head s =>
      let p := pIVINA s
      let h := (h.inc p IVINA.VIOL_TX).wr p IVINA.LAST_VIOL_REASON reason
      ((h.wr p IVINA.LAST_VIOL_CH ch).wr p IVINA.LAST_VIOL_DIR 0).wr p IVINA.LAST_VIOL_SEQ seq
    | .peer q =>
      let p := (LinkId.peer q).page
      let h := (h.inc p PEER.VIOL_TX).wr p PEER.LAST_VIOL_REASON reason
      ((h.wr p PEER.LAST_VIOL_CH ch).wr p PEER.LAST_VIOL_DIR 0).wr p PEER.LAST_VIOL_SEQ seq
  h.raise l.page l.srcProtocol { h.linkCap l reason ch lane (if seq = 0 then detail else seq) with injected := inj }

/-- A violation found on an up link is recorded and answered with a VIOLATION frame, at most one per 10 µs (R221). -/
def Hw.violationBy (h : Hw) (l : LinkId) (inj : Bool) (reason ch seq detail : Nat) : Hw :=
  let h := h.violationFound l inj reason ch 0 seq detail
  let due := match (h.lk l).violAt with
    | none => true
    | some t => decide (10240000 ≤ (h.mono - t).toNat)
  if due then
    (h.modLk l fun x => { x with violAt := some h.mono }).relSend l
      { plainFrame 4 0x4D (reason % 256 + 256 * (ch % 8) + 2 ^ 16 * (seq % 65536) + 2 ^ 32 * detail) [] with flags := h.origin l }
  else h

/-- A violation that no injection caused. -/
def Hw.violation (h : Hw) (l : LinkId) (reason ch seq detail : Nat) : Hw := h.violationBy l false reason ch seq detail

/-! ### Lanes and link state (R201–R206) -/

/-- Show the lane states of a link (R226, R451). -/
def Hw.showLanes (h : Hw) (l : LinkId) : Hw :=
  let act := (List.range l.lanes).foldl (fun a k => a + b2n (decide ((h.lane l k).st = .active)) * 2 ^ k) 0
  let quar := (h.lk l).quar || (List.range l.lanes).any fun k => decide ((h.lane l k).st = .quarantine)
  match l with
  | .head s =>
    let p := pIVINA s
    let h := (h.wr p IVINA.IV_STS_LANE_ACTIVE act).wr p IVINA.IV_STS_FULL (b2n (decide (act = 7)))
    let h := (h.wr p IVINA.IV_STS_QUAR (b2n quar)).wr p IVINA.IV_LANE_STATE_A (h.lane l 0).st.code
    (h.wr p IVINA.IV_LANE_STATE_B (h.lane l 1).st.code).wr p IVINA.IV_LANE_STATE_P (h.lane l 2).st.code
  | .peer q => (h.wr (LinkId.peer q).page PEER.PR_STS_LANE_ACTIVE act).wr (LinkId.peer q).page PEER.PR_STS_QUAR (b2n quar)

/-- A violation found in training (R203, R221, R222): counted and recorded, and its code travels in REASON of the lane's TS records. -/
def Hw.trainingViolation (h : Hw) (l : LinkId) (k reason : Nat) : Hw :=
  (h.violationFound l false reason 0 k 0 0).modLane l k fun x => { x with reason := reason }

/-- What a state of a lane of a head link means for its page: a training starts with DETECT and ends with ACTIVE (R226). -/
def Hw.laneStage (h : Hw) (s : StationNo) (k : Nat) (st : LaneState) : Hw :=
  match st with
  | .detect => (h.inc (pIVINA s) IVINA.TRAIN_CNT).later (.laneTrains s k)
  | .active => h.later (.laneTrained s k)
  | .disabled => h.later (.laneOff s k)
  | _ => h

/-- A self-test has found lane k of a head faulty: it is out of service until repair (R6, R386). -/
def Hw.laneDead (h : Hw) (l : LinkId) (k : Nat) : Bool :=
  match l with
  | .head s => h.boot.degraded.any fun g => match g with
    | .lanes t j => decide (t = s ∧ j.val = k)
    | _ => false
  | .peer _ => false

/-- Lane k enters a state with its counts afresh; a training that starts forgets the TS of the one before. A lane out of service stands
in FAILED instead of training (R386; DEDUCED, assumption 128). -/
def Hw.laneEnter (h : Hw) (l : LinkId) (k : Nat) (to' : LaneState) (reason : Nat) : Hw :=
  let st := if decide (to' = .detect) && h.laneDead l k then .failed else to'
  let new := decide (st = .detect ∨ st = .disabled)
  let h := h.modLane l k fun x =>
    { x with st := st, reason := reason, ts3 := 0, ready := false, missed := 0, uncorr := []
             aligns := if new || decide (st = .failed) then 0 else x.aligns
             ts := if new then none else x.ts, precoded := x.precoded && !new }
  let h := match l with
    | .head s => h.laneStage s k st
    | .peer _ => h
  h.showLanes l

/-- The first TS accepted on an ACTIVE lane. -/
def Hw.linkTs (h : Hw) (l : LinkId) : Option TsRec :=
  (List.range l.lanes).findSome? fun k => if (h.lane l k).st = .active then (h.lane l k).ts else none

/-- A link comes up: sequence numbers and credits start afresh from the far end's TS (R206, R219, R220). -/
def Hw.linkRise (h : Hw) (l : LinkId) : Hw :=
  let ts := h.linkTs l
  let cr (f : TsRec → Nat) : Nat := match ts with
    | some t => f t
    | none => 0
  let h := h.modLk l fun x =>
    { x with chans := [], waiting := [], violAt := none, quar := false, tx := { x.tx with queues := [] } }
  let h := h.modChan l 3 fun _ => { Channel.reset with credits := cr TsRec.crTable }
  let h := (h.modChan l 4 fun _ => { Channel.reset with credits := cr TsRec.crMgmt }).showCredits l
  match l with
  | .head s => (h.wr (pIVINA s) IVINA.IV_STS_LINK_UP 1).later (.headUp s (cr TsRec.tablesValid))
  | .peer p => (h.wr (LinkId.peer p).page PEER.PR_STS_LINK_UP 1).later (.peerUp p)

/-- Every lane that is not disabled goes to DETECT (R206, R226); one that is there already starts no second training. -/
def Hw.allDetect (h : Hw) (l : LinkId) : Hw :=
  forN l.lanes (fun k h => if (h.lane l k).st = .disabled ∨ (h.lane l k).st = .detect then h else h.laneEnter l k .detect 0) h

/-- A link goes down (R206, R437): LINK_FAIL, a page exposing on a head's station spoiled, every lane that is not
disabled to DETECT, and what the transmitter holds lost. -/
def Hw.linkFall (h : Hw) (l : LinkId) : Hw :=
  let h := match l with
    | .head s => (h.wr (pIVINA s) IVINA.IV_STS_LINK_UP 0).wr (pIVINA s) IVINA.IV_VER_AGREED 0
    | .peer p => (h.wr (LinkId.peer p).page PEER.PR_STS_LINK_UP 0).wr (LinkId.peer p).page PEER.PR_VER_AGREED 0
  let h := h.modLk l fun x => { x with quar := false, tx := { x.tx with queues := [] } }
  let h := h.raise l.page l.srcLinkFail (h.linkCap l 0 0 0 0)
  let h := h.allDetect l
  match l with
  | .head s => h.spoilStation s 0x11
  | .peer p => h.later (.peerDown p)

/-- Judge LINK_UP after a change of a lane (R206, R437). -/
def Hw.linkJudge (h : Hw) (l : LinkId) : Hw :=
  let n := ((List.range l.lanes).filter fun k => decide ((h.lane l k).st = .active)).length
  if l.needs ≤ n ∧ !h.linkUp l then h.linkRise l
  else if n < l.needs ∧ h.linkUp l then h.linkFall l
  else h

/-- The module places an ACTIVE lane in FAILED (R205). -/
def Hw.laneFail (h : Hw) (l : LinkId) (k : Nat) : Hw :=
  if (h.lane l k).st ≠ .active then h
  else
    let h := h.laneEnter l k .failed 0
    let h := match l with
      | .head s => h.raise (pIVINA s) 0 (h.linkCap l 0 0 k 0)
      | .peer _ => h
    h.linkJudge l

/-- A lane leaves for another state outside ACTIVE's failure, and the link is judged. -/
def Hw.laneMove (h : Hw) (l : LinkId) (k : Nat) (st : LaneState) (reason : Nat) : Hw := (h.laneEnter l k st reason).linkJudge l

/-! ### Training (R201–R204) -/

/-- Whether a TS names the lane and the station it arrived on (R203). A peer's STATION is the far module's number, which the module does
not know before HELLO. -/
def LinkId.tsMatches (l : LinkId) (k : Nat) (t : TsRec) : Bool :=
  decide (t.laneId = l.laneId k) && (match l with
    | .head s => decide (t.station = s)
    | .peer _ => true)

/-- The fields of a TS that must agree between the lanes of a link (R203). -/
def TsRec.agrees (a b : TsRec) : Bool :=
  decide (a.verMin = b.verMin ∧ a.verMax = b.verMax ∧ a.crTable = b.crTable ∧ a.crMgmt = b.crMgmt ∧ a.lineBufs = b.lineBufs
    ∧ a.vendor = b.vendor ∧ a.model = b.model ∧ a.serial = b.serial)

/-- Whether a far end offers the resources of R202, or of R437 for a peer. -/
def LinkId.enough (l : LinkId) (t : TsRec) : Bool :=
  match l with
  | .head _ => decide (2 ≤ t.crTable ∧ 4 ≤ t.crMgmt ∧ 100 ≤ t.lineBufs)
  | .peer _ => decide (8 ≤ t.crTable ∧ 16 ≤ t.crMgmt)

/-- Show a head's TS (R226). -/
def Hw.showTs (h : Hw) (l : LinkId) (t : TsRec) : Hw :=
  match l with
  | .head s =>
    let p := pIVINA s
    let h := (h.wr p IVINA.IV_HEAD_VER_MIN t.verMin).wr p IVINA.IV_HEAD_VER_MAX t.verMax
    let h := (h.wr p IVINA.IV_HEAD_ID0_VENDOR t.vendor).wr p IVINA.IV_HEAD_ID0_MODEL t.model
    let h := (h.wr2 p IVINA.IV_HEAD_SN_LO IVINA.IV_HEAD_SN_HI 0 t.serial).wr p IVINA.IV_HEAD_FW t.fw
    h.wr p IVINA.IV_STS_TABLES_VALID (t.tablesValid % 4)
  | .peer p => h.wr (LinkId.peer p).page PEER.PR_STS_FAR_MODULE (t.station % 16)

/-- A TS that names another lane or station is answered with REASON 0x02 and leaves the lane in DETECT, a quarantined or failed one where
it is (R203, R221). -/
def Hw.laneMismatch (h : Hw) (l : LinkId) (k : Nat) : Hw :=
  let h := if (h.lane l k).st = .negotiate ∨ (h.lane l k).st = .confirm then h.laneMove l k .detect 0 else h
  if (h.lane l k).st = .quarantine then h.violationFound l false 2 0 k 0 0 else h.trainingViolation l k 2

/-- A training codeword that is no TS3 with the agreed version ends the row of them in CONFIRM (R201). -/
def Hw.rowBroken (h : Hw) (l : LinkId) (k : Nat) : Hw :=
  if (h.lane l k).st = .confirm then h.modLane l k fun x => { x with ts3 := 0, ready := false } else h

/-- A training codeword with a TS of one type arrives on lane k: one whose copies are all unreadable, or of another type than CONFIRM
counts, breaks its row; one for another lane or station is answered; a head's TS is shown; and what it means for the lane's state
follows (R201–R203, R226). -/
def Hw.tsIn (h : Hw) (l : LinkId) (k kind : Nat) (m : Message) (f : TsRec → Hw → Hw) : Hw :=
  if l.lanes ≤ k ∨ (h.lane l k).st = .disabled ∨ (h.lane l k).st = .active then h
  else match m.ts with
  | none => h.rowBroken l k
  | some t =>
    if t.tsType ≠ kind then h
    else if !l.tsMatches k t then h.laneMismatch l k
    else f t ((if kind = 3 then h else h.rowBroken l k).showTs l t)

/-- A training codeword with TS1 arrives on lane k, by its message (R201, R203). -/
def ivinaTs1 (l : LinkId) (k : Nat) (m : Message) (h : Hw) : Hw :=
  h.tsIn l k 1 m fun _ h =>
    if (h.lane l k).st ≠ .detect then h
    else if 8 ≤ (h.lane l k).aligns then h.laneMove l k .negotiate 0
    else h.modLane l k fun x => { x with reason := 0 }

/-- The module offers precoding on lane k of a link (R193, R226); a peer port has no register to offer it with (DESIGN CHOICE, assumption
115). -/
def Hw.precodes (h : Hw) (l : LinkId) (k : Nat) : Bool :=
  match l with
  | .head s => decide (h.useAt k (pIVINA s) IVINA.IV_CTRL_PRECODE = 1)
  | .peer _ => false

/-- The other lanes whose TS, accepted in their present training, differs from one in what must agree (R203). -/
def Hw.tsDisagree (h : Hw) (l : LinkId) (k : Nat) (t : TsRec) : List Nat :=
  (List.range l.lanes).filter fun j => decide (j ≠ k) && match (h.lane l j).ts with
    | some u => !t.agrees u
    | none => false

/-- A TS2 that differs between lanes: the lanes concerned stay in NEGOTIATE with REASON 0x03; one in CONFIRM returns to it, one already
ACTIVE is not in training and stays (DEDUCED, assumption 116). -/
def Hw.laneDisagrees (h : Hw) (l : LinkId) (js : List Nat) : Hw :=
  js.foldl (fun h j =>
    match (h.lane l j).st with
    | .negotiate => h.modLane l j fun x => { x with reason := 3 }
    | .confirm => h.laneEnter l j .negotiate 3
    | _ => h) h

/-- A lane whose far end shares no version or lacks resources: QUARANTINE with its REASON (R203). -/
def Hw.laneQuarantine (h : Hw) (l : LinkId) (k reason : Nat) : Hw :=
  ((h.laneMove l k .quarantine 0).trainingViolation l k reason).raise l.page l.srcQuarantine (h.linkCap l reason 0 k 0)

/-- A TS2 accepted in NEGOTIATE: a common version and enough resources lead to CONFIRM, unless it differs from another lane's (R201,
R203). -/
def Hw.negotiates (h : Hw) (l : LinkId) (k : Nat) (t : TsRec) (common : Bool) : Hw :=
  let h := h.modLane l k fun x => { x with ts := some t, precoded := h.precodes l k && bitAt t.caps 0 }
  if !common then h.laneQuarantine l k 1
  else if !l.enough t then h.laneQuarantine l k 4
  else
    let bad := h.tsDisagree l k t
    if bad.isEmpty then
      let h := match l with
        | .head s => h.wr (pIVINA s) IVINA.IV_VER_AGREED 1
        | .peer _ => h
      h.laneMove l k .confirm 0
    else (h.trainingViolation l k 3).laneDisagrees l bad

/-- A training codeword with TS2 arrives on lane k (R201, R203). A lane quarantined for its version returns to NEGOTIATE with a common
one; one held for too few resources does so once they suffice as well (DEDUCED, assumption 129). -/
def ivinaTs2 (l : LinkId) (k : Nat) (m : Message) (h : Hw) : Hw :=
  h.tsIn l k 2 m fun t h =>
    let common := decide (t.verMin ≤ 1 ∧ 1 ≤ t.verMax)
    match (h.lane l k).st with
    | .negotiate => h.negotiates l k t common
    | .quarantine => if common && (decide ((h.lane l k).reason ≠ 4) || l.enough t) then h.laneMove l k .negotiate 0 else h
    | _ => h

/-- A training codeword with TS3 arrives on lane k (R201): 16 in a row with the agreed version make it ready for the next alignment
codeword. -/
def ivinaTs3 (l : LinkId) (k : Nat) (m : Message) (h : Hw) : Hw :=
  h.tsIn l k 3 m fun t h =>
    if (h.lane l k).st ≠ .confirm then h
    else if t.verAgreed ≠ 1 then h.rowBroken l k
    else h.modLane l k fun x => { x with ts3 := x.ts3 + 1, ready := decide (16 ≤ x.ts3 + 1) }

/-- DETECT has run 20 ms (R201). -/
def ivinaDetectTimeout (l : LinkId) (k : Nat) (h : Hw) : Hw :=
  if (h.lane l k).st = .detect then h.laneMove l k .detect (h.lane l k).reason else h

/-- NEGOTIATE has run 5 ms (R201). -/
def ivinaNegotiateTimeout (l : LinkId) (k : Nat) (h : Hw) : Hw :=
  if (h.lane l k).st = .negotiate then h.laneMove l k .detect 0 else h

/-- CONFIRM has run 1 ms (R201). -/
def ivinaConfirmTimeout (l : LinkId) (k : Nat) (h : Hw) : Hw :=
  if (h.lane l k).st = .confirm then h.laneMove l k .detect 0 else h

/-- FAILED has run 10 ms (R201). -/
def ivinaFailedTimeout (l : LinkId) (k : Nat) (h : Hw) : Hw :=
  if (h.lane l k).st = .failed then h.laneMove l k .detect 0 else h

/-- Whether an ALIGN_SEQ agrees with the ACTIVE lanes of a link (R204): theirs is the same, or the one before where the lane's own
codeword came first. -/
def Hw.alignAgrees (h : Hw) (l : LinkId) (seq : Nat) : Bool :=
  (List.range l.lanes).all fun k =>
    decide ((h.lane l k).st ≠ .active) || decide ((h.lane l k).alignSeq = seq ∨ ((h.lane l k).alignSeq + 1) % 2 ^ 32 = seq % 2 ^ 32)

/-- How many alignment codewords a received ALIGN_SEQ is after the lane's last one. -/
def Lane.alignStep (x : Lane) (seq : Nat) : Nat := (seq + 2 ^ 32 - x.alignSeq) % 2 ^ 32

/-- Whether an alignment codeword is valid on a lane of a link (R205): LANE_ID right, and ALIGN_SEQ following the lane's last, with fewer
than four missing between them; a lane that has none yet takes any ALIGN_SEQ. -/
def LinkId.alignValid (l : LinkId) (k : Nat) (x : Lane) (a : AlignRec) : Bool :=
  decide (a.laneId = l.laneId k) &&
    ((decide (x.aligns = 0) && decide (x.st ≠ .active)) || decide (1 ≤ x.alignStep a.seq ∧ x.alignStep a.seq ≤ 4))

/-- A wrong alignment codeword: it breaks a row of valid ones, and the fourth in a row fails an ACTIVE lane (R201, R205). -/
def Hw.alignWrong (h : Hw) (l : LinkId) (k : Nat) : Hw :=
  let h := h.modLane l k fun x => { x with aligns := 0, missed := x.missed + 1, alignSeq := (x.alignSeq + 1) % 2 ^ 32 }
  if 4 ≤ (h.lane l k).missed then h.laneFail l k else h

/-- A lane that is ready joins at an alignment codeword that agrees with the ACTIVE lanes (R204); the banks its TS shows lost are
downloaded again where the link was up already (R185, R206). -/
def Hw.laneJoin (h : Hw) (l : LinkId) (k : Nat) : Hw :=
  let up := h.linkUp l
  let h := h.laneMove l k .active 0
  match l, (h.lane l k).ts with
  | .head s, some t => if up then h.later (.headUp s t.tablesValid) else h
  | _, _ => h

/-- The registers that an alignment codeword of a head shows: HEAD_RX_OK, and in SKEW the largest lane skew measured since module reset,
which neither a smaller one nor a block reset lowers (R226; DESIGN CHOICE, assumption 130). -/
def Hw.showAlign (h : Hw) (l : LinkId) (rxOk skew : Nat) : Hw :=
  match l with
  | .head s =>
    let h := h.wr (pIVINA s) IVINA.IV_STS_HEAD_RX_OK (rxOk % 8)
    if h.rd (pIVINA s) IVINA.SKEW < skew then h.wr (pIVINA s) IVINA.SKEW (min 65535 skew) else h
  | .peer _ => h

/-- CORR_SYMS of a head's lane grows by the symbols corrected since the last alignment codeword of the lane; it wraps (R226). -/
def Hw.symbolsCorrected (h : Hw) (l : LinkId) (k n : Nat) : Hw :=
  match l with
  | .head s => h.wri (pIVINA s) IVINA.CORR_SYMS k ((h.rdi (pIVINA s) IVINA.CORR_SYMS k + n) % 2 ^ 32)
  | .peer _ => h

/-- An alignment codeword is due on lane k and is received as a message, with the skew measured against the other lanes in 0.1 ns and the
symbols corrected since the last: a lane that is ready joins, then the lanes fail whose retraining the far end asks for, or this one for
its skew (R196, R204, R205). -/
def alignmentCodeword (l : LinkId) (k : Nat) (m : Message) (skew corrected : Nat) (h : Hw) : Hw :=
  if l.lanes ≤ k then h
  else
    let h := h.symbolsCorrected l k corrected
    match m.align with
    | none => h.alignWrong l k
    | some a =>
      if !l.alignValid k (h.lane l k) a then h.alignWrong l k
      else
        let agrees := h.alignAgrees l a.seq
        let h := h.showAlign l a.rxOk skew
        let h := h.modLane l k fun x =>
          { x with alignSeq := a.seq, missed := 0, aligns := if x.alignStep a.seq = 1 then min 8 (x.aligns + 1) else 1 }
        let h := h.modLk l fun x => { x with rxPos := 0, rxBad := false }
        let h := if (h.lane l k).st = .confirm ∧ (h.lane l k).ready ∧ agrees ∧ skew ≤ 1934 then h.laneJoin l k else h
        let h := forN l.lanes (fun j h => if bitAt a.retrain j then h.laneFail l j else h) h
        if 1934 < skew then h.laneFail l k else h

/-- Four alignment codewords in a row are missing or wrong (R205); the row of valid ones is broken. -/
def alignmentMissing (l : LinkId) (k : Nat) (h : Hw) : Hw :=
  let h := h.modLane l k fun x => { x with aligns := 0 }
  h.laneFail l k

/-- Signal or CDR lock is lost for 1 µs (R205). -/
def laneSignalLoss (l : LinkId) (k : Nat) (h : Hw) : Hw :=
  if (h.lane l k).st = .active then h.laneFail l k else h.modLane l k fun x => { x with aligns := 0 }

/-- A credit count of a channel is taken: the credits grow by the difference to the last one, and frames that waited may leave (R220). -/
def Hw.takeCredit (h : Hw) (l : LinkId) (ch cnt : Nat) : Hw :=
  if !h.linkUp l ∨ (ch ≠ 3 ∧ ch ≠ 4) then h
  else
    let h := h.modChan l ch fun c => { c with credits := c.credits + (cnt + 256 - c.crLast) % 256, crLast := cnt % 256 }
    Hw.relFlush 64 l (h.showCredits l)

/-- The credit counts in the headers of a message's five cells are taken, as if its codeword had arrived (R200, R220). What frames its
cells complete are commands of their own. -/
def Hw.takeCells (h : Hw) (l : LinkId) (m : Message) : Hw :=
  forN 5 (fun j h => h.takeCredit l (m.cellHeader j / 2 ^ 12 % 8) (m.cellHeader j / 2 ^ 15 % 256)) h

/-- The message of a codeword from the other two of its stripe (R200). -/
def rebuilt (a b : Message) : Message := a ^^^ b

/-- A codeword of a head's lane k cannot be used, at a place of its stripe: its message is rebuilt from the other two, and that of lane A
or B is used as if it had arrived, while lane P's holds no cells; or the ten cells of the stripe are lost, counted once for a stripe
(R199, R200). -/
def Hw.stripeHurt (h : Hw) (s : StationNo) (k pos : Nat) (others : Option (Message × Message)) : Hw :=
  let l := LinkId.head s
  let two := decide (((List.range 3).filter fun j => decide (j ≠ k) && decide ((h.lane l j).st = LaneState.active)).length = 2)
  match others, two with
  | some (a, b), true =>
    let h := h.inc (pIVINA s) IVINA.REBUILT
    if k = 2 then h else h.takeCells l (rebuilt a b)
  | _, _ =>
    let at' := ((h.lane l k).alignSeq, pos)
    if (h.lk l).lost = some at' then h
    else (h.incBy (pIVINA s) IVINA.LOST_CELLS 0 10).modLk l fun x => { x with lost := some at', rxBad := true }

/-- CW_UNCORR of a head's lane counts an uncorrectable codeword (R226). -/
def Hw.countUncorr (h : Hw) (l : LinkId) (k : Nat) : Hw :=
  match l with
  | .head s => h.inci (pIVINA s) IVINA.CW_UNCORR k
  | .peer _ => h

/-- A codeword of lane k is uncorrectable, at a place after its alignment codeword, with the messages of the other two codewords of its
stripe where both can be used (R200, R205). In training it is counted, and holds no TS that could be read (R201, R226). -/
def codewordUncorrectable (l : LinkId) (k pos : Nat) (others : Option (Message × Message)) (h : Hw) : Hw :=
  if (h.lane l k).st = .disabled then h
  else if (h.lane l k).st ≠ .active then (h.countUncorr l k).rowBroken l k
  else
    let h := h.countUncorr l k
    let h := match l with
      | .head s => h.stripeHurt s k pos others
      | .peer _ => h
    let h := h.modLane l k fun x =>
      { x with uncorr := h.mono :: x.uncorr.takeWhile fun t => decide ((h.mono - t).toNat < 1024000000) }
    let thr := match l with
      | .head s => h.rd (pIVINA s) IVINA.LANE_FAIL_THR
      | .peer _ => 64
    if thr < (h.lane l k).uncorr.length then h.laneFail l k else h

/-! ### Commands of the reliable channels (R219–R222) -/

/-- A buffer of a reliable channel is freed (R220). -/
def Hw.bufferFreed (h : Hw) (l : LinkId) (ch : Nat) : Hw :=
  if ch = 3 ∨ ch = 4 then h.modChan l ch fun c => { c with freed := (c.freed + 1) % 256 } else h

/-- The ACK of the last frame in order of a channel (R219, R436). -/
def Hw.ackNow (h : Hw) (l : LinkId) (ch : Nat) : Hw :=
  h.frameOut l { plainFrame 4 0x4F ch [] with flags := 1 + h.origin l, ack := ((h.chan l ch).rxSeq + 65535) % 65536 }

/-- A TABLE or MGMT frame, MEM or CTRL on a peer port, arrives (R219): delivered in SEQ order, dropped as a duplicate, or answered
SEQ_AHEAD; an armed LINK_CRC injection fails its CRC (R460). Its buffer is free again either way (R220). What a delivered frame does is the
command of its type. -/
def ivinaReliableFrame (l : LinkId) (ch seq : Nat) (h : Hw) : Hw :=
  if !h.linkUp l ∨ (ch ≠ 3 ∧ ch ≠ 4) then h
  else
    let h := h.bufferFreed l ch
    if h.injArmed l.page 4 0 then (h.injFired l.page).violationBy l true 0x11 ch seq 0
    else
      let want := (h.chan l ch).rxSeq
      if seq = want then (h.modChan l ch fun c => { c with rxSeq := (c.rxSeq + 1) % 65536 }).ackNow l ch
      else if (want + 65536 - seq) % 65536 ≤ 32768 then
        let h := match l with
          | .head s => h.inc (pIVINA s) IVINA.DUP_CNT
          | .peer _ => h
        h.ackNow l ch
      else (h.violation l 0x15 ch seq 0).ackNow l ch

/-- An ACK for a channel (R219): every frame up to its SEQ is done. -/
def ivinaAck (l : LinkId) (ch seq : Nat) (h : Hw) : Hw :=
  if !h.linkUp l ∨ !((h.chan l ch).unacked.any fun f => decide (f.seq = seq)) then h
  else
    let h := h.modChan l ch fun c =>
      { c with unacked := (c.unacked.dropWhile fun f => decide (f.seq ≠ seq)).drop 1, resends := 0 }
    Hw.relFlush 64 l h

/-- The oldest frame of a channel has no ACK after 20 µs (R219): it and those after it are sent again, each for a credit; after 8 resends
the channel fails. With no credit left nothing is sent and no resend counts. -/
def ivinaResendTimeout (l : LinkId) (ch : Nat) (h : Hw) : Hw :=
  let c := h.chan l ch
  if !h.linkUp l ∨ c.unacked.isEmpty ∨ c.failed then h
  else if 8 ≤ c.resends then (h.modChan l ch fun c => { c with failed := true }).violation l 0x30 ch (c.unacked.headD (plainFrame 0 0 0 [])).seq 0
  else
    let fs := c.unacked.take c.credits
    if fs.isEmpty then h
    else
    let h := h.modChan l ch fun c => { c with resends := c.resends + 1, credits := c.credits - fs.length }
    let h := match l with
      | .head s => h.incBy (pIVINA s) IVINA.RETRY_CNT 0 fs.length
      | .peer p => h.incBy (LinkId.peer p).page PEER.RETRY_CNT 0 fs.length
    (fs.foldl (fun h f => h.frameOut l f) h).showCredits l

/-- A cell carries the credit count of a channel (R220). -/
def creditCell (l : LinkId) (ch cnt : Nat) (h : Hw) : Hw := h.takeCredit l ch cnt

/-- A received frame or cell breaks the protocol (R221, R222): it is dropped, counted and answered. It frees the buffer it came into; a
frame sent without credit has none. -/
def ivinaBadFrame (l : LinkId) (reason ch seq detail : Nat) (h : Hw) : Hw :=
  if h.linkUp l then (if reason = 0x14 then h else h.bufferFreed l ch).violation l reason ch seq detail else h

/-- The pages the plans of n facets from g on carried (R222). -/
def Hw.plannedPages (h : Hw) (s g n : Nat) : List Nat :=
  (h.stn s).facets.plans.filterMap fun x => if (x.1 + 2 ^ 32 - g) % 2 ^ 32 < n then x.2 else none

/-- A VIOLATION frame arrives (R222). -/
def ivinaViolationRx (l : LinkId) (reason ch seq detail : Nat) (h : Hw) : Hw :=
  match l with
  | .head s =>
    let p := pIVINA s
    let h := (h.inc p IVINA.VIOL_RX).wr p IVINA.LAST_VIOL_REASON reason
    let h := ((h.wr p IVINA.LAST_VIOL_CH ch).wr p IVINA.LAST_VIOL_DIR 1).wr p IVINA.LAST_VIOL_SEQ seq
    let h := h.raise p 2 (h.linkCap l reason ch 0 (if seq = 0 then detail else seq))
    if reason = 0x23 then
      let ds := h.plannedPages s detail seq
      h.spoilWhere (fun g => ds.contains g.desc && (decide (g.state = .admitted) || g.state.inFlight)) 0x11
    else if reason = 0x20 ∨ reason = 0x22 ∨ reason = 0x24 ∨ reason = 0x25 then h.spoilStation s 0x11
    else h
  | .peer q =>
    let p := (LinkId.peer q).page
    let h := (h.inc p PEER.VIOL_RX).wr p PEER.LAST_VIOL_REASON reason
    let h := ((h.wr p PEER.LAST_VIOL_CH ch).wr p PEER.LAST_VIOL_DIR 1).wr p PEER.LAST_VIOL_SEQ seq
    h.raise p 1 (h.linkCap l reason ch 0 (if seq = 0 then detail else seq))

/-! ### Registers and head reports -/

/-- RETRAIN (R201): every lane that is not disabled goes to DETECT, one in QUARANTINE to NEGOTIATE. -/
def Hw.retrain (h : Hw) (l : LinkId) : Hw :=
  (forN l.lanes (fun k h =>
    match (h.lane l k).st with
    | .disabled => h
    | .quarantine => h.laneEnter l k .negotiate 0
    | _ => h.laneEnter l k .detect 0) h).linkJudge l

/-- A write of RETRAIN (R201). -/
def ivRetrain (m : Master) (l : LinkId) (h : Hw) : Hw :=
  h.writeTo m (l.page + 0x80) fun h => h.retrain l

/-- Lanes follow EN and LANE_EN (R201, R437). -/
def Hw.lanesFollow (h : Hw) (l : LinkId) : Hw :=
  (forN l.lanes (fun k h =>
    let on := h.linkEn l && h.laneEn l k && h.runs l.page
    if on && decide ((h.lane l k).st = .disabled) then h.laneEnter l k .detect 0
    else if !on && decide ((h.lane l k).st ≠ .disabled) then h.laneEnter l k .disabled 0
    else h) h).linkJudge l

/-- A write of IV_CTRL.EN and LANE_EN (R201). -/
def ivEnWrite (m : Master) (s : StationNo) (en : Bool) (lanes : Nat) (h : Hw) : Hw :=
  h.writeTo m (addrOf IVINA.IV_CTRL_EN (pIVINA s) 0) fun h =>
    ((h.wr (pIVINA s) IVINA.IV_CTRL_EN (b2n en)).wr (pIVINA s) IVINA.IV_CTRL_LANE_EN lanes).lanesFollow (.head s)

/-- A write of PR_CTRL.EN and LANE_EN (R437). -/
def prEnWrite (m : Master) (p : Fin 2) (en : Bool) (lanes : Nat) (h : Hw) : Hw :=
  let q := (LinkId.peer p).page
  h.writeTo m (addrOf PEER.PR_CTRL_EN q 0) fun h =>
    ((h.wr q PEER.PR_CTRL_EN (b2n en)).wr q PEER.PR_CTRL_LANE_EN lanes).lanesFollow (.peer p)

/-- Whether the engine kernel may re-enable the laser of a station (R33, R34, R183). -/
def Hw.lenMay (h : Hw) (s : Nat) : Bool :=
  h.pins.ilk1 && h.pins.ilk2 && h.pins.estop1 && h.pins.estop2
    && decide (100000000 ≤ h.clk.cycles - h.pins.ilkClosedAt) && !h.is (pEMIT s) EMIT.HEALTH_STS_MEAS_OVER

/-- A write of IV_CTRL.LEN_EN (R223): the engine kernel's write of 1 re-enables the station where R33, R34 and R183 allow it. -/
def lenEnWrite (m : Master) (s : StationNo) (v : Bool) (h : Hw) : Hw :=
  h.writeTo m (addrOf IVINA.IV_CTRL_LEN_EN (pIVINA s) 0) fun h =>
    let may := v && isKernel m && h.lenMay s
    let h := h.wr (pIVINA s) IVINA.IV_CTRL_LEN_EN (b2n v)
    if may then { h with pins := { h.pins with lenPermit := putBit h.pins.lenPermit s true } } else h

/-- How long it is, in 1/45 ns, until bit 0 of the next alignment codeword of a link leaves: the rest of the present codeword and every
codeword before that one (R195, R196). -/
def Hw.alignIn (h : Hw) (l : LinkId) : Nat :=
  let t := (h.lk l).tx
  (256 - t.pos) % 256 * 2176 + (2176 - t.phase)

/-- HEAD_STATUS arrives (R217). -/
def headStatus (s : StationNo) (param : BitVec 64) (h : Hw) : Hw :=
  let p := pIVINA s
  if !h.linkUp (.head s) then h
  else
    (h.wr p IVINA.HEAD_STATUS (param.toNat % 2 ^ 32)).wr p IVINA.IV_STS_HEAD_READY (param.toNat % 2)

/-- No HEAD_STATUS for 5 ms (R217). -/
def headStatusTimeout (s : StationNo) (h : Hw) : Hw := h.wr (pIVINA s) IVINA.IV_STS_HEAD_READY 0

/-- A REG_REPLY goes to the engine kernel (R217). -/
def regReply (s : StationNo) (f : Frame) (h : Hw) : Hw :=
  if h.linkUp (.head s) && h.kernelRuns then h.send (.toKernel (.ivina s) f) else h

/-- No lane has received a valid alignment codeword for 20 µs (R226). -/
def headRxOkTimeout (s : StationNo) (h : Hw) : Hw := h.wr (pIVINA s) IVINA.IV_STS_HEAD_RX_OK 0

/-- A lane reference PLL loses lock (R175, R194): the lanes it serves fail; peer lanes 0 and 1 hang on PLL 0 and 1. -/
def serdespllUnlock (i : Nat) (h : Hw) : Hw :=
  let h := (h.setBit pCLOCK CLOCK.CLK_STS_SERDESPLL_LOCK i false).raise pCLOCK 2 (cap0 i)
  let h := (List.finRange 8).foldl (fun h s => h.laneFail (.head s) i) h
  if i < 2 then (List.finRange 2).foldl (fun h p => h.laneFail (.peer p) i) h else h

/-- A block reset of an IVINA page (R226). -/
def Hw.resetIvina (h : Hw) (s : StationNo) : Hw :=
  let p := pIVINA s
  let h := (h.allDetect (.head s)).linkJudge (.head s)
  let h := [IVINA.CW_UNCORR, IVINA.CORR_SYMS].foldl (fun h f => forN 3 (fun k h => h.wri p f k 0) h) h
  let h := [IVINA.REBUILT, IVINA.LOST_CELLS, IVINA.RETRY_CNT, IVINA.DUP_CNT, IVINA.VIOL_TX, IVINA.VIOL_RX, IVINA.TRAIN_CNT,
    IVINA.IV_STS_HEAD_RX_OK, IVINA.IV_CTRL_LEN_EN].foldl (fun h f => h.wr p f 0) h
  h.spoilStation s 0x11

/-! ### The transmitter (R195–R202, R206) -/

/-- STATION of the module's own records: the station, or on a peer port its MODULE number (R196, R437). -/
def Hw.ownStation (h : Hw) : LinkId → Nat
  | .head s => s
  | .peer _ => h.rd pPEERA PEER.CHAIN_CFG_MODULE

/-- The TS record the module sends on lane k of a link (R201, R202). On a peer port it offers the same buffers. -/
def Hw.ownTs (h : Hw) (l : LinkId) (k : Nat) : TsRec :=
  let x := h.lane l k
  let kind := match x.st with
    | .negotiate | .quarantine => 2
    | .confirm => 3
    | _ => 1
  { tsType := kind, laneId := l.laneId k, station := h.ownStation l, verMin := 1, verMax := 1, verAgreed := if kind = 3 then 1 else 0
    reason := x.reason, caps := b2n (h.precodes l k), crTable := 8, crMgmt := 32, lineBufs := 0, tablesValid := 0
    vendor := Config.vendorCode.toNat, model := Config.modelCode.toNat
    serial := h.rd2 pIDENT IDENT.SERIAL_LO IDENT.SERIAL_HI 0, fw := h.rd pIDENT IDENT.FW_VER }

/-- The alignment codeword the module sends on lane k (R196, R201): the lanes it receives ACTIVE, and those of the others it asks to
retrain. -/
def Hw.ownAlign (h : Hw) (l : LinkId) (k : Nat) : AlignRec :=
  let mask (f : Nat → Bool) : Nat := (List.range l.lanes).foldl (fun a j => putBit a j (f j)) 0
  ⟨l.laneId k, h.ownStation l, (h.lk l).tx.seq, mask fun j => decide ((h.lane l j).st = .active),
    mask fun j => decide (j ≠ k) && decide ((h.lane l j).st = .failed)⟩

/-- The lanes of a link that are ACTIVE. -/
def Hw.activeLanes (h : Hw) (l : LinkId) : List Nat := (List.range l.lanes).filter fun k => decide ((h.lane l k).st = .active)

/-- The lanes that carry data codewords: a lane that has become ACTIVE does from the next alignment codeword sent on (R204); a change
between the two lanes of a peer port takes effect at one either way (R437), one of a head that fails carries no more. -/
def Hw.dataLanes (h : Hw) (l : LinkId) : List Nat :=
  match l with
  | .head _ => (h.activeLanes l).filter fun k => (h.lk l).tx.lanes.contains k
  | .peer _ => if h.linkUp l then (h.lk l).tx.lanes else []

/-- The cells of the next n slots. Each header carries the credit count of TABLE or MGMT in turn while the link is up (R220; the turn:
DESIGN CHOICE, assumption 114). -/
def Hw.nextCells (h : Hw) (l : LinkId) : Nat → LinkTx → List (List Byte) × LinkTx
  | 0, t => ([], t)
  | n + 1, t =>
    let ch := if h.linkUp l then 3 + t.slot % 2 else 0
    let x := t.cell ch (if ch = 0 then 0 else (h.chan l ch).freed)
    let y := h.nextCells l n x.2
    (x.1 :: y.1, y.2)

/-- The message of lane k in the next stripe: of a head's three lanes with parity, of a peer's two in turn, or of its one lane that is
ACTIVE (R199, R437). -/
def LinkId.laneMessage (l : LinkId) (active : List Nat) (cells : List (List Byte)) (k : Nat) : Message :=
  match l with
  | .head _ => stripeMessage cells k
  | .peer _ => if active.length = 2 then stripeMessage cells k else dataMessage cells

/-- How many cells the next stripe takes. -/
def LinkId.stripeCells (l : LinkId) (active : List Nat) : Nat :=
  match l with
  | .head _ => 10
  | .peer _ => 5 * active.length

/-- A codeword leaves on every lane that is not disabled. -/
def Hw.codewordsOut (h : Hw) (l : LinkId) (m : Nat → Message) : Hw :=
  forN l.lanes (fun k h =>
    if (h.lane l k).st = .disabled then h else h.send (.codeword l.link k (h.lane l k).precoded (rsCodeword (m k)))) h

/-- A codeword of a lane of a head that is not ACTIVE is rebuilt while the other two are: once for every data codeword received, of which
255 follow an alignment codeword (R200). -/
def Hw.countRebuilt (h : Hw) (l : LinkId) : Hw :=
  let x := h.lk l
  let h := match l with
    | .head s => if (h.activeLanes l).length = 2 && decide (x.rxPos < 255) && !x.rxBad then h.inc (pIVINA s) IVINA.REBUILT else h
    | .peer _ => h
  h.modLk l fun x => { x with rxPos := min 255 (x.rxPos + 1), rxBad := false }

/-- The next codeword of a link leaves: every 256th an alignment codeword, which sets the scrambler; the others scrambled, data on the
lanes that are ACTIVE and training codewords on the rest (R195–R199). -/
def Hw.linkCodeword (h : Hw) (l : LinkId) : Hw :=
  let t := (h.lk l).tx
  if t.pos = 0 then
    let now := h.activeLanes l
    let h := h.modLk l fun x => { x with tx := { x.tx with pos := 1, seq := (t.seq + 1) % 2 ^ 32, scrambler := 2 ^ 58 - 1, lanes := now } }
    h.codewordsOut l fun k => (h.ownAlign l k).message
  else
    let act := h.dataLanes l
    let c := h.nextCells l (l.stripeCells act) t
    let key := scramblerBits 5140 t.scrambler
    let h := h.modLk l fun x => { x with tx := { c.2 with pos := (t.pos + 1) % 256, scrambler := key.2 } }
    (h.codewordsOut l fun k =>
      BitVec.ofNat 5140 key.1 ^^^ (if act.contains k then l.laneMessage act c.1 k else (h.ownTs l k).message)).countRebuilt l

/-- One nanosecond of a link's lanes: a codeword lasts 5440 bits at 112.5 Gbit/s, 2176/45 ns (R193, R195). The lane clock is taken as
exact, and to stand while every lane is disabled (DESIGN CHOICE, assumption 114). -/
def Hw.linkTick (h : Hw) (l : LinkId) : Hw :=
  if (List.range l.lanes).all fun k => decide ((h.lane l k).st = .disabled) then h
  else
    let ph := (h.lk l).tx.phase + 45
    let h := h.modLk l fun x => { x with tx := { x.tx with phase := ph % 2176 } }
    if ph < 2176 then h else h.linkCodeword l

/-- One nanosecond of every link. -/
def Hw.linksTick (h : Hw) : Hw :=
  (List.finRange 2).foldl (fun h p => h.linkTick (.peer p)) ((List.finRange 8).foldl (fun h s => h.linkTick (.head s)) h)

end Sys2Proof.Machine
end

