-- ==== Sys2Proof/Machine/Emitters.lean ====
section
/-! DEFINITION. Emitter banks: validation, download and activation, the laser power ceiling, and the health of the beams (R176–R192,
R215–R217). -/

namespace Sys2Proof.Machine

/-! ### The bank (R176–R182, R186) -/

/-- Where bank b of station s lies in W1 (R485), and its length. -/
def emitBase (s b : Nat) : Nat := 0x20000 + 0x8000 * s + 0x4000 * b
def emitLen : Nat := 0x2CC0

/-- Bank b of station s as a region. -/
def Hw.emitRegion (h : Hw) (s b : Nat) : Region := fun o => h.table (emitBase s b + o)

/-- STEP, GAIN and PROF of a bank (R177). -/
def emStep (r : Region) (c : Nat) : Nat := u16At r (0x40 + 2 * c)
def emGain (r : Region) (b : Nat) : Nat := u16At r (0x60 + 2 * b)
def emProf (r : Region) (b j : Nat) : Nat := u16At r (0x800 + 196 * b + 2 * j)

/-- Pulse i of level code L, and its fields (R179). -/
def emPulse (r : Region) (l i : Nat) : Nat := u16At r (0x100 + 8 * l + 2 * i)
def pulseStart (p : Nat) : Nat := p % 32
def pulseWidth (p : Nat) : Nat := p / 32 % 64
def pulseStep (p : Nat) : Nat := p / 2048 % 16

/-- The half-energy power P of a beam in a segment for a step (R176), µW. -/
def drivePower (r : Region) (b j c : Nat) : Nat := (emStep r c * emGain r b * emProf r b j + 2 ^ 28) / 2 ^ 29

/-- The power of a beam at a step outside the active scan (R182), µW. -/
def overscanPower (r : Region) (b c : Nat) : Nat := (emStep r c * emGain r b + 2 ^ 13) / 2 ^ 14

/-- The steps that some pulse of the bank uses. -/
def usedSteps (r : Region) : List Nat :=
  below 16 fun c => (List.range 64).any fun l => (List.range 4).any fun i =>
    decide (0 < pulseWidth (emPulse r l i) ∧ pulseStep (emPulse r l i) = c)

/-- Whether beam b needs more than a ceiling (check 0x29 of R186). -/
def beamOver (r : Region) (ceil b : Nat) : Bool :=
  let c := usedSteps r
  let detect := (decide (b = (r 1).toNat) || decide (b = (r 2).toNat)) && decide (ceil < overscanPower r b (r 3).toNat)
  detect || decide (ceil < overscanPower r b (r 4).toNat)
    || (List.range 98).any fun j => c.any fun k => decide (ceil < 2 * drivePower r b j k)

/-- The header checks of R177, as offset and whether the field is out of range. -/
def headerChecks (r : Region) : List (Nat × Bool) :=
  [(1, decide (47 < (r 1).toNat)), (2, decide (47 < (r 2).toNat) || decide (r 2 = r 1)), (3, decide (15 < (r 3).toNat)),
   (4, decide (15 < (r 4).toNat)), (5, decide (4 < (r 5).toNat)), (6, decide (u16At r 6 < 10 ∨ 200 < u16At r 6)),
   (8, decide (u16At r 8 < 200 ∨ 5000 < u16At r 8)), (0xA, decide ((r 0xA).toNat < 64 ∨ 230 < (r 0xA).toNat))]

/-- Offsets of the reserved bytes of a bank, and of the pulse entries with their reserved bit, ascending (R177, R179). -/
def reservedChecks (r : Region) : List (Nat × Bool) :=
  let bytes (a n : Nat) : List (Nat × Bool) := (List.range n).map fun i => (a + i, decide (r (a + i) ≠ 0))
  bytes 0xB 1 ++ bytes 0xE 50 ++ bytes 0xC0 64 ++ ((List.range 256).map fun i => (0x100 + 2 * i, decide (32768 ≤ u16At r (0x100 + 2 * i))))
    ++ bytes 0x7E0 32

/-- Whether pulse i of level code L breaks the geometry of R179: it passes the pixel's end, follows a pulse of width 0, or starts
before the one before it ends. Check 0x25 reports the later pulse of such a pair (assumption 141). -/
def pulseBad (r : Region) (l i : Nat) : Bool :=
  let p := emPulse r l i
  let q := emPulse r l (i - 1)
  decide (32 < pulseStart p + pulseWidth p)
    || (decide (0 < i ∧ 0 < pulseWidth p) && (decide (pulseWidth q = 0) || decide (pulseStart p < pulseStart q + pulseWidth q)))

/-- The offset of the first check that fails. -/
def firstOffset (cs : List (Nat × Bool)) : Option Nat := (cs.find? fun c => c.2).map Prod.fst

/-- The checks of R186 in order, each with the index it reports; where R186 gives a dash it is 0 (assumption 112). -/
def validateEmit (r : Region) (ceil : Nat) : Option (Nat × Nat) :=
  if r 0 ≠ 1 then some (0x21, 0)
  else match firstOffset (headerChecks r) with
  | some o => some (0x22, o)
  | none => match firstOffset (reservedChecks r) with
  | some o => some (0x23, o)
  | none => if (List.range 4).any fun i => decide (0 < pulseWidth (emPulse r 0 i)) then some (0x24, 0)
  else match (List.range 256).find? fun x => pulseBad r (x / 4) (x % 4) with
  | some x => some (0x25, 0x100 + 2 * x)
  | none => match (List.range 48).find? fun b => decide (32768 < emGain r b) with
  | some b => some (0x26, b)
  | none => match (List.range 4704).find? fun x => decide (emProf r (x / 98) (x % 98) < 16384 ∨ 49152 < emProf r (x / 98) (x % 98)) with
  | some x => some (0x27, 0x800 + 2 * x)
  | none => match (List.range 1248).find? fun x =>
      decide ((r (0x300 + x)).toNat ≠ partnerRule (x / 26) (x % 26) ∧ (r (0x300 + x)).toNat ≠ 0xFF) with
  | some x => some (0x28, 0x300 + x)
  | none => ((List.range 48).find? fun b => beamOver r ceil b).map fun b => (0x29, b)

/-! ### The switch machine, download and activation (R184, R185, R187) -/

/-- Change the emitter state of station s. -/
def Hw.modEmit (h : Hw) (s : Nat) (f : Emit → Emit) : Hw := h.modStn s fun t => { t with emit := f t.emit }

/-- The capture of the EMIT page (R192). -/
def emCap (s beam : Nat) : Cap := ⟨beam, 0x0600 + s, 6, false⟩

/-- The bank a switch would bring in. -/
def Hw.emTarget (h : Hw) (s : Nat) : Nat := 1 - h.rd (pEMIT s) EMIT.EBANK_ACTIVE

/-- The machine enters a state, shown in EBANK. -/
def Hw.emEnter (h : Hw) (s : Nat) (st : BankState) : Hw :=
  let p := pEMIT s
  let h := h.modEmit s fun e => { e with sw := st }
  ((h.wr p EMIT.EBANK_VALIDATING (b2n (decide (st = .validating)))).wr p EMIT.EBANK_DOWNLOADING (b2n (decide (st = .downloading)))).wr p
    EMIT.EBANK_ARMED (b2n (decide (st = .armed)))

/-- The bytes a download of bank b carries, with CEIL_UW inserted (R183, R185). -/
def Hw.emitBytes (h : Hw) (s b : Nat) : List Byte :=
  let r := h.emitRegion s b
  let ceil := h.rd (pEMIT s) EMIT.CEIL_UW
  (List.range emitLen).map fun o => if o = 0xC then BitVec.ofNat 8 ceil else if o = 0xD then BitVec.ofNat 8 (ceil / 256) else r o

/-- A station as the head of a link. -/
def headOf (s : Nat) : LinkId := .head (Fin.ofNat 8 s)

/-- Send bank b to the head: WRITE frames over the whole bank, then CHECK (R185, R215). The size of a piece is the largest body
(DESIGN CHOICE, assumption 35). -/
def Hw.emSend (h : Hw) (s b : Nat) : Hw :=
  let bs := h.emitBytes s b
  let h := h.modEmit s fun e => { e with expect := tset (fun _ => 0) e.expect b (crc32c bs), headHolds := putBit e.headHolds b false }
  let h := [0, 4096, 8192].foldl (fun h o => h.relSend (headOf s) (plainFrame 3 0x30 (b + 65536 * o) ((bs.drop o).take 4096))) h
  h.relSend (headOf s) (plainFrame 3 0x31 b [])

/-- Start a download of bank b (R185). -/
def Hw.emDownload (h : Hw) (s b : Nat) : Hw := (h.modEmit s fun e => { e with retries := tset (fun _ => 0) e.retries b 0 }).emSend s b

/-- Drop the WRITE and CHECK frames of bank b that have not left. -/
def Hw.emUnsend (h : Hw) (s b : Nat) : Hw :=
  h.modLk (headOf s) fun x => { x with waiting := x.waiting.filter fun f => !(decide (f.ftype = 0x30 ∨ f.ftype = 0x31) && decide (f.param % 2 = b)) }

/-- The bank that lights the sensors is dead: BD_ALT takes its place (R182). -/
def Hw.beamDead? (h : Hw) (s b : Nat) : Bool := if b < 32 then h.bit (pEMIT s) EMIT.DEAD_LO b else h.bit (pEMIT s) EMIT.DEAD_HI (b - 32)
def Hw.showBdAlt (h : Hw) (s : Nat) : Hw :=
  let b := h.rd (pEMIT s) EMIT.EBANK_HEAD_BANK
  h.wr (pEMIT s) EMIT.HEALTH_STS_BD_ALT_USED (b2n (h.beamDead? s (h.emitRegion s b 1).toNat))

/-- The head exposes with a bank from now on (R192). -/
def Hw.headBank (h : Hw) (s b : Nat) : Hw := (h.wr (pEMIT s) EMIT.EBANK_HEAD_BANK b).showBdAlt s

/-- ACTIVATE of a bank for facet g, 0xFFFF_FFFF for the next BD_SOS or at once while SCLK_s is not running (R187, R215). -/
def Hw.emActivate (h : Hw) (s b g kill : Nat) : Hw :=
  if !h.linkUp (headOf s) then h
  else
    let h := h.relSend (headOf s) (plainFrame 3 0x33 (b + 2 ^ 32 * g) (toLE 6 kill ++ [0, 0]))
    if g = 0xFFFFFFFF ∧ !h.is (pSCANCLK s) SCANCLK.SC_STS_RUNNING then (h.modEmit s fun e => { e with activate := none }).headBank s b
    else h.modEmit s fun e => { e with activate := some (b, g) }

/-- An accepted BD_SOS edge begins facet g: a bank activated for it is in use by the head (R187, R192). One activated for a facet that was
flywheeled shows from the next accepted edge on (DEDUCED, assumption 97). -/
def Hw.emSos (h : Hw) (s g : Nat) : Hw :=
  match (h.stn s).emit.activate with
  | some (b, a) => if (g + 2 ^ 32 - a) % 2 ^ 32 < 2 ^ 31 ∨ a = 0xFFFFFFFF then (h.modEmit s fun e => { e with activate := none }).headBank s b else h
  | none => h

/-- Whether a page is ADMITTED on station s or has lines still to expose there (R184). -/
def Hw.stationBusy (h : Hw) (s : Nat) : Bool :=
  h.headrace.pages.any fun g => g.uses s && (decide (g.state = .admitted) || (decide (g.state = .exposing) && !(g.on s).ended))

/-- Whether bank b of station s needs more than a ceiling (R183, R186). -/
def Hw.bankOver (h : Hw) (s b ceil : Nat) : Bool := (List.range 48).any fun k => beamOver (h.emitRegion s b) ceil k

/-- CEIL_VIOL also marks the banks in use that a test picks, until they leave use (R183). -/
def Hw.markOver (h : Hw) (s : Nat) (sel : Nat → Bool) : Hw :=
  let p := pEMIT s
  let viol := (List.range 2).foldl (fun a b => if h.bit p EMIT.EBANK_IN_USE b && sel b then putBit a b true else a) (h.stn s).emit.viol
  (h.modEmit s fun e => { e with viol := viol }).wr p EMIT.HEALTH_STS_CEIL_VIOL (b2n (decide (viol ≠ 0)))

/-- ACTIVE flips and the machine is idle. A bank that comes into use after the ceiling was lowered below its need is marked (R183). -/
def Hw.emFlip (h : Hw) (s : Nat) : Hw :=
  let b := h.emTarget s
  let h := ((h.wr (pEMIT s) EMIT.EBANK_ACTIVE b).emEnter s .idle).showInUse s
  h.markOver s fun k => decide (k = b) && h.bankOver s b (h.rd (pEMIT s) EMIT.CEIL_UW)

/-- The machine reaches ARMED; with nothing in hand on the station ACTIVE flips at once and the head is told (R184), with no
facet and a kill mask of 0 (assumption 142). -/
def Hw.emArm (h : Hw) (s : Nat) : Hw :=
  let h := h.emEnter s .armed
  if h.stationBusy s then h
  else
    let b := h.emTarget s
    (h.emFlip s).emActivate s b 0xFFFFFFFF 0

/-- A write of EBANK.SWITCH without CANCEL (R184). -/
def ebankSwitch (m : Master) (s : StationNo) (h : Hw) : Hw :=
  h.writeTo m (addrOf EMIT.EBANK_SWITCH (pEMIT s) 0) fun h =>
    if (h.stn s).emit.sw = .idle then h.emEnter s .validating else h.wr (pEMIT s) EMIT.EBANK_BUSY 1

/-- A write of EBANK.CANCEL, alone or with SWITCH (R184). -/
def ebankCancel (m : Master) (s : StationNo) (h : Hw) : Hw :=
  h.writeTo m (addrOf EMIT.EBANK_CANCEL (pEMIT s) 0) fun h =>
    let h := if (h.stn s).emit.sw = .downloading then h.emUnsend s (h.emTarget s) else h
    h.emEnter s .idle

/-- TABLE_FAULT with a check and an index (R186, R192). -/
def Hw.emReject (h : Hw) (s check index : Nat) : Hw :=
  let h := (h.wr (pEMIT s) EMIT.EREJECT_CHECK check).wr (pEMIT s) EMIT.EREJECT_INDEX index
  h.raise (pEMIT s) 1 (emCap s (if check = 0x26 ∨ check = 0x29 then index else 0))

/-- Validation of the inactive bank ends (R184, R186). -/
def emitValidateDone (s : StationNo) (h : Hw) : Hw :=
  if (h.stn s).emit.sw ≠ .validating then h
  else match validateEmit (h.emitRegion s (h.emTarget s)) (h.rd (pEMIT s) EMIT.CEIL_UW) with
  | some (c, i) => (h.emEnter s .idle).emReject s c i
  | none => (h.emEnter s .downloading).emDownload s (h.emTarget s)

/-- The download of bank b has failed: the switch ends, or the station counts as faulted (R184, R185). -/
def Hw.emFail (h : Hw) (s b : Nat) : Hw :=
  let h := h.emUnsend s b
  let h :=
    if (h.stn s).emit.sw = .downloading ∧ b = h.emTarget s then h.emEnter s .idle
    else h.modEmit s fun e => { e with redownload := e.redownload.erase b, failed := putBit e.failed b true }
  h.emReject s 0x2A 0

/-- CHECK_REPLY of the head (R185): a matching value ends the download, a mismatch is retried once. -/
def checkReply (s : StationNo) (b : Fin 2) (crc : Word) (h : Hw) : Hw :=
  if !h.linkUp (.head s) then h
  else
    let h := h.wr (pEMIT s) EMIT.HEAD_CRC crc.toNat
    let e := (h.stn s).emit
    let bySwitch := decide (e.sw = .downloading ∧ b.val = h.emTarget s)
    if !bySwitch ∧ !e.redownload.contains b.val then h
    else if crc.toNat = tget (fun _ => 0) e.expect b then
      let h := h.modEmit s fun e =>
        { e with headHolds := putBit e.headHolds b true, failed := putBit e.failed b false, redownload := e.redownload.erase b.val }
      if bySwitch then h.emArm s else h
    else if tget (fun _ => 0) e.retries b = 0 then
      (h.modEmit s fun e => { e with retries := tset (fun _ => 0) e.retries b 1 }).emSend s b
    else h.emFail s b

/-- A download has run 2 ms (R184, R469): the switch's, or the oldest of the re-downloads. -/
def emitDownloadTimeout (s : StationNo) (h : Hw) : Hw :=
  let e := (h.stn s).emit
  if e.sw = .downloading then (h.inc pFANTAIL FANTAIL.LEASE_EXP).emFail s (h.emTarget s)
  else match e.redownload with
  | b :: _ => (h.inc pFANTAIL FANTAIL.LEASE_EXP).emFail s b
  | [] => h

/-- The link of station s has trained with a report of the banks the head holds (R185): every bank in use or armed that it lost, and
every bank whose re-download failed, is sent again. -/
def Hw.emHeadUp (h : Hw) (s valid : Nat) : Hw :=
  forN 2 (fun b h =>
    let e := (h.stn s).emit
    let lost := !bitAt valid b
    let h := h.modEmit s fun e => { e with headHolds := putBit e.headHolds b (!lost) }
    let wanted := h.bit (pEMIT s) EMIT.EBANK_IN_USE b || (decide (e.sw = .armed) && decide (b = h.emTarget s))
    let h := h.modEmit s fun e => { e with redownload := e.redownload.erase b }
    if (lost && wanted) || bitAt e.failed b then
      (h.modEmit s fun e => { e with redownload := e.redownload ++ [b] }).emDownload s b
    else h) h

/-! ### The ceiling (R183) -/

/-- CEIL_UW takes a value: banks in use that need more are marked, and the head is told (R183, R216). -/
def Hw.setCeil (h : Hw) (s v : Nat) : Hw :=
  let p := pEMIT s
  let h := h.wr p EMIT.CEIL_UW v
  let h := h.markOver s fun b => h.bankOver s b v
  h.relSend (headOf s) (plainFrame 4 0x40 v [])

/-- A write of CEIL_UW under presence (R183, R427). -/
def ceilUwWrite (m : Master) (s : StationNo) (v : BitVec 16) (h : Hw) : Hw :=
  let a := addrOf EMIT.CEIL_UW (pEMIT s) 0
  h.writeTo m a fun h => h.gatedWrite m a fun h => (h.setCeil s v.toNat).storeCeiling a

/-- MEAS_OVER is cleared (R183). -/
def measOverClear (m : Master) (s : StationNo) (h : Hw) : Hw :=
  h.writeTo m (addrOf EMIT.HEALTH_STS_MEAS_OVER (pEMIT s) 0) fun h => h.wr (pEMIT s) EMIT.HEALTH_STS_MEAS_OVER 0

/-! ### Beam health (R188–R191, R217) -/

/-- Set or clear the dead mark of a beam. -/
def Hw.setDead (h : Hw) (s b : Nat) (v : Bool) : Hw :=
  if b < 32 then h.setBit (pEMIT s) EMIT.DEAD_LO b v else h.setBit (pEMIT s) EMIT.DEAD_HI (b - 32) v

/-- A write of CAL_EN (R216). -/
def calEnWrite (m : Master) (s : StationNo) (v : Bool) (h : Hw) : Hw :=
  h.writeTo m (addrOf EMIT.EM_CTRL_CAL_EN (pEMIT s) 0) fun h =>
    (h.wr (pEMIT s) EMIT.EM_CTRL_CAL_EN (b2n v)).relSend (.head s) (plainFrame 4 0x41 (b2n v) [])

/-- A write of DEAD_CLR is held until a gap on the station (R189). -/
def deadClr (m : Master) (s : StationNo) (h : Hw) : Hw :=
  h.writeTo m (addrOf EMIT.EM_CTRL_DEAD_CLR (pEMIT s) 0) fun h => h.modEmit s fun e => { e with deadClr := true }

/-- In a gap the head is asked to test its dead beams (R189). -/
def deadClrApply (s : StationNo) (h : Hw) : Hw :=
  if !(h.stn s).emit.deadClr ∨ h.exposingOn s then h
  else (h.modEmit s fun e => { e with deadClr := false, testing := true }).relSend (.head s) (plainFrame 4 0x42 0 [])

/-- BEAM_DEAD (R188). -/
def beamDead (s : StationNo) (b : Fin 48) (h : Hw) : Hw :=
  if !h.linkUp (.head s) then h
  else (((h.setDead s b true).inc (pEMIT s) EMIT.TAKEOVER_CNT).showBdAlt s).raise (pEMIT s) 0 (emCap s b)

/-- EXPOSURE_LOST (R151, R188). -/
def exposureLost (s : StationNo) (d : Nat) (h : Hw) : Hw :=
  if !h.linkUp (.head s) then h
  else
    let h := (h.wr (pEMIT s) EMIT.HEALTH_STS_EXP_LOST 1).inc (pEMIT s) EMIT.LOST_CNT
    h.spoilWhere (fun g => decide (g.desc = d) && g.uses s && g.state.inFlight) 0x11

/-- Show the measurement that CAL_IDX names (R191). -/
def Hw.showCal (h : Hw) (s : Nat) : Hw :=
  let c := tget (fun _ => (0, 0)) (h.stn s).emit.cal (h.rd (pEMIT s) EMIT.CAL_IDX)
  (h.wr (pEMIT s) EMIT.CAL_DATA_P_MEAS c.1).wr (pEMIT s) EMIT.CAL_DATA_P_EXP c.2

/-- CAL_MEAS (R183, R191): a beam that would need GAIN above 32,768 to give its expected power is degraded; a measurement above CEIL_UW
drops LEN_s. -/
def calMeas (s : StationNo) (b : Fin 48) (step : Fin 16) (meas : BitVec 16) (h : Hw) : Hw :=
  if !h.linkUp (.head s) then h
  else
    let p := pEMIT s
    let r := h.emitRegion s (h.rd p EMIT.EBANK_HEAD_BANK)
    let want := min 65535 (overscanPower r b step)
    let seen := putBit (h.stn s).emit.calSeen b true
    let all := decide (seen = 2 ^ 48 - 1)
    let h := h.modEmit s fun e => { e with cal := tset (fun _ => (0, 0)) e.cal b (meas.toNat, want), calSeen := if all then 0 else seen }
    let h := if all then h.wr p EMIT.CAL_SWEEPS ((h.rd p EMIT.CAL_SWEEPS + 1) % 2 ^ 32) else h
    let weak := decide (32768 * meas.toNat < emGain r b * want)
    let h := if b.val < 32 then h.setBit p EMIT.DEGR_LO b weak else h.setBit p EMIT.DEGR_HI (b.val - 32) weak
    let h := h.showCal s
    if h.rd p EMIT.CEIL_UW < meas.toNat then
      let h := { h with pins := { h.pins with lenPermit := putBit h.pins.lenPermit s false } }
      ((h.wr p EMIT.HEALTH_STS_MEAS_OVER 1).raise p 0 (emCap s b)).spoilStation s 0x11
    else h

/-- Beams named in a mask are live again. -/
def Hw.revive (h : Hw) (s mask : Nat) : Hw := (forN 48 (fun b h => if bitAt mask b then h.setDead s b false else h) h).showBdAlt s

/-- DEAD_RESULT (R189): beams live again from the next page. -/
def deadResult (s : StationNo) (mask : BitVec 48) (h : Hw) : Hw :=
  if !h.linkUp (.head s) ∨ !(h.stn s).emit.testing then h
  else
    let h := h.modEmit s fun e => { e with testing := false }
    if h.exposingOn s then h.modEmit s fun e => { e with revive := mask.toNat } else h.revive s mask.toNat

/-- The page on station s has ended there: beams retested during it are live again (R189). -/
def Hw.reviveHeld (h : Hw) (s : Nat) : Hw :=
  let mask := (h.stn s).emit.revive
  if mask = 0 then h else (h.modEmit s fun e => { e with revive := 0 }).revive s mask

/-- The dead and the killed beams of station s (R151, R188, R190). -/
def Hw.darkBeams (h : Hw) (s : Nat) : Nat :=
  let p := pEMIT s
  (h.rd p EMIT.DEAD_LO ||| h.use p EMIT.KILL_LO) + 2 ^ 32 * (h.rd p EMIT.DEAD_HI ||| h.use p EMIT.KILL_HI)

/-- The advance set of a grade (R151): floor(0.99 λ) to ceil(1.01 λ). -/
def Hw.advanceSet (h : Hw) (g : Nat) : List Nat :=
  let n := h.grade g 0 4 * 144000
  let d := 254000 * h.polyRpm g
  if d = 0 then []
  else
    let lo := 99 * n / (100 * d)
    let hi := ceilDiv (101 * n) (100 * d)
    (List.range (hi + 1 - lo)).map fun i => lo + i

/-- The grades whose advance sets count: the running one and the target of a pending change (R151). -/
def Hw.gradesNear (h : Hw) : List Nat :=
  h.runGrade :: (if h.is pHEADRACE HEADRACE.HR_STS_PEND_VALID then [h.rd pHEADRACE HEADRACE.HR_STS_PEND_GRADE] else [])

/-- Whether dead beams make the head of station s faulted (R151). -/
def Hw.beamFault (h : Hw) (s : Nat) : Bool :=
  let dark := h.darkBeams s
  let ks := h.gradesNear.flatMap h.advanceSet
  let single := decide (h.use (pSWATH s) SWATH.SW_CTRL_FORCE_SINGLE = 1) || ks.any fun k => decide (24 < k)
  (single && decide (dark ≠ 0))
    || (List.range 48).any fun b => bitAt dark b && ks.any fun k => decide (0 < k ∧ b + k < 48) && bitAt dark (b + k)

/-- A block reset of ST[s].EMIT (R192). -/
def Hw.resetEmit (h : Hw) (s : Nat) : Hw :=
  let p := pEMIT s
  let h := if (h.stn s).emit.sw = .downloading then h.emUnsend s (h.emTarget s) else h
  let h := h.emEnter s .idle
  let h := [EMIT.EREFUSED, EMIT.TAKEOVER_CNT, EMIT.LOST_CNT, EMIT.CAL_SWEEPS].foldl (fun h f => h.wr p f 0) h
  h.spoilCarried s 0x11

end Sys2Proof.Machine
end

