-- ==== Sys2Proof/Machine/Staging.lean ====
section
/-! DEFINITION. Staged fields and COMMIT: which units of a page apply their values at boundaries of their own, taking the shadow
values, and what a commit of each page brings with it (R480–R482). -/

namespace Sys2Proof.Machine

/-! ### The units of a page (R480, R481) -/

/-- The units of a page that apply a COMMIT at boundaries of their own: bridges, channels, slots, lanes; a STEP page's tick
and its chopping period; one for every other page. -/
def commitUnits (p : Nat) : List Nat :=
  match clsOf p with
  | some .gate => List.range (bankBridges (pageInstance p))
  | some .feedback => List.range 8
  | some .feedback2 => List.range 4
  | some .gov => List.range 24
  | some .hvio => List.range 14
  | some .step => [0, 1]
  | some .ivina => [0, 1, 2]
  | _ => [0]

/-- Bring the validity of SURF and BELT to what a commit of the TIME page changed (R49, R54, R55): a new scale restarts the
accumulator, a new scale or channel waits for the next index edge, a new enable or channel latches IDX0 afresh. -/
def Hw.timeCommitted (h old : Hw) : Hw :=
  let h := forN 8 (fun s h =>
    let ch (f : Field) : Bool := decide (h.usei pTIME f s ≠ old.usei pTIME f s)
    let scale := ch TIME.SURF_PER_REV || ch TIME.COUNTS_PER_REV
    let chan := ch TIME.SURF_CFG_ENC_CH
    let on := ch TIME.SURF_CFG_EN && h.usesi pTIME TIME.SURF_CFG_EN s
    let h := if scale then h.modSurf s fun u => { u with acc := 0 } else h
    let h := if scale || chan || on then h.modSurf s fun u => { u with indexed := false, revAt := none } else h
    let h := if chan || on then h.modSurf s fun u => { u with idx0 := none } else h
    h.surfJudge s) h
  let h := h.beltReturn
  let h := (h.beltOnFault (h.beltCh 0)).beltOnFault (h.beltCh 1)
  h.beltJudge

/-! ### Leat nodes by their enable (R339) -/

/-- Trunk t, and its change. -/
def Hw.trunk (h : Hw) (t : Nat) : Trunk := tget (fun _ => Trunk.reset) h.trunks t
def Hw.modTrunk (h : Hw) (t : Nat) (f : Trunk → Trunk) : Hw :=
  { h with trunks := tset (fun _ => Trunk.reset) h.trunks t (f (h.trunk t)) }

/-- Node n of trunk t, and its change. -/
def Hw.node (h : Hw) (t n : Nat) : LeatNode := tget (fun _ => LeatNode.reset) (h.trunk t).nodes n
def Hw.modNode (h : Hw) (t n : Nat) (f : LeatNode → LeatNode) : Hw :=
  h.modTrunk t fun x => { x with nodes := tset (fun _ => LeatNode.reset) x.nodes n (f (tget (fun _ => LeatNode.reset) x.nodes n)) }

/-- Whether node n of trunk t is enabled in use. -/
def Hw.nodeEn (h : Hw) (t n : Nat) : Bool := bitAt (h.usei (pLEAT t) LEAT.NODE_EN (n / 32)) (n % 32)

/-- Show ACTIVE_NODES and the node that NODE_IDX names (R350). -/
def Hw.showNodes (h : Hw) (t : Nat) : Hw :=
  let p := pLEAT t
  let n := ((h.trunk t).nodes.filter fun x => decide (x.2.st = 2)).length
  let x := h.node t (h.rd p LEAT.NODE_IDX)
  let h := ((h.wr p LEAT.LT_STS_ACTIVE_NODES n).wr p LEAT.NODE_STS_STATE x.st).wr p LEAT.NODE_STS_VERSION x.ver
  let h := (h.wr p LEAT.NODE_STS_SEQ_RX x.seqRx).wr p LEAT.NODE_STS_SEQ_TX x.seqTx
  (h.wr p LEAT.NODE_ID_VENDOR x.vendor).wr p LEAT.NODE_ID_MODEL x.model

/-- The nodes follow NODE_EN (R339): a node enabled waits for HELLO, one disabled is dropped. -/
def Hw.nodesFollow (h : Hw) (t : Nat) : Hw :=
  (forN 256 (fun n h =>
    let on := h.nodeEn t n
    let st := (h.node t n).st
    if on && decide (st = 0) then h.modNode t n fun _ => { LeatNode.reset with st := 1 }
    else if !on && decide (st ≠ 0) then h.modNode t n fun _ => LeatNode.reset
    else h) h).showNodes t

/-- FT_ACT shows the facet entries in use (R174). -/
def Hw.showFacetTable (h : Hw) (p : Nat) : Hw :=
  forN 10 (fun f h =>
    (h.wri p SCANCLK.FT_ACT_PHASE f (h.usei p SCANCLK.FT_PHASE f)).wri p SCANCLK.FT_ACT_MAG f (h.usei p SCANCLK.FT_MAG f)) h

/-- Unit u of a page takes its shadow values (R480), with what they bring about. -/
def Hw.applyUnit (h : Hw) (p u : Nat) : Hw :=
  let old := h
  let h := h.takeShadows p u
  match clsOf p with
  | some .gov => h.govShowLoad (pageInstance p)
  | some .time => h.timeCommitted old
  | some .scanclk => h.showFacetTable p
  | some .leat => h.nodesFollow (pageInstance p)
  | _ => h

/-! ### COMMIT_PENDING -/

/-- Unit u of a page applies a COMMIT that is pending (R480). -/
def Hw.commitUnit (h : Hw) (p u : Nat) : Hw := if h.waits p u then (h.applyUnit p u).unitDone p u else h

/-- The boundary of unit u of a page: a COMMIT of the same clock waits for the next (R482). -/
def Hw.commitBoundary (h : Hw) (p u : Nat) : Hw := if h.appliesNow p u then h.commitUnit p u else h

/-- The boundary of every unit of a page. -/
def Hw.commitWhole (h : Hw) (p : Nat) : Hw := (commitUnits p).foldl (fun h u => h.commitBoundary p u) h

/-- A pending COMMIT of a page is dropped (R477). -/
def Hw.dropCommit (h : Hw) (p : Nat) : Hw :=
  { h with waitCommit := h.waitCommit.filter fun k => decide (k / 64 ≠ p / 4096) }.showPending p

/-- Whether unit u of a page applies a COMMIT at once: a scan clock, link, lane or trunk that is off, a Governor slot that is
not enabled (R481). -/
def Hw.commitsNow (h : Hw) (p u : Nat) : Bool :=
  match clsOf p with
  | some .scanclk => !h.is p SCANCLK.SC_CTRL_EN || !h.is p FACE.PAGE_CTRL_EN
  | some .ivina => !h.is p IVINA.IV_CTRL_EN || !h.bit p IVINA.IV_CTRL_LANE_EN u || !h.is p FACE.PAGE_CTRL_EN
  | some .leat => !h.is p LEAT.LT_CTRL_EN || !h.is p FACE.PAGE_CTRL_EN
  | some .gov => !h.isi p GOV.SL_CFG_EN u || !h.is p FACE.PAGE_CTRL_EN
  | _ => false

/-- The units of a page that are off apply a pending COMMIT at once (R481, R482). -/
def Hw.commitOff (h : Hw) (p : Nat) : Hw :=
  (commitUnits p).foldl (fun h u => if h.commitsNow p u then h.commitUnit p u else h) h

/-- Whether the boundary of a page can be now (R481): a gap on the stations concerned for the pages tied to a gap; the pages that take their
values at an admission, the lanes with their trainings, a scan clock with its accepted BD_SOS edge and a trunk with its superframe have no
boundary but those. Where State does not place the boundary (a period start, a speed update, a superframe start, a sample instant), the command is the
boundary itself (DESIGN CHOICE, assumption 117); the block's own command for that instant is one too. -/
def Hw.boundaryNow (h : Hw) (p : Nat) : Bool :=
  match clsOf p with
  | some .time => !h.anyExposing
  | some .clock => !h.anyExposing
  | some .peerA => !h.anyExposing
  | some .peerB => !h.anyExposing
  | some .swath => !h.exposingOn (pageInstance p)
  | some .pipe => false
  | some .emit => false
  | some .scanclk => false
  | some .leat => false
  | some .ivina => false
  | _ => true

/-- Whether a page has a COMMIT pending. -/
def Hw.pendingCommit (h : Hw) (p : Nat) : Bool := h.waitCommit.any fun k => decide (k / 64 = p / 4096)

/-- A COMMIT is accepted: every unit of the page waits for its boundary, those that are off apply it at once (R480, R481); on a
page without staged fields it has no effect, and one written while one is pending adds nothing. -/
def Hw.startCommit (h : Hw) (p : Nat) : Hw :=
  if stagedRows p = [] ∨ h.pendingCommit p then h
  else { h with waitCommit := h.waitCommit ++ (commitUnits p).map (waitKey p) }.showPending p |>.commitOff p

/-- The COMMIT of a master: what is applied at a boundary of the same clock is not yet this one (R482). -/
def Hw.masterCommit (h : Hw) (p : Nat) : Hw :=
  (if h.pendingCommit p then h else { h with commitAt := tset (fun _ => none) h.commitAt p (some h.clk.cycles) }).startCommit p

/-! ### The lanes of a head link (R226)

Staged fields of an IVINA page apply as a lane starts a training; the lane waits until it has trained with them. -/

/-- Lane k of station s starts a training. -/
def Hw.laneTrains (h : Hw) (s : StationNo) (k : Nat) : Hw :=
  if h.appliesNow (pIVINA s) k then (h.applyUnit (pIVINA s) k).modLane (.head s) k fun x => { x with fresh := true } else h

/-- Lane k of station s has trained. -/
def Hw.laneTrained (h : Hw) (s : StationNo) (k : Nat) : Hw :=
  if (h.lane (.head s) k).fresh then
    let h := h.modLane (.head s) k fun x => { x with fresh := false }
    h.unitDone (pIVINA s) k
  else h

/-- Lane k of station s is disabled: no enabled lane waits for it (R226). -/
def Hw.laneOff (h : Hw) (s : StationNo) (k : Nat) : Hw :=
  (h.modLane (.head s) k fun x => { x with fresh := false }).commitUnit (pIVINA s) k

/-! ### Commands -/

/-- PAGE_CTRL.COMMIT (R480–R482): refused with BUSY while the block is in reset; a Governor COMMIT that would break R300 or R306
is refused with its check. -/
def commit (m : Master) (page : PageNo) (h : Hw) : Hw :=
  let p := 4096 * page.val
  h.writeTo m (addrOf FACE.PAGE_CTRL_COMMIT p 0) fun h =>
    if h.is p FACE.PAGE_STS_IN_RESET then h.wr p FACE.PAGE_STS_BUSY 1
    else if clsOf p = some .gov then
      match h.govCommitRefused (pageInstance p) with
      | some r => h.govReject r.1 r.2
      | none => h.masterCommit p
    else h.masterCommit p

/-- The boundary of unit u of a page comes (R481). -/
def commitApply (page : PageNo) (u : Fin 64) (h : Hw) : Hw :=
  let p := 4096 * page.val
  if h.boundaryNow p then h.commitBoundary p u else h

end Sys2Proof.Machine
end

