-- ==== Sys2Proof/Machine/ScanClock.lean ====
section
/-! DEFINITION. Scan clocks and beam detect: divider pairs, start and stop, facet counting, acceptance of BD_SOS and BD_EOS edges, phase
correction, lock, polygon phase and the CLOCK page (R138, R139, R156–R175, R501). -/

namespace Sys2Proof.Machine

/-! ### Divider pairs (R156–R158) -/

/-- N of a pair in 2^-24: N_INT and N_FRAC are adjacent in SCLK_WORD0. -/
def pairPost (w1 : Nat) : Nat := w1 % 4
def pairPix0 (w1 : Nat) : Nat := w1 / 256 % 4096

/-- The division of the VCO down to the pixel clock. -/
def postDiv (w1 : Nat) : Nat := 4 * 2 ^ pairPost w1

/-- Whether a pair is good (R158). -/
def pairGood (w0 w1 : Nat) : Bool :=
  decide (16 * 2 ^ 24 ≤ w0 ∧ 5 * w0 ≤ 104 * 2 ^ 24) && decide (pairPost w1 ≠ 3) && decide (pairPix0 w1 ≠ 0)
    && decide (w1 / 4 % 64 = 0 ∧ w1 / 2 ^ 20 = 0)

/-- The active pair of station s. -/
def Hw.divAct (h : Hw) (s : Nat) : Nat × Nat := (h.rd (pSCANCLK s) SCANCLK.DIV_ACT0, h.rd (pSCANCLK s) SCANCLK.DIV_ACT1)

/-! ### SCLK_s (R159, R164, R165, R167)

A cycle lasts POST × 2^38 / w0 PRESS_TIME units, a step 1/1024 of that, and MAG stretches the cycles but not the steps. -/

/-- Units of `Sclk` in one PRESS_TIME unit. -/
def Sclk.den (c : Sclk) : Nat := c.w0 * 2 ^ 24

/-- An ordinary cycle. -/
def Sclk.period (c : Sclk) : Int := c.post * 2 ^ 38 * (2 ^ 24 + c.mag)

/-- A step: 1/256 pixel. -/
def Sclk.step (c : Sclk) : Nat := c.post * 2 ^ 52

/-- How far a stamp lies past `ref`. -/
def Sclk.past (c : Sclk) (t : Stamp) : Int := (t - c.ref).toInt * c.den

/-- The cycle a time lies in, from cycle i that begins at e on: its number, its rising edge and its length. -/
def cycleFrom (period : Int) : List Int → Int → Int → Int → Int × Int × Int
  | [], i, e, x => (i + (x - e) / period, e + (x - e) / period * period, period)
  | l :: ls, i, e, x => if x < e + l then (i, e, l) else cycleFrom period ls (i + 1) (e + l) x

/-- The cycle that a time past `ref` lies in. -/
def Sclk.cycleAt (c : Sclk) (x : Int) : Int × Int × Int :=
  if x < c.first then ((x - c.first) / c.was, c.first + (x - c.first) / c.was * c.was, c.was)
  else cycleFrom c.period c.cycles 0 c.first x

/-- The rising edge of cycle i. -/
def Sclk.edge (c : Sclk) (i : Int) : Int :=
  if i < 0 then c.first + i * c.was else c.first + (c.cycles.take i.toNat).sum + ((i.toNat - c.cycles.length : Nat) : Int) * c.period

/-- How long a cycle is high (R159): half of it, three quarters of the marker cycle. -/
def Sclk.highPart (c : Sclk) (i len : Int) : Int := if c.marker = some i then 3 * len / 4 else len / 2

/-- The level of SCLK_s at a time past `ref`, and when it falls where it is high (R159, R169, R170). -/
def Sclk.level (c : Sclk) (x : Int) : Option Int :=
  let y : Option Int :=
    if x < c.start then (if x < c.tail then some c.tail else none)
    else
      let k := c.cycleAt x
      let e := k.2.1 + c.highPart k.1 k.2.2
      if x < e then some e else none
  match c.stop with
  | some z => if z ≤ x then none else y
  | none => y

/-- SCLK_s at a stamp. -/
def Sclk.high (c : Sclk) (t : Stamp) : Bool := (c.level (c.past t)).isSome

/-- Where pixel n of the facet begins past `ref` (R159, R167): pixel 0 with the marker cycle, four to a cycle. -/
def Sclk.pixelAt (c : Sclk) (n : Nat) : Option Int :=
  c.marker.map fun k => c.edge (k + (n / 4 : Nat)) + (n % 4 : Nat) * ((c.post : Int) * 2 ^ 36 * (2 ^ 24 + c.mag))

/-- How far a time past an edge lies from the edge nearest to it; of two equally near, the earlier. -/
def nearestEdge (period x : Int) : Int := if 2 * (x % period) ≤ period then x % period else x % period - period

/-- The first rising edge at or after a time, with its cycle's number and the length of the cycle before it. -/
def Sclk.nextEdge (c : Sclk) (x : Int) : Int × Int × Int :=
  let k := c.cycleAt x
  if k.2.1 = x then (k.1, x, c.was) else (k.1 + 1, k.2.1 + k.2.2, k.2.2)

/-- The target of R164 and R165 for a facet that begins at a stamp: 32 ns and PHASE steps after it. -/
def Sclk.target (c : Sclk) (t : Stamp) (phase : Int) : Int := c.past t + 32768 * c.den + phase * c.step

/-- A correction of n steps spread evenly over k cycles (R165). -/
def spreadSteps (n : Int) (k : Nat) : List Int := (List.range k).map fun i => n * (i + 1 : Nat) / k - n * i / k

/-- The clock goes on from the rising edge a of cycle j with cycles of given lengths. -/
def Sclk.goOn (c : Sclk) (j a was : Int) (cycles : List Int) : Sclk :=
  { c with first := a, was := was, cycles := cycles, marker := c.marker.map fun m => m - j }

/-- `ref` moves to a stamp. -/
def Sclk.refTo (c : Sclk) (t : Stamp) : Sclk :=
  let d := c.past t
  { c with ref := t, first := c.first - d, tail := c.tail - d, start := c.start - d, stop := c.stop.map fun z => z - d }

/-- The anchor edge of a facet that begins at t, with the steps of the correction (R165): cycles are corrected from t + 8 ns on, each by at
most 128 steps, half in each of its phases (DEDUCED, assumption 137), and MAG holds from the anchor on. The manual gives no rounding of
the steps (assumption 2). -/
def Sclk.anchored (c : Sclk) (t : Stamp) (phase mag : Int) (pix0 : Nat) : Sclk × Int :=
  let c := c.refTo t
  let a := c.nextEdge (8192 * c.den)
  let d := c.target t phase - a.2.1
  let near := nearestEdge c.period d
  let n := approxDiv near c.step
  let lead := ((d - near) / c.period).toNat
  let late : Sclk := { c with mag := mag }
  let cs := (spreadSteps n (max lead (ceilDiv n.natAbs 128))).zipIdx.map fun x =>
    (if x.2 < lead then c.period else late.period) + x.1 * c.step
  ({ (late.goOn a.1 a.2.1 a.2.2 cs) with marker := some (lead + pix0 : Nat) }, n)

/-- Pre-alignment (R164) from an accepted BD_EOS edge at e towards the target of sos_pred q, by at most T/64 per cycle until 2 µs before q,
and whether that reaches it. -/
def Sclk.preAligned (c : Sclk) (q e : Stamp) (phase : Int) : Sclk × Bool :=
  let a := c.nextEdge (c.past e)
  let n := approxDiv (nearestEdge c.period (c.target q phase - a.2.1)) c.step
  let m := 16 * ((c.past q - 2048000 * c.den - a.2.1) / c.period).toNat
  let k := clampI (-m) m n
  (c.goOn a.1 a.2.1 a.2.2 ((spreadSteps k (ceilDiv k.natAbs 16)).map fun x => c.period + x * c.step), decide (k = n))

/-- Whether every cycle of a pre-alignment has begun 8 ns after a stamp. -/
def Sclk.settled (c : Sclk) (t : Stamp) : Bool := decide ((c.cycles.length : Int) ≤ (c.nextEdge (c.past t + 8192 * c.den)).1)

/-- A new POST from a stamp on (R168): it is taken at the next falling edge, and the new period starts with the rising edge after it. The
marker keeps its place. -/
def Sclk.repost (c : Sclk) (t : Stamp) (post : Nat) : Sclk :=
  let x := c.past t
  let new : Sclk := { c with post := post }
  if x < c.start then new
  else
    let k := c.cycleAt x
    let i := k.1
    let next := c.edge (i + 2) - c.edge (i + 1)
    let keep := if (c.level x).isSome then [k.2.2] else [k.2.2, next]
    let rest := c.cycles.drop (i.toNat + keep.length)
    new.goOn i k.2.1 k.2.2 (keep ++ if i < 0 then [] else rest.map fun l => l + (new.period - c.period))

/-- The clock stops at a stamp: the present high phase ends at its normal length (R170). -/
def Sclk.stopAt (c : Sclk) (t : Stamp) : Sclk :=
  match c.stop with
  | some _ => c
  | none => { c with stop := some ((c.level (c.past t)).getD (c.past t)) }

/-- The clock that starts at a stamp after another, which may still be high, with a divider pair: low for at least two cycles, as much longer
as a free value says, then ordinary cycles without a marker (R169). -/
def Sclk.started (old : Option Sclk) (t : Stamp) (w0 post wait : Nat) : Sclk :=
  let c : Sclk := { ref := t, first := 0, was := 1, cycles := [], w0 := w0, post := post, mag := 0, marker := none, tail := 0, start := 0
                    stop := none }
  let tail : Int := match old with
    | some o => match o.level (o.past t) with
      | some z => -((-((z - o.past t) * c.den)) / o.den)
      | none => 0
    | none => 0
  let go := tail + 2 * c.period + wait
  { c with first := go, was := c.period, tail := tail, start := go }

/-! ### Facet times (R139) -/

/-- Change the facet state of station s. -/
def Hw.modFac (h : Hw) (s : Nat) (f : Facets → Facets) : Hw := h.modStn s fun t => { t with facets := f t.facets }

/-- p_rev: the time of the last ten SOS intervals. -/
def Facets.rev (f : Facets) : Option Stamp :=
  match f.sos with
  | a :: rest => (rest[9]?).map fun b => a - b
  | [] => none

/-- sos_pred of the facet k after the one scanning, k = 1 to 10. -/
def Facets.pred (f : Facets) (k : Nat) : Option Stamp :=
  match f.rev, f.sos[10 - k]? with
  | some p, some t => some (t + p)
  | _, _ => none

/-- eos_pred of the facet k after the one scanning; where the facet a revolution before had no BD_EOS edge, its last SCAN_DUR stands in
(DEDUCED, assumption 36). -/
def Facets.predEos (f : Facets) (k dur : Nat) : Option Stamp :=
  match f.rev, f.sos[10 - k]? with
  | some p, some t => some ((match f.eos.getD (10 - k) none with
      | some e => e
      | none => t + BitVec.ofNat 64 (64 * dur)) + p)
  | _, _ => none

/-- The facet sequence number scanning. -/
def Hw.facetSeq (h : Hw) (s : Nat) : Nat := h.rd (pSWATH s) SWATH.FACET_SEQ

/-- SCAN_DUR of facet number f, 1/16 ns. -/
def Hw.scanDur (h : Hw) (s f : Nat) : Nat := h.rdi (pSWATH s) SWATH.SCAN_DUR (f % 10)

/-! ### Lock (R172) -/

/-- The capture of the SCANCLK page (R174). -/
def Hw.scCap (h : Hw) (s : Nat) : Cap := ⟨h.facetSeq s, 0x0600 + s, 0, false⟩

/-- SCLK_UNLOCK, with the page exposing on the station spoiled (R158, R163, R172). -/
def Hw.sclkUnlock (h : Hw) (s : Nat) : Hw :=
  ((h.wr (pSCANCLK s) SCANCLK.SC_STS_LOCKED 0).raise (pSCANCLK s) 0 (h.scCap s)).spoilStation s 0x11 |>.later .govInputs

/-- Whether the conditions of R172 hold. -/
def Hw.lockHolds (h : Hw) (s : Nat) : Bool :=
  let p := pSCANCLK s
  let f := (h.stn s).facets
  let d := h.divAct s
  h.is p SCANCLK.SC_STS_PLL_LOCK && h.is p SCANCLK.SC_STS_RUNNING && pairGood d.1 d.2 && !h.is p SCANCLK.SC_STS_WORD_BAD
    && decide (10 ≤ f.good) && decide (f.fly < 2)

/-- Bring LOCKED up to date: its fall while a page exposes raises SCLK_UNLOCK and spoils the page (R172). -/
def Hw.lockJudge (h : Hw) (s : Nat) : Hw :=
  let p := pSCANCLK s
  if h.lockHolds s then h.wr p SCANCLK.SC_STS_LOCKED 1
  else if h.is p SCANCLK.SC_STS_LOCKED && h.exposingOn s then h.sclkUnlock s
  else (if h.is p SCANCLK.SC_STS_LOCKED then h.later .govInputs else h).wr p SCANCLK.SC_STS_LOCKED 0

/-! ### Start and stop (R169–R171) -/

/-- SCLK_s while it runs. -/
def Facets.running (f : Facets) : Option Sclk := f.clk.filter fun c => c.stop.isNone

/-- SCLK_s stops: it is held low from the end of a high phase on (R170). -/
def Hw.sclkStop (h : Hw) (s : Nat) : Hw :=
  let h := h.modFac s fun f => { f with clk := f.clk.map fun c => c.stopAt h.clk.time }
  ((h.wr (pSCANCLK s) SCANCLK.SC_STS_RUNNING 0).wr (pSCANCLK s) SCANCLK.SC_STS_FLYWHEEL 0).lockJudge s

/-- SCLK_s starts where EN, the PLL and the active pair allow it (R169): no facet has a number, and no SOS edge is known (R138, R162). When
its first edge comes after at least 2T is not stated (free). INDEX_OK keeps its value (DESIGN CHOICE, assumption 95). -/
def Hw.sclkGo (h : Hw) (s : Nat) : Hw :=
  let p := pSCANCLK s
  let d := h.divAct s
  if h.is p SCANCLK.SC_CTRL_EN && h.runs p && h.is p SCANCLK.SC_STS_PLL_LOCK && pairGood d.1 d.2 && !h.is p SCANCLK.SC_STS_RUNNING then
    let x := h.free 64
    let h := x.2.modFac s fun f =>
      { f with num := none, sos := [], eos := [], eosSeen := false, indexSeen := false, noIndex := 0, indexThisRev := false
               strays := [], rebase := none, fly := 0, good := 0, plans := [], aligned := false
               clk := some (Sclk.started f.clk h.clk.time d.1 (postDiv d.2) x.1) }
    (h.wr p SCANCLK.SC_STS_RUNNING 1).wr (pSWATH s) SWATH.SW_STS_FACET_VALID 0
  else h

/-- The scan clock of station s starts (R169). -/
def sclkStart (s : StationNo) (h : Hw) : Hw := h.sclkGo s

/-- A write of SC_CTRL.EN (R169, R170). -/
def sclkEnWrite (m : Master) (s : StationNo) (v : Bool) (h : Hw) : Hw :=
  h.writeTo m (addrOf SCANCLK.SC_CTRL_EN (pSCANCLK s) 0) fun h =>
    let h := h.wr (pSCANCLK s) SCANCLK.SC_CTRL_EN (b2n v)
    if v then h else (h.sclkStop s).commitOff (pSCANCLK s)

/-! ### Divider updates (R168) -/

/-- The words of a grade's row go to the pending pair of station s at a stamp, and replace the active pair as R168 says. -/
def Hw.divLoad (h : Hw) (s g : Nat) (t : Stamp) : Hw :=
  let p := pSCANCLK s
  let w0 := h.grade g 8 4
  let w1 := h.grade g 0xC 4
  let a := h.divAct s
  if !pairGood w0 w1 then (h.wr p SCANCLK.SC_STS_WORD_BAD 1).sclkUnlock s
  else
    let h := ((h.wr p SCANCLK.SC_STS_WORD_BAD 0).wr p SCANCLK.DIV_PEND0 w0).wr p SCANCLK.DIV_PEND1 w1
    if a.1 ≠ w0 then
      let h := (h.wr p SCANCLK.SC_STS_PEND 1).wr p SCANCLK.SC_STS_PLL_LOCK 0
      (h.modFac s fun f => { f with relock := true }).sclkStop s
    else
      let h := h.wr p SCANCLK.DIV_ACT1 w1
      if pairPost a.2 ≠ pairPost w1 then
        (h.modFac s fun f => { f with good := 0, clk := f.clk.map fun c => if c.stop.isSome then c else c.repost t (postDiv w1) }).lockJudge s
      else h

/-- The PLL has relocked to the pending pair, and SCLK_s starts again (R168, R169). -/
def pllRelockDone (s : StationNo) (h : Hw) : Hw :=
  let p := pSCANCLK s
  if !(h.stn s).facets.relock then h
  else
    let h := (h.wr p SCANCLK.DIV_ACT0 (h.rd p SCANCLK.DIV_PEND0)).wr p SCANCLK.DIV_ACT1 (h.rd p SCANCLK.DIV_PEND1)
    let h := (h.wr p SCANCLK.SC_STS_PEND 0).wr p SCANCLK.SC_STS_PLL_LOCK 1
    (h.modFac s fun f => { f with relock := false }).sclkGo s

/-! ### Pages beginning and ending on a station (R148, R168) -/

/-- The page's last facet on station s has ended: EXPOSED follows on the last station to reach it; a pending grade change loads the
dividers where the station carries no other page. -/
def Hw.pageEnds (h : Hw) (s d : Nat) (t : Stamp) : Hw :=
  let h := h.modPage d fun g => g.modOn s fun o => { o with ended := true }
  let h := h.showExposing s
  let h := match h.page? d with
    | some g => if decide (g.state = PState.exposing) && (List.range 8).all fun k => !g.uses k || (g.on k).ended then h.enterState d .exposed 0 else h
    | none => h
  let h := (h.showInUse s).reviveHeld s
  if h.is pHEADRACE HEADRACE.HR_STS_PEND_VALID && !h.stationBusy s then h.divLoad s (h.rd pHEADRACE HEADRACE.HR_STS_PEND_GRADE) t else h

/-- The pages whose last facet on station s is facet g end there. -/
def Hw.endPages (h : Hw) (s g : Nat) (t : Stamp) : Hw :=
  ((h.headrace.pages.filter fun x => x.uses s && (x.on s).began && !(x.on s).ended && decide ((x.on s).planner.lastFacet = some g)).map
    PageRec.desc).foldl (fun h d => h.pageEnds s d t) h

/-- The pages whose first facet on station s is facet g begin there (R148), and are spoiled where both belt channels have a hardware fault
(R235). -/
def Hw.beginPages (h : Hw) (s g : Nat) : Hw :=
  ((h.headrace.pages.filter fun x => x.uses s && !(x.on s).began && decide ((x.on s).planner.firstFacet = some g)).map
    PageRec.desc).foldl (fun h d =>
      let h := h.modPage d fun x => x.modOn s fun o => { o with began := true }
      let h := match h.page? d with
        | some x => if x.state = PState.admitted then h.enterState d .exposing 0 else h
        | none => h
      let h := if h.beltFault 0 && h.beltFault 1 then h.later (.spoilFlight 0x13) else h
      (h.showExposing s).modSurf s fun u => { u with back := 0 }) h

/-! ### Facet counting (R138) -/

/-- The capture of the SWATH page (R155), with a line and a descriptor index. -/
def swCap (s e d : Nat) : Cap := ⟨e % 2 ^ 32 + 2 ^ 32 * d, 0x0600 + s, 0, false⟩

/-- The capture with the page exposing on station s; without one, line 0 and index 0 (DESIGN CHOICE, assumption 95). -/
def Hw.slipCap (h : Hw) (s : Nat) : Cap :=
  match h.headrace.pages.find? fun g => g.exposes s with
  | some g => swCap s (g.on s).planner.e g.desc
  | none => swCap s 0 0

/-- The number of the facet that begins next (R138): the count goes on from 0 with an accepted index edge, or from the new position in a
gap. -/
def Hw.nextNum (h : Hw) (s : Nat) : Option Nat :=
  let f := (h.stn s).facets
  match f.rebase with
  | some r => if h.exposingOn s then f.num.map fun n => (n + 1) % 10 else some ((h.facetSeq s + 2 ^ 32 - r) % 2 ^ 32 % 10)
  | none => if f.indexSeen then some 0 else f.num.map fun n => (n + 1) % 10

/-- A facet begins at t, by an accepted edge or flywheeled: the one before it ends, and the numbering moves on (R138, R162, R163). INDEX_OK
is set where a revolution began and ended with an accepted index edge (DEDUCED, assumption 95). -/
def Hw.facetBegins (h : Hw) (s : Nat) (t : Stamp) (fly : Bool) : Hw :=
  let p := pSWATH s
  let f := (h.stn s).facets
  let g := h.facetSeq s
  let h := if f.sos.isEmpty || f.eosSeen then h else h.inc (pSCANCLK s) SCANCLK.EOS_MISS
  let h := h.endPages s g t
  let missed := decide (f.num = some 9) && !f.indexSeen
  let wraps := f.indexSeen || decide (f.num = some 9)
  let h := if missed then h.inc p SWATH.INDEX_MISS else h
  let slip := missed && decide (f.noIndex = 2)
  let h := if slip then (h.wr p SWATH.SW_STS_INDEX_OK 0).raise p 2 (h.slipCap s) else h
  let h := if f.indexSeen && f.indexThisRev then h.wr p SWATH.SW_STS_INDEX_OK 1 else h
  let num := h.nextNum s
  let re := f.rebase.isSome && !h.exposingOn s
  let h := h.modFac s fun f =>
    { f with num := num, sos := (t :: f.sos).take 11, eos := (none :: f.eos).take 11, eosSeen := false, indexSeen := false, aligned := false
             noIndex := if f.indexSeen then 0 else if missed then min 3 (f.noIndex + 1) else f.noIndex
             indexThisRev := if wraps then f.indexSeen else f.indexThisRev, waitRev := f.waitRev - 1
             rebase := if re then none else f.rebase
             strays := f.strays.filter fun x => decide ((g + 2 ^ 32 - x) % 2 ^ 32 < 10) }
  let h := h.wr p SWATH.FACET_SEQ ((g + 1) % 2 ^ 32)
  let h := match num with
    | some n => (h.wr p SWATH.SW_STS_FACET n).wr p SWATH.SW_STS_FACET_VALID 1
    | none => h.wr p SWATH.SW_STS_FACET_VALID 0
  let h := match (h.stn s).facets.rev with
    | some r => h.wr p SWATH.REV_PERIOD (r.toNat / 64 % 2 ^ 32)
    | none => h
  (if fly then h else h.emSos s ((g + 1) % 2 ^ 32)).beginPages s ((g + 1) % 2 ^ 32)

/-- An INDEX_s edge (R138): accepted, or outside the window. Outside it at one position in two consecutive revolutions, the numbering is
to be re-based on that position. -/
def polyIndexEdge (s : StationNo) (h : Hw) : Hw :=
  let p := pSWATH s
  let f := (h.stn s).facets
  let g := h.facetSeq s
  match f.num with
  | none => if f.eosSeen then h.modFac s fun f => { f with indexSeen := true } else h
  | some n =>
    if n = 9 ∧ f.eosSeen then h.modFac s fun f => { f with indexSeen := true }
    else
      let h := h.inc p SWATH.INDEX_MISS
      if f.strays.contains ((g + 2 ^ 32 - 10) % 2 ^ 32) then
        let h := (h.raise p 2 (h.slipCap s)).spoilStation s 0x11
        h.modFac s fun f => { f with rebase := some g, strays := [] }
      else h.modFac s fun f => { f with strays := g :: f.strays }

/-! ### Phase correction and polygon phase (R164–R167, R173, R501) -/

/-- Whether a residual in PRESS_TIME units, or a correction in steps, is completed after the anchor edge (R166). -/
def residLate (post : Nat) (r : Int) : Bool :=
  if post = 0 then false else if post = 1 then decide (26624 < 10 * r.natAbs) else decide (178176 < 100 * r.natAbs)
def stepsLate (w0 w1 : Nat) (n : Int) : Bool :=
  let z := n.natAbs * 16 * postDiv w1 * 2 ^ 24
  if pairPost w1 = 0 then false else if pairPost w1 = 1 then decide (26624 * w0 < 10 * z) else decide (178176 * w0 < 100 * z)

/-- The entry in use of the facet table for a facet number: PHASE and MAG (R167). The entry of a facet whose number is not known is not
stated (free, assumption 1). -/
def Hw.facetEntry (h : Hw) (s : Nat) : Option Nat → (Int × Int) × Hw
  | some f => ((signed 10 (h.usei (pSCANCLK s) SCANCLK.FT_PHASE f), signed 16 (h.usei (pSCANCLK s) SCANCLK.FT_MAG f)), h)
  | none =>
    let x := h.free 10
    let y := x.2.free 16
    ((signed 10 x.1, signed 16 y.1), y.2)

/-- SCLK_s is pre-aligned from an accepted BD_EOS edge on for the facet that comes next (R164). Without sos_pred there is no pre-alignment
(R501). -/
def Hw.preAlign (h : Hw) (s : Nat) (e : Stamp) : Hw :=
  let f := (h.stn s).facets
  match f.running, f.pred 1 with
  | some c, some q =>
    let x := h.facetEntry s (h.nextNum s)
    let r := c.preAligned q e x.1.1
    x.2.modFac s fun f => { f with clk := some r.1, aligned := r.2 }
  | _, _ => h

/-- Whether the pre-alignment is finished for a facet that begins at t (R164, R501). -/
def Hw.wasAligned (h : Hw) (s : Nat) (t : Stamp) : Bool :=
  let f := (h.stn s).facets
  f.aligned && match f.running with
    | some c => c.settled t
    | none => false

/-- Record a correction of n steps (R165, R166, R501): LATE by the residual, and where the pre-alignment was not finished, by the whole
correction (DEDUCED, assumption 96). -/
def Hw.showCorr (h : Hw) (s : Nat) (n : Int) (resid : Option Int) (aligned : Bool) : Hw :=
  let p := pSCANCLK s
  let d := h.divAct s
  let late := match resid with
    | some r => residLate (pairPost d.2) r || (!aligned && stepsLate d.1 d.2 n)
    | none => stepsLate d.1 d.2 n
  let h := (h.wr p SCANCLK.CORR_STEPS (unsignedOf 11 n)).wr p SCANCLK.CORR_LATE_FLAG (b2n late)
  if late then h.inc p SCANCLK.CORR_LATE else h

/-- The facet that has begun at t is corrected to its anchor edge (R165, R501). -/
def Hw.anchorAt (h : Hw) (s : Nat) (t : Stamp) (resid : Option Int) (aligned : Bool) : Hw :=
  let f := (h.stn s).facets
  match f.running with
  | none => h
  | some c =>
    let x := h.facetEntry s f.num
    let r := c.anchored t x.1.1 x.1.2 (pairPix0 (h.divAct s).2)
    (x.2.modFac s fun f => { f with clk := some r.1 }).showCorr s r.2 resid aligned

/-- The phase error of R173 at an SOS stamp. -/
def Hw.phaseErr (h : Hw) (s : Nat) (t : Stamp) : Int :=
  let fac := 61440000000000 / (10 * h.polyRpm h.runGrade)
  let origin := h.use pCLOCK CLOCK.ORIGIN_LO + 2 ^ 32 * h.use pCLOCK CLOCK.ORIGIN_HI
  let e := (t - BitVec.ofNat 64 (origin + h.usei pCLOCK CLOCK.POLY_OFS s)).toInt
  if fac = 0 then e else e - fac * roundHalfUp e fac

/-- Whether any station's phase error stands above a limit while it is locked. -/
def Hw.phaseAbove (h : Hw) (f : Field) : Bool :=
  (List.range 8).any fun s => h.is (pSCANCLK s) SCANCLK.SC_STS_LOCKED
    && decide (h.rd pCLOCK f < (signed 32 (h.rd (pSCANCLK s) SCANCLK.PHASE_ERR)).natAbs)

/-- The polygon phase is measured at an accepted edge (R173, R255). -/
def Hw.phaseMeasure (h : Hw) (s : Nat) (t : Stamp) : Hw :=
  if h.polyRpm h.runGrade = 0 then h
  else
    let e := h.phaseErr s t
    let warn := decide (h.rd pCLOCK CLOCK.PHASE_WARN < e.natAbs)
    let fail := decide (h.rd pCLOCK CLOCK.PHASE_FAIL < e.natAbs)
    let h := h.wr (pSCANCLK s) SCANCLK.PHASE_ERR (satSigned 32 e)
    let h := h.modAx s fun a => { a with phaseGood := if warn then 0 else min 10 (a.phaseGood + 1) }
    let h := h.wr (pAXIS s) AXIS.AX_STS_PHASE_LOCK (b2n (decide (10 ≤ (h.ax s).phaseGood)))
    let h := h.modFac s fun f =>
      let n := if warn then 0 else min 10 (f.phaseGood + 1)
      { f with phaseGood := n, phaseFail := f.phaseFail && decide (n < 10) }
    let h := (h.persist pCLOCK 4 (h.phaseAbove CLOCK.PHASE_WARN)).persist pCLOCK 5 (h.phaseAbove CLOCK.PHASE_FAIL)
    if !h.is (pSCANCLK s) SCANCLK.SC_STS_LOCKED then h
    else
      let h := if warn then (h.setBit pCLOCK CLOCK.PHASE_STN s true).raise pCLOCK 4 (cap0 s) else h
      if fail then ((h.setBit pCLOCK CLOCK.PHASE_STN s true).modFac s fun f => { f with phaseFail := true }).raise pCLOCK 5 (cap0 s) else h

/-! ### Beam-detect edges (R161–R163) -/

/-- Whether an SOS interval lies within ±0.05 % of the facet period of the running grade (R172). -/
def Hw.intervalGood (h : Hw) (d : Nat) : Bool :=
  let rpm := h.polyRpm h.runGrade
  let fac : Int := 61440000000000
  decide (rpm ≠ 0) && decide (2000 * ((d * 10 * rpm : Nat) - fac).natAbs ≤ 61440000000000)

/-- Whether an SOS edge at t is accepted (R162). -/
def Hw.sosAccepted (h : Hw) (s : Nat) (t : Stamp) : Bool :=
  let f := (h.stn s).facets
  match f.sos with
  | [] => true
  | last :: _ =>
    if h.is (pSCANCLK s) SCANCLK.SC_STS_LOCKED then
      match f.pred 1 with
      | some q => decide ((t - q).toInt.natAbs ≤ h.use (pSCANCLK s) SCANCLK.BD_WIN * 1024)
      | none => true
    else decide (10240000 ≤ (t - last).toNat)

/-- A facet begins at t with its correction and its interval (R162, R163, R165). An accepted edge ends a row of flywheeled facets, so that
LOCKED may return with it (R172; DESIGN CHOICE, assumption 138). -/
def Hw.sosTake (h : Hw) (s : Nat) (t : Stamp) (fly : Bool) : Hw :=
  let h := h.govTrigger 3 s
  let aligned := h.wasAligned s t
  let p := pSCANCLK s
  let f := (h.stn s).facets
  let ok : Option Bool := (f.sos.head?).map fun last => h.intervalGood (t - last).toNat
  let resid : Option Int := (f.pred 1).map fun q => (t - q).toInt
  let h := match resid with
    | some r => h.wr p SCANCLK.RESID (satSigned 32 r)
    | none => h
  let h := (h.facetBegins s t fly).anchorAt s t resid aligned
  let h := h.modFac s fun f =>
    { f with fly := if fly then f.fly + 1 else 0, good := match ok with
        | some true => min 10 (f.good + 1)
        | _ => 0 }
  h.wr p SCANCLK.SC_STS_FLYWHEEL (b2n fly)

/-- A BD_SOS edge, rising or falling (R161, R162, R165, R172–R174). An accepted one is the boundary of a COMMIT, but while a page exposes;
its facet is corrected with the new values. -/
def bdSos (s : StationNo) (t : Stamp) (falling : Bool) (h : Hw) : Hw :=
  let p := pSCANCLK s
  if decide (h.use p SCANCLK.SC_CTRL_SOS_EDGE = 1) != falling then h
  else if !h.sosAccepted s t then h.inc p SCANCLK.BD_SPUR
  else
    let h := h.endPages s (h.facetSeq s) t
    let h := if h.exposingOn s then h else h.commitWhole p
    let h := (h.sosTake s t false).wr2 p SCANCLK.SOS_TIME_LO SCANCLK.SOS_TIME_HI 0 t.toNat
    (h.lockJudge s).phaseMeasure s t

/-- The SOS window of a locked station has closed without an edge: the facet is flywheeled (R163). -/
def bdMiss (s : StationNo) (h : Hw) : Hw :=
  let p := pSCANCLK s
  match (h.stn s).facets.pred 1 with
  | none => h
  | some q =>
    if !h.is p SCANCLK.SC_STS_LOCKED then h
    else
      let h := h.sosTake s q true
      let h := (h.inc p SCANCLK.BD_MISS).raise p 1 (h.scCap s)
      if 2 ≤ (h.stn s).facets.fly then h.sclkUnlock s else h.lockJudge s

/-- A BD_EOS edge, rising or falling (R161, R162): accepted where it is the first one later than 0.9 × the last
SCAN_DUR of the facet after its SOS; on a facet that has no number, and so no SCAN_DUR, the first one is (DESIGN CHOICE, assumption 139).
The pre-alignment for the next facet begins with it (R164). -/
def bdEos (s : StationNo) (t : Stamp) (falling : Bool) (h : Hw) : Hw :=
  let f := (h.stn s).facets
  if decide (h.use (pSCANCLK s) SCANCLK.SC_CTRL_EOS_EDGE = 1) != falling then h else
  match f.sos with
  | [] => h
  | sos :: _ =>
    let d := (t - sos).toNat
    let dur := match f.num with
      | some n => h.scanDur s n
      | none => 0
    if f.eosSeen ∨ 10 * d ≤ 576 * dur then h
    else
      let h := h.wr2 (pSCANCLK s) SCANCLK.EOS_TIME_LO SCANCLK.EOS_TIME_HI 0 t.toNat
      let h := h.modFac s fun f => { f with eosSeen := true, eos := f.eos.set 0 (some t) }
      let h := match f.num with
        | some n => h.wri (pSWATH s) SWATH.SCAN_DUR n (d / 64 % 2 ^ 24)
        | none => h
      (h.preAlign s t).endPages s (h.facetSeq s) t

/-! ### Clocks of the die (R175) -/

/-- The 1 GHz system PLL loses lock. -/
def syspllUnlock (h : Hw) : Hw := (h.wr pCLOCK CLOCK.CLK_STS_SYSPLL_LOCK 0).raise pCLOCK 0 (cap0 0)

/-- The 1.25 GHz pipeline PLL loses lock. -/
def corepllUnlock (h : Hw) : Hw := (h.wr pCLOCK CLOCK.CLK_STS_COREPLL_LOCK 0).raise pCLOCK 1 (cap0 0)

/-- A clock monitor sees a clock outside ±0.5 %. -/
def clkMon (h : Hw) : Hw := (h.wr pCLOCK CLOCK.CLK_STS_MON_OK 0).raise pCLOCK 3 (cap0 0)

/-- A block reset of ST[s].SCANCLK (R170, R174). -/
def Hw.resetScanClock (h : Hw) (s : Nat) : Hw :=
  let h := (h.modFac s fun f => { f with good := 0 }).sclkStop s
  let h := [SCANCLK.BD_MISS, SCANCLK.BD_SPUR, SCANCLK.EOS_MISS, SCANCLK.CORR_LATE].foldl (fun h f => h.wr (pSCANCLK s) f 0) h
  h.spoilCarried s 0x11

end Sys2Proof.Machine
end

