-- ==== Sys2Proof/Machine/Swath.lean ====
section
/-! DEFINITION. The swath planner: the plan of a facet, its requests and its frame, and a station's health for admission (R76, R140–R155,
R187, R212). -/

namespace Sys2Proof.Machine

/-! ### Condition 3 of R76 -/

/-- Whether VHEAD_s has lost power-good while its enable is set (R365). -/
def Hw.vheadLost (h : Hw) (s : Nat) : Bool := h.bit pSUPPLY SUPPLY.RAIL_EN_LO (18 + s) && !h.bit pSUPPLY SUPPLY.RAIL_PG_LO (18 + s)

/-- Whether a head fault is outstanding on station s (R138, R151, R155, R173, R185, R219, R250, R365). -/
def Hw.headFaulty (h : Hw) (s : Nat) : Bool :=
  let t := h.stn s
  !h.is (pSWATH s) SWATH.SW_STS_INDEX_OK || t.facets.phaseFail || h.beamFault s || bitAt h.headrace.headFault (16 + s) || h.vheadLost s
    || decide (t.emit.failed ≠ 0) || !t.emit.redownload.isEmpty || (h.chan (headOf s) 3).failed || (h.chan (headOf s) 4).failed
    || !h.is (pSWATH s) SWATH.SW_CTRL_EN || !h.runs (pSWATH s)

/-- Whether every module the chain map in use names is a MEMBER, where the chain is on (R442). -/
def Hw.chainWhole (h : Hw) : Bool :=
  !h.is pPEERA PEER.CHAIN_CFG_CHAIN_EN
    || (List.range 16).all fun m =>
      decide (m = 0) || decide (h.usei pPEERA PEER.CMAP_PRESENT m = 0) || h.bit pPEERA PEER.CHAIN_STS_MEMBERS m

/-- The stations that CMAP names for module m, while it is a MEMBER (R442). -/
def Hw.memberStations (h : Hw) (m : Nat) : Nat :=
  if h.usei pPEERA PEER.CMAP_PRESENT m = 1 ∧ h.bit pPEERA PEER.CHAIN_STS_MEMBERS m = true then h.usei pPEERA PEER.CMAP_STATIONS m else 0

/-- The press set (R442): bit 8m + s is station s of module m. A module alone has the stations that came up; in a chain the Headstock's are
there as they came up, those of every MEMBER as CMAP names them, a Tailstock's own where they came up too (DEDUCED, assumption 166). -/
def Hw.pressSet (h : Hw) : Nat :=
  let own := h.rd pPEERA PEER.CHAIN_CFG_MODULE
  let up := h.headrace.pressSet
  if !h.is pPEERA PEER.CHAIN_CFG_CHAIN_EN then up * 2 ^ (8 * own)
  else
    let head := h.rd pPEERA PEER.CHAIN_CFG_ROLE = 0
    (List.range 16).foldl (fun a m =>
      let named := h.memberStations m
      let mask := if m = own then (if head then up else named &&& up) else if m = 0 then 0 else named
      a + mask * 2 ^ (8 * m)) 0

/-- The stations of this module that are in the press set. -/
def Hw.ownSet (h : Hw) : Nat := h.pressSet / 2 ^ (8 * h.rd pPEERA PEER.CHAIN_CFG_MODULE) % 256

/-- Condition 3 of R76 for station s. -/
def Hw.stationOk (h : Hw) (s : Nat) : Bool :=
  bitAt h.ownSet s && h.chainWhole && h.linkUp (headOf s) && h.is (pSCANCLK s) SCANCLK.SC_STS_LOCKED
    && h.isi pTIME TIME.SURF_STS_VALID s && !h.headFaulty s

/-- Condition 3 of R76 for a page. -/
def Hw.pageStationsOk (h : Hw) (g : PageRec) : Bool := (List.range 8).all fun s => !g.uses s || h.stationOk s

/-! ### The planner (R143) -/

/-- What the planner reads for a page: q and a, the page's length in lines, RET_HOLD, the lines of the 15 facets before, MAX16,
FORCE_SINGLE, and whether prefill is done. -/
structure PlanIn where
  q : Int
  a : Int
  len : Nat
  retHold : Nat
  before : Nat
  max16 : Nat
  force : Bool
  prefilled : Bool
deriving DecidableEq, Repr

/-- A beam's role on a facet (R141): 1 FIRST, 2 SECOND, 3 FULL, with its line. -/
structure Role where
  beam : Int
  role : Nat
  line : Nat
deriving DecidableEq, Repr

/-- What the planner decides for a page: its new state, n, k, the lines requested with their PHI, the roles, phi of the plan, dev, and
whether the mode changed. -/
structure PlanOut where
  pl : Planner
  n : Int
  k : Int
  lines : Nat
  reqs : List (Nat × Int)
  roles : List Role
  phi : Int
  dev : Int
  fallback : Bool
deriving DecidableEq, Repr

/-- The lines from a to below b. -/
def linesFrom (a b : Nat) : List Nat := (List.range (b - a)).map fun i => a + i

/-- The offset committed for this facet, and the prediction it was made from (R143). -/
def Planner.committed (p : Planner) (q : Int) : Int × Int := if p.started then (p.nNext, p.qNext) else ((q + 32) / 64, q)

/-- One run of R143 for a page: a spoil reason, or the plan. -/
def planFacet (x : PlanIn) (p : Planner) : Except Nat PlanOut :=
  let c := p.committed x.q
  let n := c.1
  let dev := x.q - c.2
  let q1 := x.q + x.a
  let n1 := (q1 + 32) / 64
  let r := clampI (-32) 31 (x.q - 64 * n)
  let r1 := q1 - 64 * n1
  let k := n1 - n
  let dual := (p.dual || decide (x.retHold ≤ p.hold)) && decide (k ≤ 24) && !x.force
  let eNew := min (max (n1 + if dual then 24 else 23) p.e).toNat x.len
  let lines := eNew - p.e
  let checks := p.started || decide (0 < lines)
  if checks && decide (32 < dev.natAbs) then .error 0x11
  else if checks && decide (26 ≤ k) then .error 0x14
  else if checks && decide (k < 0) then .error 0x13
  else if checks && decide (x.max16 < x.before + lines) then .error 0x14
  else if checks && decide (0 < lines) && !x.prefilled then .error 0x11
  else
    let lo := min (max (p.e : Int) n1).toNat eNew
    let phi := if dual then (r + r1 + 1) / 2 else r
    let full := if dual then linesFrom p.e lo else linesFrom p.e eNew
    let first := if dual then linesFrom lo eNew else []
    let role (c : Nat) (y : Nat) : Role := ⟨(y : Int) - n, c, y⟩
    let started := p.started || decide (0 < lines)
    .ok
      { pl := { p with e := eNew, sp0 := if dual then lo else eNew, sp1 := eNew, nNext := n1, qNext := q1, dual := dual
                       hold := if k ≤ 24 then min (p.hold + 1) 63 else 0, started := started
                       left := decide (eNew = x.len) && (!dual || decide (lo = eNew)) }
        n := n, k := k, lines := lines
        reqs := (full.map fun y => (y, r)) ++ first.map fun y => (y, phi)
        roles := ((linesFrom p.sp0 p.sp1).map (role 2)) ++ (full.map (role 3)) ++ first.map (role 1)
        phi := phi, dev := dev, fallback := decide (dual ≠ p.dual) && started }

/-! ### The FACET frame (R212) -/

/-- The word of beam b in a FACET frame: the last role given to it. -/
def roleWord (roles : List Role) (b : Nat) : Nat :=
  match (roles.filter fun x => decide (x.beam = (b : Int))).getLast? with
  | some x => x.role + 256 * x.line
  | none => 0

/-- The FACET frame of facet g, numbered f, with the page carried, its k and its roles; without a page every beam is BLANK. -/
def facetFrame (g f : Nat) (sosPred : Stamp) (page : Option (Nat × Nat × List Role)) : Frame :=
  let roles := match page with
    | some (_, _, rs) => rs
    | none => []
  let param := match page with
    | some (d, k, _) => g + 2 ^ 32 * f + 2 ^ 36 * k + 2 ^ 41 * d
    | none => g + 2 ^ 32 * f + 2 ^ 61
  plainFrame 2 0x20 param (toLE 8 sosPred.toNat ++ (List.range 48).flatMap fun b => toLE 4 (roleWord roles b))

/-! ### The run of a facet (R140, R143, R144) -/

/-- MAX16 for a polygon speed (R145). -/
def max16Of (rpm : Nat) : Nat := if rpm = 0 then 0 else min 4095 (16 * 7500000000 / (rpm * 6272))

/-- The advance v·T + a·T²/2 of R143 on station s, rounded half up. -/
def Hw.surfAdvance (h : Hw) (s t : Nat) : Int :=
  let c := h.drumCh s
  let cpr := h.usei pTIME TIME.COUNTS_PER_REV s
  let spr := h.usei pTIME TIME.SURF_PER_REV s
  let u : Nat := 1024000000000
  let acc := signed 32 (h.enc c FEEDBACK.ACCEL)
  if cpr = 0 then 0 else roundHalfUp (h.encSpeed c * spr * t * u + 8 * acc * spr * t * t) (16 * cpr * u * u)

/-- The middle of two stamps. -/
def midOf (a b : Stamp) : Nat := (a.toNat + b.toNat) / 2

/-- The times of facet k after the one scanning: sos_pred, mid of it and mid of the next (R139). -/
def Hw.facetTimes (h : Hw) (s k : Nat) : Option (Stamp × Nat × Nat) :=
  let f := (h.stn s).facets
  let n := f.num.getD 0
  match f.pred k, f.predEos k (h.scanDur s (n + k)), f.pred (k + 1), f.predEos (k + 1) (h.scanDur s (n + k + 1)) with
  | some a, some b, some c, some d => some (a, midOf a b, midOf c d)
  | _, _, _, _ => none

/-- Show what was planned for a page on a facet (R155). MODE keeps the mode of the page planned last, and returns to 0 only with a module
reset (DESIGN CHOICE, assumption 136). -/
def Hw.showPlan (h : Hw) (s : Nat) (o : PlanOut) : Hw :=
  let p := pSWATH s
  let h := (h.wr p SWATH.LAST_N (unsignedOf 32 o.n)).wr p SWATH.LAST_PLAN_K (unsignedOf 5 o.k)
  let h := (h.wr p SWATH.LAST_PLAN_LINES o.lines).wr p SWATH.LAST_PLAN_PHI (unsignedOf 6 o.phi)
  let h := h.wr p SWATH.LAST_PLAN_DEV (unsignedOf 8 (clampI (-127) 127 o.dev))
  h.wr p SWATH.SW_STS_MODE (if o.pl.dual then 1 else 2)

/-- The requests of a plan go to the Millrace with their deadline (R144). -/
def Hw.pushRequests (h : Hw) (s : Nat) (reqs : List (Nat × Int)) (sosPred : Stamp) : Hw :=
  let guard := h.use (pSWATH s) SWATH.LINK_GUARD
  let dl : Stamp := sosPred - BitVec.ofNat 64 (10240 * guard)
  let h := h.modStn s fun t => { t with mill := { t.mill with reqs := (t.mill.reqs ++ reqs.map fun r => (⟨r.1, r.2, dl⟩ : LineReq)).take 64 } }
  h.wr (pPIPE s) PIPE.REQ_LEVEL (h.stn s).mill.reqs.length

/-- The planner spoils a page (R143, R155). -/
def Hw.planSpoil (h : Hw) (s : Nat) (d reason e : Nat) : Hw :=
  ((h.inc (pSWATH s) SWATH.SPOIL_CNT).raise (pSWATH s) 0 (swCap s e d)).spoilOne d reason

/-- A plan takes effect on the page: its state, the first facet with ACTIVATE, the requests, the counters (R143, R144, R148,
R187). FALLBACK comes before the new e and captures the line e as it stood. SINGLE_FACETS counts from the page's first line on, not in
its silent run (DESIGN CHOICE, assumption 135). -/
def Hw.planTake (h : Hw) (s g d : Nat) (sosPred : Stamp) (o : PlanOut) : Hw :=
  let p := pSWATH s
  let first := decide (0 < o.lines) && (match h.page? d with
    | some x => ((x.on s).planner.firstFacet).isNone
    | none => false)
  let e := match h.page? d with
    | some x => (x.on s).planner.e
    | none => 0
  let h := h.modPage d fun x => x.modOn s fun on =>
    { on with planner := { o.pl with firstFacet := if first then some g else on.planner.firstFacet
                                     lastFacet := if o.pl.left then some g else none } }
  let h := if first then (match h.page? d with
    | some x => h.emActivate s (x.on s).recd.emit g (x.on s).recd.kill
    | none => h) else h
  let h := h.showPlan s o
  let h := if !o.pl.dual && o.pl.started then h.inc p SWATH.SINGLE_FACETS else h
  let h := if o.fallback then (h.inc p SWATH.FALLBACK_CNT).raise p 1 (swCap s e d) else h
  h.pushRequests s o.reqs sosPred

/-- The planner's run for the page at a descriptor index on facet g: the state after it, the lines it requested, and what the FACET frame
carries. A page whose first facet is due while a station it uses fails condition 3 of R76 returns to RESIDENT (R154). -/
def Hw.planPage (h : Hw) (s g d : Nat) (sosPred : Stamp) (mid midNext : Nat) : Hw × Nat × Option (Nat × Nat × List Role) :=
  match h.page? d with
  | none => (h, 0, none)
  | some x =>
    let o := x.on s
    let p := pSWATH s
    match o.tof with
    | none => (h, 0, none)
    | some tof =>
      let plan := sosPred.toNat - 204800000
      let q := (h.surfPredict s plan (mid - plan) - tof).toInt
      if q < -2 ^ 31 ∨ 2 ^ 31 ≤ q then (h, 0, none)
      else
        let f := (h.stn s).facets
        let i : PlanIn :=
          { q := q, a := h.surfAdvance s (midNext - mid), len := 2 * x.lengthIn, retHold := h.use p SWATH.RET_HOLD
            before := (f.lines15.take 15).foldl (· + ·) 0, max16 := h.rd p SWATH.MAX16
            force := decide (h.use p SWATH.SW_CTRL_FORCE_SINGLE = 1)
            prefilled := o.prefilled && decide ((h.stn s).mill.cur = some d) }
        let dev := q - (o.planner.committed q).2
        let h := if 8 < dev.natAbs then h.inc p SWATH.DEV_CNT else h
        match planFacet i o.planner with
        | .error r =>
          if x.state = .admitted ∧ !o.planner.started ∧ !h.pageStationsOk x then (h.dropPage d, 0, none)
          else (h.planSpoil s d r o.planner.e, 0, none)
        | .ok out =>
          if 0 < out.lines ∧ x.state = .admitted ∧ !o.planner.started ∧ !h.pageStationsOk x then (h.dropPage d, 0, none)
          else
            (h.planTake s g d sosPred out, out.lines, if out.roles.isEmpty then none else some (d, unsignedOf 5 out.k, out.roles))

/-- The pages the planner of station s runs for, in order (R143). -/
def Hw.plannedHere (h : Hw) (s : Nat) : List Nat :=
  (h.headrace.pages.filter fun x =>
    x.uses s && decide (x.state = .admitted ∨ x.state = .exposing) && !(x.on s).planner.left && !(x.on s).ended).map PageRec.desc

/-- Whether the first facet of a page on station s is due, by the belt: its lead edge is within 24 lines of the station's exposure line
(DEDUCED, assumption 98). -/
def Hw.startDue (h : Hw) (s : Nat) (g : PageRec) : Bool :=
  decide (signed 48 (unsignedOf 48 ((g.beltP.toNat : Int) + h.usei pTIME TIME.N_NIP s - h.usei pTIME TIME.D_EXPO s - h.beltNow.toNat)) ≤ 24 * 64)

/-- A page of station s whose first facet is due, while the planner makes no plan or plans on a SURF that is not valid, and a station the
page uses fails condition 3 of R76, returns to RESIDENT (R154). -/
def Hw.dropUnplanned (h : Hw) (s : Nat) : Hw :=
  ((h.headrace.pages.filter fun g => g.uses s && decide (g.state = .admitted) && (List.range 8).all fun k => !(g.on k).planner.started).filter
    fun g => h.startDue s g && !h.pageStationsOk g).foldl (fun h g => h.dropPage g.desc) h

/-- The plan time of the facet k after the one scanning, k = 1 to 3 (R140, R141, R143, R212). A facet planned already, or one of the
revolution after a change of POLY_RPM (R152), is not planned. -/
def planRun (s : StationNo) (k : Fin 4) (h : Hw) : Hw :=
  let p := pSWATH s
  let f := (h.stn s).facets
  let g := (h.facetSeq s + k) % 2 ^ 32
  if k.val = 0 ∨ (f.plans.any fun x => decide (x.1 = g)) then h
  else if !h.is p SWATH.SW_CTRL_EN ∨ !h.runs p ∨ 0 < f.waitRev then h.dropUnplanned s
  else match h.facetTimes s k, f.num with
  | some (sosPred, mid, midNext), some n =>
    let r := (h.plannedHere s).foldl (fun (a : Hw × Nat × Option (Nat × Nat × List Role)) d =>
      let y := a.1.planPage s g d sosPred mid midNext
      (y.1, a.2.1 + y.2.1, if a.2.2.isSome then a.2.2 else y.2.2)) (h, 0, none)
    let h := r.1.modFac s fun f =>
      { f with lines15 := (r.2.1 :: f.lines15).take 15, plans := ((g, r.2.2.map fun x => x.1) :: f.plans).take 65536 }
    let h := if h.isi pTIME TIME.SURF_STS_VALID s then h else h.dropUnplanned s
    if h.is (pSCANCLK s) SCANCLK.SC_STS_LOCKED then h.ivSend s (facetFrame g ((n + k) % 10) sosPred r.2.2) else h
  | _, _ => h.dropUnplanned s

/-- The polygon speed has changed (R152): MAX16 anew, lines16 from 0, and a revolution before the next plan. A grade change of equal
POLY_RPM needs no action in the planner and leaves lines16 as well (R143 against R152: DEDUCED, assumption 134). -/
def Hw.polyChanged (h : Hw) (s rpm : Nat) : Hw :=
  (h.modFac s fun f => { f with lines15 := [], waitRev := 10 }).wr (pSWATH s) SWATH.MAX16 (max16Of rpm)

/-- SW_CTRL.EN is cleared (R155): nothing is planned, and the page planned or exposing is spoiled. -/
def Hw.swathOff (h : Hw) (s : Nat) : Hw := h.spoilCarried s 0x11

/-- A clear of SW_CTRL.EN. -/
def swathEnClear (m : Master) (s : StationNo) (h : Hw) : Hw :=
  h.writeTo m (addrOf SWATH.SW_CTRL_EN (pSWATH s) 0) fun h => (h.wr (pSWATH s) SWATH.SW_CTRL_EN 0).swathOff s

/-- A block reset of ST[s].SWATH (R138, R155). INDEX_OK keeps its value (DESIGN CHOICE, assumption 95). -/
def Hw.resetSwath (h : Hw) (s : Nat) : Hw :=
  let p := pSWATH s
  let h := h.spoilCarried s 0x11
  let h := [SWATH.SINGLE_FACETS, SWATH.FALLBACK_CNT, SWATH.SPOIL_CNT, SWATH.DEV_CNT, SWATH.INDEX_MISS, SWATH.SW_STS_FACET_VALID].foldl
    (fun h f => h.wr p f 0) h
  h.modFac s fun f => { f with num := none, indexSeen := false, noIndex := 0, indexThisRev := false, strays := [], rebase := none }

end Sys2Proof.Machine
end

