-- ==== Sys2Proof/Machine/Decoders.lean ====
section
/-! DEFINITION. A station's billet decoders and the filling of its line store: prefill, bands, first failures and re-fetches
(R97–R100, R108, R111, R112, R114, R500). -/

namespace Sys2Proof.Machine

/-! ### The Millrace's page and its plane -/

/-- The Millrace of station s, and its change. -/
def Hw.mill (h : Hw) (s : Nat) : Mill := (h.stn s).mill
def Hw.modMill (h : Hw) (s : Nat) (f : Mill → Mill) : Hw := h.modStn s fun t => { t with mill := f t.mill }

/-- The page in the Millrace of station s. -/
def Hw.millPage (h : Hw) (s : Nat) : Option PageRec :=
  match (h.mill s).cur with
  | some d => h.page? d
  | none => none

/-- The plane of a page on station s. -/
def PageRec.plane (g : PageRec) (s : Nat) : Plane := g.planes.getD s ⟨0, 0, 0, 0, 0, false⟩

/-- How many bands a page has (R111). -/
def PageRec.bands (g : PageRec) : Nat := g.rows

/-- An index entry of a plane (R69). -/
def Hw.indexEntry (h : Hw) (pl : Plane) (i : Nat) : Nat := ofLE (h.bytes (pl.indexAddr * 64 + 8 * i) 8)
def entryOffset (e : Nat) : Nat := e % 2 ^ 32
def entryLength (e : Nat) : Nat := e / 2 ^ 32 % 2 ^ 16
def entryRaw (e : Nat) : Bool := bitAt e 48

/-- Where the billet of an index entry lies. -/
def Plane.billetAt (pl : Plane) (e : Nat) : Nat := pl.dataBase * 64 + entryOffset e * 64

/-- The error of unit u at the place of MPA a in its row: the silent errors of that byte together. -/
def unitError (fs : List Flip) (a u : Nat) : Byte :=
  (fs.filter fun f => decide (f.row = a / 768 ∧ f.unit.val = u ∧ f.off.val = a % 256)).foldl (fun x f => x ^^^ f.bits) 0

/-- The error a unit has when it is rebuilt from the other three of its row, by the parity equation of R59: their errors together. -/
def rebuiltError (fs : List Flip) (a u : Nat) : Byte :=
  ((List.range 4).filter fun v => decide (v ≠ u)).foldl (fun x v => x ^^^ unitError fs a v) 0

/-- The error a unit has on the second fetch, where every unit is rebuilt (R99): none where one stack's unit alone is corrupt at that place
of the row, since that stack is bypassed; with two of them corrupt, what the parity equation gives (DEDUCED, log entry 105). -/
def bypassError (fs : List Flip) (a u : Nat) : Byte :=
  if ((List.range 4).filter fun v => decide (unitError fs a v ≠ 0)).length ≤ 1 then 0 else rebuiltError fs a u

/-- The error in the byte a fetch brings from MPA a (R60, R99): a unit on a lost stack is rebuilt in every read, and on the second fetch
every unit is, unless a stack is lost. -/
def Hw.fetchError (h : Hw) (second : Bool) (fs : List Flip) (a : Nat) : Byte :=
  let u := a % 768 / 256
  let lost := !h.bit pHEADRACE HEADRACE.HR_STS_STACK_OK (stackOf a)
  if lost then rebuiltError fs a u
  else if second && decide (h.lostStacks = 0) then bypassError fs a u
  else unitError fs a u

/-- The n bytes a fetch brings from MPA a, with silent errors. -/
def Hw.fetched (h : Hw) (second : Bool) (fs : List Flip) (a n : Nat) : List Byte :=
  (h.bytes a n).zipIdx.map fun b => b.1 ^^^ h.fetchError second fs (a + b.2)

/-- What decoding the billet of an index entry gives, for what the first or the second fetch brought (R97, R99). -/
def Hw.decodeRead (h : Hw) (second : Bool) (pl : Plane) (e : Nat) (x : BilletRead) : Except DecodeFail (List Sample) :=
  let a := pl.billetAt e
  let n := entryLength e
  if !h.stacksGive a n then .error ⟨.read, 0, 0⟩
  else match x with
  | .stored => decodeBillet (entryRaw e) (h.bytes a n)
  | .unrecoverable => .error ⟨.read, 0, 0⟩
  | .silent fs => decodeBillet (entryRaw e) (h.fetched second fs a n)

/-! ### Decoders at work (R98) -/

/-- The job of decoder d, and its change. -/
def Mill.dec (x : Mill) (d : Nat) : Option DecJob := if d = 0 then x.dec0 else x.dec1
def Mill.setDec (x : Mill) (d : Nat) (j : Option DecJob) : Mill := if d = 0 then { x with dec0 := j } else { x with dec1 := j }

/-- Show BUSY and RETRY (R108). -/
def Hw.showDec (h : Hw) (s : Nat) : Hw :=
  let m := h.mill s
  let retry (j : Option DecJob) : Bool := match j with
    | some x => x.second
    | none => false
  (h.wr (pDECODE s) DECODE.DEC_STS_BUSY (b2n m.dec0.isSome + 2 * b2n m.dec1.isSome)).wr (pDECODE s) DECODE.DEC_STS_RETRY
    (b2n (retry m.dec0 || retry m.dec1))

/-- The decoders begin a band: decoder 0 at column 0, decoder 1 at column 1 (R98). -/
def Hw.startBand (h : Hw) (s band cols : Nat) : Hw :=
  (h.modMill s fun m =>
    { m with filling := some band, doneCols := [], dec0 := some ⟨band, 0, false⟩
             dec1 := if 1 < cols then some ⟨band, 1, false⟩ else none }).showDec s

/-- The page station s prefills next (R114): of those admitted there and not yet prefilled, the one whose slot comes first on the belt,
since slots follow one another in the order of admission (R76, R498). -/
def Hw.nextPrefill (h : Hw) (s : Nat) : Option PageRec :=
  let ahead (g : PageRec) : Int := signed 48 (unsignedOf 48 ((g.beltP.toNat : Int) - h.beltNow.toNat))
  (h.headrace.pages.filter fun g => g.uses s && decide (g.state = .admitted ∨ g.state = .exposing) && !(g.on s).prefill).foldl
    (fun a g => match a with
      | none => some g
      | some b => if ahead g < ahead b then some g else some b) none

/-- Prefill of the next page of station s starts (R114), once the one before it has finished its lines. -/
def prefillStart (s : StationNo) (h : Hw) : Hw :=
  let p := pPIPE s
  match (h.mill s).cur, h.nextPrefill s with
  | none, some g =>
    if !h.runs (pDECODE s) ∨ !h.runs p then h
    else
      let h := h.modPage g.desc fun g => g.modOn s fun o => { o with prefill := true }
      let h := h.modMill s fun m => { Mill.reset with cur := some g.desc, doneAt := m.doneAt }
      let h := ((h.wr p PIPE.PIPE_STS_PREFILL 1).wr p PIPE.PIPE_STS_RENDER 0).wr p PIPE.PIPE_STS_IDLE 0
      let h := ((h.wr p PIPE.CUR_LINE_VALID 0).wr p PIPE.SLACK_MIN 0xFFFF).wr p PIPE.REQ_LEVEL 0
      h.startBand s 0 g.cols
  | _, _ => h

/-- Band k − 1 has been released, and the decoders begin to write band k + 1 into its slot (R112). -/
def bandFillStart (s : StationNo) (h : Hw) : Hw :=
  let m := h.mill s
  match h.millPage s with
  | none => h
  | some g =>
    if m.filling.isSome ∨ g.bands ≤ m.complete ∨ m.complete < 2 ∨ m.released + 2 ≤ m.complete ∨ !h.runs (pDECODE s) then h
    else h.startBand s m.complete g.cols

/-- Bands 0 and 1 are complete: the page renders from now on (R114, R133). -/
def Hw.prefillDone (h : Hw) (s d : Nat) : Hw :=
  let p := pPIPE s
  match h.page? d with
  | none => h
  | some g =>
    let h := h.modPage d fun g => g.modOn s fun o => { o with prefilled := true }
    let h := (h.wr p PIPE.PIPE_STS_PREFILL 0).wr p PIPE.PIPE_STS_RENDER 1
    ((h.wr p PIPE.PIPE_STS_WBANK_CUR (g.on s).recd.warp).wr p PIPE.PIPE_STS_SBANK_CUR (g.on s).recd.screen).wr p PIPE.CUR_DESC d

/-- A band is complete (R112). Prefill goes on with band 1, and ends with it or with the only band. -/
def Hw.bandComplete (h : Hw) (s : Nat) (g : PageRec) (band : Nat) : Hw :=
  let h := h.modMill s fun m =>
    { m with filling := none, doneCols := [], complete := band + 1, completeAt := tset (fun _ => 0) m.completeAt band h.clk.time }
  if band = 0 ∧ 1 < g.bands then h.startBand s 1 g.cols
  else if band ≤ 1 then h.prefillDone s g.desc
  else h

/-- DEC_RATE (R108): samples per µs of the billets decoded in the last 1 ms. -/
def Hw.decRate (h : Hw) (s : Nat) : Nat :=
  min 65535 (((h.mill s).doneAt.filter fun t => decide ((h.mono - t).toNat < 1024000000)).length * 16384 / 1000)

/-- DEC_RATE as a read of its word shows it, none for another word (R108). -/
def Hw.decRateRead (h : Hw) (a : Nat) : Option Nat :=
  ((List.range 8).find? fun s => decide (a = addrOf DECODE.DEC_RATE (pDECODE s) 0)).map h.decRate

/-- A billet has decoded and checked: its samples pass to the line store, and the decoder takes its next column (R98, R99, R111). -/
def Hw.billetDone (h : Hw) (s d : Nat) (g : PageRec) (j : DecJob) (xs : List Sample) : Hw :=
  let p := pDECODE s
  let h := h.wr2 p DECODE.BILLETS_LO DECODE.BILLETS_HI 0 (h.rd2 p DECODE.BILLETS_LO DECODE.BILLETS_HI 0 + 1)
  let next := if j.col + 2 < g.cols then some (⟨j.band, j.col + 2, false⟩ : DecJob) else none
  let h := h.modMill s fun m =>
    { (m.setDec d next) with store := tset (fun _ => []) m.store (256 * (j.band % 2) + j.col) xs, doneCols := j.col :: m.doneCols
                             doneAt := h.mono :: m.doneAt.takeWhile fun t => decide ((h.mono - t).toNat < 1024000000) }
  let h := h.wr p DECODE.DEC_RATE (h.decRate s)
  let h := if (h.mill s).doneCols.length = g.cols then h.bandComplete s g j.band else h
  h.showDec s

/-- The capture of the DECODE page (R108). -/
def decCap (s a : Nat) : Cap := ⟨a, 0x0600 + s, 0, false⟩

/-- A decode failure is recorded (R108, R500). -/
def Hw.lastFail (h : Hw) (s d i : Nat) (e : DecodeFail) (second : Bool) : Hw :=
  let p := pDECODE s
  let h := (h.wr p DECODE.LAST_FAIL_DESC_DESC d).wr p DECODE.LAST_FAIL_DESC_CAUSE e.cause.code
  let h := (h.wr p DECODE.LAST_FAIL_DESC_SECOND (b2n second)).wr p DECODE.LAST_FAIL_BILLET i
  (h.wr p DECODE.LAST_FAIL_POS_ROW e.row).wr p DECODE.LAST_FAIL_POS_COL e.col

/-- Decoder d ends its billet, with what the fetch brought (R99): on a first failure it is fetched once more; on a second the page is
spoiled. -/
def Hw.billetEnd (h : Hw) (s d : Nat) (x : BilletRead) (second : Bool) : Hw :=
  match (h.mill s).dec d, h.millPage s with
  | some j, some g =>
    if j.second ≠ second then h
    else
      let p := pDECODE s
      let pl := g.plane s
      let i := j.band * g.cols + j.col
      let e := h.indexEntry pl i
      match h.decodeRead second pl e x with
      | .ok xs => (if second then h.inc p DECODE.REFETCH_OK else h).billetDone s d g j xs
      | .error f =>
        let h := h.lastFail s g.desc i f second
        if second then ((h.inc p DECODE.SPOIL_CNT).raise p 1 (decCap s (pl.billetAt e))).spoilOne g.desc 0x15
        else
          let h := (h.inc p DECODE.REFETCH).raise p 0 (decCap s (pl.billetAt e))
          (h.modMill s fun m => m.setDec d (some { j with second := true })).showDec s
  | _, _ => h

/-- A decoder ends a billet (R99). -/
def billetDecodeDone (s : StationNo) (d : Fin 2) (x : BilletRead) (h : Hw) : Hw := h.billetEnd s d x false

/-- A decoder ends a re-fetched billet (R99). -/
def billetRefetchDone (s : StationNo) (d : Fin 2) (x : BilletRead) (h : Hw) : Hw := h.billetEnd s d x true

/-- A block reset of ST[s].DECODE (R100). The prefill of a page neither planned nor exposing on the station goes on (DESIGN CHOICE: the
rule names no effect on it, log entry 106). -/
def Hw.resetDecode (h : Hw) (s : Nat) : Hw :=
  let p := pDECODE s
  let h := [DECODE.BILLETS_LO, DECODE.BILLETS_HI, DECODE.REFETCH, DECODE.REFETCH_OK, DECODE.SPOIL_CNT, DECODE.DEC_RATE,
    DECODE.LAST_FAIL_DESC_DESC, DECODE.LAST_FAIL_DESC_CAUSE, DECODE.LAST_FAIL_DESC_SECOND, DECODE.LAST_FAIL_BILLET,
    DECODE.LAST_FAIL_POS_ROW, DECODE.LAST_FAIL_POS_COL].foldl (fun h f => h.wr p f 0) h
  (h.modMill s fun m => { m with doneAt := [] }).spoilCarried s 0x11

end Sys2Proof.Machine
end

