-- ==== Sys2Proof/Machine/Millrace.lean ====
section
/-! DEFINITION. The Millrace: lines, their frames and their lateness, the release of bands, and the warp and rendering bank switches
(R109–R136, R209). -/

namespace Sys2Proof.Machine

/-! ### Regions (R485) -/

/-- Where warp region b and rendering region b of station s lie in W1. -/
def warpBase (s b : Nat) : Nat := 0x100000 + 0x10000 * s + 0x8000 * b
def screenBase (s b : Nat) : Nat := 0x1000000 + 0x200000 * s + 0x100000 * b

/-- The regions of station s. -/
def Hw.warpRegion (h : Hw) (s b : Nat) : Region := fun o => h.table (warpBase s b + o)
def Hw.screenRegion (h : Hw) (s b : Nat) : Region := fun o => h.table (screenBase s b + o)

/-! ### Lines (R110–R117, R209) -/

/-- The sample of the line store at an input row and column (R111). -/
def Mill.sample (m : Mill) (y x : Nat) : Sample :=
  (tget (fun _ => ([] : List Sample)) m.store (256 * (y / 64 % 2) + x / 256)).getD (256 * (y % 64) + x % 256) ⟨0, 0⟩

/-- The lowest and the highest input row a line reads, clamped to the page (R113, R116). -/
def Hw.lineRows (h : Hw) (s : Nat) (g : PageRec) (r : LineReq) : Nat × Nat :=
  let w := h.warpRegion s (g.on s).recd.warp
  (clampTap g.lengthIn (lowestRow w r.y r.phi), clampTap g.lengthIn (highestRow w r.y r.phi))

/-- The pixels of a line. -/
def Hw.linePixels (h : Hw) (s : Nat) (g : PageRec) (r : LineReq) : List Pixel :=
  let c : RenderCtx :=
    { width := g.widthIn, length := g.lengthIn, xOff := g.xOff, rsetMap := (g.plane s).rsetMap, outside := (g.on s).recd.outside }
  renderLine c (h.warpRegion s (g.on s).recd.warp) (h.screenRegion s (g.on s).recd.screen) (h.mill s).sample r.phi r.y

/-- The LINE frame of a line (R209). -/
def lineFrame (d y : Nat) (px : List Pixel) : Frame := plainFrame 1 0x10 (d + 2 ^ 20 * y) (packCodes (px.map Pixel.code))

/-- SETS_USED and EDGE_PIX after a line; the first line of a page starts them afresh (R136). -/
def Hw.countPixels (h : Hw) (s : Nat) (first : Bool) (px : List Pixel) : Hw :=
  let p := pSCREEN s
  let sets := px.foldl (fun a x => match x.set with
    | some n => putBit a n true
    | none => a) (if first then 0 else h.rd p SCREEN.SETS_USED)
  let edges := (if first then 0 else h.rd p SCREEN.EDGE_PIX) + (px.filter fun x => x.edge).length
  (h.wr p SCREEN.SETS_USED sets).wr p SCREEN.EDGE_PIX (min (2 ^ 32 - 1) edges)

/-- SLACK_MIN after a line that is the first to read the bands from `readBands` to band k, in turn at the times `reads`; a band with no
time given is first read at t (R113). -/
def Hw.slack (h : Hw) (s k : Nat) (reads : List Stamp) (t : Stamp) : Hw :=
  let m := h.mill s
  let h := (linesFrom m.readBands (k + 1)).zipIdx.foldl (fun h b =>
    let from_ := tget (fun _ => 0) m.completeAt b.1
    h.wr (pPIPE s) PIPE.SLACK_MIN (min (h.rd (pPIPE s) PIPE.SLACK_MIN) (min 65535 ((reads.getD b.2 t - from_).toNat / 102400)))) h
  h.modMill s fun m => { m with readBands := max m.readBands (k + 1) }

/-- The capture of the PIPE page (R134). -/
def pipeCap (s a : Nat) : Cap := ⟨a, 0x0600 + s, 0, false⟩

/-- A line is late: it is not sent, and the page is spoiled (R113). -/
def Hw.lineIsLate (h : Hw) (s : Nat) : Hw :=
  match (h.mill s).reqs, (h.mill s).cur with
  | r :: _, some d => ((h.inc (pPIPE s) PIPE.LATE_CNT).raise (pPIPE s) 0 (pipeCap s r.y)).spoilOne d 0x11
  | _, _ => h

/-- A line is not finished by its deadline (R113). -/
def lineLate (s : StationNo) (h : Hw) : Hw := h.lineIsLate s

/-- An ECC_SINGLE injection on one of the station's three memories fires at this read (R459, R460). -/
def Hw.pipeInject (h : Hw) (s : Nat) : Hw :=
  let p := pPIPE s
  if (List.range 3).any fun k => h.injArmed p 1 k then (h.injFired p).inc p PIPE.ECC_CORR else h

/-- A finished line of a page: its frame, the counts, the release of bands, and the end of the page's rendering with its last line. -/
def Hw.lineDone (h : Hw) (s : Nat) (g : PageRec) (r : LineReq) (rows : Nat × Nat) (reads : List Stamp) (t : Stamp) : Hw :=
  let p := pPIPE s
  let px := h.linePixels s g r
  let h := h.ivSend s (lineFrame g.desc r.y px)
  let h := (h.countPixels s (decide (r.y = 0)) px).slack s (rows.2 / 64) reads t
  let h := (h.wr p PIPE.CUR_LINE_LINE r.y).wr p PIPE.CUR_LINE_VALID 1
  let h := h.wr2 p PIPE.LINES_LO PIPE.LINES_HI 0 (h.rd2 p PIPE.LINES_LO PIPE.LINES_HI 0 + 1)
  let h := h.modMill s fun m => { m with reqs := m.reqs.drop 1, released := max m.released ((rows.1 - 1) / 64) }
  let h := h.wr p PIPE.REQ_LEVEL (h.mill s).reqs.length
  if r.y + 1 = 2 * g.lengthIn then
    let h := h.modPage g.desc fun g => g.modOn s fun o => { o with rendered := true }
    let h := h.modMill s fun m => { Mill.reset with reqs := m.reqs, doneAt := m.doneAt }
    (((h.wr p PIPE.PIPE_STS_RENDER 0).wr p PIPE.PIPE_STS_IDLE 1).showInUse s).showDec s
  else h

/-- FE_ADDR of a MEM_UNCORR met in reading a line (R134): the address of the table, or the place in the line store where the error was
read, which the event names since the spec gives the store no layout (log entry 107). None where the reads are clean. -/
def lineMemAt (s : Nat) (g : PageRec) : LineMem → Option Nat
  | .clean => none
  | .store place => some place.toNat
  | .warp off => some (warpBase s (g.on s).recd.warp + off.toNat)
  | .screen off => some (screenBase s (g.on s).recd.screen + off.toNat)

/-- The Millrace finishes the line of the oldest request at time t, with the times at which it first read each band that no line had
read, the single-bit errors corrected in reading it, and the uncorrectable error met (R110, R111, R113, R134). A line whose bands are not
complete waits. An uncorrectable error of a table spoils the page as one of the line store does (DEDUCED from R81, log entry 107). -/
def lineFinish (s : StationNo) (t : Stamp) (reads : List Stamp) (corrected : Nat) (mem : LineMem) (h : Hw) : Hw :=
  match (h.mill s).reqs, h.millPage s with
  | r :: _, some g =>
    let rows := h.lineRows s g r
    if !(g.on s).prefilled ∨ (h.mill s).complete ≤ rows.2 / 64 then h
    else
      let h := (h.pipeInject s).incBy (pPIPE s) PIPE.ECC_CORR 0 corrected
      match lineMemAt s g mem with
      | some a => (h.raise (pPIPE s) 1 (pipeCap s a)).spoilOne g.desc 0x11
      | none => if r.deadline.toNat < t.toNat then h.lineIsLate s else h.lineDone s g r rows reads t
  | _, _ => h

/-! ### Bank switches (R130, R131) -/

/-- The warp machine, and the rendering machine, enter a state, shown in the page's register. -/
def Hw.warpEnter (h : Hw) (s : Nat) (st : BankState) : Hw :=
  let h := h.modStn s fun t => { t with warpSw := st }
  (h.wr (pWARP s) WARP.WBANK_VALIDATING (b2n (decide (st = .validating)))).wr (pWARP s) WARP.WBANK_ARMED (b2n (decide (st = .armed)))
def Hw.screenEnter (h : Hw) (s : Nat) (st : BankState) : Hw :=
  let h := h.modStn s fun t => { t with screenSw := st }
  (h.wr (pSCREEN s) SCREEN.SBANK_VALIDATING (b2n (decide (st = .validating)))).wr (pSCREEN s) SCREEN.SBANK_ARMED (b2n (decide (st = .armed)))

/-- A write of WBANK.SWITCH without CANCEL. -/
def wbankSwitch (m : Master) (s : StationNo) (h : Hw) : Hw :=
  h.writeTo m (addrOf WARP.WBANK_SWITCH (pWARP s) 0) fun h =>
    if (h.stn s).warpSw = .idle then h.warpEnter s .validating else h.wr (pWARP s) WARP.WBANK_BUSY 1

/-- A write of WBANK.CANCEL, alone or with SWITCH. -/
def wbankCancel (m : Master) (s : StationNo) (h : Hw) : Hw :=
  h.writeTo m (addrOf WARP.WBANK_CANCEL (pWARP s) 0) fun h => h.warpEnter s .idle

/-- A write of SBANK.SWITCH without CANCEL. -/
def sbankSwitch (m : Master) (s : StationNo) (h : Hw) : Hw :=
  h.writeTo m (addrOf SCREEN.SBANK_SWITCH (pSCREEN s) 0) fun h =>
    if (h.stn s).screenSw = .idle then h.screenEnter s .validating else h.wr (pSCREEN s) SCREEN.SBANK_BUSY 1

/-- A write of SBANK.CANCEL, alone or with SWITCH. -/
def sbankCancel (m : Master) (s : StationNo) (h : Hw) : Hw :=
  h.writeTo m (addrOf SCREEN.SBANK_CANCEL (pSCREEN s) 0) fun h => h.screenEnter s .idle

/-- A table as its bytes are read, with an uncorrectable error at an offset or none: the 8-byte word there reads as a free value, and one
of the warp or rendering regions of station s raises MEM_UNCORR with the table address (R134). -/
def Hw.readTable (h : Hw) (owner : Option Nat) (base : Nat) (bad : Option Nat) : Region × Hw :=
  match bad with
  | none => (fun o => h.table (base + o), h)
  | some b =>
    let f := h.free 64
    (fun o => if o / 8 = b / 8 then BitVec.ofNat 8 (f.1 / 256 ^ (o % 8)) else h.table (base + o),
      match owner with
      | some s => f.2.raise (pPIPE s) 1 (pipeCap s (base + b / 8 * 8))
      | none => f.2)

/-- Validation of the inactive warp or rendering bank of station s ends (R130, R131), with the offset of the first uncorrectable error it
met in the bank, if any (R134). -/
def bankValidateDone (s : StationNo) (screen : Bool) (uncorr : Option (BitVec 20)) (h : Hw) : Hw :=
  if screen then
    if (h.stn s).screenSw ≠ .validating then h
    else
      let x := h.readTable (some s) (screenBase s (1 - h.rd (pSCREEN s) SCREEN.SBANK_ACTIVE)) (uncorr.map BitVec.toNat)
      match validateRendering x.1 with
      | none => x.2.screenEnter s .armed
      | some (c, n, i) =>
        let h := (x.2.screenEnter s .idle).wr (pSCREEN s) SCREEN.SREJECT_CHECK c
        ((h.wr (pSCREEN s) SCREEN.SREJECT_SET n).wr (pSCREEN s) SCREEN.SREJECT_INDEX i).raise (pSCREEN s) 0 (cap0 0)
  else
    if (h.stn s).warpSw ≠ .validating then h
    else
      let x := h.readTable (some s) (warpBase s (1 - h.rd (pWARP s) WARP.WBANK_ACTIVE)) (uncorr.map fun b => b.toNat % 0x8000)
      match validateWarp x.1 with
      | none => x.2.warpEnter s .armed
      | some (c, i) =>
        let h := (x.2.warpEnter s .idle).wr (pWARP s) WARP.WREJECT_CHECK c
        (h.wr (pWARP s) WARP.WREJECT_INDEX i).raise (pWARP s) 0 (cap0 0)

/-- WMAP_INFO and WDY_RANGE of the active bank (R135). -/
def Hw.showWarp (h : Hw) (s : Nat) : Hw :=
  let p := pWARP s
  let r := h.warpRegion s (h.rd p WARP.WBANK_ACTIVE)
  let dy (k : Nat) : Int := s16At r (0x42 + 4 * k)
  let nodes := List.range (99 * warpRows r)
  let h := (h.wr p WARP.WMAP_INFO_ROWS (warpRows r)).wr p WARP.WMAP_INFO_PITCH_LOG2 (warpPitchLog2 r)
  (h.wr p WARP.WDY_RANGE_DY_MIN (unsignedOf 16 (nodes.foldl (fun m k => min m (dy k)) (dy 0)))).wr p WARP.WDY_RANGE_DY_MAX
    (unsignedOf 16 (nodes.foldl (fun m k => max m (dy k)) (dy 0)))

/-- An admission flips every ARMED machine of station s (R130, R184). -/
def Hw.flipBanks (h : Hw) (s : Nat) : Hw :=
  let h :=
    if (h.stn s).warpSw = .armed then
      ((h.wr (pWARP s) WARP.WBANK_ACTIVE (1 - h.rd (pWARP s) WARP.WBANK_ACTIVE)).warpEnter s .idle).showWarp s
    else h
  let h :=
    if (h.stn s).screenSw = .armed then
      (h.wr (pSCREEN s) SCREEN.SBANK_ACTIVE (1 - h.rd (pSCREEN s) SCREEN.SBANK_ACTIVE)).screenEnter s .idle
    else h
  if (h.stn s).emit.sw = .armed then h.emFlip s else h

/-! ### Block resets (R133) -/

/-- The page prefilling or rendering on station s is spoiled (R133). -/
def Hw.spoilMill (h : Hw) (s : Nat) : Hw :=
  match (h.mill s).cur with
  | some d => h.spoilOne d 0x11
  | none => h

/-- Block resets of ST[s].PIPE, ST[s].WARP and ST[s].SCREEN (R133). EDGE_PIX and SETS_USED, which say what the last page held (R136), are
no counters of these blocks and are kept (DESIGN CHOICE, log entry 108). -/
def Hw.resetPipe (h : Hw) (s : Nat) : Hw :=
  let h := h.spoilMill s
  [PIPE.LINES_LO, PIPE.LINES_HI, PIPE.LATE_CNT, PIPE.ECC_CORR].foldl (fun h f => h.wr (pPIPE s) f 0) h
def Hw.resetWarp (h : Hw) (s : Nat) : Hw := ((h.spoilMill s).warpEnter s .idle).wr (pWARP s) WARP.WREFUSED 0
def Hw.resetScreen (h : Hw) (s : Nat) : Hw := ((h.spoilMill s).screenEnter s .idle).wr (pSCREEN s) SCREEN.SREFUSED 0

end Sys2Proof.Machine
end

