-- ==== Sys2Proof/Machine/EncoderJobs.lean ====
section
/-! DEFINITION. The four module encoders and their job queue (R101–R107, R469). -/

namespace Sys2Proof.Machine

/-! ### Descriptor fields (R103) -/

/-- The bytes of the job descriptor at an index of the commons. -/
def Hw.jobBytes (h : Hw) (idx : Nat) : List Byte := h.bytes (128 * idx) 128

/-- Fields of a job. -/
def EncJob.f (j : EncJob) (o n : Nat) : Nat := fieldLE j.desc o n
def EncJob.ctx (j : EncJob) : Nat := j.f 4 1
def EncJob.autoRaw (j : EncJob) : Bool := bitAt (j.f 5 1) 0
def EncJob.src (j : EncJob) : Nat := j.f 8 8
def EncJob.stride (j : EncJob) : Nat := j.f 0x10 4
def EncJob.width (j : EncJob) : Nat := j.f 0x14 4
def EncJob.lines (j : EncJob) : Nat := j.f 0x18 4
def EncJob.row0 (j : EncJob) : Nat := j.f 0x1C 4
def EncJob.dst (j : EncJob) : Nat := j.f 0x20 8
def EncJob.limit (j : EncJob) : Nat := j.f 0x28 8
def EncJob.index (j : EncJob) : Nat := j.f 0x30 8
def EncJob.dataBase (j : EncJob) : Nat := j.f 0x38 4
def EncJob.cols (j : EncJob) : Nat := ceilDiv j.width 256
def EncJob.rows (j : EncJob) : Nat := ceilDiv j.lines 64

/-- The checks made before any write, in the order of their codes; 0 where all pass (R105). -/
def Hw.jobCheck (h : Hw) (j : EncJob) : Nat :=
  let part := h.partition j.ctx
  if ctxOf j.master ≠ some j.ctx then 1
  else if j.src % 64 ≠ 0 ∨ j.stride % 64 ≠ 0 ∨ j.dst % 64 ≠ 0 ∨ j.index % 64 ≠ 0 then 2
  else if j.width < 1 ∨ 50176 < j.width ∨ j.lines < 1 ∨ 131072 < j.lines ∨ j.stride < 2 * j.width then 3
  else if !inRange j.src (j.stride * (j.lines - 1) + 2 * j.width) part || !inRange j.dst (j.limit - j.dst) part
      || !inRange (j.index + 8 * j.row0 * j.cols) (8 * j.rows * j.cols) part then 4
  else 0

/-! ### The end of a job (R105) -/

/-- Show JOBQ_FREE. -/
def Hw.showJobs (h : Hw) : Hw := h.wr pCODEC CODEC_ENC.JOBQ_FREE (64 - h.codec.queue.length)

/-- A job ends: its results, STATUS last, and the counts and events of the page. What the captures hold the chapter does not say: FE_ADDR
is the job index, or the encoder's number for an ENC_FAULT, and a job discarded from the queue names encoder 0 as its master (DESIGN
CHOICE, log entry 109). -/
def Hw.jobEnd (h : Hw) (j : EncJob) (e err : Nat) : Hw :=
  let a := 128 * j.idx
  let h := h.putBytes (a + 0x40) (toLE 8 (j.next - j.dst) ++ toLE 4 j.billets ++ toLE 4 j.noshrink)
  let h := h.putBytes (a + 0x50) (toLE 4 (1 + 256 * err))
  let h := h.wr pCODEC CODEC_ENC.JOBS_DONE ((h.rd pCODEC CODEC_ENC.JOBS_DONE + 1) % 2 ^ 32)
  let c : Cap := ⟨j.idx, 0x0700 + e, 7, false⟩
  if err = 0 then h.raise pCODEC 0 c
  else ((h.wr pCODEC CODEC_ENC.LAST_ERR_JOB j.idx).wr pCODEC CODEC_ENC.LAST_ERR_ERR err).raise pCODEC 1 c

/-- Encoder e and its job; setting it shows BUSY. -/
def Hw.encoder (h : Hw) (e : Nat) : Option EncJob := tget (fun _ => none) h.codec.enc e
def Hw.setEncoder (h : Hw) (e : Nat) (j : Option EncJob) : Hw :=
  let h := { h with codec := { h.codec with enc := tset (fun _ => none) h.codec.enc e j } }
  h.setBit pCODEC CODEC_ENC.ENC_STS_BUSY e j.isSome

/-- Encoder e ends its job. -/
def Hw.encoderEnd (h : Hw) (e : Nat) (j : EncJob) (err : Nat) : Hw := (h.setEncoder e none).jobEnd j e err

/-! ### Commands -/

/-- A write of JOB_SUBMIT (R103, R106). -/
def encJobSubmit (m : Master) (idx : BitVec 21) (h : Hw) : Hw :=
  h.writeTo m (addrOf CODEC_ENC.JOB_SUBMIT pCODEC 0) fun h =>
    if h.codec.queue.length < 64 then { h with codec := { h.codec with queue := h.codec.queue ++ [(idx.toNat, m)] } }.showJobs
    else (h.inc pCODEC CODEC_ENC.JOBQ_DROP).raise pCODEC 2 ⟨idx.toNat, m.toNat, 1, false⟩

/-- Encoder e, free and enabled, takes the first queued job and checks it (R103, R105). -/
def encJobStart (e : Fin 4) (h : Hw) : Hw :=
  match h.codec.queue with
  | [] => h
  | (idx, m) :: rest =>
    if (h.encoder e).isSome ∨ !h.bit pCODEC CODEC_ENC.ENC_CTRL_ENC_EN e ∨ h.bit pCODEC CODEC_ENC.ENC_STS_FAULTED e ∨ !h.runs pCODEC then h
    else
      let h := { h with codec := { h.codec with queue := rest } }.showJobs
      let j : EncJob := { idx := idx, master := m, desc := h.jobBytes idx, row := 0, col := 0, next := 0, billets := 0, noshrink := 0
                          stop := false }
      let j := { j with next := j.dst }
      let err := h.jobCheck j
      if err = 0 then h.setEncoder e (some j) else h.jobEnd j e err

/-- The samples of a billet of a job, with the last line and column replicated (R104). -/
def Hw.jobSamples (h : Hw) (j : EncJob) : List Sample :=
  (List.range 16384).map fun n =>
    let x := min (256 * j.col + n % 256) (j.width - 1)
    let y := min (64 * j.row + n / 256) (j.lines - 1)
    sampleOfWord (ofLE (h.bytes (j.src + y * j.stride + 2 * x) 2))

/-- Whether the Millpond gives the lines of the present billet (R60, R105). -/
def Hw.jobReads (h : Hw) (j : EncJob) : Bool :=
  (List.range (min 64 (j.lines - 64 * j.row))).all fun y =>
    h.stacksGive (j.src + (64 * j.row + y) * j.stride + 512 * j.col) (2 * min 256 (j.width - 256 * j.col))

/-- The job after a billet: the next one in order. -/
def EncJob.advance (j : EncJob) : EncJob := if j.col + 1 < j.cols then { j with col := j.col + 1 } else { j with col := 0, row := j.row + 1 }

/-- What a coded billet puts into the store: its bytes, raw where it would not shrink and the job allows it (R104). -/
def EncJob.body (j : EncJob) (xs : List Sample) : Option (List Byte) :=
  match encodeBillet xs with
  | some bs => some bs
  | none => if j.autoRaw then some (encodeRaw xs) else none

/-- The index entry of the present billet: offset, length, and whether it is raw; an absent billet's entry is 0 (R104). -/
def EncJob.entry (j : EncJob) (n : Nat) (raw : Bool) : Nat :=
  unsignedOf 32 (((j.next : Int) - 64 * j.dataBase) / 64) + n * 4294967296 + b2n raw * 281474976710656

/-- The job after a billet of n bytes. -/
def EncJob.after (j : EncJob) (n : Nat) (noshrink : Bool) : EncJob :=
  { j with next := 64 * ceilDiv (j.next + n) 64, billets := j.billets + 1, noshrink := j.noshrink + b2n noshrink }.advance

/-- The writes of a billet and what follows (R104, R105). -/
def Hw.encWrite (h : Hw) (e : Nat) (j : EncJob) (body : Option (List Byte)) (noshrink : Bool) : Hw :=
  let bs := body.getD []
  let n := bs.length
  let slot := j.index + 8 * ((j.row0 + j.row) * j.cols + j.col)
  if body.isSome ∧ j.limit < j.next + n then h.encoderEnd e j 5
  else if (body.isSome && h.pinned j.next n) || h.pinned slot 8 then h.encoderEnd e j 6
  else
    let h := (h.putBytes j.next bs).putBytes slot (toLE 8 (if body.isSome then j.entry n noshrink else 0))
    let h := if noshrink then h.wr pCODEC CODEC_ENC.NOSHRINK_TOTAL ((h.rd pCODEC CODEC_ENC.NOSHRINK_TOTAL + 1) % 2 ^ 32) else h
    let j := j.after n noshrink
    if j.stop then h.encoderEnd e j 8
    else if j.rows ≤ j.row then h.encoderEnd e j 0
    else h.setEncoder e (some j)

/-- Encoder e has coded its billet; readOk: its source was read in time (R104, R105). -/
def encBilletDone (e : Fin 4) (readOk : Bool) (h : Hw) : Hw :=
  match h.encoder e with
  | none => h
  | some j =>
    if readOk && h.jobReads j then
      let xs := h.jobSamples j
      h.encWrite e j (j.body xs) (encodeBillet xs).isNone
    else h.encoderEnd e j 7

/-- Encoder e fails its internal check (R105, R107). -/
def encFault (e : Fin 4) (h : Hw) : Hw :=
  let h := h.setBit pCODEC CODEC_ENC.ENC_STS_FAULTED e true
  let h := match h.encoder e with
    | some j => h.encoderEnd e j 9
    | none => h
  h.raise pCODEC 3 ⟨e, 0x0700 + e, 7, false⟩

/-- Encoder e has completed no billet for 10 ms (R469). -/
def encLeaseExpiry (e : Fin 4) (h : Hw) : Hw :=
  match h.encoder e with
  | some j => (h.inc pFANTAIL FANTAIL.LEASE_EXP).encoderEnd e j 9
  | none => h

/-- End the queued jobs that a test on their master picks, with ERR DISCARDED (R106, R107). -/
def Hw.discardQueued (h : Hw) (sel : Master → Bool) : Hw :=
  let gone := h.codec.queue.filter fun q => sel q.2
  let h := { h with codec := { h.codec with queue := h.codec.queue.filter fun q => !sel q.2 } }.showJobs
  gone.foldl (fun h q => h.jobEnd
    { idx := q.1, master := q.2, desc := h.jobBytes q.1, row := 0, col := 0, next := fieldLE (h.jobBytes q.1) 0x20 8, billets := 0
      noshrink := 0, stop := false } 0 8) h

/-- A context reset removes the context's queued jobs and stops its running ones at the next billet boundary (R106). -/
def Hw.discardContext (h : Hw) (c : Nat) : Hw :=
  let h := h.discardQueued fun m => decide (ctxOf m = some c)
  forN 4 (fun e h => match h.encoder e with
    | some j => if ctxOf j.master = some c then h.setEncoder e (some { j with stop := true }) else h
    | none => h) h

/-- A block reset of CODEC_ENC (R107). -/
def Hw.resetCodec (h : Hw) : Hw :=
  let h := h.discardQueued fun _ => true
  let h := forN 4 (fun e h => match h.encoder e with
    | some j => h.encoderEnd e j 8
    | none => h) h
  h.wr pCODEC CODEC_ENC.ENC_STS_FAULTED 0

end Sys2Proof.Machine
end

