-- ==== Sys2Proof/Machine/PressTime.lean ====
section
/-! DEFINITION. PRESS_TIME, its slew and its loss, the staleness of SURF, and the top-of-form computation (R42–R46, R52, R56,
R497). -/

namespace Sys2Proof.Machine

/-! ### PRESS_TIME (R42–R45) -/

/-- The clamp of R42: ±100 ppm in units of 2^-32. -/
def rateClamp (e : Int) : Int := clampI (-429497) 429497 e

/-- The slew term that takes effect, in units of 2^-32: the part of 20 ppm that the clamp leaves after RATE_ADJ (R44). -/
def slewTerm (rate slew : Int) : Int :=
  let s : Int := if slew = 0 then 0 else if slew < 0 then -85899 else 85899
  rateClamp (rate + s) - rateClamp rate

/-- What the slew adds in one cycle, in units of 2^-32 of a PRESS_TIME unit: no more than what remains of it. -/
def slewPart (rate slew : Int) : Int :=
  let d := 1024 * slewTerm rate slew
  if slew.natAbs < d.natAbs then slew else d

/-- One cycle of the 1 GHz system clock: PRESS_TIME advances by 1024 × (1 + e) units, the remainder kept (R42, R44). -/
def PressClock.tick (c : PressClock) (rate : Int) : PressClock :=
  let d := slewPart rate c.slew
  let sum : Nat := (1024 * (4294967296 + rateClamp rate) + d).toNat + c.frac
  { time := c.time + BitVec.ofNat 64 (sum / 4294967296), frac := sum % 4294967296, slew := c.slew - d
    cycles := c.cycles + 1 }

/-- PRESS_TIME after n / 45 ns from now, at the present rate and with the slew that then has been applied (R42). -/
def Hw.timeAfter (h : Hw) (n : Nat) : Stamp :=
  let rate := signed 32 (h.rd pTIME TIME.RATE_ADJ)
  let d := (n : Int) * (1024 * slewTerm rate h.clk.slew) / 45
  let d := if h.clk.slew.natAbs < d.natAbs then h.clk.slew else d
  let run := (n : Int) * (1024 * (4294967296 + rateClamp rate)) / 45
  BitVec.ofInt 64 (((h.clk.time.toNat * 2 ^ 32 + h.clk.frac : Nat) + run + d) / 2 ^ 32)

/-- A TIME_SYNC frame leaves for the head (R218): its PARAM is the PRESS_TIME at which bit 0 of the next alignment codeword leaves on the
lowest ACTIVE lane, as the transmitter and the clock stand. -/
def timeSync (s : StationNo) (h : Hw) : Hw :=
  match (List.range 3).find? fun k => decide ((h.lane (.head s) k).st = .active) with
  | some k => h.ivSend s { plainFrame 5 0x60 (h.timeAfter (h.alignIn (.head s))).toNat [] with flags := 2 * k }
  | none => h

/-- One cycle of the system clock with no command waiting: PRESS_TIME, the Fantail output and the lanes of the links run (R42, R43, R195,
R461). -/
def Hw.tick (h : Hw) : Hw := if h.boot.vaon then { h with clk := h.clk.tick (signed 32 (h.rd pTIME TIME.RATE_ADJ)) }.fanTick.linksTick.lampsTick else h

/-- PRESS_TIME is set (R43). -/
def Hw.setTime (h : Hw) (t : Stamp) : Hw := { h with clk := { h.clk with time := t } }

/-- TIME_CTRL.SET (R43). -/
def timeSet (m : Master) (h : Hw) : Hw :=
  h.writeTo m (addrOf TIME.TIME_CTRL_SET pTIME 0) fun h =>
    if h.anyExposing ∨ h.rd pTIME TIME.TIME_CTRL_SRC ≠ 0 then h.wr pTIME TIME.TIME_STS_SET_REFUSED 1
    else h.setTime (BitVec.ofNat 64 (h.rd2 pTIME TIME.SET_LO TIME.SET_HI 0))

/-- A slew of a signed offset in PRESS_TIME units begins, replacing what remains of another; 0 ends it (R44). -/
def Hw.slewBy (h : Hw) (v : Int) : Hw :=
  { h with clk := { h.clk with slew := v * 4294967296 } }.wr pTIME TIME.TIME_STS_SLEW_ACTIVE (b2n (decide (v ≠ 0)))

/-- A write of SLEW_REQ (R44), ignored while a peer port is the source (R45). -/
def slewReqWrite (m : Master) (v : Word) (h : Hw) : Hw :=
  h.writeTo m (addrOf TIME.SLEW_REQ pTIME 0) fun h =>
    if h.rd pTIME TIME.TIME_CTRL_SRC ≠ 0 then h
    else (h.wr pTIME TIME.SLEW_REQ v.toNat).slewBy v.toInt

/-- The whole offset has been applied (R44); while part of it remains, SLEW_ACTIVE stays. -/
def slewComplete (h : Hw) : Hw := if h.clk.slew = 0 then h.wr pTIME TIME.TIME_STS_SLEW_ACTIVE 0 else h

/-- The TCXO is lost (R46): holdover; the engine kernel admits no further page and stops the press at the next gap. -/
def tcxoLost (h : Hw) : Hw :=
  let h := (h.wr pTIME TIME.TIME_STS_LOCKED 0).wr pTIME TIME.TIME_STS_HOLDOVER 1
  let h := if h.kernelRuns then { h with headrace := { h.headrace with stopAtGap := true } } else h
  (h.persist pTIME 0 true).raise pTIME 0 (cap0 0)

/-! ### SURF (R52, R54) -/

/-- Whether the station drive of s counts as running (R52). -/
def Hw.driveRuns (h : Hw) (s : Nat) : Bool :=
  let c := h.drumCh s
  decide (h.axState (8 + s) = 7) && decide (c < 20) && !h.encIs c FEEDBACK.CH_STS_STOPPED

/-- STALE_LIM has passed since the last count of the drum channel of s (R52). -/
def surfStale (s : StationNo) (h : Hw) : Hw := if h.driveRuns s then h.surfFail s TIME.SURF_STS_STALE else h

/-- A write of 1 to STALE, REVERSE, TOF_LATE or TOF_EARLY (R54, R58): bits 0 to 3. -/
def surfStsClear (m : Master) (s : StationNo) (mask : BitVec 4) (h : Hw) : Hw :=
  h.writeTo m (addrOf TIME.SURF_STS_STALE pTIME s) fun h =>
    let h := [TIME.SURF_STS_STALE, TIME.SURF_STS_REVERSE, TIME.SURF_STS_TOF_LATE, TIME.SURF_STS_TOF_EARLY].zipIdx.foldl
      (fun h f => if bitAt mask.toNat f.2 then h.wri pTIME f.1 s 0 else h) h
    let h := if bitAt mask.toNat 1 then h.modSurf s fun u => { u with back := 0 } else h
    h.surfJudge s

/-! ### Top of form (R56, R497) -/

/-- rho_s × h rounded half up: rho in UQ2.30 (R56). -/
def rhoTimes (rho : Nat) (d : Int) : Int := (rho * d + 2 ^ 29) / 2 ^ 30

/-- The signed distance of a belt point from BELT at nip s. -/
def Hw.nipDist (h : Hw) (s : Nat) (p belt : Coord) : Int :=
  signed 48 (unsignedOf 48 ((p.toNat : Int) + h.usei pTIME TIME.N_NIP s - belt.toNat))

/-- The TOF computation of station s at an instant (R56): 0 with SURF_TOF, 1 late, 2 early. -/
def Hw.tofFor (h : Hw) (s : Nat) (p : Coord) (t0 : Nat) : Nat × Coord :=
  let d := h.usei pTIME TIME.D_EXPO s
  let dist := h.nipDist s p h.beltNow
  if dist < d then (1, 0)
  else if 4194304 < dist - d then (2, 0)
  else (0, h.surfAt s t0 + BitVec.ofInt 48 (rhoTimes (h.rdi pTIME TIME.RHO s) dist - d))

/-- TOF_CTRL.GO with a MASK at an instant t0 (R56). -/
def tofGo (m : Master) (mask : BitVec 8) (t0 : Stamp) (h : Hw) : Hw :=
  h.writeTo m (addrOf TIME.TOF_CTRL_GO pTIME 0) fun h =>
    if h.is pTIME TIME.TOF_CTRL_BUSY then h.wr pTIME TIME.TOF_STS_GO_REFUSED 1
    else
      let p : Coord := BitVec.ofNat 48 (h.rd2 pTIME TIME.TOF_BELT_LO TIME.TOF_BELT_HI 0)
      let h := (h.wr pTIME TIME.TOF_CTRL_MASK mask.toNat).wr pTIME TIME.TOF_CTRL_BUSY 1
      let h := h.wr2 pTIME TIME.TOF_TIME_LO TIME.TOF_TIME_HI 0 t0.toNat
      { h with tofCalc := (below 8 fun s => bitAt mask.toNat s).map fun s =>
          let r := h.tofFor s p t0.toNat
          (s, r.1, r.2, p) }

/-- A page cannot start on one of its stations at its slot (R497): an admitted page returns to RESIDENT; one that exposes on
another station is spoiled with STREAM_FAULT (assumption 37). -/
def Hw.missSlot (h : Hw) (d : Nat) : Hw :=
  match h.page? d with
  | none => h
  | some g => if g.state = .admitted then h.dropPage d else if g.state = .exposing then h.spoilOne d 0x11 else h

/-- The page whose slot a TOF result of station s at belt point P belongs to: in its slot, not yet placed on the station. -/
def Hw.tofPage (h : Hw) (s : Nat) (p : Coord) : Option PageRec :=
  h.headrace.pages.find? fun g =>
    g.uses s && decide (g.beltP = p) && decide (g.state = .admitted ∨ g.state = .exposing) && (g.on s).tof.isNone

/-- One station's result of a TOF computation (R56, R497). -/
def Hw.tofResult (h : Hw) (s code : Nat) (v p : Coord) : Hw :=
  let g := h.tofPage s p
  match code with
  | 0 =>
    let h := h.wr2 pTIME TIME.SURF_TOF_LO TIME.SURF_TOF_HI s v.toNat
    match g with
    | some g => h.modPage g.desc fun g => g.modOn s fun o => { o with tof := some v }
    | none => h
  | 1 =>
    let h := h.wri pTIME TIME.SURF_STS_TOF_LATE s 1
    match g with
    | some g => h.missSlot g.desc
    | none => h
  | _ => h.wri pTIME TIME.SURF_STS_TOF_EARLY s 1

/-- The TOF computation ends (R56). -/
def tofComplete (h : Hw) : Hw :=
  if h.is pTIME TIME.TOF_CTRL_BUSY then
    let xs := h.tofCalc
    let h := { h with tofCalc := [] }.wr pTIME TIME.TOF_CTRL_BUSY 0
    xs.foldl (fun h x => h.tofResult x.1 x.2.1 x.2.2.1 x.2.2.2) h
  else h

/-- Station s has no successful GO 5 ms before the first line of a page is due (R497). -/
def tofDeadline (s : StationNo) (d : BitVec 20) (h : Hw) : Hw :=
  match h.page? d.toNat with
  | none => h
  | some g => if g.uses s && (g.on s).tof.isNone then h.missSlot d.toNat else h

end Sys2Proof.Machine
end

