-- ==== Sys2Proof/Machine/Press.lean ====
section
/-! DEFINITION. The Headrace's commands and verification, admission, slots, grades and the forecast (R60, R61, R67–R86, R497–R499). -/

namespace Sys2Proof.Machine

/-! ### The command queue (R70) -/

/-- Change the Headrace. -/
def Hw.modHr (h : Hw) (f : Headrace → Headrace) : Hw := { h with headrace := f h.headrace }

/-- Show CMDQ_FREE. -/
def Hw.showQueue (h : Hw) : Hw := h.wr pHEADRACE HEADRACE.CMDQ_FREE (256 - h.headrace.queue.length)

/-- A command write enters the queue, or is dropped and counted (R70). -/
def Hw.pushCmd (h : Hw) (m : Master) (idx : Nat) (c : HrCmd) : Hw :=
  if h.headrace.queue.length < 256 then (h.modHr fun r => { r with queue := r.queue ++ [c] }).showQueue
  else (h.inc pHEADRACE HEADRACE.CMDQ_DROP).raise pHEADRACE 1 ⟨idx, m.toNat, 1, false⟩

/-- A write of SUBMIT. -/
def submit (m : Master) (idx : BitVec 20) (h : Hw) : Hw :=
  h.writeTo m (addrOf HEADRACE.SUBMIT pHEADRACE 0) fun h => h.pushCmd m idx.toNat (.submit m idx.toNat)

/-- A write of PLANE_READY. -/
def planeReady (m : Master) (idx : BitVec 20) (s : StationNo) (h : Hw) : Hw :=
  h.writeTo m (addrOf HEADRACE.PLANE_READY_INDEX pHEADRACE 0) fun h => h.pushCmd m idx.toNat (.planeReady m idx.toNat s)

/-- A write of WITHDRAW. -/
def withdraw (m : Master) (idx : BitVec 20) (h : Hw) : Hw :=
  h.writeTo m (addrOf HEADRACE.WITHDRAW pHEADRACE 0) fun h => h.pushCmd m idx.toNat (.withdraw m idx.toNat)

/-- The Headrace is free to take a command: none is under verification, and its block works (R70, R477). -/
def Hw.hrFree (h : Hw) : Bool := h.headrace.verifying.isNone && h.runs pHEADRACE

/-- The queue without its first command. -/
def Hw.takeCmd (h : Hw) : Hw := (h.modHr fun r => { r with queue := r.queue.drop 1 }).showQueue

/-- A record for the context of a writing master; a master that is no context has no ring. -/
def Hw.completeFor (h : Hw) (m : Master) (c : Completion) : Hw :=
  match ctxOf m with
  | some x => h.complete x c
  | none => h

/-- A rejection (R67, R71, R72): its record, and source REJECT. -/
def Hw.reject (h : Hw) (m : Master) (c : Completion) : Hw :=
  (h.completeFor m c).raise pHEADRACE 0 ⟨c.desc, m.toNat, 1, false⟩

/-! ### SUBMIT (R65–R68) -/

/-- The bytes of the descriptor at an index of the commons. -/
def Hw.descBytes (h : Hw) (idx : Nat) : List Byte := h.bytes (256 * idx) 256

/-- The commons range of a master: a context's own (R399), all of it for the engine kernel. -/
def Hw.commonsOf (h : Hw) (m : Master) : Nat × Nat :=
  match ctxOf m with
  | some c => h.commonsRange c
  | none => (0, commonsEnd)

/-- The plane entry of station s in a descriptor (R66). -/
def planeOf (bs : List Byte) (s : Nat) : Plane :=
  let o := 0x40 + 24 * s
  ⟨fieldLE bs o 4, fieldLE bs (o + 4) 4, fieldLE bs (o + 8) 4, fieldLE bs (o + 12) 4, fieldLE bs (o + 16) 8, false⟩

/-- The page a descriptor describes, as SUBMIT copies it (R65, R68). REPRINT_MAX 0 takes the REPRINT_DEF of that moment (DESIGN CHOICE,
assumption 102). -/
def pageOf (idx reprintDef : Nat) (bs : List Byte) : PageRec :=
  let f (o n : Nat) : Nat := fieldLE bs o n
  { desc := idx, ctx := f 4 1, pageId := f 0 4, jobId := f 0x20 4, mask := f 6 1, grade := f 7 1, media := f 8 1
    reprintMax := if f 9 1 = 0 then reprintDef else f 9 1, autoReprint := bitAt (f 0xA 2) 0, web := bitAt (f 0xA 2) 1
    widthIn := f 0xC 4, lengthIn := f 0x10 4, xOff := f 0x14 4, sheetLen := f 0x18 4, tofUm := f 0x1C 4
    planes := (List.range 8).map (planeOf bs), state := .submitted, attempt := 0, reason := 0, beltP := 0, fed := false
    stn := List.replicate 8 OnStation.reset }

/-- The exposure lines of a page: two for each input line. -/
def PageRec.lines (g : PageRec) : Nat := 2 * g.lengthIn

/-- The reserved content of a descriptor is 0 (R65). -/
def descReserved (bs : List Byte) : Bool :=
  decide (fieldLE bs 0xA 2 < 4) && ((List.range 28).all fun i => decide (bs.getD (0x24 + i) 0 = 0))

/-- The geometry of a descriptor lies within R65 and R67. -/
def descGeometry (bs : List Byte) : Bool :=
  let f (o n : Nat) : Nat := fieldLE bs o n
  let w := f 0xC 4
  let l := f 0x10 4
  decide (1 ≤ w ∧ w ≤ 50176 ∧ 1 ≤ l ∧ l ≤ 131072 ∧ f 0x14 4 + 2 * w ≤ 100352 ∧ f 0x18 4 ≤ 3000000 ∧ f 8 1 ≤ 63 ∧ f 9 1 ≤ 15)
    && decide (f 0x1C 4 + ceilDiv (l * 25400) 1200 ≤ f 0x18 4)

/-- The reason code of the first check of R67 that fails; 0 where all pass. -/
def Hw.submitCheck (h : Hw) (m : Master) (idx : Nat) (readOk : Bool) (bs : List Byte) : Nat :=
  if !inRange (256 * idx) 256 (h.commonsOf m) then 0x0D
  else if !readOk || !h.stacksGive (256 * idx) 256 then 0x0E
  else if fieldLE bs 5 1 ≠ 1 ∨ !descReserved bs then 0x01
  else if ctxOf m ≠ some (fieldLE bs 4 1) then 0x02
  else if !descGeometry bs then 0x03
  else if 7 < fieldLE bs 7 1 then 0x04
  else if fieldLE bs 6 1 = 0 then 0x05
  else if (h.page? idx).isSome then 0x06
  else if 512 ≤ h.headrace.pages.length then 0x07
  else 0

/-! ### Units and speeds -/

/-- Micrometres in SURF units, rounded half up, at the 6.047244 units of R76. -/
def umUnits (um : Nat) : Nat := (um * 6047244 + 500000) / 1000000

/-- SPEED_UMS of a grade (R78). -/
def Hw.speedUms (h : Hw) (g : Nat) : Nat := h.grade g 0 4

/-- Nanoseconds that a distance in SURF units takes at a grade's speed: 768/127 units are a micrometre. -/
def Hw.unitsNs (h : Hw) (g : Nat) (d : Int) : Int := approxDiv (d * 127 * 1000000000) (768 * h.speedUms g)

/-! ### Grades (R77) -/

/-- Whether the chain is on, and whether this module is its Headstock (R435). -/
def Hw.chainOn (h : Hw) : Bool := h.is pPEERA PEER.CHAIN_CFG_CHAIN_EN
def Hw.isHeadstock (h : Hw) : Bool := decide (h.rd pPEERA PEER.CHAIN_CFG_ROLE = 0)

/-- Whether this module decides about slots and grades: alone, or as Headstock (R447). -/
def Hw.decides (h : Hw) : Bool := !h.chainOn || h.isHeadstock

/-- The slowest effective grade that the MEMBERs report (R447). -/
def Hw.memberGrade (h : Hw) : Nat :=
  if h.chainOn && h.isHeadstock then
    (List.range 16).foldl (fun a m => if h.bit pPEERA PEER.CHAIN_STS_MEMBERS m then max a (tget (fun _ => 0) h.chain.grade m) else a) 0
  else 0

/-- The effective grade of a page on this module alone (R77). -/
def Hw.ownGrade (h : Hw) (g : PageRec) : Nat :=
  max (max g.grade (h.rd pHEADRACE HEADRACE.GRADE_CEIL))
    (max (h.rd pHEADRACE HEADRACE.HR_STS_FC_GRADE) (h.rd pTHERMALA THERMAL.TH_GRADE))

/-- The effective grade of a page for the press (R77, R447). -/
def Hw.effGrade (h : Hw) (g : PageRec) : Nat := max (h.ownGrade g) h.memberGrade

/-- The first page in submission order that is not yet admitted (R76). -/
def Hw.candidate (h : Hw) : Option PageRec := h.headrace.pages.find? fun g => decide (g.state = .submitted ∨ g.state = .resident)

/-- The press is idle: no page from ADMITTED to FUSED (R79, R86). -/
def Hw.pressIdle (h : Hw) : Bool := h.is pHEADRACE HEADRACE.HR_STS_IDLE

/-- Every admitted page has been exposed: the gap after the last of them (R77). -/
def Hw.allExposed (h : Hw) : Bool := !h.headrace.pages.any fun g => decide (g.state = .admitted ∨ g.state = .exposing)

/-- The stations take up the words and speed of the running grade (R168, R152), and the fuser its references (R320). -/
def Hw.gradeLoad (h : Hw) (g : Nat) (rpmChanged : Bool) : Hw :=
  let h := (forN 8 (fun s h => h.divLoad s g h.clk.time) h).fuserRefs
  if rpmChanged then forN 8 (fun s h => h.polyChanged s (h.polyRpm g)) h else h

/-- A change while the press is idle: the first page waits until the drum speeds are established (R79). -/
def Hw.settleFirst (h : Hw) : Hw := if h.pressIdle then h.modHr fun r => { r with settling := true } else h

/-- The pending grade change takes effect (R77). -/
def Hw.gradeApply (h : Hw) : Hw :=
  let p := pHEADRACE
  let g := h.rd p HEADRACE.HR_STS_PEND_GRADE
  let first := !h.is p HEADRACE.HR_STS_RUN_VALID
  let rpm := first || decide (h.polyRpm g ≠ h.polyRpm h.runGrade)
  let h := h.modHr fun r => { r with gradeWas := some (h.clk.cycles, h.gradeNow) }
  let h := ((h.wr p HEADRACE.HR_STS_RUN_GRADE g).wr p HEADRACE.HR_STS_RUN_VALID 1).wr p HEADRACE.HR_STS_PEND_VALID 0
  let h := { h with chain := { h.chain with gradeAfter := none } }
  (h.settleFirst.gradeLoad g rpm).polyRamps rpm

/-- Whether the last slot at the old grade, where the Headstock has named one, is past (R447). -/
def Hw.slotPassed (h : Hw) : Bool :=
  match h.chain.gradeAfter with
  | some l => decide (h.chain.nextSlot = 0) || decide ((h.chain.nextSlot + 2 ^ 32 - 1 - l) % 2 ^ 32 < 2 ^ 31)
  | none => true

/-- A frame on the CTRL channel that names this module as its origin (R436, R438). -/
def Hw.ctrlFrame (h : Hw) (ftype param : Nat) (body : List Byte) : Frame :=
  { plainFrame 4 ftype param body with flags := 16 * h.rd pPEERA PEER.CHAIN_CFG_MODULE }

/-- Send a frame down or up the chain (R436). -/
def Hw.chainDown (h : Hw) (f : Frame) : Hw := if h.chainOn then h.relSend (.peer 1) f else h
def Hw.chainUp (h : Hw) (f : Frame) : Hw := if h.chainOn && !h.isHeadstock then h.relSend (.peer 0) f else h

/-- The last slot planned of the joint schedule. -/
def Hw.lastSlotNo (h : Hw) : Nat := (h.chain.nextSlot + 2 ^ 32 - 1) % 2 ^ 32

/-- A grade change to g is requested (R77): no slot is planned while it is pending (R498); a Headstock tells the chain (R447). -/
def Hw.gradeRequest (h : Hw) (g : Nat) : Hw :=
  let p := pHEADRACE
  if h.is p HEADRACE.HR_STS_PEND_VALID ∧ h.rd p HEADRACE.HR_STS_PEND_GRADE = g then h
  else
    let h := (h.wr p HEADRACE.HR_STS_PEND_GRADE g).wr p HEADRACE.HR_STS_PEND_VALID 1
    let h := h.modHr fun r => { r with slot := none }
    let h := if h.isHeadstock then h.chainDown (h.ctrlFrame 0x7A (g + 2 ^ 32 * h.lastSlotNo) []) else h
    if h.pressIdle then h.gradeApply else h

/-- The engine kernel looks at the next page's effective grade (R77). -/
def Hw.gradeCheck (h : Hw) : Hw :=
  match h.candidate with
  | none => h
  | some g =>
    if h.kernelRuns && h.decides
        && (!h.is pHEADRACE HEADRACE.HR_STS_RUN_VALID || decide (h.effGrade g ≠ h.runGrade)) then h.gradeRequest (h.effGrade g)
    else h

/-! ### Slots (R498, R499) -/

/-- What the spacing of slots reads of a grade's row as it stands: its four words, GAP_MIN_MM and GAP_POLY_MM (R78, R79). -/
def Hw.rowAt (h : Hw) (g : Nat) : GradeRow :=
  ⟨g, [0, 4, 8, 12].map fun o => h.grade g o 4, h.grade g 0x14 2, h.grade g 0x16 2⟩

/-- The transition gap between two rows, mm (R78). -/
def Hw.transitionGap (h : Hw) (a b : GradeRow) : Nat :=
  let gap := h.rd pHEADRACE HEADRACE.GAP_MM
  if a.words.getD 1 0 = b.words.getD 1 0 then max gap (max a.gapMin b.gapMin) else max gap (max a.gapPoly b.gapPoly)

/-- The spacing that R147 asks between the last line of one image and the first of the next at a grade, in SURF units: 1.2 ms and a
facet period of surface. -/
def Hw.imageGap (h : Hw) (g : Nat) : Nat :=
  let rpm := max 1 (h.polyRpm g)
  ceilDiv (h.speedUms g * (1200 * rpm + 6000000) * 768) (127 * 1000000 * rpm)

/-- The belt distance that keeps R147 on a station between a slot and the next: the image and the gap over rho. -/
def Hw.imagePitch (h : Hw) (a : Slot) (g s : Nat) : Nat :=
  ceilDiv ((64 * (a.lines - 1) + h.imageGap g) * 2 ^ 30) (max 1 (h.rdi pTIME TIME.RHO s))

/-- The slot after slot a for a page, at a grade (R498): the transition gap where the grade changes, by a change of grade or by a switch
that changes the running row (R79). -/
def Hw.slotAfter (h : Hw) (run : Nat) (a : Slot) (g : PageRec) : Slot :=
  let row := h.rowAt run
  let gap := if a.row.grade = run ∧ a.row.words = row.words then h.rd pHEADRACE HEADRACE.GAP_MM else h.transitionGap a.row row
  let refd := umUnits (a.sheetLen + 1000 * gap)
  let tof : Int := (umUnits g.tofUm : Int) - umUnits a.tofUm
  let pitch : Int := (refd : Int) + tof
  let need := (List.range 8).foldl (fun n s => if bitAt a.mask s || g.uses s then max n (h.imagePitch a run s) else n) 0
  let d : Int := max pitch (need : Int)
  let p : Coord := a.beltP + BitVec.ofInt 48 d
  ⟨p, p - BitVec.ofNat 48 (umUnits g.tofUm), g.sheetLen, g.tofUm, g.lines, g.mask, row⟩

/-- The least distance from the belt reference to an exposure line of a page's stations (R76): the earliest first line. -/
def Hw.nearest (h : Hw) (g : PageRec) : Int :=
  let ds := (below 8 g.uses).map fun s => (h.usei pTIME TIME.N_NIP s : Int) - h.usei pTIME TIME.D_EXPO s
  match ds with
  | [] => 0
  | d :: rest => rest.foldl min d

/-- ADMIT_LEAD_MS of a grade in belt units at its speed. -/
def Hw.leadUnits (h : Hw) (g : Nat) : Nat := h.grade g 0x1A 2 * h.speedUms g * 768 / 127000

/-- A belt point rounded up to the next whole millimetre of belt, of 768000 / 127 units (R499), in whole units rounded up as well. -/
def wholeMm (z : Int) : Int :=
  let up (a : Int) (b : Nat) : Int := -((-a) / (b : Int))
  up (up (z * 127) 768000 * 768000) 127

/-- The first slot of a schedule that restarts, at a grade (R499). -/
def Hw.firstSlot (h : Hw) (run : Nat) (g : PageRec) : Slot :=
  let p : Coord := BitVec.ofInt 48 (wholeMm ((h.beltNow.toNat : Int) + h.leadUnits run - h.nearest g))
  ⟨p, p - BitVec.ofNat 48 (umUnits g.tofUm), g.sheetLen, g.tofUm, g.lines, g.mask, h.rowAt run⟩

/-- Whether anything keeps the schedule going (R499): a page admitted, something in the path, or a page RESIDENT. -/
def Hw.scheduleLives (h : Hw) : Bool :=
  decide (h.rd pSHEET SHEET.SH_STS_IN_FLIGHT ≠ 0) || h.headrace.pages.any fun g => decide (1 ≤ g.state.code ∧ g.state.code ≤ 6)

/-- The engine kernel keeps the schedule: it stops where nothing keeps it going, and plans the next slot where there is a page for it
(R498, R499). A slot is planned only once a page exists whose measures it takes (DEDUCED, assumption 38). -/
def Hw.planSlot (h : Hw) : Hw :=
  if !h.scheduleLives then h.modHr fun r => { r with running := false, slot := none, lastSlot := none }
  else if !h.kernelRuns || !h.decides || h.headrace.stopAtGap || h.headrace.slot.isSome
      || h.is pHEADRACE HEADRACE.HR_STS_PEND_VALID || !h.is pHEADRACE HEADRACE.HR_STS_RUN_VALID then h
  else match h.candidate with
    | none => h
    | some g =>
      match h.headrace.lastSlot with
      | some a =>
        let x := h.slotAfter h.runGrade a g
        h.modHr fun r => { r with running := true, slot := some x }
      | none =>
        if h.headrace.pages.any fun x => decide (x.state = .resident) then
          let x := h.firstSlot h.runGrade g
          h.modHr fun r => { r with running := true, slot := some x }
        else h

/-- The engine kernel follows a change of pages or grades: the effective grade, then the schedule. -/
def Hw.followPages (h : Hw) : Hw := h.gradeCheck.planSlot

/-- The Headrace takes a SUBMIT at the front of its queue; readOk: the Millpond read the descriptor (R67). -/
def submitProcess (readOk : Bool) (h : Hw) : Hw :=
  match h.headrace.queue with
  | .submit m idx :: _ =>
    if h.hrFree then
      let h := h.takeCmd
      let bs := h.descBytes idx
      let e := h.submitCheck m idx readOk bs
      if e = 0 then
        let g := pageOf idx (h.rd pHEADRACE HEADRACE.REPRINT_DEF) bs
        let h := h.modHr fun r => { r with pages := r.pages ++ [g] }
        (h.complete g.ctx (g.completion .state 0 0xFF)).showPages.followPages
      else
        let known := decide (e ≠ 0x0D ∧ e ≠ 0x0E)
        h.reject m ⟨if known then fieldLE bs 0 4 else 0, idx, 15, .submitReject, e, 0, 0xFF, if known then fieldLE bs 0x20 4 else 0⟩
    else h
  | _ => h

/-! ### Verification (R71) -/

/-- The first step of R71 that fails for a plane of a page; 0 where all pass. -/
def Hw.planeCheck (h : Hw) (g : PageRec) (pl : Plane) (readOk : Bool) : Nat :=
  let n := g.cols * g.rows
  let ia := pl.indexAddr * 64
  let da := pl.dataBase * 64
  let part := h.partition g.ctx
  if !inRange ia (8 * n) part || !inRange da pl.dataLen part then 0x08
  else if pl.dataLen % 64 ≠ 0 ∨ (ia < da + pl.dataLen ∧ da < ia + 8 * n) then 0x0F
  else if !readOk || !h.stacksGive ia (8 * n) then 0x0E
  else if crc32c (h.bytes ia (8 * n)) ≠ pl.indexCrc then 0x09
  else
    let es := (List.range n).map (h.indexEntry pl)
    if es.any fun e => decide (e / 2 ^ 49 ≠ 0) then 0x0A
    else if es.any fun e => decide (pl.dataLen < entryOffset e * 64 + entryLength e) then 0x0A
    else if es.any fun e => if entryRaw e then decide (entryLength e ≠ 28676) else decide (entryLength e < 26 ∨ 28675 < entryLength e) then 0x0A
    else 0

/-- A record of reason UNKNOWN_PAGE (R72). -/
def unknownPage (idx station : Nat) (k : RecKind) : Completion := ⟨0, idx, 15, k, 0x0B, 0, station, 0⟩

/-- The live page of the writing context at an index (R72). -/
def Hw.pageFor (h : Hw) (m : Master) (idx : Nat) : Option PageRec :=
  match h.page? idx with
  | some g => if ctxOf m = some g.ctx then some g else none
  | none => none

/-- The Headrace takes a PLANE_READY at the front of its queue (R71, R72). -/
def planeVerify (h : Hw) : Hw :=
  match h.headrace.queue with
  | .planeReady m idx s :: _ =>
    if h.hrFree then
      let h := h.takeCmd
      match h.pageFor m idx with
      | none => h.reject m (unknownPage idx s .planeReject)
      | some g =>
        if !g.uses s then h.reject m (g.completion .planeReject 0x0C s)
        else if (g.plane s).verified then h.complete g.ctx (g.completion .duplicate 0 s)
        else h.modHr fun r => { r with verifying := some (m, idx, s) }
    else h
  | _ => h

/-- EXP_RATIO after a verified plane (R80): an exponential mean with weight 1/16 of raw over stored bytes, in UQ8.8. -/
def Hw.ratioAdd (h : Hw) (g : PageRec) (pl : Plane) : Hw :=
  let raw := g.widthIn * g.lengthIn * 7 / 4
  let old : Int := h.rd pHEADRACE HEADRACE.EXP_RATIO
  let new := old + approxDiv (approxDiv (raw * 256 : Nat) (max 1 pl.dataLen) - old) 16
  h.wr pHEADRACE HEADRACE.EXP_RATIO (clampI 0 65535 new).toNat

/-- Verification ends; readOk: the Millpond read the index (R71, R73, R80). -/
def planeVerifyDone (readOk : Bool) (h : Hw) : Hw :=
  match h.headrace.verifying with
  | none => h
  | some (m, idx, s) =>
    let h := h.modHr fun r => { r with verifying := none }
    match h.pageFor m idx with
    | none => h.reject m (unknownPage idx s .planeReject)
    | some g =>
      let pl := g.plane s
      let e := h.planeCheck g pl readOk
      if e ≠ 0 then h.reject m (g.completion .planeReject e s)
      else
        let h := h.modPage idx fun g => { g with planes := g.planes.set s { pl with verified := true } }
        let h := ((h.pageRecord idx .planeOk 0 s).ratioAdd g pl).showPages
        match h.page? idx with
        | some g =>
          if g.state = .submitted ∧ g.verifiedMask &&& g.mask = g.mask then (h.enterState idx .resident 0).followPages else h
        | none => h

/-! ### WITHDRAW (R74) -/

/-- A page ends by withdrawal: an admitted one stops on its stations, its slot stays empty and its sheet, if fed, is purged (R74,
R411). -/
def Hw.withdrawPage (h : Hw) (d reason : Nat) : Hw :=
  match h.page? d with
  | none => h
  | some g =>
    let h := if g.state = .admitted then
        let h := h.stopPage d
        if g.fed then h.later (.purge d) else h
      else h
    (h.releasePage d reason).followPages

/-- The Headrace takes a WITHDRAW at the front of its queue (R72, R74). -/
def withdrawProcess (h : Hw) : Hw :=
  match h.headrace.queue with
  | .withdraw m idx :: _ =>
    if h.hrFree then
      let h := h.takeCmd
      match h.pageFor m idx with
      | none => h.completeFor m (unknownPage idx 0xFF .withdrawRefused)
      | some g =>
        if g.state.inFlight then h.complete g.ctx (g.completion .withdrawRefused 0x23 0xFF) else h.withdrawPage idx 0x20
    else h
  | _ => h

/-! ### Stacks (R60, R61) -/

/-- A second stack is lost (R61): every page not delivered is spoiled with STORE. -/
def Hw.storeFailed (h : Hw) : Hw :=
  (h.wr pHEADRACE HEADRACE.HR_STS_STORE_FAILED 1).spoilWhere (fun g => decide (g.state ≠ .delivered)) 0x18

/-- A stack is lost (R60, R61). -/
def stackLost (i : Fin 4) (h : Hw) : Hw :=
  if h.bit pHEADRACE HEADRACE.HR_STS_STACK_OK i then
    let h := (h.setBit pHEADRACE HEADRACE.HR_STS_STACK_OK i false).raise pHEADRACE 6 (cap0 i)
    if 2 ≤ h.lostStacks then h.storeFailed else h
  else h

/-! ### Admission (R76, R128) -/

/-- Condition 6 of R76 for station s: the belt point lies beyond D_s by the belt advance of 5 ms. -/
def Hw.notLate (h : Hw) (s : Nat) (p : Coord) : Bool :=
  decide ((768 * 5 * h.speedUms h.runGrade : Nat) ≤ 127000 * (h.nipDist s p h.beltNow - h.usei pTIME TIME.D_EXPO s))

/-- Whether the drum of station s turns at the surface speed of the running grade, as its encoder shows: within 1 %, the bound R151 puts on
the advance (DEDUCED, assumption 99). -/
def Hw.drumReady (h : Hw) (s : Nat) : Bool :=
  let cpr := h.usei pTIME TIME.COUNTS_PER_REV s
  let v : Int := h.encSpeed (h.drumCh s) * h.usei pTIME TIME.SURF_PER_REV s * 127
  let w : Int := (h.speedUms h.runGrade * 768 * 16 * cpr : Nat)
  decide (0 < cpr) && decide (100 * (v - w).natAbs ≤ w.natAbs)

/-- Whether the drums of a page's stations run at speed, where a change at rest asks for it (R79). -/
def Hw.drumsReady (h : Hw) (g : PageRec) : Bool := !h.headrace.settling || (List.range 8).all fun s => !g.uses s || h.drumReady s

/-- The first condition of R76 that fails for a page at a belt point, at the grade it would run at; 0 where all hold. -/
def Hw.admitFails (h : Hw) (g : PageRec) (p : Coord) (eff : Nat) : Nat :=
  let q := pHEADRACE
  if g.state ≠ .resident then 1
  else if !h.runs q || !h.is q HEADRACE.HR_CTRL_ADMIT_EN || h.is q HEADRACE.HR_CTRL_HOLD || h.is q HEADRACE.HR_STS_STORE_FAILED then 2
  else if !h.pageStationsOk g || !h.drumsReady g then 3
  else if !h.is q HEADRACE.HR_STS_RUN_VALID || decide (eff ≠ h.runGrade) || h.is q HEADRACE.HR_STS_PEND_VALID then 4
  else if 64 ≤ h.rd pSHEET SHEET.SH_STS_IN_FLIGHT then 5
  else if !(List.range 8).all fun s => !g.uses s || h.notLate s p then 6
  else 0

/-- What the admission records for station s (R128, R132, R190). -/
def Hw.recordFor (h : Hw) (s : Nat) : Recorded :=
  { warp := h.rd (pWARP s) WARP.WBANK_ACTIVE, screen := h.rd (pSCREEN s) SCREEN.SBANK_ACTIVE
    emit := h.rd (pEMIT s) EMIT.EBANK_ACTIVE, outside := h.use (pPIPE s) PIPE.PIPE_CTRL_OUTSIDE_LEVEL
    kill := h.use (pEMIT s) EMIT.KILL_LO + 2 ^ 32 * h.use (pEMIT s) EMIT.KILL_HI }

/-- The page at a descriptor index is admitted to a belt point (R76, R128, R130): every ARMED switch flips, the staged values of its
stations apply, and each station records what the page will use. -/
def Hw.admitPage (h : Hw) (d : Nat) (p : Coord) : Hw :=
  match h.page? d with
  | none => h
  | some g =>
    let h := (forN 8 (fun s h => h.flipBanks s) h).modHr fun r => { r with settling := false }
    let h := forN 8 (fun s h => if g.uses s then (h.commitWhole (pPIPE s)).commitWhole (pEMIT s) else h) h
    let on := (List.range 8).map fun s => if g.uses s then { OnStation.reset with recd := h.recordFor s } else OnStation.reset
    let h := h.modPage d fun g => { g with beltP := p, fed := false, stn := on }
    (h.enterState d .admitted 0).showAllInUse

/-- A slot is skipped (R76), with the condition that failed; for a joint slot that only the chain refuses (R446) none is named (free). -/
def Hw.skipSlot (h : Hw) (why : Nat) : Hw :=
  let f := if why = 0 then h.free 8 else (why, h)
  (f.2.inc pHEADRACE HEADRACE.SLOT_SKIP).raise pHEADRACE 4 (cap0 f.1)

/-- The slot is over: the next is spaced from it, admitted or skipped (R498). -/
def Hw.slotTaken (h : Hw) (a : Slot) : Hw := (h.modHr fun r => { r with slot := none, lastSlot := some a }).followPages

/-- What keeps a joint slot from every MEMBER's READY (R446): a member with no answer or a refusal, or with another JOB_ID. -/
def Hw.memberMissing (h : Hw) : Bool :=
  (List.range 16).any fun m => h.bit pPEERA PEER.CHAIN_STS_MEMBERS m && decide (m ≠ 0)
    && !(h.chain.readies.any fun r => decide (r.module = m) && r.ready)
def Hw.jobDiffers (h : Hw) (job : Nat) : Bool := h.chain.readies.any fun r => r.ready && decide (r.job ≠ job)

/-- The Headstock's decision on a joint slot (R446): whether every MEMBER is ready with its job. -/
def Hw.jointGo (h : Hw) (job : Nat) : Bool := h.chain.offered.isSome && !h.memberMissing && !h.jobDiffers job

/-- The slots with page d admitted to slot n. -/
def Chain.takeSlot (c : Chain) (n d : Nat) : List (Nat × Nat) := (n, d) :: c.slots.filter fun x => decide (x.2 ≠ d)

/-- The Headstock closes a joint slot and tells the chain (R446). -/
def Hw.jointClose (h : Hw) (d : Nat) (go : Bool) (job : Nat) : Hw :=
  if !h.chainOn then h
  else
    let n := h.chain.nextSlot
    let h := if h.jobDiffers job then
        h.raise pPEERA 1 ⟨0x16 + 256 * 4, 0x0400 + ((h.chain.readies.find? fun r => r.ready && decide (r.job ≠ job)).map Ready.module).getD 0, 6, false⟩
      else h
    let h := h.chainDown (h.ctrlFrame 0x76 (n + 2 ^ 32 * b2n go) [])
    { h with chain := { h.chain with
        nextSlot := (n + 1) % 2 ^ 32, offered := none, readies := [], gone := if go then some (n, h.mono) else h.chain.gone
        slots := if go then h.chain.takeSlot n d else h.chain.slots, spoils := h.chain.spoils.filter fun x => decide (x.1 ≠ n) } }

/-- A slot's admission time arrives (R76, R446). While the press stops at the gap, or with no page left to admit, it is neither admitted nor
skipped (DESIGN CHOICE, assumption 101). -/
def slotDue (h : Hw) : Hw :=
  match h.headrace.slot, h.candidate with
  | some a, some g =>
    if h.headrace.stopAtGap || !h.kernelRuns || !h.decides then h
    else
      let why := h.admitFails g a.beltP (h.effGrade g)
      let go := decide (why = 0) && (!h.chainOn || h.jointGo g.jobId)
      let h := h.jointClose g.desc go g.jobId
      let h := if go then h.admitPage g.desc a.beltP else h.skipSlot why
      h.slotTaken a
  | _, _ => h

/-! ### Gaps and grade changes (R77, R79) -/

/-- The words of a grade row a switch compares (R79): SPEED_UMS, POLY_RPM and the two SCLK words, in a bank. -/
def Hw.rowWords (h : Hw) (b g : Nat) : List Nat := [0, 4, 8, 12].map fun o => h.tableLE (0x100 * b + 32 * g + o) 4

/-- Whether a switch to the inactive bank is a grade change (R79). -/
def Hw.gtChanges (h : Hw) : Bool :=
  let b := h.rd pHEADRACE HEADRACE.GT_BANK_ACTIVE
  h.is pHEADRACE HEADRACE.HR_STS_RUN_VALID && decide (h.rowWords b h.runGrade ≠ h.rowWords (1 - b) h.runGrade)

/-- Whether row g of bank b meets R79. -/
def Hw.rowOk (h : Hw) (b g : Nat) : Bool :=
  let f (r o n : Nat) : Nat := h.tableLE (0x100 * b + 32 * r + o) n
  let v := f g 0 4
  let rpm := f g 4 4
  decide (f g 0x12 2 % 2 = 1 ∧ 0 < v ∧ v ≤ 2000000 ∧ 0 < rpm ∧ rpm ≤ 48000 ∧ v * 144000 ≤ 24 * 254000 * rpm)
    && (decide (g = 0) || decide (v < f (g - 1) 0 4))

/-- Whether the runout table of station s in bank b meets R49. -/
def Hw.runoutOk (h : Hw) (b s : Nat) : Bool :=
  let lim : Int := -((h.usei pTIME TIME.SURF_PER_REV s / 512 : Nat) : Int)
  (List.range 256).all fun i => decide (lim ≤ h.runout b s (i + 1) - h.runout b s i)

/-- The first failure of a switch to bank b (R79): a row, or 8 + s for the runout table of station s. -/
def Hw.gtCheck (h : Hw) (b : Nat) : Option Nat :=
  match (List.range 8).find? fun g => !h.rowOk b g with
  | some g => some g
  | none => ((List.range 8).find? fun s => !h.runoutOk b s).map (8 + ·)

/-- A pending bank switch comes to its gap (R79). -/
def Hw.gtApply (h : Hw) : Hw :=
  let p := pHEADRACE
  let changes := h.gtChanges
  let old := h.polyRpm h.runGrade
  let b := 1 - h.rd p HEADRACE.GT_BANK_ACTIVE
  let bad := h.gtCheck b
  let h := h.wr p HEADRACE.GT_BANK_SWITCH_PEND 0
  let h := if changes && decide (h.rd p HEADRACE.HR_STS_PEND_GRADE = h.runGrade) then
      { h.wr p HEADRACE.HR_STS_PEND_VALID 0 with chain := { h.chain with gradeAfter := none } }
    else h
  match bad with
  | some r => (h.raise p 7 (cap0 r)).followPages
  | none =>
    let h := h.wr p HEADRACE.GT_BANK_ACTIVE b
    let h := if changes then (h.settleFirst.gradeLoad h.runGrade (decide (h.polyRpm h.runGrade ≠ old))).polyRamps (decide (h.polyRpm h.runGrade ≠ old)) else h
    h.followPages

/-- A write of GT_BANK.SWITCH (R79): a switch that changes the running grade's speed or words is itself a grade change. -/
def gtBankSwitch (m : Master) (h : Hw) : Hw :=
  h.writeTo m (addrOf HEADRACE.GT_BANK_SWITCH pHEADRACE 0) fun h =>
    if h.is pHEADRACE HEADRACE.GT_BANK_SWITCH_PEND then h
    else
      let h := h.wr pHEADRACE HEADRACE.GT_BANK_SWITCH_PEND 1
      if h.pressIdle then h.gtApply
      else if h.gtChanges && !h.is pHEADRACE HEADRACE.HR_STS_PEND_VALID then h.gradeRequest h.runGrade
      else h

/-- The pending grade change takes effect in the gap after the last page already admitted (R77), on a Tailstock after the last slot at
the old grade (R447). A pending bank switch comes to the same gap, and is the change itself where it is one of the running grade (R79). -/
def gradeChangeApply (h : Hw) : Hw :=
  let p := pHEADRACE
  if h.is p HEADRACE.HR_STS_PEND_VALID && h.allExposed && h.slotPassed then
    let h := if h.is p HEADRACE.GT_BANK_SWITCH_PEND then h.gtApply else h
    if h.is p HEADRACE.HR_STS_PEND_VALID then h.gradeApply.followPages else h
  else h

/-- The gap of a pending bank switch (R79): one that is a grade change waits until every admitted page is exposed. -/
def gtBankApply (h : Hw) : Hw :=
  if h.is pHEADRACE HEADRACE.GT_BANK_SWITCH_PEND && !h.anyExposing && (!h.gtChanges || h.allExposed) then h.gtApply else h

/-! ### The forecast (R80) -/

/-- The bytes of a page's planes that are not verified, as the forecast expects them. -/
def Hw.unverified (h : Hw) (g : PageRec) : Nat :=
  let raw := g.widthIn * g.lengthIn * 7 / 4
  let ratio := h.rd pHEADRACE HEADRACE.EXP_RATIO
  ((below 8 g.uses).filter fun s => !(g.plane s).verified).length * (raw * 256 / max 1 ratio)

/-- The free space of a context's partition: what no pin covers (DEDUCED, assumption 39). -/
def Hw.freeSpace (h : Hw) (c : Nat) : Nat :=
  let r := h.partition c
  (r.2 - r.1) - pinBytes ((h.pins').filterMap fun x => if max x.1 r.1 < min x.2 r.2 then some (max x.1 r.1, min x.2 r.2) else none)

/-- The slots that a list of pages would get after slot a at grade g, spaced under R498. -/
def Hw.slotsFrom (h : Hw) (g : Nat) : Slot → List PageRec → List (PageRec × Slot)
  | _, [] => []
  | a, x :: xs => (x, h.slotAfter g a x) :: h.slotsFrom g (h.slotAfter g a x) xs

/-- The pages of the forecast with the belt distance from now to their first line, if every slot from the present one on were filled at
grade g (R80, R498, R499). -/
def Hw.slotTimes (h : Hw) (g : Nat) : List (PageRec × Int) :=
  let ps := h.headrace.pages.filter fun x => decide (x.state = .submitted ∨ x.state = .resident)
  let slots := match ps with
    | [] => []
    | x :: xs =>
      match h.headrace.slot, h.headrace.lastSlot with
      | some a, _ => (x, a) :: h.slotsFrom g a xs
      | none, some a => h.slotsFrom g a ps
      | none, none => (x, h.firstSlot g x) :: h.slotsFrom g (h.firstSlot g x) xs
  slots.map fun y => (y.1, signed 48 (unsignedOf 48 ((y.2.beltP.toNat : Int) - h.beltNow.toNat)) + h.nearest y.1)

/-- The bytes DMA wrote into page data in the last 250 ms, per microsecond (R80). -/
def Hw.ingestRate (h : Hw) : Nat :=
  let bytes : Nat := (h.headrace.ingest.filter fun x => decide ((h.mono - x.1).toNat < 256000000000)).foldl (fun a x => a + x.2) 0
  min (2 ^ 32 - 1) (approxDiv ((bytes : Nat) : Int) 250000).toNat

/-- The outcome of the forecast (R80): no page in the horizon, a margin in ns, or minus infinity. -/
inductive Margin where
  | none
  | ns (m : Int)
  | never
deriving DecidableEq, Repr

/-- The margin over a list of pages, with the backlog so far and the smallest margin so far. -/
def Hw.marginOver (h : Hw) (g ingest : Nat) : List (PageRec × Int) → Nat → Margin → Margin
  | [], _, m => m
  | (x, d) :: rest, backlog, m =>
    let due := h.unitsNs g d - h.grade g 0x1A 2 * 1000000
    if h.grade g 0x18 2 * 1000000 < due then m
    else
      let need := h.unverified x
      let backlog := backlog + need
      if (ingest = 0 ∧ 0 < backlog) ∨ h.freeSpace x.ctx < need then .never
      else
        let ready : Int := if backlog = 0 then 0 else (backlog * 1000 / ingest : Nat)
        h.marginOver g ingest rest backlog (match m with
          | .ns v => .ns (min v (due - ready))
          | _ => .ns (due - ready))

/-- margin(g) of R80. -/
def Hw.margin (h : Hw) (g ingest : Nat) : Margin := h.marginOver g ingest (h.slotTimes g) 0 .none

/-- Whether a margin is below 0. -/
def Margin.neg : Margin → Bool
  | .none => false
  | .ns v => decide (v < 0)
  | .never => true

/-- FC_MARGIN for a margin: ms toward zero, saturating (R80, R86). -/
def Margin.shown : Margin → Nat
  | .none => 0x7FFFFFFF
  | .ns v => satSigned 32 (v.tdiv 1000000)
  | .never => 0x80000000

/-- FC_GRADE changes by one step (R80). -/
def Hw.fcStep (h : Hw) (g : Nat) : Hw :=
  let h := (h.modHr fun r => { r with fcMoved := true, marginSince := none }).wr pHEADRACE HEADRACE.HR_STS_FC_GRADE g
  (h.raise pHEADRACE 5 (cap0 g)).followPages

/-- The 1 ms evaluation of the forecast (R80). -/
def forecastEval (h : Hw) : Hw :=
  let p := pHEADRACE
  if h.is p HEADRACE.HR_CTRL_FORECAST_EN && h.kernelRuns then
    let n := h.ingestRate
    let h := h.wr p HEADRACE.INGEST_RATE n
    let m := h.margin h.runGrade n
    let fc := h.rd p HEADRACE.HR_STS_FC_GRADE
    let calm := decide (0 < fc) && !(h.margin (fc - 1) n).neg
    let h := (h.wr p HEADRACE.FC_MARGIN m.shown).wr p HEADRACE.HR_STS_STARVE (b2n m.neg)
    let h := h.modHr fun r => { r with marginSince := if calm then (if r.marginSince.isSome then r.marginSince else some h.clk.time) else none }
    if m.neg && decide (fc < 7) && !h.headrace.fcMoved then h.fcStep (fc + 1) else h
  else h

/-- The margin of the next faster grade has held for STEPUP_HOLD (R80). -/
def forecastStepDown (h : Hw) : Hw :=
  let fc := h.rd pHEADRACE HEADRACE.HR_STS_FC_GRADE
  if h.is pHEADRACE HEADRACE.HR_CTRL_FORECAST_EN && h.kernelRuns && decide (0 < fc) && h.headrace.marginSince.isSome
      && !h.headrace.fcMoved then h.fcStep (fc - 1) else h

/-- A clear of HR_CTRL.FORECAST_EN (R80). -/
def forecastEnClear (m : Master) (h : Hw) : Hw :=
  let p := pHEADRACE
  h.writeTo m (addrOf HEADRACE.HR_CTRL_FORECAST_EN p 0) fun h =>
    let h := (h.wr p HEADRACE.HR_CTRL_FORECAST_EN 0).modHr fun r => { r with marginSince := none }
    (((h.wr p HEADRACE.HR_STS_FC_GRADE 0).wr p HEADRACE.HR_STS_STARVE 0).wr p HEADRACE.FC_MARGIN 0x7FFFFFFF).followPages

/-! ### Rings and queries (R86) -/

/-- A write of a context's RING_CFG (R86): LOG2SIZE clamped; a write while EN is 1 restarts the ring. -/
def ringCfgWrite (m : Master) (c : Fin 16) (log2 : BitVec 4) (en : Bool) (h : Hw) : Hw :=
  let p := pHEADRACE
  h.writeTo m (addrOf HEADRACE.RING_CFG_EN p c) fun h =>
    let was := h.isi p HEADRACE.RING_CFG_EN c
    let h := (h.wri p HEADRACE.RING_CFG_LOG2SIZE c (clampN 6 12 log2.toNat)).wri p HEADRACE.RING_CFG_EN c (b2n en)
    if was then (h.wri p HEADRACE.RING_HEAD c 0).wri p HEADRACE.RING_TAIL c 0 else h

/-- A block reset of HEADRACE (R86): the queue goes without records, the counters are cleared; a verification in hand completes. -/
def Hw.resetHeadrace (h : Hw) : Hw :=
  let h := (h.modHr fun r => { r with queue := [] }).showQueue
  let h := (h.wr pHEADRACE HEADRACE.SLOT_SKIP 0).wr pHEADRACE HEADRACE.CMDQ_DROP 0
  forN 16 (fun c h => h.wri pHEADRACE HEADRACE.RING_LOST c 0) h

end Sys2Proof.Machine
end

