-- ==== Sys2Proof/Machine/Sheets.lean ====
section
/-! DEFINITION. The sheet tracker and the jam stop (R341–R349, R351). -/

namespace Sys2Proof.Machine

/-! ### Slots and checkpoints -/

/-- Sheet slot n, and its change. -/
def Hw.sheet (h : Hw) (n : Nat) : SheetSlot := tget (fun _ => SheetSlot.reset) h.sheets n
def Hw.modSheet (h : Hw) (n : Nat) (f : SheetSlot → SheetSlot) : Hw :=
  { h with sheets := tset (fun _ => SheetSlot.reset) h.sheets n (f (h.sheet n)) }

/-- A field of sheet n, and its write. -/
def Hw.sh (h : Hw) (f : Field) (n : Nat) : Nat := h.rdi pSHEET f n
def Hw.shWr (h : Hw) (f : Field) (n v : Nat) : Hw := h.wri pSHEET f n v

/-- The state of sheet slot n: 0 FREE, 1 TRACKING, 2 JAMMED (R351). -/
def Hw.shState (h : Hw) (n : Nat) : Nat := h.sh SHEET.SH_ENTRY_STATE n

/-- Whether the tracker is JAMMED. -/
def Hw.jammed (h : Hw) : Bool := h.is pSHEET SHEET.SH_STS_JAMMED

/-- The class a sheet follows: its PURGE class once it is purging (R341, R345). -/
def Hw.shClass (h : Hw) (n : Nat) : Nat :=
  let c := h.sh SHEET.SH_ENTRY_CLASS n
  if (h.sheet n).purging then c ||| 1 else c

/-- Whether checkpoint i is enabled. -/
def Hw.cpOn (h : Hw) (i : Nat) : Bool := h.isi pSHEET SHEET.CP_SRC_EN i

/-- The checkpoints of a class, in order; PRESENCE inputs follow no sheet (R341, R346). -/
def Hw.classCps (h : Hw) (c : Nat) : List Nat :=
  below 128 fun i => h.cpOn i && bitAt (h.sh SHEET.CP_SRC_CLASS i) c && decide (h.sh SHEET.CP_SRC_KIND i ≠ 5)

/-- The next checkpoint of sheet n not yet passed. -/
def Hw.nextCp (h : Hw) (n : Nat) : Option Nat := (h.classCps (h.shClass n)).find? fun i => !(h.sheet n).lead.contains i

/-- Show IN_FLIGHT on the SHEET and HEADRACE pages, and the free slots (R86, R351). -/
def Hw.showSheets (h : Hw) : Hw :=
  let free := (below 64 fun n => decide (h.shState n = 0)).foldl (fun a n => a + 2 ^ n) 0
  let n := (below 64 fun n => decide (h.shState n ≠ 0)).length
  let h := h.wr2 pSHEET SHEET.FREE_LO SHEET.FREE_HI 0 free
  (h.wr pSHEET SHEET.SH_STS_IN_FLIGHT n).wr pHEADRACE HEADRACE.SHEETS_INFLIGHT n

/-- Show NEXT_CP of sheet n. -/
def Hw.showNext (h : Hw) (n : Nat) : Hw := h.shWr SHEET.SH_ENTRY_NEXT_CP n ((h.nextCp n).getD 0)

/-- Slot n is freed. -/
def Hw.freeSheet (h : Hw) (n : Nat) : Hw :=
  let h := h.modSheet n fun _ => SheetSlot.reset
  ((h.shWr SHEET.SH_ENTRY_STATE n 0).shWr SHEET.SH_ENTRY_PURGE n 0).showSheets

/-- The capture of the SHEET page (R351). -/
def shCap (cp slot : Nat) : Cap := ⟨cp + 256 * slot, 0xFFFF, 6, false⟩

/-- B_exp of sheet n at checkpoint i, for its lead or its trailing edge (R343). -/
def Hw.bExp (h : Hw) (n i : Nat) (trail : Bool) : Nat :=
  unsignedOf 48 ((h.rd2 pSHEET SHEET.SH_REF_LO SHEET.SH_REF_HI n : Int) + signed 32 (h.sh SHEET.CP_OFS i)
    + (if trail then h.sh SHEET.SH_LEN n else 0 : Nat))

/-! ### Opening and enabling (R341, R342) -/

/-- Whether the late limit of checkpoint i has passed for sheet n: BELT exceeds it (R342, R344). -/
def Hw.latePassed (h : Hw) (n i : Nat) : Bool :=
  decide ((h.sh SHEET.CP_WIN_LATE i : Int) < beltDiff h.beltNow.toNat (h.bExp n i false))

/-- CFG_REFUSED of the SHEET page. -/
def Hw.shRefuse (h : Hw) (cp slot : Nat) : Hw := h.raise pSHEET 5 (shCap cp slot)

/-- Sheet n is set PURGE (R345): it follows its PURGE class from its next checkpoint; one past its FUSER_EXIT stays in its class. -/
def Hw.setPurge (h : Hw) (n : Nat) : Hw :=
  let past := (h.sheet n).lead.any fun i => decide (h.sh SHEET.CP_SRC_KIND i = 2)
  let h := (h.shWr SHEET.SH_ENTRY_PURGE n 1).modSheet n fun x => { x with purging := !past }
  let h := if past || !h.kernelRuns then h else h.send (.divert n)
  h.showNext n

/-- PURGE of a tracked sheet is written by the engine kernel (R351). -/
def Hw.purgeWritten (h : Hw) (n : Nat) (v : Bool) : Hw :=
  if v && decide (h.shState n = 1) then (if h.isi pSHEET SHEET.SH_ENTRY_PURGE n then h else h.setPurge n)
  else ((h.shWr SHEET.SH_ENTRY_PURGE n (b2n v)).modSheet n fun x => { x with purging := false }).showNext n

/-- A write of SH_ENTRY with STATE 1 opens a sheet (R342), with PURGE as written (R351). -/
def sheetOpen (m : Master) (n : Fin 64) (d : BitVec 20) (c : Fin 4) (purge : Bool) (h : Hw) : Hw :=
  h.kernelOnly m (addrOf SHEET.SH_ENTRY_DESC pSHEET n) fun h =>
    let late := match (h.classCps c).head? with
      | some i => h.latePassed n i
      | none => false
    if h.jammed || decide (h.shState n ≠ 0) || late then h.shRefuse 0 n
    else
      let h := (h.modSheet n fun _ => SheetSlot.reset).shWr SHEET.SH_ENTRY_DESC n d.toNat
      let h := (h.shWr SHEET.SH_ENTRY_CLASS n c).shWr SHEET.SH_ENTRY_PURGE n 0
      let h := ((h.shWr SHEET.SH_ENTRY_STATE n 1).showNext n).showSheets
      let h := if purge then h.setPurge n else h
      let h := h.modPage d.toNat fun g => if g.state = .admitted then { g with fed := true } else g
      if h.sh SHEET.SH_STS_IN_FLIGHT 0 = 64 then h.raise pSHEET 7 (shCap 0 n) else h

/-- The terminal kind of a class (R341): DELIVERY, or PURGE_EXIT. -/
def terminalKind (c : Nat) : Nat := if c % 2 = 0 then 3 else 4

/-- Whether the checkpoints of a class meet R341: ascending offsets, and one terminal checkpoint at the end. -/
def Hw.classOk (h : Hw) (c : Nat) : Bool :=
  let cps := h.classCps c
  let ofs := cps.map fun i => signed 32 (h.sh SHEET.CP_OFS i)
  let kinds := cps.map fun i => h.sh SHEET.CP_SRC_KIND i
  ((ofs.zip (ofs.drop 1)).all fun x => decide (x.1 < x.2)) && decide (kinds.getLast? = some (terminalKind c))
    && decide ((kinds.filter fun k => decide (k = 3 ∨ k = 4)).length = 1)

/-- A write of SH_CTRL.EN (R341). -/
def sheetEnWrite (m : Master) (v : Bool) (h : Hw) : Hw :=
  h.writeTo m (addrOf SHEET.SH_CTRL_EN pSHEET 0) fun h =>
    if v && !((List.range 4).all h.classOk) then h.shRefuse 0 0 else h.wr pSHEET SHEET.SH_CTRL_EN (b2n v)

/-! ### The jam stop (R347, R348) -/

/-- The speed reference of an axis ramps to 0 at JAM_DECEL (R348): the drive runs at the process speed of the running grade, so that a
deceleration in mm/s² takes every reference to 0 in the same time (DEDUCED, assumption 120). -/
def Hw.driveStop (h : Hw) (n : Nat) : Hw :=
  match h.speedSlot n with
  | some j =>
    let ref := (signed 32 ((h.rampRef j).sl j GOV.SL_REF)).natAbs
    let speed := h.grade h.runGrade 0 4
    if speed = 0 then h.setRef j 0 else h.startRamp j 0 (ref * h.rd pSHEET SHEET.JAM_DECEL) (speed * 1000000)
  | none => h

/-- What the engine kernel does within 200 µs of a jam (R348): laser permission off, HV references and drive speeds ramped to 0, lamps off
where LAMP_OFF says so. -/
def Hw.jamKernel (h : Hw) : Hw :=
  let h := forN 8 (fun s h => h.wr (pIVINA s) IVINA.IV_CTRL_LEN_EN 0) h
  let h := forN 42 (fun c h => match h.hvSlot c with
    | some j => h.startRamp j 0 (h.rd (hvPage c) HVIO.HV_RAMP) 1000
    | none => h) h
  let h := forN 12 (fun i h => h.driveStop (8 + i)) h
  if h.is pSHEET SHEET.SH_CTRL_LAMP_OFF then h.lampsEstop else h

/-- JAM_INFO of a jam. -/
def Hw.jamInfo (h : Hw) (cause cp slot : Nat) : Hw :=
  ((h.wr pSHEET SHEET.JAM_INFO_CP cp).wr pSHEET SHEET.JAM_INFO_SLOT slot).wr pSHEET SHEET.JAM_INFO_CAUSE cause

/-- A jam is declared with a cause, at a checkpoint and slot (R347, R348); while JAMMED it is only counted, but that of two causes of one
clock the lower code is recorded. -/
def Hw.jamHere (h : Hw) (cause cp slot : Nat) : Hw :=
  let p := pSHEET
  let h := h.inc p SHEET.JAM_CNT
  if h.jammed then
    (if h.jamAt = some h.clk.cycles ∧ cause < h.rd p SHEET.JAM_INFO_CAUSE then h.jamInfo cause cp slot else h)
  else
    let h := ({ h with jamAt := some h.clk.cycles }.wr p SHEET.SH_STS_JAMMED 1).raise p 0 (shCap cp slot)
    let h := h.jamInfo cause cp slot
    let h := h.wr2 p SHEET.JAM_TIME_LO SHEET.JAM_TIME_HI 0 h.now
    let h := forN 64 (fun n h => if h.shState n = 0 then h else h.shWr SHEET.SH_ENTRY_STATE n 2) h
    let h := h.stpJam
    let adm := (h.headrace.pages.filter fun g => decide (g.state = .admitted)).map PageRec.desc
    let h := h.spoilWhere (fun g => g.state.inFlight) 0x10
    let h := adm.foldl (fun h d => h.returnPage d) h
    if h.kernelRuns then h.jamKernel else h

/-- A jam that starts on this module is sent to every module of the chain (R449). -/
def Hw.declareJam (h : Hw) (cause cp slot : Nat) : Hw :=
  let f := h.ctrlFrame 0x7B cause []
  let was := h.jammed
  let h := h.jamHere cause cp slot
  if was then h else (h.chainDown f).chainUp f

/-- SH_CTRL.JAM_REQ (R347). -/
def jamReq (m : Master) (h : Hw) : Hw := h.writeTo m (addrOf SHEET.SH_CTRL_JAM_REQ pSHEET 0) fun h => h.declareJam 5 0 0

/-- Whether the encoder channels of the drives 8 to 19 show STOPPED (R349). -/
def Hw.drivesStopped (h : Hw) : Bool :=
  (List.range 12).all fun i =>
    let c := h.rd (pAXIS (8 + i)) AXIS.AX_CFG_ENC_CH
    decide (20 ≤ c) || h.encIs c FEEDBACK.CH_STS_STOPPED

/-- SH_CTRL.JAM_CLR (R349). -/
def jamClr (m : Master) (h : Hw) : Hw :=
  h.writeTo m (addrOf SHEET.SH_CTRL_JAM_CLR pSHEET 0) fun h =>
    if h.drivesStopped then
      let h := forN 64 (fun n h => if h.shState n = 0 then h else h.freeSheet n) h
      (h.wr pSHEET SHEET.SH_STS_JAMMED 0).later .gradeCheck
    else h.shRefuse 0 0

/-- Whether BELT exceeded the late limit of sheet n at checkpoint i more than REPORT_MAX ago, by the tracker's history (R344). -/
def Hw.reportOver (h : Hw) (n i : Nat) (trail : Bool) : Bool :=
  let wait := h.rd pSHEET SHEET.REPORT_MAX * 1024000
  h.beltHist.any fun x => decide (wait < (h.clk.time - x.1).toNat)
    && decide ((h.sh SHEET.CP_WIN_LATE i : Int) < beltDiff x.2.toNat (h.bExp n i trail))

/-- No matching edge of sheet n at checkpoint i has come by t_close + REPORT_MAX (R344); one of the same clock would still match. A jam of the
same clock does not hide it (R347). -/
def checkpointMissed (n : Fin 64) (i : Fin 128) (trail : Bool) (h : Hw) : Hw :=
  let tracked := if h.jammed then decide (h.jamAt = some h.clk.cycles ∧ h.shState n = 2) else decide (h.shState n = 1)
  let due := h.reportOver n i trail && h.is pSHEET SHEET.SH_CTRL_EN && h.runs pSHEET && tracked && (h.classCps (h.shClass n)).contains i
    && (if trail then h.isi pSHEET SHEET.CP_SRC_TRAIL_EN i && (h.sheet n).lead.contains i && !(h.sheet n).trail.contains i
        else !(h.sheet n).lead.contains i)
  if due then h.declareJam (if trail then 3 else 1) i n else h

/-- The sheets of a page run through unprinted and are purged from their next checkpoint (R345). -/
def Hw.purgeSheets (h : Hw) (d : Nat) : Hw :=
  forN 64 (fun n h =>
    if h.shState n = 1 ∧ h.sh SHEET.SH_ENTRY_DESC n = d ∧ h.sh SHEET.SH_ENTRY_PURGE n = 0 then h.setPurge n else h) h

/-! ### Edges (R343) -/

/-- BELT at a stamp, interpolated linearly in the tracker's history; a stamp the history does not reach has no stated value
(assumption 40). -/
def Hw.beltAt (h : Hw) (t : Stamp) : Nat × Hw :=
  let rec go : List (Stamp × Coord) → Option Nat
    | x :: y :: rest =>
      if x.1 = t then some x.2.toNat
      else if y.1.toNat ≤ t.toNat ∧ t.toNat < x.1.toNat then
        some (unsignedOf 48 ((y.2.toNat : Int)
          + approxDiv (beltDiff x.2.toNat y.2.toNat * (t.toNat - y.1.toNat : Nat)) (x.1.toNat - y.1.toNat)))
      else go (y :: rest)
    | [x] => if x.1 = t then some x.2.toNat else none
    | [] => none
  match h.beltHist with
  | [] => (h.beltNow.toNat, h)
  | x :: _ =>
    if x.1.toNat ≤ t.toNat then (if x.1 = t then x.2.toNat else h.beltNow.toNat, h)
    else match go h.beltHist with
      | some b => (b, h)
      | none => h.free 48

/-- A page moves on to a state by its sheet (R343): states passed over are entered in turn. -/
def Hw.pageReaches (h : Hw) (d code : Nat) : Hw :=
  let step (h : Hw) (st : PState) : Hw :=
    match h.page? d with
    | some g => if decide (4 ≤ g.state.code) && decide (g.state.code < st.code) && decide (st.code ≤ code) then h.enterState d st 0 else h
    | none => h
  let h := step (step (step h .transferred) .fused) .delivered
  match h.page? d with
  | some g => if g.state = .delivered then h.releasePage d 0 else h
  | none => h

/-- What a matched lead edge does by the checkpoint's KIND (R341, R343). A sheet being purged no longer stands for its page. -/
def Hw.cpEffect (h : Hw) (n i : Nat) : Hw :=
  let d := h.sh SHEET.SH_ENTRY_DESC n
  let k := h.sh SHEET.CP_SRC_KIND i
  let h := if h.sh SHEET.SH_ENTRY_PURGE n = 0 then
      (if k = 1 then h.pageReaches d 5 else if k = 2 then h.pageReaches d 6 else if k = 3 then h.pageReaches d 7 else h)
    else h
  if k = 3 then
    ((h.freeSheet n).wr pSHEET SHEET.DONE_CNT ((h.rd pSHEET SHEET.DONE_CNT + 1) % 2 ^ 32)).raise pSHEET 3 (shCap i n)
  else if k = 4 then ((h.freeSheet n).inc pSHEET SHEET.PURGE_CNT).raise pSHEET 4 (shCap i n)
  else h.showNext n

/-- Whether b lies in the window of sheet n at checkpoint i, limits included. -/
def Hw.inWindow (h : Hw) (n i : Nat) (trail : Bool) (b : Nat) : Bool :=
  let d := beltDiff b (h.bExp n i trail)
  decide (-(h.sh SHEET.CP_WIN_EARLY i : Int) ≤ d ∧ d ≤ h.sh SHEET.CP_WIN_LATE i)

/-- The sheet an edge at checkpoint i matches: of those not yet passed there, the one with the lowest REF (R343). -/
def Hw.matchSheet (h : Hw) (i : Nat) (trail : Bool) (b : Nat) : Option Nat :=
  let ref (n : Nat) : Nat := h.rd2 pSHEET SHEET.SH_REF_LO SHEET.SH_REF_HI n
  let ns := below 64 fun n => decide (h.shState n = 1) && (h.classCps (h.shClass n)).contains i
    && !(if trail then (h.sheet n).trail else (h.sheet n).lead).contains i && h.inWindow n i trail b
  match ns with
  | [] => none
  | n :: rest => some (rest.foldl (fun a k => if beltDiff (ref k) (ref a) < 0 then k else a) n)

/-- An edge at checkpoint i, at BELT b and stamp t, is judged (R343, R344, R346); while JAMMED it is only counted (R348; DESIGN CHOICE,
assumption 146). -/
def Hw.cpEdge (h : Hw) (i : Nat) (level : Bool) (b : Nat) (t : Stamp) : Hw :=
  let lead := decide (level = h.isi pSHEET SHEET.CP_SRC_POL i)
  if h.sh SHEET.CP_SRC_KIND i = 5 then
    (if h.is pSHEET SHEET.SH_CTRL_WEB_RUN && !lead then h.declareJam 4 i 0 else h)
  else if !lead && !h.isi pSHEET SHEET.CP_SRC_TRAIL_EN i then h
  else if h.jammed then
    let h := { h with jamEdges := h.jamEdges + 1 }
    let n := h.rd pSHEET SHEET.JAM_INFO_SLOT
    let c := h.rd pSHEET SHEET.JAM_INFO_CAUSE
    if h.rd pSHEET SHEET.JAM_INFO_CP = i ∧ c = (if lead then 1 else 3) ∧ h.inWindow n i (!lead) b then h.raise pSHEET 6 (shCap i n) else h
  else match h.matchSheet i (!lead) b with
    | some n =>
      let dev := beltDiff b (h.bExp n i (!lead))
      let side := if dev < 0 then h.sh SHEET.CP_WIN_EARLY i else h.sh SHEET.CP_WIN_LATE i
      let h := h.modSheet n fun x => if lead then { x with lead := i :: x.lead } else { x with trail := i :: x.trail }
      let h := h.shWr SHEET.CP_DEV i (unsignedOf 32 dev)
      let h := if h.rd pSHEET SHEET.MARGIN * side < 256 * dev.natAbs then h.raise pSHEET 1 (shCap i n) else h
      if lead then (h.rdvStamp n i t).cpEffect n i else h
    | none => if h.isi pSHEET SHEET.CP_SRC_IGNORE_UNEXP i then h.raise pSHEET 2 (shCap i 0) else h.declareJam 2 i 0

/-- The checkpoints an input of a node serves while the tracker is enabled. -/
def Hw.cpsOf (h : Hw) (t n input : Nat) : List Nat :=
  if h.is pSHEET SHEET.SH_CTRL_EN && h.runs pSHEET then
    below 128 fun i => h.cpOn i && decide (h.sh SHEET.CP_SRC_TRUNK i = t ∧ h.sh SHEET.CP_SRC_NODE i = n ∧ h.sh SHEET.CP_SRC_INPUT i = input)
  else []

/-- A block reset of SHEET (R351): a jam with cause REQUEST, and the counters cleared. -/
def Hw.resetSheet (h : Hw) : Hw :=
  let h := h.declareJam 5 0 0
  [SHEET.DONE_CNT, SHEET.JAM_CNT, SHEET.PURGE_CNT].foldl (fun h f => h.wr pSHEET f 0) h

end Sys2Proof.Machine
end

