-- ==== Sys2Proof/Machine/Leat.lean ====
section
/-! DEFINITION. The Leat trunks: cycles, nodes, frames in both directions, and the trunk pages' queues (R334–R340, R350). -/

namespace Sys2Proof.Machine

/-! ### Violations (R340) -/

/-- The capture of a LEAT page (R350). -/
def leatCap (n reason : Nat) (inj : Bool) : Cap := ⟨n + 256 * reason, 0xFFFF, 6, inj⟩

/-- The code groups of a frame (R334, R337): two K28.5, K27.7, header and payload with their CRC-32C, and K29.7. -/
def LeatFrame.groups (f : LeatFrame) : List (Bool × Byte) :=
  let bs := toLE 1 f.ftype ++ toLE 1 f.addr ++ toLE 1 f.seq ++ toLE 1 0 ++ f.body
  [(true, 0xBC), (true, 0xBC), (true, 0xFB)] ++ (bs ++ toLE 4 (crc32c bs)).map (fun b => (false, b)) ++ [(true, 0xFD)]

/-- A frame leaves on trunk t, so many ns after the beacon's start (R335). -/
def Hw.leatOut (h : Hw) (t : Nat) (time : Stamp) (ns : Nat) (f : LeatFrame) : Hw :=
  h.send (.trunk t (time + BitVec.ofNat 64 (1024 * ns)) f.groups)

/-- ACCEPT or a VIOLATION waits for the next downlink frame of trunk t. -/
def Hw.leatSend (h : Hw) (t ftype n seq : Nat) (body : List Byte) : Hw :=
  h.modTrunk t fun x => { x with answers := x.answers ++ [⟨ftype, n, seq, body⟩] }

/-- A violation of a trunk is logged; the manual gives no kind (DESIGN CHOICE, assumption 20). -/
def Hw.leatLog (h : Hw) (t n reason : Nat) : Hw := h.log ⟨logKind 6, 0, 0xFFFF, pageTag (pLEAT t), n + 256 * reason⟩

/-- The module finds a violation in a frame of node n (R340): counted, logged, and answered at most once per 1 ms and node; a CRC failure
is counted in CRC_ERR and never answered. -/
def Hw.leatBad (h : Hw) (t n reason seq ftype : Nat) (inj : Bool) : Hw :=
  let p := pLEAT t
  let h := (h.raise p 1 (leatCap n reason inj)).leatLog t n reason
  if reason = 0x10 then
    let recent (x : Stamp) : Bool := decide ((h.mono - x).toNat < 1024000000)
    (h.inc p LEAT.CRC_ERR).modTrunk t fun x => { x with crcAt := h.mono :: x.crcAt.filter recent }
  else
    let h := ((h.inc p LEAT.VIOL_TX).wr p LEAT.LAST_VIOL_REASON reason).wr p LEAT.LAST_VIOL_NODE n
    let h := (h.wr p LEAT.LAST_VIOL_DIR 0).wr p LEAT.LAST_VIOL_SEQ seq
    let due := match (h.node t n).violAt with
      | none => true
      | some x => decide (1024000000 ≤ (h.mono - x).toNat)
    if due then
      (h.modNode t n fun x => { x with violAt := some h.mono }).leatSend t 0x0E n 0
        (toLE 1 reason ++ toLE 1 seq ++ toLE 1 ftype ++ toLE 5 0)
    else h

/-! ### Queues (R350) -/

/-- Show the head of the report queue and its level, and the free command entries. -/
def Hw.showTrunk (h : Hw) (t : Nat) : Hw :=
  let p := pLEAT t
  let x := h.trunk t
  let r : LeatReport := x.reports.headD ⟨0, 0, 0, 0, 0⟩
  let h := (h.wr p LEAT.CMDQ_FREE (32 - x.cmds.length)).wr p LEAT.RPT_LEVEL x.reports.length
  let h := ((h.wr p LEAT.RPT_HDR_NODE r.node).wr p LEAT.RPT_HDR_FTYPE r.ftype).wr p LEAT.RPT_HDR_SEQ r.seq
  (h.wr p LEAT.RPT_DATA_LO r.lo).wr p LEAT.RPT_DATA_HI r.hi

/-- A frame enters the report queue, or is dropped. -/
def Hw.report (h : Hw) (t : Nat) (r : LeatReport) : Hw :=
  if (h.trunk t).reports.length < 64 then (h.modTrunk t fun x => { x with reports := x.reports ++ [r] }).showTrunk t
  else h.raise (pLEAT t) 5 (leatCap r.node 0 false)

/-- CMD_PUSH (R350). -/
def cmdPush (m : Master) (t : Fin 4) (h : Hw) : Hw :=
  let p := pLEAT t
  h.writeTo m (addrOf LEAT.CMD_PUSH p 0) fun h =>
    let c : LeatCmd := ⟨h.rd p LEAT.CMD_HDR_NODE, h.rd p LEAT.CMD_HDR_FTYPE, h.rd p LEAT.CMD_DATA_LO, h.rd p LEAT.CMD_DATA_HI⟩
    if (h.trunk t).cmds.length < 32 then (h.modTrunk t fun x => { x with cmds := x.cmds ++ [c] }).showTrunk t
    else h.raise p 5 (leatCap c.node 0 false)

/-- RPT_POP (R350, R483). -/
def rptPop (m : Master) (t : Fin 4) (h : Hw) : Hw :=
  h.writeTo m (addrOf LEAT.RPT_POP (pLEAT t) 0) fun h => (h.modTrunk t fun x => { x with reports := x.reports.drop 1 }).showTrunk t

/-! ### Cycles (R335, R336) -/

/-- Entry k of the slot table in use: node and valid (R350). -/
def Hw.slotEntry (h : Hw) (t k : Nat) : Option Nat :=
  let e := h.usei (pLEAT t) (if k % 2 = 0 then LEAT.SLOT_TAB_ENTRY0 else LEAT.SLOT_TAB_ENTRY1) (k / 2)
  if bitAt e 8 then some (e % 256) else none

/-- The payload of the beacon of cycle number c at a time (R336). -/
def Hw.beacon (h : Hw) (t c : Nat) (time : Stamp) : List Byte :=
  let acks := (List.range 8).map fun j => match h.slotEntry t (8 * ((c + 31) % 32) + j) with
    | some n => if (h.trunk t).cycled then (h.node t n).seqRx else 0
    | none => 0
  toLE 8 time.toNat ++ toLE 2 (c % 65536) ++ toLE 1 (b2n h.jammed) ++ toLE 1 0 ++ acks.flatMap (toLE 1)

/-- A slot of a node has passed (R338, R339): without a valid frame it is counted, and a command still outstanding is due for a repeat, or
has had its last. -/
def LeatNode.slotPassed (x : LeatNode) (heard : Bool) (retryMax : Nat) : LeatNode :=
  let x := { x with missed := if heard then 0 else x.missed + 1 }
  if x.st ≠ 2 ∨ x.out.isNone then x
  else if x.repeats + x.resend < retryMax then { x with resend := x.resend + 1 }
  else if x.resend = 0 then { x with lapsed := true }
  else x

/-- The slots of the cycle before have passed (R338, R339). -/
def Hw.slotsPassed (h : Hw) (t c : Nat) : Hw :=
  if !(h.trunk t).cycled then h
  else
    let heard := (h.trunk t).heard
    let h := forN 8 (fun j h => match h.slotEntry t (8 * ((c + 31) % 32) + j) with
      | none => h
      | some n => h.modNode t n fun x => x.slotPassed (heard.contains j) (h.use (pLEAT t) LEAT.LT_CFG_RETRY_MAX)) h
    h.modTrunk t fun x => { x with heard := [] }

/-- The frame of a command. -/
def LeatCmd.frame (c : LeatCmd) (seq : Nat) : LeatFrame := ⟨c.ftype, c.node, seq, toLE 4 c.lo ++ toLE 4 c.hi⟩

/-- The next downlink frame (R335, R338, R339): an answer first, then a repeat, then the oldest command whose node is ACTIVE and has none
outstanding (DESIGN CHOICE, assumption 119). -/
def Hw.downlink (h : Hw) (t : Nat) (time : Stamp) (ns : Nat) : Hw :=
  match (h.trunk t).answers with
  | f :: rest => (h.modTrunk t fun x => { x with answers := rest }).leatOut t time ns f
  | [] => match (h.trunk t).nodes.find? fun x => decide (0 < x.2.resend) with
  | some (n, x) =>
    let h := (h.modNode t n fun x => { x with resend := x.resend - 1, repeats := x.repeats + 1 }).inc (pLEAT t) LEAT.RETRY_CNT
    match x.out with
    | some c => h.leatOut t time ns (c.frame x.seqTx)
    | none => h
  | none =>
    match (h.trunk t).cmds.find? fun c => decide ((h.node t c.node).st = 2) && (h.node t c.node).out.isNone with
    | some c =>
      let seq := (h.node t c.node).seqTx % 255 + 1
      let h := h.modTrunk t fun x => { x with cmds := x.cmds.erase c }
      let h := h.modNode t c.node fun x => { x with out := some c, seqTx := seq, repeats := 0, resend := 0, lapsed := false }
      (h.leatOut t time ns (c.frame seq)).showTrunk t
    | none => h

/-- A trunk cycle starts at a time (R335): beacon, then two downlink frames. The start of a superframe is the boundary of a COMMIT. -/
def leatCycle (t : Fin 4) (time : Stamp) (h : Hw) : Hw :=
  let p := pLEAT t
  if h.is p LEAT.LT_STS_RUNNING then
    let c := h.rd p LEAT.CYCLE
    let h := h.slotsPassed t c
    let b := h.beacon t c time
    let h := if c % 32 = 0 then h.commitBoundary p 0 else h
    let h := h.leatOut t time 0 ⟨0x01, 0, 0, b⟩
    let h := (h.downlink t time 6400).downlink t time 10400
    ((h.modTrunk t fun x => { x with cycled := true }).wr p LEAT.CYCLE ((c + 1) % 2 ^ 32)).showNodes t
  else h

/-- Beacons run while the trunk is enabled and its block works (R335, R350, R477). -/
def Hw.trunkFollow (h : Hw) (t : Nat) : Hw :=
  let p := pLEAT t
  let on := h.is p LEAT.LT_CTRL_EN && h.runs p
  if on && !h.is p LEAT.LT_STS_RUNNING then
    ((h.modTrunk t fun x => { x with heard := [], cycled := false }).wr p LEAT.LT_STS_RUNNING 1).wr p LEAT.CYCLE 0
  else if !on then h.wr p LEAT.LT_STS_RUNNING 0
  else h

/-- A write of LT_CTRL.EN (R350). -/
def ltEnWrite (m : Master) (t : Fin 4) (v : Bool) (h : Hw) : Hw :=
  h.writeTo m (addrOf LEAT.LT_CTRL_EN (pLEAT t) 0) fun h => ((h.wr (pLEAT t) LEAT.LT_CTRL_EN (b2n v)).trunkFollow t).commitOff (pLEAT t)

/-! ### Uplink frames (R337–R339) -/

/-- The acknowledgement a frame of node n carries (R338): the outstanding command is done. -/
def Hw.leatAck (h : Hw) (t n ack : Nat) : Hw :=
  h.modNode t n fun x => if x.out.isSome ∧ x.seqTx = ack then { x with out := none, repeats := 0, resend := 0, lapsed := false } else x

/-- The node that owns slot j of the cycle that runs (R335). -/
def Hw.slotOwner (h : Hw) (t j : Nat) : Option Nat := h.slotEntry t (8 * ((h.rd (pLEAT t) LEAT.CYCLE + 31) % 32) + j)

/-- A valid frame has come in slot j (R339). -/
def Hw.slotHeard (h : Hw) (t j : Nat) : Hw := h.modTrunk t fun x => { x with heard := j :: x.heard }

/-- A frame of node n in slot j: while the trunk runs, one from another node than the slot's owner or from a disabled node breaks the
protocol (R339, R340). -/
def Hw.leatIn (h : Hw) (t n j ftype seq : Nat) (effect : Hw → Hw) : Hw :=
  if !h.is (pLEAT t) LEAT.LT_STS_RUNNING then h
  else if (h.node t n).st = 0 ∨ h.slotOwner t j ≠ some n then h.leatBad t n 0x02 seq ftype false
  else effect h

/-- A valid frame of node n other than HELLO, in slot j: it counts there, and is served while the node is ACTIVE (R339). -/
def Hw.leatServe (h : Hw) (t n j ack : Nat) (effect : Hw → Hw) : Hw :=
  let h := h.slotHeard t j
  if (h.node t n).st = 2 then (effect (h.leatAck t n ack)).showNodes t else h

/-- A frame of node n other than HELLO (R339). -/
def Hw.leatFrom (h : Hw) (t n j ftype seq ack : Nat) (effect : Hw → Hw) : Hw :=
  h.leatIn t n j ftype seq fun h => h.leatServe t n j ack effect

/-- A reliable frame of node n (R338): accepted in order, counted as a duplicate, or dropped with SEQ_AHEAD (R340). An armed LINK_CRC
injection fails its CRC (R460). -/
def Hw.leatReliable (h : Hw) (t n j ftype seq ack : Nat) (effect : Hw → Hw) : Hw :=
  let p := pLEAT t
  if h.is p LEAT.LT_STS_RUNNING ∧ (h.node t n).st ≠ 0 ∧ h.injArmed p 4 n then (h.injFired p).leatBad t n 0x10 seq ftype true
  else h.leatIn t n j ftype seq fun h =>
    let last := (h.node t n).seqRx
    let again := decide (seq = last ∧ last ≠ 0)
    if decide ((h.node t n).st = 2) && !again && decide (seq ≠ last % 255 + 1) then h.leatBad t n 0x13 seq ftype false
    else h.leatServe t n j ack fun h =>
      if again then h.inc p LEAT.DUP_CNT else effect (h.modNode t n fun x => { x with seqRx := seq })

/-- HELLO of node n in slot j with its versions and identity (R337, R339); one that is taken enters the report queue (R350). -/
def leatHello (t : Fin 4) (n : BitVec 8) (j : Fin 8) (verMin verMax : BitVec 8) (vendor model firmware : BitVec 16) (h : Hw) : Hw :=
  let p := pLEAT t
  let k := n.toNat
  h.leatIn t k j 0x21 0 fun h =>
    let h := (h.slotHeard t j).modNode t k fun x => { x with vendor := vendor.toNat, model := model.toNat, fw := firmware.toNat }
    if verMin.toNat ≤ 1 ∧ 1 ≤ verMax.toNat then
      let h := h.modNode t k fun x =>
        { x with st := 2, ver := 1, seqRx := 0, seqTx := b2n x.out.isSome, repeats := 0, resend := b2n x.out.isSome, lapsed := false, missed := 0 }
      let h := h.report t ⟨k, 0x21, 0, verMin.toNat + 2 ^ 8 * verMax.toNat + 2 ^ 16 * vendor.toNat, model.toNat + 2 ^ 16 * firmware.toNat⟩
      (h.leatSend t 0x02 k 0 (toLE 8 1)).showNodes t
    else
      let h := (h.modNode t k fun x => { x with st := 3, ver := 0 }).leatBad t k 0x01 0 0x21 false
      (h.raise p 2 (leatCap k 0x01 false)).showNodes t

/-- The two words of a payload. -/
def payload (lo hi : Word) : Nat × Nat := (lo.toNat, hi.toNat)

/-- A STATUS frame (R337). -/
def leatStatus (t : Fin 4) (n : BitVec 8) (j : Fin 8) (ack : BitVec 8) (lo hi : Word) (h : Hw) : Hw :=
  h.leatFrom t n.toNat j 0x22 0 ack.toNat fun h => h.report t ⟨n.toNat, 0x22, 0, lo.toNat, hi.toNat⟩

/-- The latest time with given low bits that is not later than a frame's arrival (R337). -/
def fullStamp (arrival : Stamp) (low : Word) : Stamp := arrival - BitVec.ofNat 64 ((arrival.toNat + 2 ^ 32 - low.toNat) % 2 ^ 32)

/-- An EDGE frame that arrives at a time (R337, R343): offered to the checkpoints its input serves, the PRESENCE ones last, since the lowest
code of several causes is recorded (R347); else it goes to the report queue. -/
def leatEdge (t : Fin 4) (n : BitVec 8) (j : Fin 8) (seq ack : BitVec 8) (input : Fin 16) (level : Bool) (low : Word) (arrival : Stamp) (h : Hw) : Hw :=
  h.leatReliable t n.toNat j 0x23 seq.toNat ack.toNat fun h =>
    let cps := h.cpsOf t n.toNat input
    if cps.isEmpty then h.report t ⟨n.toNat, 0x23, seq.toNat, input + 16 * b2n level, low.toNat⟩
    else
      let at_ := fullStamp arrival low
      let r := h.beltAt at_
      let web := cps.filter fun i => decide (h.sh SHEET.CP_SRC_KIND i = 5)
      ((cps.filter fun i => !web.contains i) ++ web).foldl (fun h i => h.cpEdge i level r.1 at_) r.2

/-- A VALUE frame (R337): the fuser inputs that name it are updated, else it is reported. -/
def leatValue (t : Fin 4) (n : BitVec 8) (j : Fin 8) (ack : BitVec 8) (idx : Fin 16) (fault : Bool) (v : BitVec 16) (low : Word) (h : Hw) : Hw :=
  h.leatFrom t n.toNat j 0x24 0 ack.toNat fun h =>
    let ts := below 16 fun i => h.isi pLAMP LAMP.TIN_MAP_EN i
      && decide (h.rdi pLAMP LAMP.TIN_MAP_TRUNK i = t ∧ h.rdi pLAMP LAMP.TIN_MAP_NODE i = n.toNat ∧ h.rdi pLAMP LAMP.TIN_MAP_VALUE i = idx)
    if ts.isEmpty then h.report t ⟨n.toNat, 0x24, 0, idx + 16 * b2n fault + 65536 * v.toNat, low.toNat⟩
    else ts.foldl (fun h i => h.tinUpdate i v.toInt fault) h

/-- A REPLY frame (R337). -/
def leatReply (t : Fin 4) (n : BitVec 8) (j : Fin 8) (seq ack : BitVec 8) (lo hi : Word) (h : Hw) : Hw :=
  h.leatReliable t n.toNat j 0x25 seq.toNat ack.toNat fun h => h.report t ⟨n.toNat, 0x25, seq.toNat, lo.toNat, hi.toNat⟩

/-- A VIOLATION frame of a node (R340), which enters the report queue too (R350). -/
def leatViolationRx (t : Fin 4) (n : BitVec 8) (j : Fin 8) (ack reason seq ftype : BitVec 8) (h : Hw) : Hw :=
  let p := pLEAT t
  h.leatFrom t n.toNat j 0x2E 0 ack.toNat fun h =>
    let h := ((h.inc p LEAT.VIOL_RX).wr p LEAT.LAST_VIOL_REASON reason.toNat).wr p LEAT.LAST_VIOL_NODE n.toNat
    let h := (h.wr p LEAT.LAST_VIOL_DIR 1).wr p LEAT.LAST_VIOL_SEQ seq.toNat
    let h := (h.raise p 1 (leatCap n.toNat reason.toNat false)).leatLog t n.toNat reason.toNat
    h.report t ⟨n.toNat, 0x2E, 0, reason.toNat + 2 ^ 8 * seq.toNat + 2 ^ 16 * ftype.toNat, 0⟩

/-- An uplink frame breaks the protocol (R340). -/
def leatBadFrame (t : Fin 4) (n reason seq ftype : BitVec 8) (h : Hw) : Hw :=
  if h.is (pLEAT t) LEAT.LT_STS_RUNNING then h.leatBad t n.toNat reason.toNat seq.toNat ftype.toNat false else h

/-- The slot after the last of RETRY_MAX repeats of the command to node n has passed without its ACK (R338). -/
def leatCmdFail (t : Fin 4) (n : BitVec 8) (h : Hw) : Hw :=
  if (h.node t n.toNat).out.isSome ∧ (h.node t n.toNat).lapsed then
    ((h.modNode t n.toNat fun x => { x with out := none, repeats := 0, resend := 0, lapsed := false }).raise (pLEAT t) 4 (leatCap n.toNat 0 false)).showNodes t
  else h

/-- Node n has sent no valid frame in SILENCE_LIM of its slots (R339). -/
def leatNodeSilent (t : Fin 4) (n : BitVec 8) (h : Hw) : Hw :=
  if (h.node t n.toNat).st = 2 ∧ h.use (pLEAT t) LEAT.LT_CFG_SILENCE_LIM ≤ (h.node t n.toNat).missed then
    ((h.modNode t n.toNat fun x => { x with st := 4, resend := 0, lapsed := false }).raise (pLEAT t) 0 (leatCap n.toNat 0 false)).showNodes t
  else h

/-- A jam with cause TRUNK where any sheet is in flight (R347). -/
def Hw.trunkJam (h : Hw) : Hw := if h.rd pSHEET SHEET.SH_STS_IN_FLIGHT = 0 then h else h.declareJam 6 0 0

/-- More than 64 CRC failures in 1 ms (R340, R347). -/
def leatLineError (t : Fin 4) (h : Hw) : Hw :=
  let recent (x : Stamp) : Bool := decide ((h.mono - x).toNat < 1024000000)
  if h.is (pLEAT t) LEAT.LT_STS_RUNNING ∧ 64 < ((h.trunk t).crcAt.filter recent).length then (h.raise (pLEAT t) 3 (leatCap 0 0 false)).trunkJam else h

/-- A block reset of a LEAT page (R347, R350). -/
def Hw.resetLeat (h : Hw) (t : Nat) : Hw :=
  let p := pLEAT t
  let h := h.trunkJam
  let wait (x : LeatNode) : LeatNode := { LeatNode.reset with st := if x.st = 0 then 0 else 1 }
  let h := h.modTrunk t fun x => { Trunk.reset with nodes := x.nodes.map fun y => (y.1, wait y.2) }
  let h := [LEAT.CRC_ERR, LEAT.DUP_CNT, LEAT.RETRY_CNT, LEAT.VIOL_TX, LEAT.VIOL_RX].foldl (fun h f => h.wr p f 0) h
  ((h.wr p LEAT.LT_STS_RUNNING 0).showTrunk t).showNodes t

end Sys2Proof.Machine
end

