-- ==== Sys2Proof/Machine/Supply.lean ====
section
/-! DEFINITION. Outputs made safe, the supplies and the motor bus, the Sluice with its programs, and the log store (R16, R18,
R364–R381). -/

namespace Sys2Proof.Machine

/-! ### Outputs (R370, R387) -/

/-- FANTAIL freezes before a STOP whose cause R462 does not number: its CAUSE is not stated (free). -/
def Hw.freezeForStop (h : Hw) : Hw :=
  if h.is pFANTAIL FANTAIL.FT_STS_TOGGLING then
    let f := h.free 3
    f.2.freezeFantail f.1
  else h

/-- Every output goes to the state a module reset gives it (R387): ENABLEs and LEN_s low, scan clocks stopped, HV outputs low, lamps off,
lanes DISABLED, no beacons, divided outputs held, FANTAIL frozen. They stay so until they are enabled again, so their enables clear. -/
def Hw.outputsSafe (h : Hw) : Hw :=
  let h := h.freezeForStop.allUnitsOff
  let h := { h with pins := { h.pins with lenPermit := 0 } }
  let h := forN 8 (fun s h => (h.wr (pSCANCLK s) SCANCLK.SC_CTRL_EN 0).sclkStop s |>.commitOff (pSCANCLK s)) h
  let h := forN 42 (fun c h => (h.hvWr c HVIO.HV_CFG_EN 0).hvShow c) h
  let h := h.lampsEstop
  let h := (List.finRange 8).foldl (fun h s =>
    ((h.wr (pIVINA s) IVINA.IV_CTRL_EN 0).wr (pIVINA s) IVINA.IV_CTRL_LEN_EN 0).lanesFollow (.head s)) h
  let h := (List.finRange 2).foldl (fun h p => (h.wr (LinkId.peer p).page PEER.PR_CTRL_EN 0).lanesFollow (.peer p)) h
  let h := forN 4 (fun t h => (h.wr (pLEAT t) LEAT.LT_CTRL_EN 0).trunkFollow t |>.commitOff (pLEAT t)) h
  forN 4 (fun d h => h.wri (pFEEDBACK 2) FEEDBACK.DIV_CFG_EN d 0) h

/-! ### Rails (R364) -/

/-- The parent of a rail. -/
def parentOf (r : Nat) : Nat := [0, 0, 1, 1, 3, 1, 2, 2, 7, 6, 9, 8].getD r 1

/-- Bit r of a pair of rail registers, and its change. -/
def Hw.railBit (h : Hw) (lo hi : Field) (r : Nat) : Bool := if r < 32 then h.bit pSUPPLY lo r else h.bit pSUPPLY hi (r - 32)
def Hw.setRail (h : Hw) (lo hi : Field) (r : Nat) (v : Bool) : Hw :=
  if r < 32 then h.setBit pSUPPLY lo r v else h.setBit pSUPPLY hi (r - 32) v

/-- Whether rail r is power-good, and enabled. -/
def Hw.railPg (h : Hw) (r : Nat) : Bool := h.railBit SUPPLY.RAIL_PG_LO SUPPLY.RAIL_PG_HI r
def Hw.railEn (h : Hw) (r : Nat) : Bool := h.railBit SUPPLY.RAIL_EN_LO SUPPLY.RAIL_EN_HI r
def Hw.setPg (h : Hw) (r : Nat) (v : Bool) : Hw := h.setRail SUPPLY.RAIL_PG_LO SUPPLY.RAIL_PG_HI r v
def Hw.setEn (h : Hw) (r : Nat) (v : Bool) : Hw := h.setRail SUPPLY.RAIL_EN_LO SUPPLY.RAIL_EN_HI r v

/-- VHEAD_LIM of station s in use: PG and OFF, mV. -/
def Hw.vheadLim (h : Hw) (s : Nat) : Nat × Nat := tget (fun _ => (0, 0)) h.sluice.lims s

/-- The voltage from which rail r is power-good, and below which it is off, in mV. -/
def Hw.pgMv (h : Hw) (r : Nat) : Nat :=
  if r < 12 then [800, 3100, 1700, 2400, 1710, 4750, 860, 710, 760, 860, 1140, 1050].getD r 0
  else if 18 ≤ r ∧ r < 26 then (h.vheadLim (r - 18)).1 else 11000
def Hw.offMv (h : Hw) (r : Nat) : Nat :=
  if r < 12 then [0, 300, 200, 250, 200, 500, 100, 80, 80, 100, 120, 110].getD r 0
  else if 18 ≤ r ∧ r < 26 then (h.vheadLim (r - 18)).2 else 1000

/-- Whether an EN of rail r is refused: its parent is not power-good. -/
def Hw.enRefused (h : Hw) (r : Nat) : Bool := decide (r = 0) || !h.railPg (parentOf r)

/-- Whether a DIS of rail r is refused: a child is not yet off. -/
def Hw.disRefused (h : Hw) (r : Nat) : Bool :=
  decide (r = 0) || (List.range 35).any fun c => decide (c ≠ 0 ∧ parentOf c = r) && !h.sluice.off.contains c

/-- Change the Sluice. -/
def Hw.modSq (h : Hw) (f : Sluice → Sluice) : Hw := { h with sluice := f h.sluice }

/-- Rail r is enabled (R34, R364, R374, R381): MBUS closes its precharge switch, HVEN_s goes high unless an E-STOP loop is open or the
output has not been re-armed since one was, VHEAD_s takes its limits. -/
def Hw.railOn (h : Hw) (r : Nat) : Hw :=
  let h := (h.modSq fun q => { q with off := q.off.filter fun x => decide (x ≠ r) }).setEn r true
  if 18 ≤ r ∧ r < 26 then
    let lim := (h.rdi pSUPPLY SUPPLY.VHEAD_LIM_PG (r - 18), h.rdi pSUPPLY SUPPLY.VHEAD_LIM_OFF (r - 18))
    h.modSq fun q => { q with lims := tset (fun _ => (0, 0)) q.lims (r - 18) lim }
  else if 26 ≤ r ∧ r < 34 then (if h.pins.estop1 && h.pins.estop2 && !bitAt h.pins.heldHv (r - 26) then h.setHven (r - 26) true else h)
  else if r = 34 then
    ((h.wr pSUPPLY SUPPLY.MBUS_STS_PRECHARGE_ON 1).wr pSUPPLY SUPPLY.MBUS_STS_DISCHARGE_ON 0).wr pSUPPLY SUPPLY.MBUS_STS_DISCHARGED 0
  else h

/-- MBUS is precharged: the contactor closes and the precharge switch opens (R369). -/
def Hw.mbusOn (h : Hw) : Hw :=
  if h.railEn 34 then
    ((h.wr pSUPPLY SUPPLY.MBUS_STS_CONTACTOR 1).wr pSUPPLY SUPPLY.MBUS_STS_PRECHARGE_ON 0).setPg 34 true
  else h

/-- A DIS of rail r begins (R371): its enable clears and its active discharge starts. With an internal rail the module leaves READY. -/
def Hw.railOff (h : Hw) (r : Nat) : Hw :=
  let h := (h.setEn r false).setPg r false
  if r < 12 then h.wr pIDENT IDENT.MOD_STS_STATE 0
  else if 26 ≤ r ∧ r < 34 then h.setHven (r - 26) false
  else if r = 34 then
    ((h.wr pSUPPLY SUPPLY.MBUS_STS_CONTACTOR 0).wr pSUPPLY SUPPLY.MBUS_STS_PRECHARGE_ON 0).wr pSUPPLY SUPPLY.MBUS_STS_DISCHARGE_ON 1
  else h

/-- A DIS of rail r has ended: the rail counts as off. -/
def Hw.railGone (h : Hw) (r : Nat) : Hw := h.modSq fun q => { q with off := if q.off.contains r then q.off else r :: q.off }

/-! ### Step words (R366) -/

/-- The fields of a step word. -/
def stOp (w : StepWord) : Nat := w.toNat % 16
def stRail (w : StepWord) : Nat := w.toNat / 16 % 64
def stCond (w : StepWord) : Nat := w.toNat / 2 ^ 16 % 256
def stTarget (w : StepWord) : Nat := w.toNat / 2 ^ 24 % 256
def stArg (w : StepWord) : Nat := w.toNat / 2 ^ 32 % 2 ^ 24
def stCode (w : StepWord) : Nat := w.toNat / 2 ^ 32 % 2 ^ 16

/-! ### Sequences (R367–R372) -/

/-- The present step. -/
def Hw.sqPc (h : Hw) : Nat := h.rd pSLUICE SLUICE.SQ_STS_PC
def Hw.sqStep (h : Hw) : StepWord := h.mram.program.steps.getD h.sqPc 0

/-- A record of the Sluice (R377). -/
def Hw.sqLog (h : Hw) (kind data : Nat) : Hw := h.log ⟨kind, 2, 0x0300, pageTag pSLUICE, data⟩

/-- Go on at a step. -/
def Hw.sqGoto (h : Hw) (pc : Nat) : Hw :=
  let h := (h.wr pSLUICE SLUICE.SQ_STS_PC pc).modSq fun q => { q with seq := q.seq.map fun s => { s with wait := .ready } }
  h.wr pSLUICE SLUICE.SQ_STS_RAIL (stRail h.sqStep)

/-- The sequence goes on with the next step. -/
def Hw.sqNext (h : Hw) : Hw := h.sqGoto (h.sqPc + 1)

/-- A sequence starts at an entry, 1 START or 2 STOP, for a cause (R370, R377). -/
def Hw.sqStart (h : Hw) (entry cause : Nat) : Hw :=
  let code := (Config.sluiceCause cause).toNat
  let h := h.modSq fun q => { q with seq := some ⟨entry, .ready, 0⟩, retry := false }
  let h := ((h.wr pSLUICE SLUICE.SQ_STS_STATE entry).wr pSLUICE SLUICE.SQ_STS_CAUSE code).wr pSLUICE SLUICE.SQ_STS_HELD 0
  (h.sqGoto (if entry = 1 then h.mram.program.startPc else h.mram.program.stopPc)).sqLog 1 (entry + 256 * code)

/-- STOP runs for a cause (R370, R374): outputs are made safe first; a START under way is abandoned; a STOP under way goes on, and the
cause is logged. -/
def Hw.sqStop (h : Hw) (cause : Nat) : Hw :=
  let h := h.outputsSafe
  match h.sluice.seq with
  | some s => if s.entry = 2 then h.sqLog 1 (2 + 256 * (Config.sluiceCause cause).toNat) else h.sqStart 2 cause
  | none => h.sqStart 2 cause

/-- The sequence halts at its present step for a cause (R372). -/
def Hw.sqHalt (h : Hw) (cause : Nat) : Hw :=
  match h.sluice.seq with
  | none => h
  | some s =>
    let r := stRail h.sqStep
    let h := h.sqLog 4 (h.sqPc + 256 * r + 65536 * (Config.sluiceCause cause).toNat)
    let h := (h.modSq fun q => { q with seq := none, retry := decide (s.entry = 1) }).wr pSLUICE SLUICE.SQ_STS_HELD 1
    h.raise pSLUICE 1 (h.sqCapNow false)

/-- Continue at a TARGET; 0xFF halts (R366, R367). -/
def Hw.sqTarget (h : Hw) (t cause : Nat) : Hw := if t = 0xFF then h.sqHalt cause else h.sqGoto t

/-- Whether the Sluice is about to take a step of an operation, or waits in one. -/
def Hw.sqAt (h : Hw) (op : Nat) (w : SqWait) : Bool :=
  match h.sluice.seq with
  | some s => decide (s.wait = w) && decide (stOp h.sqStep = op)
  | none => false

/-- The Sluice waits in its present step. -/
def Hw.sqWait (h : Hw) (w : SqWait) : Hw := h.modSq fun q => { q with seq := q.seq.map fun s => { s with wait := w } }

/-- The causes the model numbers for `Config.sluiceCause`: mains-on, thermal, power fail, internal rail, STOP_REQ, retry, a CHECK or JUMP
to 0xFF, and a DIS time-out. -/
def causeMains : Nat := 0
def causeThermal : Nat := 1
def causePower : Nat := 2
def causeRail : Nat := 3
def causeRequest : Nat := 4
def causeRetry : Nat := 5
def causeTarget : Nat := 6
def causeTimeout : Nat := 7

/-- Whether every unit of the gate bank of VGD rail r is in OFF (condition 0x05). -/
def Hw.bankIdle (h : Hw) (r : Nat) : Bool := (List.range (bankBridges (r - 12))).all fun b => h.unitOff (r - 12) b

/-- Whether LEN_s is low for the station of VHEAD or HVEN rail r (condition 0x09). -/
def Hw.lenLow (h : Hw) (r : Nat) : Bool := !bitAt h.pins.len (if r < 26 then r - 18 else r - 26)

/-- Whether MBUS is precharged, by the X2 input and the bus capacitance in 10 mV (condition 0x02). -/
def precharged (vIn vCap : Nat) : Bool := decide (vIn ≤ vCap + 200 ∧ 4200 ≤ vIn)

/-- Whether a CHECK condition holds (R366), with the rail's voltage in mV, and the X2 input and bus capacitance in 10 mV, as measured. -/
def Hw.condHolds (h : Hw) (c r mv vIn vCap : Nat) : Bool :=
  match c with
  | 0 => if r = 34 then precharged vIn vCap
    else h.railEn r && decide (h.pgMv r ≤ mv) && (decide (r < 26) || bitAt h.pins.hven (r - 26))
  | 1 => if r < 18 ∨ (26 ≤ r ∧ r < 34) then decide (mv < h.offMv r) else h.sluice.off.contains r
  | 2 => precharged vIn vCap
  | 3 => decide (4000 ≤ vIn)
  | 4 => decide (h.sluice.deadPhases.length ≤ 1)
  | 5 => h.bankIdle r
  | 6 => !h.is pSUPPLY SUPPLY.PH_STS_PFW
  | 7 => h.is pTIME TIME.TIME_STS_LOCKED
  | 8 => decide (h.zn 8 THERMAL.ZSTS_ZONE_VAL < h.zn 8 THERMAL.ZLIM0_WARN)
  | 9 => h.lenLow r
  | _ => false

/-- Show what was measured at rail r and at MBUS. -/
def Hw.showSupply (h : Hw) (r mv vIn vCap : Nat) : Hw :=
  ((h.wri pSUPPLY SUPPLY.RAIL_V r mv).wr pSUPPLY SUPPLY.MBUS_V_IN vIn).wr pSUPPLY SUPPLY.MBUS_V_CAP vCap

/-! ### Commands: the steps (R367, R371) -/

/-- An EN step sets the rail's enable, unless its parent is not power-good. -/
def sluiceEn (h : Hw) : Hw :=
  if h.sqAt 1 .ready then
    let r := stRail h.sqStep
    (if h.enRefused r then h else h.railOn r).sqNext
  else h

/-- A DIS step clears the rail's enable and starts its discharge, unless a child is not yet off, or a VGD rail's bank has a unit outside
OFF (R267, R364). -/
def sluiceDis (h : Hw) : Hw :=
  if h.sqAt 2 .ready then
    let r := stRail h.sqStep
    if h.disRefused r || (decide (12 ≤ r ∧ r < 18) && !h.bankIdle r) then h.sqNext else (h.railOff r).sqWait .dis
  else h

/-- The rail whose DIS runs: the sequence's, or RAIL_CMD's. -/
def Hw.disRail (h : Hw) : Option Nat := if h.sqAt 2 .dis then some (stRail h.sqStep) else h.sluice.cmd

/-- The DIS of the rail has ended and the sequence, or RAIL_CMD, goes on with a result. -/
def Hw.disOver (h : Hw) (r result us : Nat) : Hw :=
  if h.sqAt 2 .dis then
    ((h.railGone r).modSq fun q => { q with seq := q.seq.map fun s => { s with longest := max s.longest us } }).sqNext
  else
    let h := (if result = 0 then h.railGone r else h).modSq fun q => { q with cmd := none }
    (h.wr pSUPPLY SUPPLY.RAIL_CMD_STS_BUSY 0).wr pSUPPLY SUPPLY.RAIL_CMD_STS_RESULT result

/-- A DIS ends (R371): below the off threshold, or at ARG; for MBUS at ARG alone, with the contactor and the precharge switch confirmed open
within 50 µs or not. us is how long it took. -/
def sluiceDisDone (mv : BitVec 16) (timedOut confirmed : Bool) (us : BitVec 24) (h : Hw) : Hw :=
  match h.disRail with
  | none => h
  | some r =>
    let pc := h.sqPc
    let v := h.wri pSUPPLY SUPPLY.RAIL_V r mv.toNat
    if r = 34 then
      if !timedOut then h
      else
        let v := if confirmed then v else (v.raise pSLUICE 2 (sqCap pc r false)).raise pSUPPLY 9 (cap0 r)
        v.disOver r 0 us.toNat
    else if !timedOut then (if mv.toNat < h.offMv r then v.disOver r 0 us.toNat else h)
    else if 18 ≤ r ∧ r < 26 then
      let v := (v.sqLog 5 r).raise pSLUICE 2 (sqCap pc r false)
      (v.railGone r).disOver r 5 us.toNat
    else if h.sqAt 2 .dis then v.sqHalt causeTimeout
    else v.disOver r 5 us.toNat

/-- A WAIT step starts. -/
def sluiceWait (h : Hw) : Hw := if h.sqAt 3 .ready then h.sqWait .wait else h

/-- A WAIT's time runs out. -/
def sluiceWaitDone (h : Hw) : Hw := if h.sqAt 3 .wait then h.sqNext else h

/-- A CHECK step starts waiting for its condition. -/
def sluiceCheck (h : Hw) : Hw := if h.sqAt 4 .ready then h.sqWait .check else h

/-- A CHECK finds its condition with what is measured, and the sequence goes on (R366, R367). -/
def sluiceCheckPass (mv vIn vCap : BitVec 16) (h : Hw) : Hw :=
  let w := h.sqStep
  let c := stCond w
  let r := stRail w
  if h.sqAt 4 .check && h.condHolds c r mv.toNat vIn.toNat vCap.toNat then
    let h := h.showSupply r mv.toNat vIn.toNat vCap.toNat
    let h := if c = 0 ∧ r ≠ 34 then h.setPg r true else if c = 2 ∨ c = 0 then h.mbusOn else h
    h.sqNext
  else h

/-- A CHECK's condition has not held after ARG (R367): CHECK_FAIL, and on at TARGET. A failed precharge is reported on SUPPLY (R381). -/
def sluiceCheckTimeout (h : Hw) : Hw :=
  if h.sqAt 4 .check then
    let w := h.sqStep
    let h := h.sqLog 3 (h.sqPc + 256 * stCond w + 65536 * stRail w)
    let h := if stCond w = 2 then h.raise pSUPPLY 8 (cap0 34) else h
    h.sqTarget (stTarget w) causeTarget
  else h

/-- A JUMP step continues at its target. -/
def sluiceJump (h : Hw) : Hw := if h.sqAt 5 .ready then h.sqTarget (stTarget h.sqStep) causeTarget else h

/-- A LOG step queues a LOG_STEP record. -/
def sluiceLog (h : Hw) : Hw := if h.sqAt 6 .ready then (h.sqLog 9 (stCode h.sqStep)).sqNext else h

/-- An END step ends the sequence (R369, R372, R377); a START due after a STOP follows as a restart. -/
def sluiceEnd (h : Hw) : Hw :=
  if h.sqAt 0 .ready then
    match h.sluice.seq with
    | none => h
    | some s =>
      let h := h.sqLog 2 s.longest
      let h := (h.modSq fun q => { q with seq := none }).wr pSLUICE SLUICE.SQ_STS_STATE 0
      let h := h.raise pSLUICE 0 (h.sqCapNow false)
      if s.entry = 2 ∧ h.sluice.startAfter then (h.modSq fun q => { q with startAfter := false }).later (.restart (h.sluice.restart.getD 0)) else h
  else h

/-- 10 s after a halt in START (R372): STOP and then START, counted towards the limit of R360. A power-fail warning meanwhile keeps the halt:
no step runs while it stands (R374). -/
def sluiceHaltRetry (h : Hw) : Hw :=
  if h.sluice.retry ∧ !h.is pSUPPLY SUPPLY.PH_STS_PFW then
    h.counted fun h => (h.modSq fun q => { q with startAfter := true, restart := some 0, retry := false }).sqStop causeRetry
  else h

/-! ### Faults of rails and supplies (R16, R18, R365, R373) -/

/-- The module shuts down (R358, R365): Fantail frozen, no new MRAM unit begun, outputs safe, then STOP. cause 5 thermal, 6 rail. While a
thermal shutdown stands, only R359 restarts the module. -/
def Hw.shutdownFor (h : Hw) (cause : Nat) : Hw :=
  let h := { h.freezeFantail 4 with mram := { h.mram with hold := true } }
  let h := h.modSq fun q => { q with restart := some (if h.thermal.down then 5 else cause), startAfter := false }
  if cause = 5 then
    let p := pTHERMALB
    let h := h.sqLog 7 (h.rd p THERMAL.SD_STS_LAST_ZONE + 256 * h.rd p THERMAL.SD_STS_LAST_SENSOR)
    h.sqStop causeThermal
  else h.sqStop causeRail

/-- An internal rail loses power-good (R365). -/
def intRailFault (r : Fin 12) (h : Hw) : Hw :=
  if r.val ≠ 0 ∧ h.railEn r ∧ h.railPg r then
    let h := (h.setPg r false).raise pSUPPLY 4 (cap0 r)
    h.coolingState.shutdownFor 6
  else h

/-- 1 s after an internal rail fault the module restarts (R365), counted towards the limit of R360; a STOP still under way ends first, and a
thermal shutdown that stands waits for R359 (R361). -/
def railRestart (h : Hw) : Hw :=
  if h.sluice.restart = some 6 ∧ h.rd pTHERMALB THERMAL.SD_STS_STATE = 1 then h.counted fun h => h.later (.again 6) else h

/-- The SUPPLY source of external rail r (R381). -/
def railSource (r : Nat) : Nat := if r < 18 then 5 else if r < 26 then 6 else 7

/-- The cause of an external rail's source persists while an enabled rail of its kind is not power-good. -/
def Hw.railPersist (h : Hw) (r : Nat) : Hw :=
  h.persist pSUPPLY (railSource r)
    ((List.range 34).any fun k => decide (12 ≤ k ∧ railSource k = railSource r) && h.railEn k && !h.railPg k)

/-- A head counts as faulted, or no longer, for condition 3 of R76 (R365). -/
def Hw.setHeadFault (h : Hw) (s : Nat) (v : Bool) : Hw := h.modHr fun x => { x with headFault := putBit x.headFault s v }

/-- An external rail loses power-good (R365): it keeps its enable. -/
def extRailFault (r : Fin 34) (h : Hw) : Hw :=
  if 12 ≤ r.val ∧ h.railEn r ∧ h.railPg r then
    let h := ((h.setPg r false).railPersist r).raise pSUPPLY (railSource r) (cap0 r)
    if 18 ≤ r.val ∧ r.val < 26 then h.setHeadFault (r - 18) true else h
  else h

/-- An external rail is power-good again (R365), MBUS included once it is precharged (R366). -/
def extRailPowerGood (r : Fin 35) (mv vIn vCap : BitVec 16) (h : Hw) : Hw :=
  if 12 ≤ r.val ∧ h.railEn r ∧ h.condHolds 0 r mv.toNat vIn.toNat vCap.toNat then
    let h := h.showSupply r mv.toNat vIn.toNat vCap.toNat
    if r.val = 34 then h.mbusOn
    else
      let h := (h.setPg r true).railPersist r
      if 18 ≤ r.val ∧ r.val < 26 then h.setHeadFault (r - 18) false else h
  else h

/-- The power-fail warning (R373): STOP starts, unless a halted sequence holds (R374). The START due once the mains is back replaces another
restart that has been decided, but none that the supervisor still waits with. -/
def Hw.powerFail (h : Hw) : Hw :=
  let held := h.is pSLUICE SLUICE.SQ_STS_HELD
  let h := ((h.wr pSUPPLY SUPPLY.PH_STS_PFW 1).inc pSUPPLY SUPPLY.PFW_CNT).raise pSUPPLY 3 (cap0 0)
  let h := h.sqLog 6 (h.rd pSUPPLY SUPPLY.MAINS_VRMS)
  if held then h
  else
    let waits := decide (h.rd pTHERMALB THERMAL.SD_STS_STATE ≠ 0)
    (h.modSq fun q => if waits then q else { q with restart := some 0, startAfter := false }).sqStop causePower

/-- The X1 input falls below 75 VAC over a half-cycle, or shows no zero-cross for 5 ms (R373). -/
def powerFailWarn (vrms : BitVec 16) (noZeroCross : Bool) (h : Hw) : Hw :=
  if h.boot.vaon ∧ (vrms.toNat < 750 ∨ noZeroCross = true) then (h.wr pSUPPLY SUPPLY.MAINS_VRMS vrms.toNat).powerFail else h

/-- Whether the X1 input is within the range of R15, by 0.1 V and 0.01 Hz. -/
def mainsInRange (vrms freq : Nat) : Bool := decide (850 ≤ vrms ∧ vrms ≤ 3050 ∧ 4700 ≤ freq ∧ freq ≤ 6300)

/-- Show the X1 input. -/
def Hw.showMains (h : Hw) (vrms freq : Nat) : Hw :=
  (h.wr pSUPPLY SUPPLY.MAINS_VRMS vrms).wr pSUPPLY SUPPLY.MAINS_FREQ freq

/-- The input has been in range for 1 s after a warning (R373): START follows, once STOP has completed; in COOLING and in LOCKOUT the
supervisor restarts the module (R359–R361, R365). -/
def mainsReturn (vrms freq : BitVec 16) (h : Hw) : Hw :=
  if h.is pSUPPLY SUPPLY.PH_STS_PFW ∧ mainsInRange vrms.toNat freq.toNat ∧ h.sluice.deadPhases.length ≤ 1 then
    let h := (h.showMains vrms.toNat freq.toNat).wr pSUPPLY SUPPLY.PH_STS_PFW 0
    if h.is pSLUICE SLUICE.SQ_STS_HELD ∨ h.rd pTHERMALB THERMAL.SD_STS_STATE ≠ 0 ∨ h.sluice.restart ≠ some 0 then h
    else if h.sluice.seq.isSome then h.modSq fun q => { q with startAfter := true }
    else h.later (.restart 0)
  else h

/-- The X1 input is measured outside 85–305 VAC, or within it again (R381). -/
def mainsRange (vrms : BitVec 16) (h : Hw) : Hw :=
  if !h.boot.vaon then h
  else
    let out := decide (vrms.toNat < 850 ∨ 3050 < vrms.toNat)
    let h := (h.wr pSUPPLY SUPPLY.MAINS_VRMS vrms.toNat).persist pSUPPLY 13 out
    if out then h.raise pSUPPLY 13 (cap0 0) else h

/-- An internal supply phase fails (R16): it is isolated; with a second one the power-fail warning is raised. -/
def supplyPhaseFail (p : Fin 3) (h : Hw) : Hw :=
  if h.sluice.deadPhases.contains p.val then h
  else
    let h := h.modSq fun q => { q with deadPhases := p.val :: q.deadPhases }
    let h := (h.setBit pSUPPLY SUPPLY.PH_STS_PH_OK p false).setBit pSUPPLY SUPPLY.PH_STS_PH_ISOL p true
    let h := (h.persist pSUPPLY p true).raise pSUPPLY p (cap0 p)
    if h.sluice.deadPhases.length = 2 then h.powerFail else h

/-- MBUS falls below 40 V at the bus capacitance (R18), and loses power-good (R365): the pages in the path are spoiled, every axis and stepper goes to OFF, and the kernel performs the jam stop. -/
def mbusUndervoltage (vCap : BitVec 16) (h : Hw) : Hw :=
  if vCap.toNat < 4000 ∧ !h.is pSUPPLY SUPPLY.MBUS_STS_UV then
    let h := ((h.wr pSUPPLY SUPPLY.MBUS_V_CAP vCap.toNat).wr pSUPPLY SUPPLY.MBUS_STS_UV 1).setPg 34 false
    let h := (((h.persist pSUPPLY 11 true).raise pSUPPLY 11 (cap0 34)).later (.spoilFlight 0x19)).allMbusLow
    if h.kernelRuns then h.later (.jam 5) else h
  else h

/-- MBUS rises above 42 V (R18). -/
def mbusUvClear (vCap : BitVec 16) (h : Hw) : Hw :=
  if 4200 < vCap.toNat ∧ h.is pSUPPLY SUPPLY.MBUS_STS_UV then
    let h := (h.wr pSUPPLY SUPPLY.MBUS_V_CAP vCap.toNat).wr pSUPPLY SUPPLY.MBUS_STS_UV 0
    (h.persist pSUPPLY 11 false).allMbusOk
  else h

/-- MBUS rises above 56 V (R18): every ENABLE goes low; the contactor stays closed. -/
def mbusOvervoltage (vCap : BitVec 16) (h : Hw) : Hw :=
  if 5600 < vCap.toNat ∧ !h.is pSUPPLY SUPPLY.MBUS_STS_OV then
    let h := (h.wr pSUPPLY SUPPLY.MBUS_V_CAP vCap.toNat).wr pSUPPLY SUPPLY.MBUS_STS_OV 1
    ((h.persist pSUPPLY 12 true).raise pSUPPLY 12 (cap0 34)).allStageOff
  else h

/-- MBUS falls below 54 V (R18). -/
def mbusOvClear (vCap : BitVec 16) (h : Hw) : Hw :=
  if vCap.toNat < 5400 ∧ h.is pSUPPLY SUPPLY.MBUS_STS_OV then
    ((h.wr pSUPPLY SUPPLY.MBUS_V_CAP vCap.toNat).wr pSUPPLY SUPPLY.MBUS_STS_OV 0).persist pSUPPLY 12 false
  else h

/-- The bus has fallen below 5 V (R371). -/
def mbusDischarged (vCap : BitVec 16) (h : Hw) : Hw :=
  if vCap.toNat < 500 ∧ !h.is pSUPPLY SUPPLY.MBUS_STS_DISCHARGED then
    let h := (h.wr pSUPPLY SUPPLY.MBUS_V_CAP vCap.toNat).wr pSUPPLY SUPPLY.MBUS_STS_DISCHARGED 1
    h.raise pSUPPLY 10 (cap0 34)
  else h

/-- The always-on checker fails (R381). -/
def aonFault (h : Hw) : Hw := h.raise pSUPPLY 14 (cap0 0)

/-- A write of SQ_CTRL.STOP_REQ (R370, R380). -/
def stopReq (m : Master) (h : Hw) : Hw :=
  h.kernelOnly m (addrOf SLUICE.SQ_CTRL_STOP_REQ pSLUICE 0) fun h => h.sqStop causeRequest

/-! ### RAIL_CMD (R375) -/

/-- The result that turns a RAIL_CMD away, 0 for none. -/
def Hw.railCmdRefused (h : Hw) (r : Nat) (on : Bool) : Nat :=
  if h.sluice.seq.isSome ∨ h.sluice.cmd.isSome then 1
  else if r < 12 ∨ 34 < r then 4
  else if (if on then h.enRefused r else h.disRefused r) then 2
  else if r < 18 then (if h.bankIdle r then 0 else 3)
  else if r < 34 ∧ on = false ∧ !h.lenLow r then 3
  else 0

/-- The engine kernel's RAIL_CMD on re-arms HVEN_s after an E-STOP (R34). -/
def Hw.rearmHven (h : Hw) (m : Master) (r : Nat) : Hw :=
  if isKernel m && h.pins.estop1 && h.pins.estop2 && decide (26 ≤ r ∧ r < 34) then
    { h with pins := { h.pins with heldHv := putBit h.pins.heldHv (r - 26) false } }
  else h

/-- A write of RAIL_CMD with GO (R375). -/
def railCmdGo (m : Master) (r : BitVec 6) (on : Bool) (h : Hw) : Hw :=
  h.writeTo m (addrOf SUPPLY.RAIL_CMD_GO pSUPPLY 0) fun h =>
    let h := (h.wr pSUPPLY SUPPLY.RAIL_CMD_RAIL r.toNat).wr pSUPPLY SUPPLY.RAIL_CMD_ON (b2n on)
    let why := h.railCmdRefused r.toNat on
    let h := h.wr pSUPPLY SUPPLY.RAIL_CMD_STS_RESULT why
    if why ≠ 0 then h
    else if on then (h.rearmHven m r.toNat).railOn r.toNat
    else ((h.railOff r.toNat).modSq fun q => { q with cmd := some r.toNat }).wr pSUPPLY SUPPLY.RAIL_CMD_STS_BUSY 1

/-! ### Programs (R368) -/

/-- Staged step i: the step in use until it is written. -/
def Hw.stagedStep (h : Hw) (i : Nat) : StepWord := tget (fun i => h.mram.program.steps.getD i 0) h.mram.staged i

/-- Show the staged step that PROG_IDX names. -/
def Hw.showStep (h : Hw) : Hw :=
  let w := (h.stagedStep (h.rd pSLUICE SLUICE.PROG_IDX)).toNat
  (h.wr pSLUICE SLUICE.PROG_LO (w % 2 ^ 32)).wr pSLUICE SLUICE.PROG_HI (w / 2 ^ 32)

/-- Show the program in use: header, generation, longest STOP path and where it comes from. -/
def Hw.showProgram (h : Hw) : Hw :=
  let g := h.mram.program
  let h := (h.wr pSLUICE SLUICE.PROG_HDR_START_PC g.startPc).wr pSLUICE SLUICE.PROG_HDR_STOP_PC g.stopPc
  let h := (h.wr pSLUICE SLUICE.PROG_GEN g.gen).wr pSLUICE SLUICE.STOP_LEN g.stopLen
  (h.wr pSLUICE SLUICE.SQ_STS_PROG_SRC (b2n g.rom)).showStep

/-- Whether the OP of a step uses RAIL. -/
def usesRail (w : StepWord) : Bool :=
  decide (stOp w = 1 ∨ stOp w = 2) || (decide (stOp w = 4) && ([0, 1, 5, 9] : List Nat).contains (stCond w))

/-- Whether a CHECK's condition is defined and its rail of the kind it names. -/
def condOk (w : StepWord) : Bool :=
  decide (stOp w ≠ 4) || (decide (stCond w ≤ 9) && (decide (stCond w ≠ 5) || decide (12 ≤ stRail w ∧ stRail w ≤ 17))
    && (decide (stCond w ≠ 9) || decide (18 ≤ stRail w ∧ stRail w ≤ 33)))

/-- Whether the TARGET of step i is above i, or 0xFF. -/
def targetOk (i : Nat) (w : StepWord) : Bool := !(decide (stOp w = 4 ∨ stOp w = 5)) || decide (i < stTarget w ∨ stTarget w = 0xFF)

/-- Whether the reserved bits of a step are 0. -/
def stepBitsOk (w : StepWord) : Bool := decide (w.toNat / 2 ^ 10 % 64 = 0 ∧ w.toNat / 2 ^ 56 = 0)

/-- By step from i on: whether every path from it reaches END or halts at 0xFF; paths only lead upwards (check 0x54). -/
def pathsEnd (i : Nat) : List StepWord → List Bool
  | [] => []
  | w :: ws =>
    let rest := pathsEnd (i + 1) ws
    let go (t : Nat) : Bool := rest.getD (t - i - 1) false
    let jump : Bool := decide (stTarget w = 0xFF) || go (stTarget w)
    (match stOp w with
      | 0 => true
      | 4 => go (i + 1) && jump
      | 5 => jump
      | _ => go (i + 1)) :: rest

/-- By step from i on: the longest path from it, with every WAIT, CHECK and DIS counted at its ARG, in µs. -/
def pathLens (i : Nat) : List StepWord → List Nat
  | [] => []
  | w :: ws =>
    let rest := pathLens (i + 1) ws
    let go (t : Nat) : Nat := if t = 0xFF then 0 else rest.getD (t - i - 1) 0
    (match stOp w with
      | 0 => 0
      | 2 => stArg w + rest.getD 0 0
      | 3 => stArg w + rest.getD 0 0
      | 4 => stArg w + max (rest.getD 0 0) (go (stTarget w))
      | 5 => go (stTarget w)
      | _ => rest.getD 0 0) :: rest

/-- The first step of a program that fails a test. -/
def firstStep (bad : Nat → StepWord → Bool) (ws : List StepWord) : Option Nat :=
  (List.range ws.length).find? fun i => bad i (ws.getD i 0)

/-- The first check of R368 that a program fails, with the step it names. -/
def progCheck (start stop : Nat) (ws : List StepWord) : Option (Nat × Nat) :=
  let try' (code : Nat) (r : Option Nat) (next : Option (Nat × Nat)) : Option (Nat × Nat) :=
    match r with
    | some i => some (code, i)
    | none => next
  let ends := pathsEnd 0 ws
  try' 0x51 (firstStep (fun _ w => decide (6 < stOp w)) ws)
    <| try' 0x52 (firstStep (fun _ w => usesRail w && decide (34 < stRail w)) ws)
    <| try' 0x53 (firstStep (fun _ w => !condOk w) ws)
    <| try' 0x54 (firstStep (fun i w => !targetOk i w) ws)
    <| try' 0x55 (([start, stop] : List Nat).find? fun p => !ends.getD p false)
    <| try' 0x56 (firstStep (fun _ w => decide (stOp w = 2 ∧ stRail w = 0)) ws)
    <| try' 0x57 (if 16000 < (pathLens 0 ws).getD stop 0 then some stop else none)
    <| try' 0x58 (firstStep (fun _ w => !stepBitsOk w) ws) none

/-- Whether copy A is the stored program of the higher generation (R368). -/
def Mram.aIsNewer (m : Mram) : Bool :=
  match m.copyA, m.copyB with
  | some a, some b => decide (b.gen < a.gen)
  | some _, none => true
  | none, _ => false

/-- The program the Sluice runs at mains-on (R368): the valid copy of the higher generation, else the factory program. -/
def Mram.selected (m : Mram) : Program := ((if m.aIsNewer then m.copyA else m.copyB).getD factoryProgram)

/-- A program is written to MRAM (R368): the two copies are written alternately, so that the newer one is kept. -/
def Mram.store (m : Mram) (g : Program) : Mram := if m.aIsNewer then { m with copyB := some g } else { m with copyA := some g }

/-- A write of PROG_STORE (R368, R427): the staged program is validated, and stored for the next START. -/
def progStore (m : Master) (h : Hw) : Hw :=
  let a := addrOf SLUICE.PROG_STORE pSLUICE 0
  h.writeTo m a fun h => h.gatedWrite m a fun h =>
    let ws := (List.range 256).map h.stagedStep
    let start := h.rd pSLUICE SLUICE.PROG_HDR_START_PC
    let stop := h.rd pSLUICE SLUICE.PROG_HDR_STOP_PC
    match progCheck start stop ws with
    | some (code, i) =>
      let h := (h.wr pSLUICE SLUICE.PROG_RESULT_CHECK code).wr pSLUICE SLUICE.PROG_RESULT_STEP i
      h.raise pSLUICE 3 (sqCap i (stRail (ws.getD i 0)) false)
    | none =>
      let h := (h.wr pSLUICE SLUICE.PROG_RESULT_CHECK 0).wr pSLUICE SLUICE.PROG_RESULT_STEP 0
      let gen := h.mram.selected.gen + 1
      let g : Program := ⟨gen % 2 ^ 32, start, stop, ws, false, (pathLens 0 ws).getD stop 0⟩
      let h := { h with mram := h.mram.store g }
      h.sqLog 8 (g.gen + 2 ^ 32 * (Config.programCrc g.gen start stop (ws.map BitVec.toNat)).toNat)

/-! ### The log store (R376–R380) -/

/-- Bytes 0x00–0x1B of a written unit (R377). -/
def LogUnit.bytes (u : LogUnit) : List Byte :=
  toLE 4 u.seq ++ toLE 2 u.body.kind ++ toLE 2 u.body.flags ++ toLE 8 u.time.toNat ++ toLE 2 u.body.master ++ toLE 2 u.body.page
    ++ toLE 8 u.body.data

/-- A unit of the ring. -/
def Hw.logUnit (h : Hw) (u : Nat) : Option LogUnit := tget (fun _ => (none : Option LogUnit)) h.mram.ring u

/-- Show the unit that LOG_RD_IDX names (R379). A torn or unwritten unit shows CRC_OK 0; what its words then read is not stated (free
values). -/
def Hw.showLog (h : Hw) : Hw :=
  match h.logUnit (h.rd pSLUICE SLUICE.LOG_RD_IDX) with
  | some u =>
    let bs := u.bytes ++ toLE 4 (crc32c u.bytes)
    let h := h.wr pSLUICE SLUICE.LOG_RD_STS_CRC_OK 1
    forN 8 (fun i h => h.wri pSLUICE SLUICE.LOG_RD i (fieldLE bs (4 * i) 4)) h
  | none =>
    let h := h.wr pSLUICE SLUICE.LOG_RD_STS_CRC_OK 0
    forN 8 (fun i h =>
      let f := h.free 32
      f.2.wri pSLUICE SLUICE.LOG_RD i f.1) h

/-- The unit after unit u of the ring (R376). -/
def nextUnit (u : Nat) : Nat := if u + 1 < 524288 ∧ 2048 ≤ u + 1 then u + 1 else 2048

/-- The sequence number after n: it wraps and is never 0 (R377). -/
def nextSeq (n : Nat) : Nat := if (n + 1) % 2 ^ 32 = 0 then 1 else (n + 1) % 2 ^ 32

/-- A write of LOG_PUSH (R378, R380): the kernel's record in LOG_IN is queued. -/
def logPush (m : Master) (h : Hw) : Hw :=
  h.kernelOnly m (addrOf SLUICE.LOG_PUSH pSLUICE 0) fun h =>
    let w (i : Nat) : Nat := h.rdi pSLUICE SLUICE.LOG_IN i
    h.log ⟨w 0 % 65536, w 0 / 65536, w 3 % 65536, w 3 / 65536, w 4 + 2 ^ 32 * w 5⟩

/-- The record that the next unit takes: DROPPED where records were lost, else the oldest queued (R378). -/
def Hw.nextRecord (h : Hw) : Option LogRec :=
  if 0 < h.mram.dropped then some ⟨0x00FF, 2, 0x0300, pageTag pSLUICE, h.mram.dropped⟩ else h.mram.queue.head?

/-- Unit LOG_HEAD becomes u, and LOG_HEAD goes on. -/
def Hw.putUnit (h : Hw) (u : Option LogUnit) : Hw :=
  let k := h.rd pSLUICE SLUICE.LOG_HEAD
  let h := { h with mram := { h.mram with ring := tset (fun _ => (none : Option LogUnit)) h.mram.ring k u } }
  (h.wr pSLUICE SLUICE.LOG_HEAD (nextUnit k)).showLog

/-- A unit is torn: LOG_ERROR, and the record goes to the next unit (R380, R469). -/
def Hw.unitFails (h : Hw) (inj : Bool) : Hw := (h.putUnit none).raise pSLUICE 4 (h.sqCapNow inj)

/-- The next unit is written (R378): its read-back passes or not. An armed MRAM_CRC injection makes it fail (R459, R460). -/
def logUnitWrite (readBack : Bool) (h : Hw) : Hw :=
  if h.mram.hold ∨ !h.boot.vaon then h
  else match h.nextRecord with
  | none => h
  | some r =>
    if h.injArmed pSLUICE 6 0 then (h.injFired pSLUICE).unitFails true
    else if !readBack then h.unitFails false
    else
      let n := h.rd pSLUICE SLUICE.LOG_SEQ
      let m := if 0 < h.mram.dropped then { h.mram with dropped := 0 } else { h.mram with queue := h.mram.queue.tail }
      let h := { h with mram := m }
      let h := (h.wr pSLUICE SLUICE.LOG_QFREE (64 - h.mram.queue.length)).wr pSLUICE SLUICE.LOG_SEQ (nextSeq n)
      h.putUnit (some ⟨n, h.clk.time, r⟩)

/-- An MRAM write exceeds 1.5 µs (R469): the unit is abandoned and the next one used. -/
def logUnitLeaseExpiry (h : Hw) : Hw :=
  if h.mram.hold ∨ !h.boot.vaon ∨ h.nextRecord.isNone then h else (h.inc pFANTAIL FANTAIL.LEASE_EXP).unitFails false

/-- At mains-on the ring is scanned (R379): writing resumes after the valid record of the highest SEQ, compared modulo 2^32. An empty ring
starts at its first unit with SEQ 1. -/
def Hw.scanRing (h : Hw) : Hw :=
  let newest := h.mram.ring.foldl (fun a x =>
    match x.2, a with
    | none, _ => a
    | some u, none => some (x.1, u.seq)
    | some u, some (k, s) => if 0 < signed 32 (unsignedOf 32 ((u.seq : Int) - s)) then some (x.1, u.seq) else some (k, s)) (none : Option (Nat × Nat))
  let at' : Nat × Nat := match newest with
    | some (k, s) => (nextUnit k, nextSeq s)
    | none => (2048, 1)
  (((h.wr pSLUICE SLUICE.LOG_HEAD at'.1).wr pSLUICE SLUICE.LOG_SEQ at'.2).wr pSLUICE SLUICE.LOG_QFREE (64 - h.mram.queue.length))

/-- Block resets of SLUICE and SUPPLY (R380, R381): counters and the staging buffer clear; the sequence, the MRAM and the rails stay. -/
def Hw.resetSluice (h : Hw) : Hw :=
  let h := { h with mram := { h.mram with staged := [] } }
  (h.wr pSLUICE SLUICE.LOG_DROP 0).showProgram

end Sys2Proof.Machine
end

