-- ==== Sys2Proof/Machine/Boot.lean ====
section
/-! DEFINITION. Start-up, module reset and restart, the safety loops, and presence (R33–R38, R382–R394, R427). -/

namespace Sys2Proof.Machine

/-! ### Redundant groups (R5, R6, R429) -/

/-- Group g of R5 is degraded. -/
def Hw.degrade (h : Hw) (g : CoveredGroup) : Hw :=
  if h.boot.degraded.contains g then h else { h with boot := { h.boot with degraded := g :: h.boot.degraded } }

/-- The capture of the KERNEL page for pair p. -/
def pairCap (p : Nat) (injected : Bool) : Cap := ⟨0, 0x0100 + 2 * p, 3, injected⟩

/-- Pair p is retired, and its tasks resume on the standby pair after a time in 0.1 µs; with no standby left, NO_STANDBY (R429). A pair
out of service already has nothing to lose. -/
def Hw.retirePair (h : Hw) (p : Fin 4) (us10 : Nat) : Hw :=
  let k := pKERNEL
  let working := h.bit k KERNEL.KN_STS_WORKING p
  let standby := h.is k KERNEL.KN_STS_STANDBY_OK
  let spare := h.rd k KERNEL.KN_STS_STANDBY
  if !working ∧ !(standby ∧ spare = p.val) then h
  else
    let h := ((h.setBit k KERNEL.KN_STS_WORKING p false).setBit k KERNEL.KN_STS_FAILED p true).degrade .pairs
    let h := h.wr k KERNEL.KN_STS_STANDBY_OK 0
    let h := if working && standby then
        ((h.setBit k KERNEL.KN_STS_WORKING spare true).inc k KERNEL.MIGRATIONS).wr k KERNEL.LAST_MIGRATE us10
      else h
    let h := h.raise k 0 (pairCap p false)
    if working && !standby then h.raise k 1 (pairCap p false) else h

/-! ### What survives -/

/-- The offsets of a page's block registers that keep their values through a module reset (R388, R361, R394, R457): what the always-on
domain, the Sluice and the supervisor hold. -/
def keptOffset (c : Cls) (o : Nat) : Bool :=
  decide (0x80 ≤ o) &&
    match c with
    | .ident => true
    | .presence => decide (o ≠ PRESENCE.LAST_OP_MASTER.off)
    | .sluice => true
    | .supply => decide (o ≠ SUPPLY.RAIL_CMD_GO.off) && !(decide (0x100 ≤ o) && decide (o < 0x120))
    | .thermalA | .thermalB => decide (o ≠ THERMAL.TH_CFG_TH_HYST.off)
    | .fantail => decide (0x84 ≤ o ∧ o ≤ 0xA8 ∧ o ≠ 0x88)
    | _ => false

/-- Whether a register word keeps its value through a module reset. -/
def keptWord (a : Nat) : Bool :=
  match clsOf (pageBase a) with
  | some c => keptOffset c (pageOff a)
  | none => false

/-- The members of redundant groups that are out of service: no reset repairs them (R6; assumption 91). -/
def keptMembers : List (Nat × Field × Nat) :=
  [(pHEADRACE, HEADRACE.HR_STS_STACK_OK, 0), (pKERNEL, KERNEL.KN_STS_WORKING, 0), (pKERNEL, KERNEL.KN_STS_STANDBY, 0),
    (pKERNEL, KERNEL.KN_STS_STANDBY_OK, 0), (pKERNEL, KERNEL.KN_STS_FAILED, 0)]

/-- Fields of words kept only in part, or kept because the hardware they show is: stacks, the bank supplies, the host link (R388). -/
def keptFields : List (Nat × Field × Nat) :=
  [(pTIME, TIME.TIME_STS_LOCKED, 0), (pTIME, TIME.TIME_STS_HOLDOVER, 0),
    (pHOST, HOST.LINK_STS_SPEED, 0), (pHOST, HOST.LINK_STS_WIDTH, 0), (pHOST, HOST.LINK_STS_FLIT, 0), (pHOST, HOST.LINK_STS_UP, 0),
    (pHOST, HOST.CTX_SUM_ENABLED, 0)] ++ keptMembers
  ++ (List.range 16).flatMap (fun c => [(pHOST, HOST.CTX_STS_ENABLED, c), (pHOST, HOST.CTX_STS_BUS_MASTER, c)])
  ++ (List.range 6).flatMap (fun x => [(pGATE x, GATE.BOOT_OK, 0), (pGATE x, GATE.GD_STS_VGD_OK, 0), (pGATE x, GATE.GD_STS_VGD_OV, 0),
      (pGATE x, GATE.GD_STS_BANK_OFF, 0)])

/-- A state takes fields from an old one. -/
def Hw.carry (h old : Hw) (fs : List (Nat × Field × Nat)) : Hw :=
  fs.foldl (fun h x => h.wri x.1 x.2.1 x.2.2 (old.rdi x.1 x.2.1 x.2.2)) h

/-- A station after a module reset at a stamp: the banks its head holds are kept (R388), and a high phase of SCLK_s ends at its normal length
(R170, R171). -/
def Station.afterReset (t : Station) (now : Stamp) : Station :=
  { Station.reset with
    emit := { Emit.reset with headHolds := t.emit.headHolds }
    facets := { Facets.reset with clk := t.facets.clk.map fun c => c.stopAt now } }

/-- The state with everything at reset but what a module reset keeps (R388, R391). -/
def Hw.wiped (h : Hw) : Hw :=
  let n : Hw := { Hw.reset with
    regs := h.regs.filter fun x => keptWord x.1
    mem := h.mem
    clk := { h.clk with slew := 0 }
    boot := h.boot
    pins := { h.pins with lenPermit := 0, len := 0, lamp := 0 }
    mram := h.mram
    stations := (List.range 8).foldl (fun t s => tset (fun _ => Station.reset) t s ((h.stn s).afterReset h.clk.time)) []
    banks := h.banks
    bridges := h.bridges.map fun x => (x.1, x.2.afterReset h.clk.time)
    divs := h.divs.map fun x => (x.1, { DivOut.reset with phase := x.2.phase })
    sluice := h.sluice
    thermal := h.thermal
    msixFns := h.msixFns.map fun x => (x.1, { x.2 with pending := [] })
    sent := h.sent
    fresh := h.fresh }
  n.carry h keptFields

/-! ### Module reset (R386–R391) -/

/-- A module reset for a cause of R394; byFault with the page and source whose reaction caused it (R457). A second cause before READY
keeps the first in RESET_CAUSE and counts (R391). The slot of an image load under way is left invalid. -/
def Hw.moduleReset (h : Hw) (cause page src : Nat) (byFault : Bool) : Hw :=
  let before := decide (h.modState ≠ 2)
  let first := h.rd pIDENT IDENT.RESET_CAUSE_CAUSE
  let again := before && decide (1 ≤ first ∧ first ≤ 4)
  let h := if h.is pFANTAIL FANTAIL.FT_STS_TOGGLING then h.stopFantail 3 0 0 else h
  let h := if byFault then
      let h := ((h.wr pFANTAIL FANTAIL.RST_PAGE_PAGE page).wr pFANTAIL FANTAIL.RST_PAGE_SOURCE src).wr pFANTAIL FANTAIL.RST_PAGE_VALID 1
      let h := h.wr pFANTAIL FANTAIL.RST_ADDR_LO (h.rd page FACE.FE_ADDR_LO)
      let h := h.wr pFANTAIL FANTAIL.RST_ADDR_HI (h.rd page FACE.FE_ADDR_HI)
      let h := h.wr pFANTAIL FANTAIL.RST_INFO (h.word (addrOf FACE.FE_INFO_MASTER page 0)).toNat
      let h := h.wr pFANTAIL FANTAIL.RST_TIME_LO (h.rd page FACE.FE_TIME_LO)
      h.wr pFANTAIL FANTAIL.RST_TIME_HI (h.rd page FACE.FE_TIME_HI)
    else h
  let b := h.boot
  let b := match b.loading with
    | some (0, _) => { b with slotA := { b.slotA with authentic := false } }
    | some (_, _) => { b with slotB := { b.slotB with authentic := false } }
    | none => b
  let h := h.wiped
  let h := { h with boot := { b with inReset := true, causeAt := h.clk.time, slot := none, loading := none, coasting := 0, warned := none
                                     logFault := byFault || (before && b.logFault), watchdog := decide (cause = 3) || (before && b.watchdog) } }
  let h := (h.wr pIDENT IDENT.MOD_STS_STATE 0).wr pIDENT IDENT.MOD_STS_TEST 0
  let h := if again then h else h.wr pIDENT IDENT.RESET_CAUSE_CAUSE cause
  h.inc pIDENT IDENT.RESET_CAUSE_COUNT

/-- RESET_N is low for a time in ns (R36): below 4.5 µs nothing, from 5.5 µs a module reset; between, one or the other (a free value). -/
def moduleResetN (lowNs : BitVec 32) (h : Hw) : Hw :=
  let go (h : Hw) : Hw := { h with boot := { h.boot with resetNLow := true } }.moduleReset 1 0 0 false
  if !h.boot.vaon ∨ lowNs.toNat < 4500 then h
  else if 5500 ≤ lowNs.toNat then go h
  else
    let f := h.free 1
    if f.1 = 1 then go f.2 else f.2

/-- RESET_N is released (R391): the boot starts from the boot ROM, and the time to READY counts from here (R389). -/
def resetNRelease (h : Hw) : Hw :=
  if h.boot.resetNLow then { h with boot := { h.boot with resetNLow := false, causeAt := h.clk.time } } else h

/-- Every output of R34 but LEN_s is held off until the engine kernel re-arms it, or none is. -/
def Pins.holdAll (p : Pins) (v : Bool) : Pins :=
  if v then { p with heldAx := 0xFFFFF, heldStp := 0xFFFF, heldHv := 0xFF, heldLamp := 0xFF }
  else { p with heldAx := 0, heldStp := 0, heldHv := 0, heldLamp := 0 }

/-! ### Mains-on and restart (R369, R382, R386) -/

/-- The counters kept since manufacture. -/
def keptForever : List (Nat × Field × Nat) :=
  [(pSUPPLY, SUPPLY.PFW_CNT, 0), (pTHERMALB, THERMAL.SD_CNT, 0), (pFANTAIL, FANTAIL.FT_STOPS, 0), (pPRESENCE, PRESENCE.PR_OPS, 0),
    (pPRESENCE, PRESENCE.PR_REFUSED, 0)]

/-- All rails are down and come up again: everything is at reset but the flash, the MRAM, the outside of the pins, the supply phases,
the supervisor, what the always-on domain keeps and which members of redundant groups are out of service. The next START takes the stored program (R368). -/
def Hw.powerUp (h : Hw) (cause : Nat) : Hw :=
  let n := h.wiped
  let n : Hw := { n with
    mem := [], stations := [], bridges := [], banks := [], msixFns := []
    boot := { Boot.reset with vaon := true, slotA := h.boot.slotA, slotB := h.boot.slotB, resetNLow := h.boot.resetNLow
                              causeAt := h.clk.time, degraded := h.boot.degraded }
    pins := { n.pins with hven := 0, enc5v := 2 ^ 20 - 1 }
    mram := { n.mram with program := h.mram.selected, hold := false, staged := [] }
    sluice := { Sluice.reset with deadPhases := h.sluice.deadPhases } }
  let n := keptFields.foldl (fun n x => n.wri x.1 x.2.1 x.2.2
    (bitsOf (regReset (addrOf x.2.1 x.1 x.2.2)) x.2.1.hi x.2.1.lo)) n
  let n := n.carry h keptMembers
  let n := ((n.wr pIDENT IDENT.MOD_STS_STATE 0).wr pIDENT IDENT.MOD_STS_TEST 0).wr pIDENT IDENT.RESET_CAUSE_CAUSE cause
  let n := (n.wr pIDENT IDENT.RESET_CAUSE_COUNT 0).wr pFANTAIL FANTAIL.FT_STS_CAUSE 5
  let n := ((n.wr pSUPPLY SUPPLY.RAIL_EN_LO 1).wr pSUPPLY SUPPLY.RAIL_EN_HI 0).wr pSUPPLY SUPPLY.RAIL_PG_LO 1
  let n := (n.wr pSUPPLY SUPPLY.RAIL_PG_HI 0).showProgram.scanRing
  n.sqStart 1 (if cause = 5 then causeThermal else if cause = 6 then causeRail else causeMains)

/-- The module restarts (R359, R365, R372, R373): as at mains-on, with the always-on domain's time and registers kept. -/
def Hw.restart (h : Hw) (cause : Nat) : Hw := h.powerUp cause

/-- A restart is made (R359, R360, R365): at once with the module down, after the STOP that runs, or after one where the module is up or a
START stands halted (R372). -/
def Hw.startAgain (h : Hw) (cause : Nat) : Hw :=
  let stopping := h.sluice.seq.any fun s => decide (s.entry = 2)
  if stopping then h.modSq fun q => { q with startAfter := true, restart := some cause }
  else if h.kernelRuns || h.sluice.retry then
    (h.modSq fun q => { q with startAfter := true, restart := some cause, retry := false }).sqStop causeRetry
  else { h.powerUp cause with due := [] }

/-- Mains comes within range at X1 (R382): time starts at 0, VAON rises, and the Sluice runs START, unless LOCKOUT holds (R360). The
60 minutes of the restart limit start again. -/
def mainsOn (vrms freq : BitVec 16) (h : Hw) : Hw :=
  if !mainsInRange vrms.toNat freq.toNat then h
  else
    let keep := h
    let h : Hw := { h with
      regs := []
      clk := ⟨0, 0, 0, 0⟩
      thermal := { Thermal.reset with limit := h.thermal.limit }
      boot := { h.boot with resetNLow := h.boot.resetNLow }
      pins := { h.pins with sealAtMains := h.pins.sealClosed, buttonEnds := none, ilkClosedAt := 0 }.holdAll
        (!(h.pins.estop1 && h.pins.estop2))
      mram := { h.mram with queue := [], dropped := 0, restarts := h.mram.restarts.map fun _ => 0 } }
    let h := h.carry keep (keptForever ++ keptMembers)
    let h := (h.powerUp 0).showMains vrms.toNat freq.toNat
    let h := forN 3 (fun p h => h.setBit pSUPPLY SUPPLY.PH_STS_PH_OK p (!h.sluice.deadPhases.contains p)) h
    let h := forN 3 (fun p h => h.setBit pSUPPLY SUPPLY.PH_STS_PH_ISOL p (h.sluice.deadPhases.contains p)) h
    let h := (h.wr pPRESENCE PRESENCE.PR_STS_SEAL (b2n h.pins.sealClosed)).wr pPRESENCE PRESENCE.PR_STS_OPEN (b2n h.pins.sealClosed)
    let h := h.wr pPRESENCE PRESENCE.PR_STS_SEAL_AT_MAINS (b2n h.pins.sealAtMains)
    let h := h.wr pTHERMALB THERMAL.SD_STS_RESTARTS h.mram.restarts.length
    if h.mram.lockout then
      (((h.wr pTHERMALB THERMAL.SD_STS_STATE 2).modSq fun _ => { Sluice.reset with deadPhases := h.sluice.deadPhases }).wr pSLUICE
        SLUICE.SQ_STS_STATE 0)
    else h

/-! ### Boot (R384–R386) -/

/-- Whether the image of a slot is valid but for its failed boots (R384). -/
def ImageSlot.good (s : ImageSlot) : Bool := decide (s.magic = 0x46385845 ∧ s.format = 1 ∧ s.length ≤ 134213632) && s.authentic

/-- Whether the image of a slot is valid (R384). -/
def ImageSlot.valid (s : ImageSlot) : Bool := s.good && decide (s.fails < 3)

/-- The slot the ROM boots: the valid image of the higher GEN, A where they are equal (R384). -/
def pickSlot (okA okB : Bool) (a b : ImageSlot) : Option Nat :=
  if okA && (!okB || decide (b.gen ≤ a.gen)) then some 0 else if okB then some 1 else none

/-- Show the images (R394). -/
def Hw.showImages (h : Hw) : Hw :=
  let a := h.boot.slotA
  let b := h.boot.slotB
  let p := pIDENT
  let h := (h.wr p IDENT.IMAGE_STS_A_VALID (b2n a.valid)).wr p IDENT.IMAGE_STS_B_VALID (b2n b.valid)
  (h.wr p IDENT.IMAGE_STS_A_FAILS (min 3 a.fails)).wr p IDENT.IMAGE_STS_B_FAILS (min 3 b.fails)

/-- Whether rails 1–11 are power-good. -/
def Hw.railsUp (h : Hw) : Bool := (List.range 11).all fun i => h.railPg (i + 1)

/-- Whether the boot ROM runs: rails up, RESET_N released, no shutdown or LOCKOUT, and the module in BOOT. -/
def Hw.romRuns (h : Hw) : Bool :=
  h.boot.vaon && h.railsUp && !h.boot.resetNLow && decide (h.modState = 0) && decide (h.rd pTHERMALB THERMAL.SD_STS_STATE = 0)

/-- In BOOT_FAIL the ROM reports on the console (R385), zeroes the commons, gives all of it to context 0, and serves mailboxes 0 and 1
(R428). -/
def Hw.bootFail (h : Hw) : Hw :=
  let h := { h with mem := h.mem.filter fun c => decide (commonsEnd ≤ c.1) }.send .consoleBootFail
  let h := (h.wr pIDENT IDENT.MOD_STS_STATE 3).wri pHOST HOST.COM_BASE 0 0
  let h := (h.wri pHOST HOST.COM_LIMIT 0 4096).wri pHOST HOST.VIEW_BASE 0 0
  forN 2 (fun m h =>
    let h := (h.wri pMAILBOX MAILBOX.MB_CFG_EN m 1).wri pMAILBOX MAILBOX.MB_CFG_FORM m 0
    let h := h.wri pMAILBOX MAILBOX.MB_BIND_SENDER m (if m = 0 then 0 else 0x0100)
    h.wri pMAILBOX MAILBOX.MB_BIND_RECEIVER m (if m = 0 then 0x0100 else 0)) h

/-- The boot ROM has verified the slots (R384, R385): it starts the valid image of the higher GEN, counting the boot as failed until
READY, or the module enters BOOT_FAIL. FALLBACK shows whether it starts one because the other has been passed over. The clocks it runs on
are locked. -/
def bootImageSelect (h : Hw) : Hw :=
  if !h.romRuns then h
  else
    let h := { h with boot := { h.boot with inReset := false } }.showImages
    let h := (h.wr pCLOCK CLOCK.CLK_STS_SYSPLL_LOCK 1).wr pCLOCK CLOCK.CLK_STS_COREPLL_LOCK 1
    let h := (h.wr pCLOCK CLOCK.CLK_STS_SERDESPLL_LOCK 7).wr pCLOCK CLOCK.CLK_STS_MON_OK 1
    let a := h.boot.slotA
    let b := h.boot.slotB
    let pick := pickSlot a.valid b.valid a b
    let h := h.wr pIDENT IDENT.IMAGE_STS_FALLBACK (b2n (pick.isSome && decide (pick ≠ pickSlot a.good b.good a b)))
    match pick with
    | none => h.bootFail
    | some k =>
      let img := if k = 0 then a else b
      let up : ImageSlot := { img with fails := img.fails + 1 }
      let h := { h with boot := { h.boot with slot := some k, slotA := if k = 0 then up else a, slotB := if k = 0 then b else up } }
      let h := (h.wr pIDENT IDENT.MOD_STS_SLOT k).wr pIDENT IDENT.FW_VER img.fwVer
      (h.wr pIDENT IDENT.MOD_STS_STATE 1).showImages

/-- The members the start-up self-tests have found in service: every group is whole again, the supply phases among them (R6, R16). -/
def Hw.repaired (h : Hw) : Hw :=
  let h := { h with boot := { h.boot with degraded := [] } }.modSq fun q => { q with deadPhases := [] }
  let h := forN 3 (fun p h => ((h.setBit pSUPPLY SUPPLY.PH_STS_PH_OK p true).setBit pSUPPLY SUPPLY.PH_STS_PH_ISOL p false).persist pSUPPLY p
    false) h
  keptMembers.foldl (fun h x => h.wri x.1 x.2.1 x.2.2 (bitsOf (regReset (addrOf x.2.1 x.1 x.2.2)) x.2.1.hi x.2.1.lo)) h

/-- A covered fault that a self-test has found (R5, R6, R386): the member is out of service, as after the same fault in operation, and
reported where the spec gives a place: a bit of a line store counts in ECC_CORR (R111), one of another memory has no register. -/
def Hw.memberFails (h : Hw) (f : CoveredFault) : Hw :=
  let h := h.degrade f.group
  match f with
  | .lane s k => h.raise (pIVINA s) 0 (h.linkCap (.head s) 0 0 k 0)
  | .stack i => stackLost i h
  | .eccBit (some s) => h.inc (pPIPE s) PIPE.ECC_CORR
  | .eccBit none => h
  | .sensor i => if h.snsBroken i then h else (h.setBit (snsPage i) THERMAL.BROKEN (snsIdx i) true).raise (snsPage i) 3 (thCap i (zoneOf i))
  | .pair p => h.retirePair p 0
  | .phase p => supplyPhaseFail p h

/-- The start-up self-tests end (R386). The first ones after mains-on that find every member in service show a repair (R6). -/
def selfTestDone (r : SelfTest) (h : Hw) : Hw :=
  if h.modState ≠ 1 ∨ h.boot.inReset then h
  else match r with
  | .pass =>
    let h := if h.boot.tested then h else h.repaired
    { h with boot := { h.boot with tested := true } }
  | .covered f fs => (f :: fs).foldl Hw.memberFails { h with boot := { h.boot with tested := true } }
  | .failed t => (h.wr pIDENT IDENT.MOD_STS_STATE 4).wr pIDENT IDENT.MOD_STS_TEST t.toNat

/-- The pages that stand in W0. -/
def allPages : List Nat := ((List.range 192).filter fun k => (clsOfNum k).isSome).map fun k => 4096 * k

/-- The engine kernel writes one word of the press configuration: a reaction word or FLT_SCOPE as R454 lets it stand, elsewhere the fields
that LOCK then locks (R62, R401, R402, R435, R454). -/
def Hw.configWord (h : Hw) (a : Nat) (w : Word) : Hw :=
  let p := pageBase a
  let o := pageOff a
  match clsOf p with
  | none => h
  | some c =>
    if o = FACE.FLT_REACT_LO.off then h.wr p FACE.FLT_REACT_LO (reactWord c 0 w.toNat)
    else if o = FACE.FLT_REACT_HI.off then h.wr p FACE.FLT_REACT_HI (reactWord c 8 w.toNat)
    else if o = FACE.FLT_SCOPE.off then h.wr p FACE.FLT_SCOPE (scopeWritten c (w.toNat % 65536))
    else ((rowsOf c).filter fun r => rowCovers r o && decide (r.acc = .rwl)).foldl (fun h r =>
      h.setWord a (putBits (h.word a) r.fld.hi r.fld.lo (bitsOf w r.fld.hi r.fld.lo))) h

/-- The kernel loads the press configuration (R454). -/
def Hw.loadConfig (h : Hw) : Hw := h.boot.config.foldl (fun h x => h.configWord x.1 x.2) h

/-- LOCK is set on every lockable page (R477), with the page's own name for the bit. -/
def Hw.lockPages (h : Hw) : Hw :=
  let h := allPages.foldl (fun h p => match clsOf p with
    | some c => if lockable c then h.wr p FACE.PAGE_CTRL_LOCK 1 else h
    | none => h) h
  ((h.wr pHEADRACE HEADRACE.HR_CTRL_LOCK 1).wr pHOST HOST.HOST_LOCK_LOCK 1).wr pMAILBOX MAILBOX.MB_CTRL_LOCK 1

/-- The kernel loads the safety ceilings of the configuration store (R427); a head's ceiling goes to its head too. -/
def Hw.loadCeilings (h : Hw) : Hw :=
  h.mram.ceilings.foldl (fun h x =>
    match (List.range 8).find? fun s => decide (x.1 = addrOf EMIT.CEIL_UW (pEMIT s) 0) with
    | some s => h.setCeil s x.2.toNat
    | none => h.setWord x.1 x.2) h

/-- The kernel loads the stored bindings (R418): of each entry SENDER, RECEIVER, EN and FORM. -/
def Hw.loadBindings (h : Hw) : Hw :=
  (h.mram.bindings.foldl (fun a x =>
    let h := a.2
    let h := (h.wri pMAILBOX MAILBOX.MB_BIND_SENDER a.1 (x.1.toNat % 65536)).wri pMAILBOX MAILBOX.MB_BIND_RECEIVER a.1 (x.1.toNat / 65536)
    let h := (h.wri pMAILBOX MAILBOX.MB_CFG_EN a.1 (x.2.toNat % 2)).wri pMAILBOX MAILBOX.MB_CFG_FORM a.1 (x.2.toNat / 2 % 2)
    (a.1 + 1, h)) (0, h)).2

/-- The image that runs has reached READY: its failed-boot count clears (R385). -/
def Boot.clearFails (b : Boot) : Boot :=
  if b.slot = some 0 then { b with slotA := { b.slotA with fails := 0 } }
  else if b.slot = some 1 then { b with slotB := { b.slotB with fails := 0 } }
  else b

/-- The module is READY: the count of failed boots clears, BOOT_MS is shown, the press configuration and the configuration store are loaded, LOCK is set and Fantail
starts (R382, R385, R394, R462, R477). -/
def Hw.enterReady (h : Hw) : Hw :=
  let ms := (h.clk.time - h.boot.causeAt).toNat / 1024000000
  let h := { h with boot := h.boot.clearFails }.showImages
  let h := (h.wr pIDENT IDENT.MOD_STS_STATE 2).wr pIDENT IDENT.BOOT_MS (min 65535 ms)
  let h := (h.wr pTIME TIME.TIME_STS_LOCKED 1).loadConfig.loadCeilings.loadBindings.lockPages
  (h.wr pFANTAIL FANTAIL.FT_CTRL_EN 1).fanStart

/-- What the last reset left to be told (R359, R360, R433, R457). -/
def Hw.tellReset (h : Hw) : Hw :=
  let b := h.boot
  let h := { h with boot := { b with logFault := false, watchdog := false } }
  let h := if b.logFault then
      h.log ⟨0x1001, 0, h.rd pFANTAIL FANTAIL.RST_INFO % 65536, pageTag (h.rd pFANTAIL FANTAIL.RST_PAGE_PAGE),
        h.rd2 pFANTAIL FANTAIL.RST_ADDR_LO FANTAIL.RST_ADDR_HI 0⟩
    else h
  (if b.watchdog then h.raise pKERNEL 5 (pairCap b.wdPair false) else h).thermalReady

/-- The engine kernel completes bring-up (R382). With MBUS absent the axes report MBUS_LOW (R18). -/
def ready (h : Hw) : Hw :=
  if h.modState ≠ 1 ∨ !h.boot.tested ∨ h.boot.inReset then h
  else
    let h := h.enterReady.tellReset
    if h.rd pSUPPLY SUPPLY.MBUS_V_CAP < 4000 then (h.wr pSUPPLY SUPPLY.MBUS_STS_UV 1).allMbusLow else h

/-! ### Interlock, E-STOP and covers (R33–R35) -/

/-- An interlock loop opens (R33): every LEN_s goes low, and pages exposing are spoiled. -/
def interlockOpen (i : Fin 2) (h : Hw) : Hw :=
  let p := { h.pins with lenPermit := 0 }
  { h with pins := if i = 0 then { p with ilk1 := false } else { p with ilk2 := false } }.later (.spoilExposing 0x12)

/-- An interlock loop closes; with both closed the 100 ms start (R33). -/
def interlockClose (i : Fin 2) (h : Hw) : Hw :=
  let was := h.pins.ilk1 && h.pins.ilk2
  let p := if i = 0 then { h.pins with ilk1 := true } else { h.pins with ilk2 := true }
  { h with pins := if p.ilk1 && p.ilk2 && !was then { p with ilkClosedAt := h.clk.cycles } else p }

/-- An E-STOP loop opens (R34): LEN_s, every ENABLE, HVEN_s and the lamps go off, and are held off until the engine kernel re-arms
them. Every page from EXPOSING to FUSED is spoiled (R81). -/
def estopOpen (i : Fin 2) (h : Hw) : Hw :=
  let p := { h.pins with lenPermit := 0 }.holdAll true
  let h := { h with pins := if i = 0 then { p with estop1 := false } else { p with estop2 := false } }
  let h := (h.later (.spoilFlight 0x17)).allStageOff
  (forN 8 (fun s h => h.setHven s false) h).lampsEstop

/-- An E-STOP loop closes: with both closed the engine kernel may re-arm the outputs (R34). -/
def estopClose (i : Fin 2) (h : Hw) : Hw :=
  { h with pins := if i = 0 then { h.pins with estop1 := true } else { h.pins with estop2 := true } }

/-- A COVER input changes (R35): an event, stamped under R47, and nothing else. -/
def coverEdge (i : Fin 4) (closed : Bool) (h : Hw) : Hw :=
  let h := { h with pins := { h.pins with cover := putBit h.pins.cover i closed } }
  if h.kernelRuns then h.send (.cover i closed h.clk.time) else h

/-! ### Presence (R427, R434) -/

/-- The presence window has opened or closed: WINDOW, and a log record with the PRESENCE flag. Its kind is not stated (assumption 20). -/
def Hw.windowMoved (h : Hw) (m : Nat) : Hw :=
  let h := (h.wr pPRESENCE PRESENCE.PR_STS_OPEN (b2n h.windowOpen)).raise pPRESENCE 0 ⟨0, m, 1, false⟩
  h.log ⟨logKind 2, 1, m, pageTag pPRESENCE, b2n h.windowOpen⟩

/-- 120 s in PRESS_TIME units. -/
def buttonWindow : Stamp := 122880000000000

/-- The COMMISSION button is pressed for a time in ms (R38, R427). -/
def commissionPress (ms : BitVec 16) (h : Hw) : Hw :=
  if !h.boot.vaon ∨ ms.toNat < 50 then h
  else
    let was := h.windowOpen
    let h := { h with pins := { h.pins with buttonEnds := some (h.mono + buttonWindow) } }
    let h := h.wr pPRESENCE PRESENCE.PR_STS_BUTTON 1
    (if was then h else h.windowMoved 0xFFFF).lockoutPresence

/-- The SEAL loop closes (R37, R427). -/
def sealClose (h : Hw) : Hw :=
  let was := h.windowOpen
  let h := { h with pins := { h.pins with sealClosed := true } }
  if !h.boot.vaon then h
  else
    let h := h.wr pPRESENCE PRESENCE.PR_STS_SEAL 1
    (if was then h else h.windowMoved 0xFFFF).lockoutPresence

/-- The SEAL loop opens (R427): the window closes at once, unless a button window remains. -/
def sealOpen (h : Hw) : Hw :=
  let was := h.windowOpen
  let h := { h with pins := { h.pins with sealClosed := false } }
  if !h.boot.vaon then h
  else
    let h := h.wr pPRESENCE PRESENCE.PR_STS_SEAL 0
    if was && !h.windowOpen then h.windowMoved 0xFFFF else h

/-- The button window ends: the presence window closes unless the SEAL loop is closed. -/
def Hw.buttonOver (h : Hw) (m : Nat) : Hw :=
  if h.pins.buttonEnds.isNone then h
  else
    let h := { h with pins := { h.pins with buttonEnds := none } }
    let h := h.wr pPRESENCE PRESENCE.PR_STS_BUTTON 0
    if h.windowOpen then h else h.windowMoved m

/-- 120 s have passed since the last press (R427). -/
def presenceWindowExpire (h : Hw) : Hw := if h.buttonRuns then h else h.buttonOver 0xFFFF

/-- A write of PR_CTRL.CLOSE (R427). -/
def presenceClose (m : Master) (h : Hw) : Hw :=
  h.writeTo m (addrOf PRESENCE.PR_CTRL_CLOSE pPRESENCE 0) fun h => h.buttonOver m.toNat

end Sys2Proof.Machine
end

