-- ==== Sys2Proof/Machine/Hosts.lean ====
section
/-! DEFINITION. The host's contexts, windows and DMA channels (R58, R395–R414, R469, R486). -/

namespace Sys2Proof.Machine

/-! ### Reads of W0 (R58, R382, R399, R465, R477) -/

/-- The mask of the RO fields of the block register at an offset: what FREEZE holds (R477). -/
def roMask (c : Cls) (o : Nat) : Word :=
  (rowsOf c).foldl (fun a r => if rowCovers r o && decide (r.acc = .ro) then a ||| maskOf r.fld.hi r.fld.lo else a) 0

/-- Fields that FREEZE never holds: queue heads, MB_DATA and the mailbox flags (R477). -/
def neverFrozen (c : Cls) (o : Nat) : Bool :=
  match c with
  | .mailbox => decide (o = MAILBOX.MB_FULL.off ∨ 0x100 ≤ o)
  | .leat => decide (0xC8 ≤ o ∧ o ≤ 0xD4)
  | _ => false

/-- SURF of the station whose SURF_LO or SURF_HI lies at an address, extrapolated to PRESS_TIME, and whether it is SURF_HI (R50, R58). -/
def Hw.surfRead (h : Hw) (a : Nat) : Option (Coord × Bool) :=
  match (List.range 8).find? fun s => decide (a = addrOf TIME.SURF_LO pTIME s ∨ a = addrOf TIME.SURF_HI pTIME s) with
  | some s => some (h.surfAt s h.now, decide (a = addrOf TIME.SURF_HI pTIME s))
  | none => none

/-- PR_REMAIN, where a is its address: the seconds left in the button window, the part of a second counted whole (R434). -/
def Hw.remainRead (h : Hw) (a : Nat) : Option Nat :=
  if a = addrOf PRESENCE.PR_REMAIN pPRESENCE 0 then
    some (match h.pins.buttonEnds with
      | some e => if h.mono < e then min 120 (ceilDiv (e - h.mono).toNat 1024000000000) else 0
      | none => 0)
  else none

/-- PAGE_STS of page p (R476), whose STATE shows the main state code of the blocks that have one (assumption 123). -/
def Hw.pageSts (h : Hw) (p : Nat) : Word :=
  let v := match clsOf p with
    | some .ident => h.modState
    | some .sluice => h.rd pSLUICE SLUICE.SQ_STS_STATE
    | some .thermalB => h.rd pTHERMALB THERMAL.SD_STS_STATE
    | some .axis => h.rd p AXIS.AX_STS_STATE
    | some .step => h.rd p STEP.STEP_STS_STATE
    | _ => 0
  putBits (h.word (addrOf FACE.PAGE_STS_RUNNING p 0)) 7 4 v

/-- EVT_RAW of page p: the sources whose cause persists, and for one clock those with a single occurrence (R452). -/
def Hw.rawRead (h : Hw) (p : Nat) : Word :=
  (h.raisedOn p).foldl (fun w r => w ||| BitVec.ofNat 32 (2 ^ r.source)) (h.word (addrOf FACE.EVT_RAW p 0))

/-- A register word as a read shows it: EVT_RAW, PRESS_TIME, SURF, DEC_RATE, LOAD, a ramp's reference and PR_REMAIN are read where they count, extrapolate
and average (R42, R50, R108, R306), and a frozen page shows
its held view. -/
def Hw.shown (h : Hw) (a : Nat) : Word :=
  let p := pageBase a
  let o := pageOff a
  let live : Word :=
    if a = addrOf TIME.TIME_LO pTIME 0 then BitVec.ofNat 32 h.now
    else if a = addrOf TIME.TIME_HI pTIME 0 then BitVec.ofNat 32 (h.now / 2 ^ 32)
    else if a = addrOf FACE.EVT_RAW p 0 ∧ (clsOf p).isSome then h.rawRead p
    else if a = addrOf FACE.PAGE_STS_RUNNING p 0 ∧ (clsOf p).isSome then h.pageSts p
    else match h.surfRead a with
    | some (v, hi) => BitVec.ofNat 32 (if hi then v.toNat / 2 ^ 32 else v.toNat)
    | none => match (((h.decRateRead a).or (h.govLoadRead a)).or (h.refRead a)).or (h.remainRead a) with
      | some r => BitVec.ofNat 32 r
      | none => h.word a
  match clsOf p with
  | none => live
  | some c =>
    if h.is p FACE.PAGE_STS_FROZEN && decide (0x80 ≤ o) && !neverFrozen c o then
      let m := roMask c o
      (live &&& ~~~ m) ||| (tget regReset h.frozen a &&& m)
    else live

/-- The value a read of a W0 register returns to a master, all ones where the page or block does not answer (R387, R428, R465) or the
context is in reset (R411). -/
def Hw.readW0 (h : Hw) (m : Master) (a : Nat) : Word :=
  let p := pageBase a
  if !h.pageServed m p || !h.masterActs m || (decide (0x80 ≤ pageOff a) && !h.blockAnswers p) then 0xFFFFFFFF else h.shown a

/-- The _LO registers whose read latches the matching _HI: every one of the TIME page, and those that say "latched as under R58". -/
def loRegs (c : Cls) (o : Nat) : Bool :=
  let at' (f : Field) (n : Nat) : Bool :=
    decide (o = f.off) || (decide (f.off ≤ o ∧ 0 < f.stride) && decide ((o - f.off) % f.stride = 0 ∧ (o - f.off) / f.stride < n))
  decide (o = FACE.FE_TIME_LO.off) ||
    match c with
    | .time => ([TIME.TIME_LO, TIME.SET_LO, TIME.BELT_LO, TIME.TOF_BELT_LO, TIME.TOF_TIME_LO].any fun f => at' f 1)
        || at' TIME.SURF_LO 8 || at' TIME.SURF_TOF_LO 8
    | .decode => at' DECODE.BILLETS_LO 1
    | .pipe => at' PIPE.LINES_LO 1
    | .scanclk => at' SCANCLK.SOS_TIME_LO 1 || at' SCANCLK.EOS_TIME_LO 1
    | .ivina => at' IVINA.IV_HEAD_SN_LO 1
    | .feedback => at' FEEDBACK.IDX_T_LO 8
    | .feedback2 => at' FEEDBACK.IDX_T_LO 4
    | .sheet => at' SHEET.JAM_TIME_LO 1
    | .ident => at' IDENT.SERIAL_LO 1
    | .fantail => at' FANTAIL.RST_TIME_LO 1
    | _ => false

/-- A read of CH_POS returns it and latches for the reader the stamp of the last count it contains, of the held count on a frozen page
(R234, R477); a block that does not answer gives all ones and latches nothing (R465). -/
def chPosRead (m : Master) (c : Nat) (h : Hw) : Hw :=
  let p := fbPage c
  let a := addrOf FEEDBACK.CH_POS p (c % 8)
  let lo := addrOf FEEDBACK.TLAST_LO p (c % 8)
  let hi := addrOf FEEDBACK.TLAST_HI p (c % 8)
  let t := if h.is p FACE.PAGE_STS_FROZEN then (h.shown lo).toNat + 2 ^ 32 * (h.shown hi).toNat else h.encStamp c
  let h := if h.pageServed m p && h.masterActs m && h.blockAnswers p then
      ((h.wr2 p FEEDBACK.TLAST_LO FEEDBACK.TLAST_HI (c % 8) t).latch m lo (BitVec.ofNat 32 t)).latch m hi (BitVec.ofNat 32 (t / 2 ^ 32))
    else h
  (h.send (.readValue m a (h.readW0 m a).toNat)).fabricUse p

/-- Whether W0 takes an access of n bytes at an address (R400): naturally aligned 4-byte accesses only. -/
def w0Takes (a n : Nat) : Bool := decide (a % 4 = 0 ∧ n = 4)

/-- A read of a _LO register latches the matching _HI for the reader, and returns its value (R58); a read of another size, or one that is not
naturally aligned, returns all ones and has no effect (R400). -/
def latchedLoRead (m : Master) (a : BitVec 20) (n : BitVec 10) (h : Hw) : Hw :=
  let a := a.toNat
  match clsOf (pageBase a) with
  | none => h
  | some c =>
    if !w0Takes a n.toNat then (h.send (.readValue m a 0xFFFFFFFF)).fabricUse (pageBase a)
    else if loRegs c (pageOff a) then ((h.latch m (a + 4) (h.readW0 m (a + 4))).send (.readValue m a (h.readW0 m a).toNat)).fabricUse (pageBase a)
    else h

/-! ### PCIe errors (R396) -/

/-- PCIE_ERROR for an offset of a window (R413). -/
def Hw.pcieError (h : Hw) (m : Master) (off : Nat) (w1 write : Bool) : Hw :=
  h.raise pHOST 4 ⟨off + (if w1 then 2 ^ 63 else 0), m.toNat, b2n write, false⟩

/-- A request the module does not support (R396). -/
def Hw.unsupported (h : Hw) (m : Master) (off : Nat) (w1 write : Bool) : Hw :=
  ((h.inc pHOST HOST.PCIE_ERR).pcieError m off w1 write).send (.unsupported m)

/-- The master identity of context c (R395). -/
def ctxMaster (c : Fin 16) : Master := BitVec.ofNat 16 c.val

/-- A request of a kind the module does not accept arrives from context c for an offset of a window; one with another AER error counts and
raises PCIE_ERROR the same way, and has no UR answer (R396, R413). -/
def unsupportedRequest (c : Fin 16) (off : BitVec 26) (w1 write aer : Bool) (h : Hw) : Hw :=
  if aer then (h.inc pHOST HOST.PCIE_ERR).pcieError (ctxMaster c) off.toNat w1 write
  else h.unsupported (ctxMaster c) off.toNat w1 write

/-! ### The link (R397) and function state (R395, R401) -/

/-- The link is up again (R397), at a speed code and a width. -/
def pcieLinkUp (speed : BitVec 4) (width : BitVec 5) (flit : Bool) (h : Hw) : Hw :=
  if !h.boot.vaon then h
  else
    let p := pHOST
    let h := ((h.wr p HOST.LINK_STS_SPEED speed.toNat).wr p HOST.LINK_STS_WIDTH width.toNat).wr p HOST.LINK_STS_FLIT (b2n flit)
    let slow := decide (speed.toNat < 6 ∨ width.toNat < 16)
    let h := (h.wr p HOST.LINK_STS_UP 1).persist p 1 slow
    if slow then h.raise p 1 ⟨0, 0xFFFF, 0, false⟩ else h

/-- The messages that are pending and no longer masked go out (R401). -/
def Hw.msixRelease (h : Hw) (c : Nat) : Hw :=
  let x := h.msixFn c
  let go (v : Nat) : Bool := x.on && x.clear.contains v && h.msixGoes c v
  let h := h.modMsix c fun x => { x with pending := x.pending.filter fun v => !go v }
  (x.pending.filter go).foldl (fun h v => h.send (.msix c v)) h

/-- The host writes the Mask bit of a table entry that its capability shows (R401). -/
def Hw.maskWrite (h : Hw) (w : MaskWrite) : Hw :=
  let v := w.vector.toNat
  if v < tget (fun _ => 128) h.vecShown w.ctx then
    h.modMsix w.ctx fun x =>
      { x with clear := if w.masked then x.clear.filter (fun k => decide (k ≠ v)) else if x.clear.contains v then x.clear else v :: x.clear }
  else h

/-- The functions' MSI-X state is as the host has set it (R401). -/
def Hw.msixConfig (h : Hw) (on : BitVec 16) (masks : List MaskWrite) : Hw :=
  let h := forN 16 (fun c h => h.modMsix c fun x => { x with on := on.getLsbD c }) h
  forN 16 (fun c h => h.msixRelease c) (masks.foldl Hw.maskWrite h)

/-- VF Enable of the physical function, the Bus Master Enables and the MSI-X state of the 16 functions are as given (R395, R401). A virtual
function's written vector count takes effect as VF Enable is set (R401). -/
def vfEnable (vf : Bool) (busMaster on : BitVec 16) (masks : List MaskWrite) (h : Hw) : Hw :=
  (forN 16 (fun c h =>
    let was := h.isi pHOST HOST.CTX_STS_ENABLED c
    let on := decide (c = 0) || vf
    let h := (h.wri pHOST HOST.CTX_STS_ENABLED c (b2n on)).wri pHOST HOST.CTX_STS_BUS_MASTER c (b2n (busMaster.getLsbD c))
    let h := h.setBit pHOST HOST.CTX_SUM_ENABLED c on
    if vf && !was && decide (c ≠ 0) then
      { h with vecShown := tset (fun _ => 128) h.vecShown c (h.rdi pHOST HOST.VEC_COUNT c) }
    else h) h).msixConfig on masks

/-! ### The view and the table banks (R399, R400, R486) -/

/-- Whether W1 takes an access of n bytes at an offset (R400). -/
def w1Access (off n : Nat) : Bool := decide (4 ≤ n ∧ n ≤ 512 ∧ off % 4096 + n ≤ 4096)

/-- The MPA that a view offset reaches for context c. -/
def Hw.viewMpa (h : Hw) (c off : Nat) : Nat := h.rdi pHOST HOST.VIEW_BASE c * 2097152 + (off - w1TableEnd)

/-- Whether W1 is served: from READY on, and in BOOT_FAIL for the commons (R382, R428). -/
def Hw.w1Served (h : Hw) : Bool := h.ready || decide (h.modState = 3)

/-- All ones for n bytes. -/
def ones (n : Nat) : List Byte := List.replicate n 0xFF

/-- The station whose warp or rendering regions a W1 offset lies in (R485). -/
def tableStation (o : Nat) : Option Nat :=
  if 0x100000 ≤ o ∧ o < 0x180000 then some ((o - 0x100000) / 0x10000)
  else if 0x1000000 ≤ o ∧ o < 0x2000000 then some ((o - 0x1000000) / 0x200000)
  else none

/-- A read of n bytes of W1 by context c (R399, R400, R486): the table banks are read by every context; the view where R399 serves it.
uncorr: the Millpond, or the table memory at the first word read (R134), could not correct what it read. -/
def viewRead (c : Fin 16) (off : BitVec 26) (n : BitVec 10) (uncorr : Bool) (h : Hw) : Hw :=
  let m := ctxMaster c
  let o := off.toNat
  let n := n.toNat
  let give (h : Hw) (bs : List Byte) : Hw := h.send (.readBytes m o bs)
  if !h.masterActs m || !h.w1Served || !w1Access o n then give h (ones n)
  else if o < w1TableEnd then
    let x := h.readTable (tableStation o) 0 (if uncorr then some o else none)
    if h.ready then give x.2 ((List.range n).map fun i => x.1 (o + i)) else give h (ones n)
  else
    let a := h.viewMpa c o
    if inRange a n (h.commonsRange c) || (inRange a n (h.partition c) && decide (a + n ≤ mpaEnd)) then
      if uncorr || !h.stacksGive a n then give (h.pcieError m o true false) (ones n) else give h (h.bytes a n)
    else give (h.refuse m o true false) (ones n)

/-- The table bank a W1 offset lies in (R485). -/
inductive TableBank where
  | grade (b : Nat)
  | setpoint (b : Nat)
  | runout (b : Nat)
  | coef (j b : Nat)
  | emit (s b : Nat)
  | warp (s b : Nat)
  | screen (s b : Nat)
deriving DecidableEq, Repr

/-- The bank of an offset, none in table space not named and in the unused end of a region. -/
def bankOf (o : Nat) : Option TableBank :=
  if o < 0x200 then some (.grade (o / 0x100))
  else if 0x1000 ≤ o ∧ o < 0x3000 then some (.setpoint ((o - 0x1000) / 0x1000))
  else if 0x4000 ≤ o ∧ o < 0x6000 then some (.runout ((o - 0x4000) / 0x1000))
  else if 0x10000 ≤ o ∧ o < 0x1C000 then some (.coef ((o - 0x10000) / 0x200) (o / 0x100 % 2))
  else if 0x20000 ≤ o ∧ o < 0x60000 then
    (if o % 0x4000 < 0x2CC0 then some (.emit ((o - 0x20000) / 0x8000) (o / 0x4000 % 2)) else none)
  else if 0x100000 ≤ o ∧ o < 0x180000 then
    (if o % 0x8000 < 0x6C00 then some (.warp ((o - 0x100000) / 0x10000) (o / 0x8000 % 2)) else none)
  else if 0x1000000 ≤ o ∧ o < 0x2000000 then
    (if o % 0x100000 < 0x90000 then some (.screen ((o - 0x1000000) / 0x200000) (o / 0x100000 % 2)) else none)
  else none

/-- Whether a switch machine works on the inactive bank (R128). -/
def switching (s : BankState) : Bool := decide (s ≠ .idle)

/-- Whether a bank may be written now (R128, R308, R486). -/
def Hw.bankWritable (h : Hw) : TableBank → Bool
  | .grade b => decide (b ≠ h.rd pHEADRACE HEADRACE.GT_BANK_ACTIVE) && !h.is pHEADRACE HEADRACE.GT_BANK_SWITCH_PEND
  | .runout b => decide (b ≠ h.rd pHEADRACE HEADRACE.GT_BANK_ACTIVE) && !h.is pHEADRACE HEADRACE.GT_BANK_SWITCH_PEND
  | .setpoint b => decide (b ≠ h.rd (pHVIO 0) HVIO.PT_BANK_ACTIVE) && !h.is (pHVIO 0) HVIO.PT_BANK_SWITCH_PEND
  | .coef j b => h.govBankOpen j b
  | .emit s b => !h.bit (pEMIT s) EMIT.EBANK_IN_USE b
      && !(switching (h.stn s).emit.sw && decide (b ≠ h.rd (pEMIT s) EMIT.EBANK_ACTIVE))
  | .warp s b => !h.bit (pWARP s) WARP.WBANK_IN_USE b && !(switching (h.stn s).warpSw && decide (b ≠ h.rd (pWARP s) WARP.WBANK_ACTIVE))
  | .screen s b => !h.bit (pSCREEN s) SCREEN.SBANK_IN_USE b
      && !(switching (h.stn s).screenSw && decide (b ≠ h.rd (pSCREEN s) SCREEN.SBANK_ACTIVE))

/-- A refused write is counted and raised on the bank's own page too (R129, R192, R308). -/
def Hw.bankRefused (h : Hw) (m : Master) (o : Nat) (b : Option TableBank) : Hw :=
  match b with
  | some (.warp s _) => (h.inc (pWARP s) WARP.WREFUSED).raise (pWARP s) 1 ⟨o, m.toNat, 1, false⟩
  | some (.screen s _) => (h.inc (pSCREEN s) SCREEN.SREFUSED).raise (pSCREEN s) 1 ⟨o, m.toNat, 1, false⟩
  | some (.emit s _) => (h.inc (pEMIT s) EMIT.EREFUSED).raise (pEMIT s) 1 ⟨o, 0x0600 + s, 1, false⟩
  | some (.coef j _) => h.govRefuseWrite m j o
  | _ => h

/-- Write bytes of the table banks. -/
def Hw.putTables (h : Hw) (o : Nat) : List Byte → Hw
  | [] => h
  | b :: bs => (h.putTable o b).putTables (o + 1) bs

/-- A write into the table banks of W1 (R486): taken whole where every byte lies in a bank that may be written and the master is context 0
or the engine kernel, and otherwise ignored, counted and raised. -/
def w1TableWrite (m : Master) (off : BitVec 25) (bytes : List Byte) (h : Hw) : Hw :=
  let o := off.toNat
  if !h.masterActs m || !h.ready || !w1Access o bytes.length then h
  else
    let bad := (List.range bytes.length).find? fun i => match bankOf (o + i) with
      | some b => !h.bankWritable b
      | none => true
    if isTrusted m && bad.isNone then h.putTables o bytes
    else
      let i := if isTrusted m then bad.getD 0 else 0
      (h.refuse m o true true).bankRefused m o (bankOf (o + i))

/-- A write of context c through its view (R399, R409): served within its commons range. -/
def viewWrite (c : Fin 16) (off : BitVec 25) (bytes : List Byte) (h : Hw) : Hw :=
  let m := ctxMaster c
  let o := w1TableEnd + off.toNat
  if !h.masterActs m || !h.w1Served || !w1Access o bytes.length then h
  else
    let a := h.viewMpa c o
    if inRange a bytes.length (h.commonsRange c) then h.putBytes a bytes else h.refuse m o true true

/-- What an AtomicOp writes for an old value, n bytes wide (R396): none where a compare fails. -/
def AtomicKind.result (k : AtomicKind) (n old : Nat) : Option Nat :=
  match k with
  | .fetchAdd v => some ((old + v) % 2 ^ (8 * n))
  | .swap v => some (v % 2 ^ (8 * n))
  | .cas x y => if old = x % 2 ^ (8 * n) then some (y % 2 ^ (8 * n)) else none

/-- An AtomicOp of 4 or 8 bytes by context c at a view offset (R396, R409): executed at the commons, and unsupported elsewhere. From a
context in reset, or where W1 is not served, it completes without effect and returns all ones (R382, R411). -/
def atomicOp (c : Fin 16) (off : BitVec 25) (wide : Bool) (k : AtomicKind) (h : Hw) : Hw :=
  let m := ctxMaster c
  let o := w1TableEnd + off.toNat
  let n := if wide then 8 else 4
  if !h.masterActs m || !h.w1Served then h.send (.atomicDone m (some (2 ^ (8 * n) - 1)))
  else
    let a := h.viewMpa c o
    if inRange a n (h.commonsRange c) && decide (o % n = 0) then
      let old := ofLE (h.bytes a n)
      let h := match k.result n old with
        | some v => h.putBytes a (toLE n v)
        | none => h
      h.send (.atomicDone m (some old))
    else h.unsupported m o true true

/-- An AtomicOp lock expires (R469): the operation completes with Completer Abort, and nothing is written. -/
def atomicLockExpiry (m : Master) (h : Hw) : Hw := (h.inc pFANTAIL FANTAIL.LEASE_EXP).send (.atomicDone m none)

/-- A row lease expires (R469): the row is released, and a commit not begun is written on no stack. -/
def rowLeaseExpiry (h : Hw) : Hw := h.inc pFANTAIL FANTAIL.LEASE_EXP

/-! ### DMA (R402–R408) -/

/-- The page and local number of channel k. -/
def dmaPage (k : Nat) : Nat := pDMA (k / 16)
def Hw.dm (h : Hw) (k : Nat) (f : Field) : Nat := h.rdi (dmaPage k) f (k % 16)
def Hw.dmWr (h : Hw) (k : Nat) (f : Field) (v : Nat) : Hw := h.wri (dmaPage k) f (k % 16) v

/-- The transfer of channel k. -/
def Hw.dmaOf (h : Hw) (k : Nat) : Option Transfer := tget (fun _ => (none : Option Transfer)) h.dma k
def Hw.setDma (h : Hw) (k : Nat) (t : Option Transfer) : Hw :=
  { h with dma := tset (fun _ => (none : Option Transfer)) h.dma k t }

/-- Whether every byte of a range of MPA lies in context c's commons range or partition (R403). -/
def Hw.mpaOk (h : Hw) (c a n : Nat) : Bool :=
  let b := a + n
  (decide (commonsEnd ≤ a) || inRange a (min b commonsEnd - a) (h.commonsRange c))
    && (decide (b ≤ commonsEnd) || inRange (max a commonsEnd) (b - max a commonsEnd) (h.partition c))

/-- Whether a reset of context c began in this clock. -/
def Hw.ctxResetNow (h : Hw) (c : Nat) : Bool := decide (tget (fun _ => (none : Option Stamp)) h.ctxResetAt c = some h.mono)

/-- The checks of R404 made before any byte moves: the code of the first that fails, 0 for none. A GO in the clock of a reset of its
context ends CTX_RESET (R408). -/
def Hw.dmaCheck (h : Hw) (k : Nat) (t : Transfer) : Nat :=
  let own := h.dm k DMA.CH_OWNER
  let host := !t.srcMpa || !t.dstMpa
  let range (a : Nat) : Bool := decide (a + t.count ≤ mpaEnd) && (decide (16 ≤ own) || h.mpaOk own a t.count)
  if t.src % 64 ≠ 0 ∨ t.dst % 64 ≠ 0 ∨ t.count % 64 ≠ 0 ∨ t.count = 0 then 1
  else if t.srcMpa = false ∧ t.dstMpa = false then 2
  else if h.ctxResetNow own ∨ h.ctxResetNow t.ctx then 0xA
  else if own < 16 ∧ (t.ctx ≠ own ∨ h.ctxInReset own) then 3
  else if host ∧ (h.ctxInReset t.ctx ∨ !h.ctxWorks t.ctx) then 3
  else if (t.srcMpa ∧ !range t.src) ∨ (t.dstMpa ∧ !range t.dst) then 4
  else 0

/-- The source of an ending code (R404). -/
def dmaSource (err : Nat) : Nat :=
  match err with
  | 0 => 0
  | 1 | 2 | 3 => 1
  | 4 => 2
  | 5 => 3
  | 6 => 4
  | 7 => 5
  | 8 => 6
  | _ => 7

/-- Whether an ending code is a failure to read. -/
def readFailure (err : Nat) : Bool := decide (6 ≤ err ∧ err ≤ 8)

/-- A transfer of channel k ends with a code (R404–R406, R414). What REMAIN shows after DROPPED or CTX_RESET is undefined (free). -/
def Hw.dmaEnd (h : Hw) (k : Nat) (t : Transfer) (err : Nat) : Hw :=
  let p := dmaPage k
  let f := if 9 ≤ err then h.free 32 else (t.count - t.done, h)
  let h := (f.2.setDma k none).dmWr k DMA.REMAIN f.1
  let h := ((h.dmWr k DMA.STATUS_BUSY 0).dmWr k DMA.STATUS_DONE 1).dmWr k DMA.STATUS_ERR err
  let h := (h.setBit p DMA.DMA_STS_BUSY (k % 16) false).setBit p DMA.DONE_SUM (k % 16) true
  let at' := if t.back then t.dst + t.count - 64 else t.dst + t.done
  let h := h.raise p (dmaSource err) ⟨at', 0x0200 + k, if readFailure err then 4 else 5, false⟩
  if h.dm k DMA.CH_IRQ_EN = 1 then
    let own := h.dm k DMA.CH_OWNER
    if own < 16 then h.msix own (h.dm k DMA.CH_IRQ_VECTOR) else h.send (.dmaIrq k)
  else h

/-- How many of a number of units from an MPA on lie before the first that holds a pinned byte (R63). -/
def Hw.openUnits (h : Hw) (a : Nat) : Nat → Nat
  | 0 => 0
  | n + 1 => if h.dmaPinned a 64 then 0 else h.openUnits (a + 64) n + 1

/-- Bytes of a transfer are written, and counted where they are page data (R80). -/
def Hw.dmaWritten (h : Hw) (a : Nat) (bs : List Byte) : Hw :=
  let n := a + bs.length - max a commonsEnd
  let h := if n = 0 then h else { h with headrace := { h.headrace with
    ingest := (h.mono, n) :: h.headrace.ingest.takeWhile fun x => decide ((h.mono - x.1).toNat < 256000000000) } }
  h.putBytes a bs

/-- With BARRIER, a transfer to the host is done when the module has read back the last unit written (R405): until that read completes, the
channel stays busy. -/
def Hw.dmaBarrier (h : Hw) (k : Nat) (t : Transfer) (err : Nat) : Hw :=
  if t.barrier && !t.dstMpa && decide (err = 0) then
    ((h.send (.hostRead k t.ctx (t.dst + t.count - 64) 64)).setDma k (some { t with back := true })).dmWr k DMA.REMAIN 0
  else h.dmaEnd k t err

/-- A transfer of channel k that was not dropped ends with a code: the units moved are written in order, up to one that a pin made
meanwhile refuses (R404, R408). -/
def Hw.dmaFinish (h : Hw) (k : Nat) (t : Transfer) (err : Nat) : Hw :=
  let n := t.held.length / 64
  let u := h.openUnits t.dst n
  let h := h.dmaWritten t.dst (t.held.take (64 * u))
  if u < n then h.dmaEnd k { t with done := 64 * u } 5 else h.dmaBarrier k t err

/-- The bytes a transfer brings to a part of its MPA destination: those that came from the host, or those of its MPA source. -/
def Hw.dmaBytes (h : Hw) (t : Transfer) (o n : Nat) : Option (List Byte) :=
  if t.srcMpa then (if h.stacksGive (t.src + o) n then some (h.bytes (t.src + o) n) else none)
  else if o + n ≤ t.held.length then some ((t.held.drop o).take n)
  else none

/-- Which units of its MPA destination a dropped transfer has written is undefined (R406, R411), but each row is written whole, with the
bytes of the source, or not at all (R59): a free choice for each row whose bytes the module has. Nothing has moved in the clock of GO
(R408). -/
def Hw.dmaLoose (h : Hw) (t : Transfer) : Hw :=
  if !t.dstMpa ∨ t.goAt = h.mono then h
  else forN (ceilDiv (t.dst % 768 + t.count) 768) (fun i h =>
    let row := (t.dst / 768 + i) * 768
    let lo := max t.dst row
    let hi := min (t.dst + t.count) (row + 768)
    if h.dmaPinned lo (hi - lo) then h
    else match h.dmaBytes t (lo - t.dst) (hi - lo) with
    | none => h
    | some bs =>
      let f := h.free 1
      if f.1 = 0 then f.2 else f.2.dmaWritten lo bs) h

/-- A transfer under way on channel k is dropped with a code. -/
def Hw.dmaCut (h : Hw) (k : Nat) (t : Transfer) (err : Nat) : Hw := (h.dmaLoose t).dmaEnd k t err

/-- The transfer that the registers of channel k describe. -/
def Hw.dmaTransfer (h : Hw) (k : Nat) : Transfer :=
  { src := h.rd2 (dmaPage k) DMA.SRC_LO DMA.SRC_HI (k % 16), dst := h.rd2 (dmaPage k) DMA.DST_LO DMA.DST_HI (k % 16)
    count := h.dm k DMA.COUNT, srcMpa := decide (h.dm k DMA.CTRL_SRC_MPA = 1), dstMpa := decide (h.dm k DMA.CTRL_DST_MPA = 1)
    ctx := h.dm k DMA.CTRL_CTX, barrier := decide (h.dm k DMA.CTRL_BARRIER = 1), done := 0, held := []
    goAt := h.mono, back := false }

/-- CTRL's fields take a written word, GO and ABORT apart. -/
def Hw.dmaCtrl (h : Hw) (k : Nat) (w : Word) : Hw :=
  let h := (h.dmWr k DMA.CTRL_BARRIER (bitsOf w 1 1)).dmWr k DMA.CTRL_CTX (bitsOf w 6 3)
  let h := (h.dmWr k DMA.CTRL_PRIO (bitsOf w 8 7)).dmWr k DMA.CTRL_SRC_MPA (bitsOf w 9 9)
  h.dmWr k DMA.CTRL_DST_MPA (bitsOf w 10 10)

/-- A write to a busy channel, other than ABORT, is ignored (R406). -/
def Hw.dmaBusyWrite (h : Hw) (k : Nat) : Hw := (h.dmWr k DMA.STATUS_REFUSED 1).inc (dmaPage k) DMA.REFUSED_CNT

/-- A write to a channel's registers by a master that may not (R402) counts on the DMA page too. -/
def Hw.dmaWrite (h : Hw) (m : Master) (k : Nat) (a : Nat) (effect : Hw → Hw) : Hw :=
  let h := if h.pageServed m (dmaPage k) && h.masterActs m && !h.mayWrite m a then h.inc (dmaPage k) DMA.REFUSED_CNT else h
  h.writeTo m a effect

/-- ABORT on the busy channel k (R406, R408): a transfer whose last unit has moved ends with OK, any other DROPPED, one that awaits the read
of BARRIER among them. -/
def Hw.dmaStop (h : Hw) (k : Nat) (t : Transfer) : Hw := if t.count ≤ t.done ∧ !t.back then h.dmaFinish k t 0 else h.dmaCut k t 9

/-- A write of CTRL with GO (R404–R408): GO clears DONE and ERR; with ABORT in the same write, or EN clear, it ends DROPPED at once. -/
def dmaGo (m : Master) (k : Fin 64) (w : Word) (h : Hw) : Hw :=
  let p := dmaPage k
  h.dmaWrite m k (addrOf DMA.CTRL_GO p (k.val % 16)) fun h =>
    match h.dmaOf k with
    | some t => if w.getLsbD 2 then h.dmaStop k t else h.dmaBusyWrite k
    | none =>
      let h := h.dmaCtrl k w
      let t := h.dmaTransfer k
      let h := (h.dmWr k DMA.STATUS_DONE 0).dmWr k DMA.STATUS_ERR 0
      let err := if w.getLsbD 2 ∨ !h.runs p then 9 else h.dmaCheck k t
      if err ≠ 0 then h.dmaEnd k t err
      else
        let h := ((h.setDma k (some t)).dmWr k DMA.STATUS_BUSY 1).dmWr k DMA.REMAIN t.count
        let h := h.setBit p DMA.DMA_STS_BUSY (k.val % 16) true
        if t.srcMpa then h else h.send (.hostRead k t.ctx t.src t.count)

/-- One unit of 64 bytes moves to the destination of channel k; a pinned MPA unit is refused (R63, R404). -/
def Hw.dmaUnit (h : Hw) (t : Transfer) (bytes : List Byte) : Option (Transfer × Hw) :=
  let a := t.dst + t.done
  if t.dstMpa && h.dmaPinned a 64 then none
  else if t.dstMpa then some ({ t with done := t.done + 64, held := t.held ++ bytes }, h)
  else some ({ t with done := t.done + 64 }, h.send (.hostWrite t.ctx a bytes))

/-- Units of a transfer move in ascending order, at most n of them: the byte source gives the 64 bytes at an offset of the transfer, or the
code with which they cannot be had. -/
def Hw.dmaMove (k : Nat) (source : Nat → Hw → Except Nat (List Byte)) : Nat → Transfer → Hw → Hw
  | 0, t, h => (h.setDma k (some t)).dmWr k DMA.REMAIN (t.count - t.done)
  | n + 1, t, h =>
    if t.count ≤ t.done then (h.setDma k (some t)).dmWr k DMA.REMAIN 0
    else match source t.done h with
    | .error e => h.dmaFinish k t e
    | .ok bs => match h.dmaUnit t bs with
      | none => h.dmaFinish k t 5
      | some (t, h) => Hw.dmaMove k source n t h

/-- A completion timeout or a poisoned completion of channel k is an AER error too (R413). -/
def Hw.dmaAer (h : Hw) (k : Nat) : Hw := (h.inc pHOST HOST.PCIE_ERR).raise pHOST 4 ⟨0, 0x0200 + k, 0, false⟩

/-- A host read completion for channel k (R404): whole units in ascending order, or an error; for a transfer with BARRIER that has written its
last unit, the end (R405). A late completion finds no transfer. -/
def dmaHostCompletion (k : Fin 64) (r : HostReply) (h : Hw) : Hw :=
  match h.dmaOf k with
  | none => h
  | some t =>
    if t.back then
      match r with
      | .data _ => h.dmaEnd k t 0
      | .error => h.dmaEnd k t 6
      | .poisoned => (h.dmaAer k).dmaEnd k t 6
    else if t.srcMpa then h
    else match r with
    | .error => h.dmaFinish k t 6
    | .poisoned => (h.dmaAer k).dmaFinish k t 6
    | .data bs =>
      let from' := t.done
      Hw.dmaMove k (fun o _ => .ok ((bs.drop (o - from')).take 64)) (bs.length / 64) t h

/-- A host read of channel k has not completed in 10 ms (R404). -/
def dmaHostTimeout (k : Fin 64) (h : Hw) : Hw :=
  match h.dmaOf k with
  | none => h
  | some t =>
    if t.back then (h.dmaAer k).dmaEnd k t 7
    else if t.srcMpa || decide (t.count ≤ t.done) then h
    else (h.dmaAer k).dmaFinish k t 7

/-- A transfer ends (R405): with its last unit. An MPA source is read as the units move; badUnit names the first unit that ECC and
reconstruction could not give, where there is one (R60, R404). -/
def dmaDone (k : Fin 64) (badUnit : Option (BitVec 26)) (h : Hw) : Hw :=
  match h.dmaOf k with
  | none => h
  | some t =>
    if t.back then h
    else if t.srcMpa then
      let source (o : Nat) (h : Hw) : Except Nat (List Byte) :=
        if badUnit.map BitVec.toNat = some (o / 64) ∨ !h.stacksGive (t.src + o) 64 then .error 8 else .ok (h.bytes (t.src + o) 64)
      let h := Hw.dmaMove k source (t.count / 64) t h
      match h.dmaOf k with
      | some t => h.dmaFinish k t 0
      | none => h
    else if t.count ≤ t.done then h.dmaFinish k t 0
    else h

/-- A write of CTRL with ABORT on channel k (R406, R408): a busy transfer ends DROPPED, one whose last unit has moved with OK. -/
def dmaAbort (m : Master) (k : Fin 64) (h : Hw) : Hw :=
  h.dmaWrite m k (addrOf DMA.CTRL_ABORT (dmaPage k) (k.val % 16)) fun h =>
    match h.dmaOf k with
    | none => h
    | some t => h.dmaStop k t

/-- The busy channels that a test picks end with a code (R406, R411). -/
def Hw.dmaDrop (h : Hw) (sel : Nat → Transfer → Bool) (err : Nat) : Hw :=
  forN 64 (fun k h => match h.dmaOf k with
    | some t => if sel k t then h.dmaCut k t err else h
    | none => h) h

/-- A block reset of a DMA page (R414). -/
def Hw.resetDma (h : Hw) (i : Nat) : Hw := (h.dmaDrop (fun k _ => decide (k / 16 = i)) 9).wr (pDMA i) DMA.REFUSED_CNT 0

/-! ### Credits (R468) -/

/-- Show the credits of the master LEDGER_IDX names and the pools' free counts. -/
def Hw.showLedger (h : Hw) : Hw :=
  let p := pFANTAIL
  let i := h.rd p FANTAIL.LEDGER_IDX
  let sum (odd : Nat) : Nat := (h.ledger.filter fun x => decide (x.1 % 2 = odd)).foldl (fun a x => a + x.2) 0
  let h := (h.wr p FANTAIL.LEDGER_READ (tget (fun _ => 0) h.ledger (2 * i))).wr p FANTAIL.LEDGER_WRITE (tget (fun _ => 0) h.ledger (2 * i + 1))
  (h.wr p FANTAIL.POOL_FREE_READ (2048 - sum 0)).wr p FANTAIL.POOL_FREE_WRITE (2048 - sum 1)

/-- The ledgered credits of the masters that a test picks go back to the pools. -/
def Hw.reclaim (h : Hw) (sel : Nat → Bool) : Hw :=
  let gone := (h.ledger.filter fun x => sel (x.1 / 2)).foldl (fun a x => a + x.2) 0
  let h := { h with ledger := h.ledger.filter fun x => !sel (x.1 / 2) }
  (h.incBy pFANTAIL FANTAIL.RECLAIMED 0 gone).showLedger

/-! ### Context reset (R411, R412, R431) -/

/-- The mailboxes bound to context c are cleared, its undelivered replies discarded, and its agreed versions forgotten; a quarantine stays
until HELLO ends it (R422), and a service that runs ends without a reply (R431). -/
def Hw.boxesReset (h : Hw) (c : Nat) : Hw :=
  forN 32 (fun m h =>
    let mine := decide (h.rdi pMAILBOX MAILBOX.MB_BIND_SENDER m = c ∨ h.rdi pMAILBOX MAILBOX.MB_BIND_RECEIVER m = c)
    if mine then
      let h := ((h.wri pMAILBOX MAILBOX.MB_CFG_FULL m 0).setBit pMAILBOX MAILBOX.MB_FULL m false).wri pMAILBOX MAILBOX.MB_DATA m 0
      let h := h.wri pMAILBOX MAILBOX.MB_CFG_VERSION m 0
      let b := tget (fun _ => CmdBox.reset) h.boxes m
      { h with boxes := tset (fun _ => CmdBox.reset) h.boxes m { b with ver := none, replies := [] }
               jobs := h.jobs.map fun j => if j.box = m then { j with mute := true } else j }
    else h) h

/-- Whether a queued Headrace command was written by context c. -/
def HrCmd.by (c : Nat) : HrCmd → Bool
  | .submit m _ => decide (ctxOf m = some c)
  | .planeReady m _ _ => decide (ctxOf m = some c)
  | .withdraw m _ => decide (ctxOf m = some c)

/-- A context reset of c begins: the rows of R411 in order. flr: it is a function-level reset, with which a written vector count takes
effect (R401). -/
def Hw.contextReset (h : Hw) (c : Nat) (flr : Bool) : Hw :=
  let h := (h.wri pHOST HOST.CTX_STS_IN_RESET c 1).setBit pHOST HOST.CTX_SUM_IN_RESET c true
  let h := { h with ctxResetAt := tset (fun _ => none) h.ctxResetAt c (some h.mono) }
  let h := h.dmaDrop (fun k t => decide (h.dm k DMA.CH_OWNER = c) || decide (t.ctx = c)) 0xA
  let h := h.discardContext c
  let some' (ok : PState → Bool) := (h.headrace.pages.filter fun g => decide (g.ctx = c) && ok g.state).map PageRec.desc
  let early := some' fun st => decide (st.code ≤ 1)
  let admitted := some' fun st => decide (st.code = 2)
  let h := (early ++ admitted).foldl (fun h d => h.withdrawPage d 0x21) h
  let h := (h.modHr fun r => { r with queue := r.queue.filter fun x => !x.by c }).showQueue
  let h := ((h.wri pHEADRACE HEADRACE.RING_CFG_EN c 0).modMsix c fun _ => MsixFn.reset).boxesReset c
  let h := h.wri pHOST HOST.VIEW_BASE c 0
  let h := if flr then { h with vecShown := tset (fun _ => 128) h.vecShown c (h.rdi pHOST HOST.VEC_COUNT c) } else h
  let h := (h.reclaim fun m => decide (m = c) || (decide (0x200 ≤ m ∧ m < 0x240) && decide (h.dm (m - 0x200) DMA.CH_OWNER = c))).inci pHOST HOST.CTX_STS_RESETS c
  h.raise pHOST 2 ⟨0, c, 0, false⟩

/-- PERST_N resets the PCIe interface (R24): the link is down, and no function is enabled or a bus master. -/
def Hw.pcieReset (h : Hw) : Hw :=
  let p := pHOST
  let h := ((h.wr p HOST.LINK_STS_SPEED 0).wr p HOST.LINK_STS_WIDTH 0).wr p HOST.LINK_STS_FLIT 0
  let h := ((h.wr p HOST.LINK_STS_UP 0).wr p HOST.CTX_SUM_ENABLED 0).persist p 1 false
  forN 16 (fun c h => (h.wri p HOST.CTX_STS_ENABLED c 0).wri p HOST.CTX_STS_BUS_MASTER c 0) h

/-- A context reset (R411). PERST_N resets the PCIe interface and acts on every context (R24). -/
def contextReset (x : CtxCause) (h : Hw) : Hw :=
  match x with
  | .flr c => h.contextReset c true
  | .perst => forN 16 (fun c h => h.contextReset c false) h.pcieReset

/-- A context reset completes. -/
def contextResetEnd (c : Fin 16) (h : Hw) : Hw :=
  (h.wri pHOST HOST.CTX_STS_IN_RESET c 0).setBit pHOST HOST.CTX_SUM_IN_RESET c false

/-- The link goes down (R397): every context is reset, and a link that does not run is not degraded. -/
def pcieLinkDown (h : Hw) : Hw :=
  let h := ((h.wr pHOST HOST.LINK_STS_UP 0).persist pHOST 1 false).raise pHOST 0 ⟨0, 0xFFFF, 0, false⟩
  forN 16 (fun c h => h.contextReset c false) h

end Sys2Proof.Machine
end

