-- ==== Sys2Proof/Machine/Mailboxes.lean ====
section
/-! DEFINITION. Mailboxes, the engine kernel's services, and the kernel's lockstep pairs (R392, R415–R433). -/

namespace Sys2Proof.Machine

/-! ### Mailboxes (R415–R419) -/

/-- A field of mailbox n. -/
def Hw.mb (h : Hw) (n : Nat) (f : Field) : Nat := h.rdi pMAILBOX f n
def Hw.mbWr (h : Hw) (n : Nat) (f : Field) (v : Nat) : Hw := h.wri pMAILBOX f n v

/-- Whether a master is the party that a binding names: identities 0x0100 to 0x0107 stand for the engine kernel as a whole (R416). -/
def isParty (bound : Nat) (m : Master) : Bool := decide (bound = m.toNat) || (isKernel m && isKernel (BitVec.ofNat 16 bound))

/-- FULL of mailbox n, on both of its registers. -/
def Hw.mbSetFull (h : Hw) (n : Nat) (v : Bool) : Hw := (h.mbWr n MAILBOX.MB_CFG_FULL (b2n v)).setBit pMAILBOX MAILBOX.MB_FULL n v

/-- ACCESS (R432). -/
def Hw.mbAccess (h : Hw) (m : Master) (n : Nat) (write : Bool) : Hw := h.raise pMAILBOX 2 ⟨n, m.toNat, b2n write, false⟩

/-- LAST_VIOL takes a violation (R425). -/
def Hw.mbRecord (h : Hw) (n status m : Nat) : Hw :=
  ((h.wr pMAILBOX MAILBOX.LAST_VIOL_MAILBOX n).wr pMAILBOX MAILBOX.LAST_VIOL_STATUS status).wr pMAILBOX MAILBOX.LAST_VIOL_MASTER m

/-- An access refused under R416 or R419 is counted and recorded (R425); it names no status in LAST_VIOL (free). -/
def Hw.mbRefused (h : Hw) (m : Master) (n : Nat) (write : Bool) : Hw :=
  let f := h.free 8
  ((f.2.inc pMAILBOX MAILBOX.REFUSED).mbRecord n f.1 m.toNat).mbAccess m n write

/-- A violation is counted and recorded (R415, R420, R425). -/
def Hw.mbViolation (h : Hw) (n status m : Nat) : Hw := (h.inc pMAILBOX MAILBOX.VIOL_CNT).mbRecord n status m

/-- MB_IRQ: the mailbox's vector goes to a host party (R417). -/
def Hw.mbIrq (h : Hw) (n party : Nat) : Hw :=
  if h.mb n MAILBOX.MB_IRQ_EN = 1 ∧ party < 16 then h.msix party (h.mb n MAILBOX.MB_IRQ_VECTOR) else h

/-- A word enters mailbox n (R415, R417). -/
def Hw.mbStore (h : Hw) (m : Master) (n : Nat) (w : Word) : Hw :=
  let h := ((h.mbWr n MAILBOX.MB_DATA w.toNat).mbSetFull n true).mbWr n MAILBOX.MB_CFG_EXPIRED 0
  (h.raise pMAILBOX 0 ⟨n, m.toNat, 1, false⟩).mbIrq n (h.mb n MAILBOX.MB_BIND_RECEIVER)

/-- The engine kernel's side of mailbox n. -/
def Hw.box (h : Hw) (n : Nat) : CmdBox := tget (fun _ => CmdBox.reset) h.boxes n
def Hw.modBox (h : Hw) (n : Nat) (f : CmdBox → CmdBox) : Hw := { h with boxes := tset (fun _ => CmdBox.reset) h.boxes n (f (h.box n)) }

/-- The engine kernel puts the oldest waiting reply into an empty reply mailbox (R424). -/
def Hw.deliver (h : Hw) (n : Nat) : Hw :=
  match (h.box n).replies with
  | w :: ws =>
    if h.mb n MAILBOX.MB_CFG_EN = 1 ∧ h.mb n MAILBOX.MB_CFG_FULL = 0 then
      (h.modBox n fun b => { b with replies := ws }).mbStore kernelMaster n w
    else h
  | [] => h

/-- The word of mailbox n is taken by its RECEIVER (R415, R417). -/
def Hw.mbTake (h : Hw) (m : Master) (n : Nat) : Hw :=
  ((h.mbSetFull n false).raise pMAILBOX 1 ⟨n, m.toNat, 0, false⟩).mbIrq n (h.mb n MAILBOX.MB_BIND_SENDER)

/-- A write of MB_DATA (R415, R416, R419). A word dropped on FULL names no status in LAST_VIOL (free). -/
def mbWrite (m : Master) (n : Fin 32) (w : Word) (h : Hw) : Hw :=
  let a := addrOf MAILBOX.MB_DATA pMAILBOX n
  if !h.pageServed m pMAILBOX || !h.masterActs m || !h.blockAnswers pMAILBOX then h
  else
    let h := if h.mayWrite m a then h else h.refuse m a false true
    let h :=
      if h.mb n MAILBOX.MB_CFG_EN = 0 ∨ !isParty (h.mb n MAILBOX.MB_BIND_SENDER) m then h.mbRefused m n true
      else if h.mb n MAILBOX.MB_CFG_FULL = 1 then
        let f := h.free 8
        (f.2.mbViolation n f.1 m.toNat).mbAccess m n true
      else h.mbStore m n w
    h.fabricUse pMAILBOX

/-- A read of MB_DATA (R415, R416, R419). -/
def mbRead (m : Master) (n : Fin 32) (h : Hw) : Hw :=
  let a := addrOf MAILBOX.MB_DATA pMAILBOX n
  if !h.pageServed m pMAILBOX || !h.masterActs m || !h.blockAnswers pMAILBOX then h.send (.readValue m a 0xFFFFFFFF)
  else
    let h :=
      if !isParty (h.mb n MAILBOX.MB_BIND_RECEIVER) m then (h.mbRefused m n false).send (.readValue m a 0)
      else if h.mb n MAILBOX.MB_CFG_EN = 0 ∨ h.mb n MAILBOX.MB_CFG_FULL = 0 then h.send (.readValue m a 0)
      else ((h.send (.readValue m a (h.mb n MAILBOX.MB_DATA))).mbTake m n).deliver n
    h.fabricUse pMAILBOX

/-- A word has been left FULL for MB_TMO (R417). -/
def mbExpire (n : Fin 32) (h : Hw) : Hw :=
  if h.mb n MAILBOX.MB_CFG_FULL = 0 ∨ h.mb n MAILBOX.MB_CFG_EN = 0 then h
  else
    let party := h.mb n MAILBOX.MB_BIND_SENDER
    let h := (h.mbSetFull n false).mbWr n MAILBOX.MB_CFG_EXPIRED 1
    ((h.raise pMAILBOX 3 ⟨n, party, 1, false⟩).mbIrq n party).deliver n

/-! ### Commands and replies (R420–R425) -/

/-- A command as the engine kernel reads it (R420, R421): its opcode, tag and immediate, its block, and whether it came in EX-4 form. -/
structure Call where
  op : Nat
  tag : Nat
  arg : Nat
  block : Option Nat
  ex4 : Bool
deriving DecidableEq, Repr

/-- The boot ROM serves mailbox 0 (R428). -/
def Hw.romServes (h : Hw) : Bool := decide (h.modState = 3) && !h.boot.inReset

/-- Whether a word waits in mailbox n for the engine kernel, or for the boot ROM. -/
def Hw.awaits (h : Hw) (n : Nat) : Bool :=
  decide (h.mb n MAILBOX.MB_CFG_EN = 1 ∧ h.mb n MAILBOX.MB_CFG_FULL = 1) && h.blockAnswers pMAILBOX
    && ((h.kernelRuns && isParty (h.mb n MAILBOX.MB_BIND_RECEIVER) kernelMaster) || (h.romServes && decide (n = 0)))

/-- The commons range of the sender of mailbox n: empty where it is no host context. -/
def Hw.senderRange (h : Hw) (n : Nat) : Nat × Nat :=
  let c := h.mb n MAILBOX.MB_BIND_SENDER
  if c < 16 then h.commonsRange c else (0, 0)

/-- The block services (R426). -/
def blockOps : List Nat := [0x30, 0x31]

/-- Block ARG of the commons of mailbox n's sender, where it lies in it (R420). -/
def Hw.blockAt (h : Hw) (n arg : Nat) : Option Nat :=
  let a := (h.senderRange n).1 + 64 * arg
  if inRange a 64 (h.senderRange n) then some a else none

/-- The command in mailbox n: none for an EX-4 pointer outside R420. The immediate of a block is its first two argument bytes. A block service
in native form has the block that ARG names, and its replies go there too (R420, R421). -/
def Hw.callOf (h : Hw) (n : Nat) : Option Call :=
  let w : Word := BitVec.ofNat 32 (h.mb n MAILBOX.MB_DATA)
  if h.mb n MAILBOX.MB_CFG_FORM = 0 then
    let op := bitsOf w 31 24
    let arg := bitsOf w 15 0
    some ⟨op, bitsOf w 23 16, arg, if blockOps.contains op then h.blockAt n arg else none, false⟩
  else
    let a := w.toNat
    if a % 64 = 0 ∧ a < 2 ^ 28 ∧ inRange a 64 (h.senderRange n) then
      let bs := h.bytes a 64
      some ⟨fieldLE bs 0 1, fieldLE bs 1 1, fieldLE bs 8 2, some a, true⟩
    else none

/-- The reply mailbox of command mailbox n: the one after it where it is bound from the kernel to the sender, else the first that is. -/
def Hw.replyBox (h : Hw) (n : Nat) : Option Nat :=
  let ok (k : Nat) : Bool :=
    isParty (h.mb k MAILBOX.MB_BIND_SENDER) kernelMaster && decide (h.mb k MAILBOX.MB_BIND_RECEIVER = h.mb n MAILBOX.MB_BIND_SENDER)
  if n < 31 ∧ ok (n + 1) then some (n + 1) else (List.range 32).find? ok

/-- One of the working pairs, on which a task of the engine kernel runs: no rule says on which (free; R416, R429). -/
def Hw.taskPair (h : Hw) : Nat × Hw :=
  let ps := (List.range 4).filter fun p => h.bit pKERNEL KERNEL.KN_STS_WORKING p
  let f := h.free 2
  (ps.getD (f.1 % max 1 ps.length) 0, f.2)

/-- SERVICE_ERROR (R424, R433). -/
def Hw.serviceError (h : Hw) (n : Nat) : Hw :=
  let f := h.taskPair
  (f.2.inc pKERNEL KERNEL.SVC_ERR).raise pKERNEL 3 { pairCap f.1 false with addr := n }

/-- A reply is queued for its mailbox: at most 16 wait, and one more is dropped, as is one that has no mailbox (R424). -/
def Hw.queueReply (h : Hw) (n : Nat) (w : Word) : Hw :=
  match h.replyBox n with
  | none => h.serviceError n
  | some r =>
    if (h.box r).replies.length < 16 then (h.modBox r fun b => { b with replies := b.replies ++ [w] }).deliver r else h.serviceError n

/-- The statuses of malformed commands and misused mailboxes, which are counted and recorded (R425). -/
def violStatus (s : Nat) : Bool := decide (0x10 ≤ s ∧ s ≤ 0x14) || decide (s = 0x16 ∨ s = 0x19)

/-- A reply to a command of mailbox n: into its block where it has one, and as a word (R420, R421). -/
def Hw.answer (h : Hw) (n : Nat) (c : Call) (status value : Nat) (rep : Bool) : Hw :=
  let h := if violStatus status then h.mbViolation n status (h.mb n MAILBOX.MB_BIND_SENDER) else h
  let st := status + 128 * b2n rep
  let h := match c.block with
    | some b => h.putBytes (b + 2) ([BitVec.ofNat 8 st, 0] ++ toLE 4 value)
    | none => h
  let native := st * 2 ^ 24 + c.tag * 2 ^ 16 + value % 65536
  h.queueReply n (BitVec.ofNat 32 (if c.ex4 then c.block.getD 0 else native))

/-- A command enters the cache of its mailbox, which keeps the newest 64 (R423). -/
def Hw.remember (h : Hw) (n : Nat) (c : Call) (result : Option (Nat × Nat)) : Hw :=
  h.modBox n fun b => { b with cache := (⟨c.tag, c.op, result⟩ :: b.cache).take 64 }

/-- A command is executed at once, with its final reply. -/
def Hw.final (h : Hw) (n : Nat) (c : Call) (status value : Nat) : Hw := (h.remember n c (some (status, value))).answer n c status value false

/-- How many deferred requests wait (R392, R433). -/
def Hw.deferred (h : Hw) : Nat := (h.jobs.filter Job.deferred).length

/-- The services running. -/
def Hw.setJobs (h : Hw) (js : List Job) : Hw :=
  let h := { h with jobs := js }
  h.wr pKERNEL KERNEL.DEFER_PEND (min 255 h.deferred)

/-- A command that runs on: answered ACCEPTED, or DEFERRED, first (R424). -/
def Hw.accept (h : Hw) (n : Nat) (c : Call) (arg : Nat) (deferred : Bool) : Hw :=
  let h := (h.remember n c none).setJobs (h.jobs ++ [⟨c.op, n, c.tag, c.block, arg, deferred, false⟩])
  h.answer n c (if deferred then 2 else 1) 0 false

/-- A running service ends: its result is cached, and its final reply goes out unless a context reset has ended the exchange (R423,
R424, R431). -/
def Hw.finishJob (h : Hw) (j : Job) (status value : Nat) : Hw :=
  let done (b : CmdBox) : CmdBox := { b with
    cache := b.cache.map fun x => if x.tag = j.tag ∧ x.opcode = j.opcode ∧ x.result = none then { x with result := some (status, value) } else x }
  let h := (h.setJobs (h.jobs.erase j)).modBox j.box done
  if !j.mute then
    h.answer j.box ⟨j.opcode, j.tag, j.arg, j.block, decide (h.mb j.box MAILBOX.MB_CFG_FORM = 1)⟩ status value false
  else h

/-- What the engine kernel makes of a command: it is answered with a status, or from the cache, or it goes. -/
inductive Verdict where
  | refuse (status : Nat)
  | cached (status value : Nat)
  | go
deriving DecidableEq, Repr

/-- The opcodes of R426. -/
def knownOps : List Nat := [0x01, 0x02, 0x10, 0x11, 0x12, 0x13, 0x20, 0x30, 0x31, 0x40, 0x41]

/-- The services of context 0 only, and those that answer BUSY while one runs (R426). -/
def ctx0Ops : List Nat := [0x11, 0x12, 0x13, 0x20, 0x30, 0x31]
def busyOps : List Nat := [0x11, 0x12, 0x30]

/-- Whether an opcode is served on its version (R426). -/
def opServed (op ver : Nat) : Bool := knownOps.contains op && decide (op < 0x40 ∨ 2 ≤ ver)

/-- The verdict on a command of mailbox n (R422, R423, R425, R426). The boot ROM answers every opcode but HELLO and FW_LOAD with BAD_OPCODE
(R428). -/
def Hw.judge (h : Hw) (n : Nat) (c : Call) : Verdict :=
  let b := h.box n
  if c.op = 0x01 then .go
  else if h.romServes ∧ c.op ≠ 0x30 then .refuse 0x12
  else if b.quarantine then .refuse 0x11
  else match b.ver with
  | none => .refuse 0x10
  | some v => match b.cache.find? fun x => decide (x.tag = c.tag) with
    | some x =>
      if x.opcode ≠ c.op then .refuse 0x16
      else match x.result with
      | some r => .cached r.1 r.2
      | none => .refuse 0x03
    | none =>
      if !opServed c.op v then .refuse 0x12
      else if ctx0Ops.contains c.op ∧ h.mb n MAILBOX.MB_BIND_SENDER ≠ 0 then .refuse 0x14
      else if busyOps.contains c.op ∧ h.jobs.any (fun j => decide (j.opcode = c.op)) then .refuse 0x17
      else .go

/-- The engine kernel takes the command of mailbox n, and runs it, or answers it, under its verdict. -/
def Hw.serveCall (h : Hw) (n : Nat) (c : Call) (run : Call → Hw → Hw) : Hw :=
  let v := h.judge n c
  let h := h.mbTake kernelMaster n
  match v with
  | .refuse s => h.answer n c s 0 false
  | .cached s x => h.answer n c s x true
  | .go => run c h

/-- A service: where the word that waits in mailbox n is a command of its opcode. -/
def Hw.serve (h : Hw) (n op : Nat) (run : Call → Hw → Hw) : Hw :=
  if !h.awaits n then h
  else match h.callOf n with
  | some c => if c.op = op then h.serveCall n c run else h
  | none => h

/-- An EX-4 pointer outside R420: answered in a block of the reply mailbox's range, or only counted. -/
def Hw.badPointer (h : Hw) (n : Nat) : Hw :=
  let h := h.mbTake kernelMaster n
  let r := h.senderRange n
  if (h.replyBox n).isSome ∧ inRange r.1 64 r then h.answer n ⟨0, 0, 0, some r.1, true⟩ 0x19 0 false
  else h.mbViolation n 0x19 (h.mb n MAILBOX.MB_BIND_SENDER)

/-- A command that is unknown or not allowed, or a bad pointer: answered with a status (R425). -/
def badOpcodeCommand (n : Fin 32) (h : Hw) : Hw :=
  if !h.awaits n then h
  else match h.callOf n with
  | none => h.badPointer n
  | some c => if h.judge n c = .go then h else h.serveCall n c fun _ h => h

/-! ### HELLO, PING, STATUS (R422, R426) -/

/-- The highest version served: 2, and 1 by the boot ROM (R422, R428). -/
def Hw.topVersion (h : Hw) : Nat := if h.romServes then 1 else 2

/-- HELLO (R422): the exchange starts again; HELLO is not cached. -/
def hello (n : Fin 32) (h : Hw) : Hw :=
  h.serve n 0x01 fun c h =>
    let lo := c.arg % 256
    let hi := c.arg / 256
    let v := min hi h.topVersion
    if lo ≤ v ∧ 1 ≤ v then
      let h := h.modBox n fun b => { b with ver := some v, quarantine := false }
      (h.mbWr n MAILBOX.MB_CFG_VERSION v).answer n c 0 v false
    else
      let h := h.modBox n fun b => { b with ver := none, quarantine := true }
      (h.mbWr n MAILBOX.MB_CFG_VERSION 0).answer n c 0x11 0 false

/-- PING. -/
def ping (n : Fin 32) (h : Hw) : Hw := h.serve n 0x02 fun c h => h.final n c 0 c.arg

/-- STATUS. -/
def status (n : Fin 32) (h : Hw) : Hw :=
  h.serve n 0x10 fun c h =>
    h.final n c 0 (h.modState + 16 * (h.runGrade % 8) + 128 * b2n h.jammed + 256 * h.ownSet)

/-! ### Bring-up and stop (R383, R426) -/

/-- The engine kernel enables an encoder channel that is not. -/
def Hw.bringChannel (h : Hw) (c : Nat) : Hw :=
  if c < 20 ∧ !h.encIs c FEEDBACK.CH_CFG_EN then encoderEnWrite kernelMaster c true h else h

/-- The engine kernel has SURF of its stations and BELT follow their encoders (R53, R54, R383): it enables the channels and SURF_CFG.EN,
which the COMMIT of the TIME page takes to the next gap; SURF is valid from the first index edge on. -/
def Hw.bringPositions (h : Hw) (m : Nat) : Hw :=
  let h := (h.bringChannel (h.rd pTIME TIME.BELT_CFG_BELT0_CH)).bringChannel (h.rd pTIME TIME.BELT_CFG_BELT1_CH)
  let off := (List.range 8).any fun s => bitAt m s && !h.usesi pTIME TIME.SURF_CFG_EN s
  let h := forN 8 (fun s h =>
    if bitAt m s then (h.bringChannel (h.rdi pTIME TIME.SURF_CFG_ENC_CH s)).wri pTIME TIME.SURF_CFG_EN s 1 else h) h
  if off then h.masterCommit pTIME else h

/-- The engine kernel brings the press up (R383): the polygons of its stations, but one that coasts without a catch set (R390), the drums
and the belt drive, each with its speed slot, and SURF and BELT. -/
def Hw.bringUp (h : Hw) : Hw :=
  let m := h.ownStations
  let h := forN 8 (fun s h =>
    if bitAt m s then (if bitAt h.boot.coasting s then h else h.bringAxis s).bringAxis (8 + s) else h) h
  (h.bringAxis 16).bringPositions m

/-- PRESS_UP. -/
def pressUp (n : Fin 32) (h : Hw) : Hw := h.serve n 0x11 fun c h => (h.accept n c 0 false).bringUp

/-- The oldest running service of an opcode. -/
def Hw.jobOf (h : Hw) (op : Nat) : Option Job := h.jobs.find? fun j => decide (j.opcode = op)

/-- Bring-up ends: the stations that came up are the press set, and admission may begin; or it has failed, with a detail. -/
def pressUpDone (ok : Bool) (stations : BitVec 8) (detail : BitVec 16) (h : Hw) : Hw :=
  match h.jobOf 0x11 with
  | none => h
  | some j =>
    if ok then
      let h := h.modHr fun r => { r with pressSet := stations.toNat, stopAtGap := false }
      (h.followPages).finishJob j 0 0
    else h.finishJob j 0x18 detail.toNat

/-- PRESS_STOP. -/
def pressStop (n : Fin 32) (h : Hw) : Hw :=
  h.serve n 0x12 fun c h => (h.modHr fun r => { r with stopAtGap := true }).accept n c 0 false

/-- The press is idle after PRESS_STOP. -/
def pressStopDone (h : Hw) : Hw :=
  match h.jobOf 0x12 with
  | some j => if h.pressIdle then h.finishJob j 0 0 else h
  | none => h

/-- MODULE_RESET: OK, then the reset 10 ms later. -/
def moduleResetService (n : Fin 32) (h : Hw) : Hw :=
  h.serve n 0x13 fun c h =>
    let h := h.final n c 0 0
    h.setJobs (h.jobs ++ [⟨0x13, n, c.tag, none, 0, false, false⟩])

/-- The 10 ms after the reply have passed. -/
def resetServiceDelay (h : Hw) : Hw := if (h.jobOf 0x13).isSome then h.later (.moduleReset 4 0 0 false) else h

/-! ### Tests (R392, R426) -/

/-- The stations a test needs: every one for belt offsets and registration marks (R392). -/
def testStations (test mask : Nat) : Nat := if test = 4 ∨ test = 6 then 255 else mask

/-- The length of a test in ns (R392), the prefill of R114 included, but of a registration-mark calibration, which takes one sheet pitch. -/
def testLength (test : Nat) : Nat :=
  match test with
  | 1 => 24000000
  | 2 | 3 => 1250000
  | 4 => 20000000
  | _ => 4000000

/-- The belt distance a test takes, with a sheet of a length in µm (R392). -/
def Hw.testPitch (h : Hw) (test sheetLen : Nat) : Nat :=
  if test = 6 then umUnits (sheetLen + 1000 * h.rd pHEADRACE HEADRACE.GAP_MM)
  else umUnits (ceilDiv (h.speedUms h.runGrade * testLength test) 1000000000)

/-- The belt points of the pages that come next to station s: those admitted, and the slot planned for it; a registration-mark calibration
takes every slot. -/
def Hw.nextPoints (h : Hw) (test s : Nat) : List (Coord × Nat) :=
  ((h.headrace.pages.filter fun g => g.uses s && decide (g.state = .admitted)).map fun g => (g.beltP, g.sheetLen))
    ++ (h.headrace.slot.toList.filter fun a => bitAt a.mask s || decide (test = 6)).map fun a => (a.beltP, a.sheetLen)

/-- Whether the gap on station s is at least a test's length: the first line of no page to come is nearer (R392). -/
def Hw.gapLong (h : Hw) (test s : Nat) : Bool :=
  (h.nextPoints test s).all fun x =>
    decide ((h.testPitch test x.2 : Int) ≤ h.nipDist s x.1 h.beltNow - h.usei pTIME TIME.D_EXPO s)

/-- Whether the stations of a test are in a gap that is long enough: no page exposes on them, none prefills for a Millrace self-test, and
for registration marks no page at all is admitted (R392). -/
def Hw.inGap (h : Hw) (test mask : Nat) : Bool :=
  (List.range 8).all fun s => !bitAt (testStations test mask) s || (!h.exposingOn s && h.gapLong test s
    && !(decide (test = 5) && h.is (pPIPE s) PIPE.PIPE_STS_PREFILL)
    && !(decide (test = 6) && h.headrace.pages.any fun g => g.uses s && decide (g.state = .admitted)))

/-- MAG of a facet from its SCAN_DUR and the sum of the ten (R167): its excess over the mean, as a part of the mean, in units of 2^-24. -/
def facetMag (sum d : Nat) : Int := ((10 * (d : Int) - sum) * 2 ^ 25 + sum) / (2 * sum)

/-- The engine kernel measures the facets of station s: MAG of each follows from SCAN_DUR, staged and committed (R167). -/
def Hw.facetMeasure (h : Hw) (s : Nat) : Hw :=
  let p := pSCANCLK s
  let sum := (List.range 10).foldl (fun a f => a + h.scanDur s f) 0
  if sum = 0 then h
  else (forN 10 (fun f h => h.wri p SCANCLK.FT_MAG f (satSigned 16 (facetMag sum (h.scanDur s f)))) h).masterCommit p

/-- The engine kernel measures the registration marks: PHASE of each facet follows, staged and committed (R167). No rule says what it reads
off the marks (free values; assumption 156). -/
def Hw.markMeasure (h : Hw) (s : Nat) : Hw :=
  let p := pSCANCLK s
  (forN 10 (fun f h =>
    let x := h.free 10
    x.2.wri p SCANCLK.FT_PHASE f x.1) h).masterCommit p

/-- What a test does on station s (R392): a beam sweep asks the head for calibration (R182, R216), a dead-beam retest for its dead beams
(R189); the facets and the registration marks give entries of the facet table (R167); a Millrace self-test reads the three memories, where an
armed injection fires (R460). -/
def Hw.testStation (h : Hw) (test s : Nat) : Hw :=
  let p := pPIPE s
  match test with
  | 1 => h.relSend (.head (Fin.ofNat 8 s)) (plainFrame 4 0x41 1 [])
  | 2 => (h.modEmit s fun e => { e with deadClr := false, testing := true }).relSend (.head (Fin.ofNat 8 s)) (plainFrame 4 0x42 0 [])
  | 3 => h.facetMeasure s
  | 5 =>
    let h := h.pipeInject s
    if (List.range 3).any fun k => h.injArmed p 2 k then (h.injFired p).raise p 1 ⟨0, 0x0600 + s, 0, true⟩ else h
  | 6 => h.markMeasure s
  | _ => h

/-- A test runs; that of the belt offsets recalibrates them (R55). -/
def Hw.runsTest (h : Hw) (test mask : Nat) : Hw :=
  if test = 4 then h.beltRecal
  else forN 8 (fun s h => if bitAt (testStations test mask) s then h.testStation test s else h) h

/-- RUN_TEST: run at once where R392 allows it, and deferred otherwise. gapFits: the present gap is at least the test's length. A test takes
longer than 1 ms, so ACCEPTED comes first (R424). -/
def runTest (n : Fin 32) (gapFits : Bool) (h : Hw) : Hw :=
  h.serve n 0x20 fun c h =>
    let t := c.arg % 256
    let mask := c.arg / 256
    if t = 0 ∨ 6 < t then h.answer n c 0x13 0 false
    else if gapFits && h.inGap t mask then
      ((h.accept n c c.arg false).runsTest t mask).finishJob ⟨c.op, n, c.tag, c.block, c.arg, false, false⟩ 0 0
    else h.accept n c c.arg true

/-- The oldest deferred test whose stations are in a gap that is long enough runs (R392). -/
def deferredTestRun (h : Hw) : Hw :=
  match h.jobs.find? fun j => j.deferred && h.inGap (j.arg % 256) (j.arg / 256) with
  | some j => (h.runsTest (j.arg % 256) (j.arg / 256)).finishJob j 0 0
  | none => h

/-- 10 s have passed without a gap for the oldest deferred test: the engine kernel lengthens the next slot spacing (R392). -/
def deferTimeout (h : Hw) : Hw :=
  match h.jobs.find? Job.deferred, h.headrace.slot with
  | some j, some a =>
    let d := BitVec.ofNat 48 (h.testPitch (j.arg % 256) a.sheetLen)
    h.modHr fun r => { r with slot := some { a with beltP := a.beltP + d, ref := a.ref + d } }
  | _, _ => h

/-! ### Firmware, bindings and the log (R384, R426, R428) -/

/-- A gated service (R427): it begins where a presence window is open, and is answered NO_PRESENCE otherwise. -/
def Hw.gatedCall (h : Hw) (n : Nat) (c : Call) (kind : Nat) (run : Hw → Hw) : Hw :=
  let ok := h.windowOpen
  let h := h.gated (h.mb n MAILBOX.MB_BIND_SENDER) kind 0 ok
  if ok then run h else h.answer n c 0x15 0 false

/-- The header at an MPA passes (R384): magic, format, length and signature, within an image of len bytes. -/
def Hw.headerOk (h : Hw) (mpa len : Nat) : Bool :=
  let hd := h.bytes mpa 0xC0
  decide (fieldLE hd 0 4 = 0x46385845 ∧ fieldLE hd 4 4 = 1 ∧ fieldLE hd 16 4 ≤ 134213632 ∧ 4096 + fieldLE hd 16 4 ≤ len)
    && Config.sigOk (hd.take 0x60) ((hd.drop 0x60).take 96)

/-- The image at an MPA as a slot will hold it: authentic where its body has the header's hash. -/
def Hw.imageAt (h : Hw) (mpa : Nat) : ImageSlot :=
  let hd := h.bytes mpa 0xC0
  { magic := fieldLE hd 0 4, format := fieldLE hd 4 4, gen := fieldLE hd 8 4, fwVer := fieldLE hd 12 4, length := fieldLE hd 16 4
    authentic := decide (Config.sha384 (h.bytes (mpa + 4096) (fieldLE hd 16 4)) = fieldLE hd 0x20 48), fails := 0 }

/-- Slot k holds an image. -/
def Hw.setSlot (h : Hw) (k : Nat) (i : ImageSlot) : Hw :=
  { h with boot := { h.boot with slotA := if k = 0 then i else h.boot.slotA, slotB := if k = 0 then h.boot.slotB else i } }.showImages

/-- The slot a load writes: the one not running; in BOOT_FAIL none runs, and which is written is open (free). -/
def Hw.idleSlot (h : Hw) : Nat × Hw :=
  match h.boot.slot with
  | some 0 => (1, h)
  | some _ => (0, h)
  | none => h.free 1

/-- FW_LOAD (R428): the header is checked, and the slot erased and written. -/
def fwLoad (n : Fin 32) (h : Hw) : Hw :=
  h.serve n 0x30 fun c h => h.gatedCall n c 2 fun h =>
    match c.block with
    | none => h.answer n c 0x13 0 false
    | some b =>
      let mpa := ofLE (h.bytes (b + 8) 8)
      let len := ofLE (h.bytes (b + 16) 4)
      if len < 4096 ∨ 0x8000000 < len ∨ !h.mpaOk 0 mpa len then h.answer n c 0x13 0 false
      else if !h.headerOk mpa len then h.final n c 0x18 1
      else
        let k := h.idleSlot
        let img := k.2.imageAt mpa
        let h := k.2.setSlot k.1 emptySlot
        { h with boot := { h.boot with loading := some (k.1, img) } }.accept n c 0 false

/-- The slot has been written and read back (R428): the image counts where the read-back agrees and its hash is right; a load in BOOT_FAIL
ends with a module reset. -/
def fwLoadDone (readBackOk : Bool) (h : Hw) : Hw :=
  match h.boot.loading, h.jobOf 0x30 with
  | some (k, img), some j =>
    let h := { h with boot := { h.boot with loading := none } }
    if readBackOk && img.authentic then
      let h := (h.setSlot k img).finishJob j 0 0
      if h.romServes then h.later (.moduleReset 4 0 0 false) else h
    else h.finishJob j 0x18 2
  | _, _ => h

/-- The stored bindings of a table (R426): 32 entries of MB_BIND and MB_CFG. -/
def bindTable (bs : List Byte) : List (Word × Word) :=
  (List.range 32).map fun i => (BitVec.ofNat 32 (fieldLE bs (8 * i) 4), BitVec.ofNat 32 (fieldLE bs (8 * i + 4) 4))

/-- BIND_STORE (R418, R426). -/
def bindStore (n : Fin 32) (h : Hw) : Hw :=
  h.serve n 0x31 fun c h => h.gatedCall n c 3 fun h =>
    match c.block with
    | none => h.answer n c 0x13 0 false
    | some b =>
      let mpa := ofLE (h.bytes (b + 8) 8)
      if !h.mpaOk 0 mpa 256 then h.answer n c 0x13 0 false
      else { h with mram := { h.mram with bindings := bindTable (h.bytes mpa 256) } }.final n c 0 0

/-- LOG_MARK. -/
def logMark (n : Fin 32) (h : Hw) : Hw :=
  h.serve n 0x40 fun c h => (h.log ⟨0x1000, 0, h.mb n MAILBOX.MB_BIND_SENDER, pageTag pMAILBOX, c.arg⟩).final n c 0 0

/-- DEFER_LIST. -/
def deferList (n : Fin 32) (h : Hw) : Hw := h.serve n 0x41 fun c h => h.final n c 0 h.deferred

/-! ### Lockstep pairs and the kernel's watchdog (R429, R430, R433) -/

/-- The two cores of pair p disagree (R429). -/
def pairMismatch (p : Fin 4) (us10 : BitVec 16) (h : Hw) : Hw := if h.kernelRuns then h.retirePair p us10.toNat else h

/-- A checkpoint of the tasks of pair p, an interval in 0.1 µs after the last (R429, R433): late above 12 µs. A comparison of the standby pair meets an armed LOCKSTEP
injection (R460). -/
def taskCheckpoint (p : Fin 4) (us10 : BitVec 16) (h : Hw) : Hw :=
  let k := pKERNEL
  if !h.kernelRuns then h
  else
    let h := h.wr k KERNEL.CKPT_MAX (max (h.rd k KERNEL.CKPT_MAX) us10.toNat)
    let h := if 120 < us10.toNat then h.raise k 2 (pairCap p false) else h
    if h.injArmed k 5 0 then (h.injFired k).raise k 0 (pairCap (h.rd k KERNEL.KN_STS_STANDBY) true) else h

/-- The engine kernel's watchdog expires (R430, R462), that of the pair that warned last: Fantail stops before the module reset that follows. -/
def kwdExpire (h : Hw) : Hw :=
  if h.kernelRuns then
    let f := match h.boot.warned with
      | some p => (p, h)
      | none => h.taskPair
    let h := { f.2 with boot := { f.2.boot with wdPair := f.1 } }
    (h.freezeFantail 2).later (.moduleReset 3 0 0 false)
  else h

/-- Half of KWD_TMO has passed unserviced on pair p (R433). -/
def watchdogWarn (p : Fin 4) (h : Hw) : Hw :=
  if h.kernelRuns then { h with boot := { h.boot with warned := some p.val } }.raise pKERNEL 4 (pairCap p false) else h

end Sys2Proof.Machine
end

