-- ==== Sys2Proof/Machine/Peers.lean ====
section
/-! DEFINITION. Several modules as one press: peer frames, membership, joint admission, the exchange of time, and the gap (R435–R451,
R481). -/

namespace Sys2Proof.Machine

/-! ### Who is where (R435, R436) -/

/-- Whether frames of a port are read: the chain is on, the link up and not in quarantine (R435, R441). -/
def Hw.hears (h : Hw) (p : Fin 2) : Bool := h.chainOn && h.linkUp (.peer p) && !(h.lk (.peer p)).quar

/-- Whether a port faces the Headstock: PEER_A of a Tailstock. -/
def Hw.facesUp (h : Hw) (p : Fin 2) : Bool := decide (p = 0) && !h.isHeadstock

/-- A frame as its origin sent it, for passing on: FLAGS[7:4] name the origin (R436). -/
def fromModule (m : Fin 16) (ftype param : Nat) (body : List Byte) : Frame := { plainFrame 4 ftype param body with flags := 16 * m.val }

/-- A Tailstock passes a frame on along the chain; the Headstock sends a frame that came up to every module (R436, R449). -/
def Hw.passOn (h : Hw) (p : Fin 2) (f : Frame) : Hw :=
  if h.isHeadstock then h.chainDown f else if p = 0 then h.chainDown f else h.chainUp f

/-- A frame that only goes up is passed on by a Tailstock. -/
def Hw.passUp (h : Hw) (f : Frame) : Hw := h.chainUp f

/-- A frame of the wrong direction (R221, R438). -/
def Hw.wrongWay (h : Hw) (p : Fin 2) : Hw := h.violation (.peer p) 0x13 4 0 0

/-! ### The digest (R440) -/

/-- The CRC-64 of R440, bit by bit and over bytes. -/
def crc64Bit (c : Nat) : Nat := if c % 2 = 1 then (c / 2) ^^^ 0xC96C5795D7870F42 else c / 2
def crc64Byte (c : Nat) (b : Byte) : Nat :=
  crc64Bit (crc64Bit (crc64Bit (crc64Bit (crc64Bit (crc64Bit (crc64Bit (crc64Bit (c ^^^ b.toNat))))))))
def crc64 (bs : List Byte) : Nat := bs.foldl crc64Byte 0xFFFFFFFFFFFFFFFF ^^^ 0xFFFFFFFFFFFFFFFF

/-- The configuration digest. -/
def Hw.digestNow (h : Hw) : Nat :=
  let table := (List.range 256).map fun i => h.table (0x100 * h.rd pHEADRACE HEADRACE.GT_BANK_ACTIVE + i)
  let cmap := (List.range 16).flatMap fun m =>
    toLE 4 (h.usei pPEERA PEER.CMAP_STATIONS m + 256 * h.usei pPEERA PEER.CMAP_PRESENT m)
  crc64 (table ++ cmap ++ toLE 2 (h.rd pHEADRACE HEADRACE.GAP_MM))

/-- The digest shown. -/
def Hw.digest (h : Hw) : Nat := h.rd2 pPEERA PEER.DIGEST_LO PEER.DIGEST_HI 0

/-! ### Membership (R442, R445, R448, R449) -/

/-- The membership state of module m. -/
def Hw.memberState (h : Hw) (m : Nat) : Nat := tget (fun _ => 0) h.chain.state m

/-- Whether the chain map in use has module m. -/
def Hw.present (h : Hw) (m : Nat) : Bool := decide (m ≠ 0) && decide (h.usei pPEERA PEER.CMAP_PRESENT m = 1)

/-- The chain masks are shown; a change raises SET_CHANGE (R442). -/
def Hw.showMasks (h : Hw) (far members excluded refused : Nat) : Hw :=
  let p := pPEERA
  let same := decide (h.rd p PEER.CHAIN_STS_MEMBERS = members ∧ h.rd p PEER.CHAIN_STS_EXCLUDED = excluded ∧ h.rd p PEER.REFUSED = refused)
  let h := ((h.wr p PEER.CHAIN_STS_MEMBERS members).wr p PEER.CHAIN_STS_EXCLUDED excluded).wr p PEER.REFUSED refused
  if same then h else h.raise p 5 (peerCap far 0 4)

/-- The modules in a membership state, as a mask. -/
def Hw.inState (h : Hw) (st : Nat) : Nat := (List.range 16).foldl (fun a m => if h.memberState m = st then a + 2 ^ m else a) 0

/-- The Headstock moves module m to a membership state. -/
def Hw.setMember (h : Hw) (m st : Nat) : Hw :=
  let h := { h with chain := { h.chain with state := tset (fun _ => 0) h.chain.state m st } }
  h.showMasks m (h.inState 4) (h.inState 5) (h.inState 6)

/-- A disagreement that arises mid-page (R449): every page from EXPOSING to FUSED is spoiled here with PEER, and the chain is told of each
joint slot. -/
def Hw.chainBreak (h : Hw) : Hw :=
  let ns := (h.chain.slots.filter fun x => match h.page? x.2 with
    | some g => g.state.inFlight
    | none => false).map Prod.fst
  (ns.foldl (fun h n => h.later (.chainSpoil n 0x16)) h).later (.spoilFlight 0x16)

/-- A frame of module m's own has come up the chain: the link is up on every hop to it (R442). -/
def Hw.hopsUp (h : Hw) (m : Nat) : Hw :=
  if h.isHeadstock ∧ h.present m ∧ h.memberState m = 0 then h.setMember m 1 else h

/-- The Headstock judges module m by its version and its digest (R441, R442, R449): agreed is whether a common version is in use with it. -/
def Hw.judgeMember (h : Hw) (m : Nat) (agreed : Bool) (digest : Nat) : Hw :=
  let h := h.hopsUp m
  if !h.isHeadstock || !h.present m then h
  else
    let st := h.memberState m
    if agreed && decide (digest = h.digest) then (if st = 1 ∨ st = 6 then h.setMember m 2 else h)
    else if st = 6 then h
    else
      let h := h.setMember m 6
      if 3 ≤ st then h.chainBreak else h

/-- The Headstock hears a digest from module m in a HEARTBEAT: one that comes from beyond the first hop has passed ports that agreed on a
version. -/
def Hw.judgeDigest (h : Hw) (m : Nat) (digest : Nat) : Hw :=
  if h.rd pPEERB PEER.PR_VER_AGREED ≠ 1 then h.hopsUp m else h.judgeMember m true digest

/-- The Headstock hears of an exchange of module m with its |offset| in ps (R442, R445): 16 good ones in a row make it TIMED, one above
TIME_TOL excludes it. -/
def Hw.judgeTime (h : Hw) (m off : Nat) : Hw :=
  if !h.isHeadstock || !h.present m then h
  else
    let st := h.memberState m
    if off ≤ h.rd pPEERA PEER.TIME_TOL then
      let n := tget (fun _ => 0) h.chain.good m + 1
      let h := { h with chain := { h.chain with good := tset (fun _ => 0) h.chain.good m (min 16 n) } }
      if 16 ≤ n ∧ (st = 2 ∨ st = 5) then h.setMember m 3 else h
    else
      let h := { h with chain := { h.chain with good := tset (fun _ => 0) h.chain.good m 0 } }
      if st = 3 ∨ st = 4 then h.setMember m 5 else h

/-- A slot given GO in the clock in which a MEMBER is lost is skipped: the page admitted to it goes back (R154, R450). -/
def Hw.slotUndo (h : Hw) : Hw :=
  match h.chain.gone with
  | some (n, t) =>
    if t = h.mono then
      let h := h.chainDown (h.ctrlFrame 0x77 n [])
      match (h.chain.slots.find? fun x => decide (x.1 = n)).bind fun x => h.page? x.2 with
      | some g => h.returnPage g.desc
      | none => h
    else h
  | none => h

/-- Module m, heard on a port, and every module beyond it, away from this one, count as ABSENT (R442, R448): the Headstock moves their
states, and a Tailstock shows them neither MEMBER nor EXCLUDED nor REFUSED until the Headstock's masks come again. -/
def Hw.loseFrom (h : Hw) (p m : Nat) : Hw :=
  if h.isHeadstock then
    let h := if (List.range 16).any fun k => decide (m ≤ k) && decide (h.memberState k = 4) then h.slotUndo else h
    forN 16 (fun k h => if m ≤ k ∧ 0 < k ∧ h.memberState k ≠ 0 then
      ({ h with chain := { h.chain with good := tset (fun _ => 0) h.chain.good k 0 } }).setMember k 0 else h) h
  else
    let kept (w : Nat) : Nat := if p = 0 then w / 2 ^ (m + 1) * 2 ^ (m + 1) else w % 2 ^ m
    h.showMasks m (kept (h.rd pPEERA PEER.CHAIN_STS_MEMBERS)) (kept (h.rd pPEERA PEER.CHAIN_STS_EXCLUDED)) (kept (h.rd pPEERA PEER.REFUSED))

/-- PARAM of a HELLO (R438). -/
def helloParam (lo hi m role : Nat) : Nat := lo + 256 * hi + 2 ^ 16 * m + 2 ^ 20 * role

/-- A port's link has come up (R441, R442): HELLO goes out, and the Headstock's next module is LINKED; those further on are when their
HELLO or HEARTBEAT reaches it. -/
def Hw.peerRise (h : Hw) (p : Nat) : Hw :=
  if !h.chainOn then h
  else
    let q := pPEER p
    let param := helloParam (h.rd q PEER.PR_VER_MIN) (h.rd q PEER.PR_VER_MAX) h.moduleNo (h.rd pPEERA PEER.CHAIN_CFG_ROLE)
    let h := h.relSend (.peer (Fin.ofNat 2 p)) (h.ctrlFrame 0x70 param (toLE 8 h.digest))
    if p = 1 then h.hopsUp 1 else h

/-- The far module of a port, and those beyond, are lost (R448, R449). -/
def Hw.peerLost (h : Hw) (p m : Nat) : Hw :=
  if !h.chainOn then h
  else ((h.raise (pPEER p) 3 (peerCap m 0 4)).loseFrom p m).chainBreak

/-- A port's link has gone down (R448). -/
def Hw.peerFall (h : Hw) (p : Nat) : Hw := h.peerLost p (h.neighbour p)

/-! ### HELLO and ACCEPT (R441) -/

/-- The port is held in quarantine, or not. -/
def Hw.setQuar (h : Hw) (p : Fin 2) (v : Bool) : Hw := (h.modLk (.peer p) fun x => { x with quar := v }).showLanes (.peer p)

/-- The outcome of the version exchange on a port: the agreed version, 0 for none (R441, R442, R449). -/
def Hw.peerAgree (h : Hw) (p : Fin 2) (m v : Nat) : Hw :=
  let h := (h.wr (pPEER p) PEER.PR_VER_AGREED v).setQuar p (decide (v = 0))
  if v = 0 then
    let h := h.raise (pPEER p) 2 (peerCap m 1 4)
    h.judgeMember m false 0
  else h

/-- HELLO of module m arrives on a port. From the neighbour it starts the exchange again, and the upstream module answers with ACCEPT. A
HELLO from below goes on up the chain, by which the Headstock knows the hops to m up and judges it (R436, R442; DEDUCED, assumption 165). -/
def peerHello (p : Fin 2) (verMin verMax : BitVec 8) (m : Fin 16) (digest : BitVec 64) (h : Hw) : Hw :=
  if !h.chainOn || !h.linkUp (.peer p) then h
  else
    let q := pPEER p
    let v := if verMin.toNat ≤ 1 ∧ 1 ≤ verMax.toNat then 1 else 0
    let near := decide (m.val = h.neighbour p)
    let h := if near then (h.wr q PEER.PR_STS_FAR_MODULE m).wr q PEER.PR_VER_AGREED 0 else h
    if p = 0 then (if near then h.setQuar p false else h)
    else
      let h := if near then (h.relSend (.peer p) (h.ctrlFrame 0x71 (v + 256 * (1 - v)) [])).peerAgree p m v else h
      if h.isHeadstock then h.judgeMember m (decide (v = 1)) digest.toNat
      else h.passUp (fromModule m 0x70 (helloParam verMin.toNat verMax.toNat m 1) (toLE 8 digest.toNat))

/-- ACCEPT arrives from the upstream module. A version above 1 is none of this module's range. -/
def peerAccept (p : Fin 2) (m : Fin 16) (version : BitVec 8) (h : Hw) : Hw :=
  if !h.hears p then h
  else if !h.facesUp p then h.wrongWay p
  else if 1 < version.toNat then h.violation (.peer p) 0x16 4 0 0
  else h.peerAgree p m version.toNat

/-! ### Heartbeats (R447, R448) -/

/-- The effective grade this module reports (R77, R438): of its next page, or with none of its ceiling, forecast and thermal grade. -/
def Hw.reportGrade (h : Hw) : Nat :=
  match h.candidate with
  | some g => h.ownGrade g
  | none => max (h.rd pHEADRACE HEADRACE.GRADE_CEIL) (max (h.rd pHEADRACE HEADRACE.HR_STS_FC_GRADE) (h.rd pTHERMALA THERMAL.TH_GRADE))

/-- PARAM of a HEARTBEAT (R438). -/
def heartbeatParam (m grade : Nat) (exposing jammed : Bool) : Nat := m + 16 * grade + 128 * b2n exposing + 256 * b2n jammed

/-- Every 100 µs a HEARTBEAT goes out on each enabled port; a port on which none has come in since the last counts a miss (R448). -/
def heartbeatTimer (h : Hw) : Hw :=
  if !h.chainOn then h
  else
    let f := h.ctrlFrame 0x72 (heartbeatParam h.moduleNo (h.reportGrade % 8) h.anyExposing h.jammed) (toLE 8 h.digest)
    let h := if h.isHeadstock then
        forN 16 (fun m h =>
          { h with chain := { h.chain with quiet := tset (fun _ => 0) h.chain.quiet m (min 10 (tget (fun _ => 0) h.chain.quiet m + 1)) } }) h
      else h
    forN 2 (fun p h =>
      if h.is (pPEER p) PEER.PR_CTRL_EN then
        let n := tget (fun _ => 0) h.chain.missed p
        let h := if 0 < n then h.inc (pPEER p) PEER.HB_MISS else h
        let h := { h with chain := { h.chain with missed := tset (fun _ => 0) h.chain.missed p (n + 1) } }
        h.relSend (.peer (Fin.ofNat 2 p)) f
      else h) h

/-- HEARTBEAT of module m. exchange: |OFFSET| in ps of an exchange m has completed since its last; the Headstock's carries the chain masks
(the manual gives no frame for either; assumption 43). -/
def heartbeat (p : Fin 2) (m : Fin 16) (grade : Fin 8) (exposing jammed : Bool) (digest : BitVec 64) (exchange : Option (BitVec 32))
    (members excluded refused : BitVec 16) (h : Hw) : Hw :=
  if !h.hears p then h
  else
    let f := fromModule m 0x72 (heartbeatParam m grade exposing jammed) (toLE 8 digest.toNat)
    let h := if m.val = h.neighbour p then { h with chain := { h.chain with missed := tset (fun _ => 0) h.chain.missed p 0 } } else h
    let c : Chain := { h.chain with grade := tset (fun _ => 0) h.chain.grade m grade, quiet := tset (fun _ => 0) h.chain.quiet m 0 }
    let h := { h with chain := c }
    if h.isHeadstock then
      let h := h.judgeDigest m digest.toNat
      let h := match exchange with
        | some o => h.judgeTime m o.toNat
        | none => h
      h.later .gradeCheck
    else if p = 1 then h.passUp f
    else if m.val = 0 then (h.showMasks 0 members.toNat excluded.toNat refused.toNat).chainDown f
    else h

/-- Ten heartbeats in a row are missed from module m (R448): from the neighbour on a port, where ten have gone out since one came in; or
by the Headstock from a module further on, whose heartbeats come up the chain no more: it and those beyond it are ABSENT (R442; DEDUCED,
assumption 165). -/
def heartbeatLoss (p : Fin 2) (m : Fin 16) (h : Hw) : Hw :=
  if m.val = h.neighbour p then (if 10 ≤ tget (fun _ => 0) h.chain.missed p then h.peerLost p m else h)
  else if h.chainOn && h.isHeadstock && decide (m ≠ 0) && decide (10 ≤ tget (fun _ => 0) h.chain.quiet m) then h.loseFrom p m
  else h

/-! ### Joint admission (R446, R449) -/

/-- 200 µs before a slot's due time the Headstock offers it. -/
def slotOfferTimer (due : Stamp) (h : Hw) : Hw :=
  match h.headrace.slot with
  | none => h
  | some a =>
    if !h.chainOn || !h.isHeadstock then h
    else
      let n := h.chain.nextSlot
      let h := { h with chain := { h.chain with offered := some n, readies := [] } }
      h.chainDown (h.ctrlFrame 0x74 (n + 2 ^ 32 * (h.runGrade % 8)) (toLE 8 a.beltP.toNat ++ toLE 8 due.toNat))

/-- Whether a press stop at the gap keeps this module from admitting (R46): 0, or the condition SLOT_READY names, which the manual does
not give (free, 1 to 6; assumption 110). -/
def Hw.admitsNone (h : Hw) : Nat × Hw :=
  if h.headrace.stopAtGap then
    let f := h.free 8
    (1 + f.1 % 6, f.2)
  else (0, h)

/-- SLOT_OFFER reaches a Tailstock, whose belt offset maps the slot's belt point pHead to its own BELT at pOwn: it evaluates R76 on its
first page and answers SLOT_READY. JOB_ID of a module without a page has no stated value (free). -/
def slotOffer (p : Fin 2) (n : BitVec 32) (grade : Fin 8) (pHead pOwn : Coord) (due : Stamp) (h : Hw) : Hw :=
  if !h.hears p then h
  else if !h.facesUp p then h.wrongWay p
  else
    let h := h.chainDown (fromModule 0 0x74 (n.toNat + 2 ^ 32 * grade) (toLE 8 pHead.toNat ++ toLE 8 due.toNat))
    match h.candidate with
    | none =>
      let f := h.free 32
      let h := { f.2 with chain := { f.2.chain with held := none } }
      h.chainUp (h.ctrlFrame 0x75 (n.toNat + 2 ^ 40) (toLE 4 f.1))
    | some g =>
      let f := h.admitsNone
      let why := if f.1 = 0 then f.2.admitFails g pOwn (max (f.2.ownGrade g) grade) else f.1
      let h := f.2
      let h := { h with chain := { h.chain with held := if why = 0 then some (n.toNat, g.desc, pOwn) else none } }
      h.chainUp (h.ctrlFrame 0x75 (n.toNat + 2 ^ 32 * b2n (decide (why = 0)) + 2 ^ 40 * why) (toLE 4 g.jobId))

/-- SLOT_READY of module m: the Headstock records it, and a Tailstock passes it on. -/
def slotReady (p : Fin 2) (m : Fin 16) (n : BitVec 32) (ok : Bool) (reason : BitVec 8) (job : BitVec 32) (h : Hw) : Hw :=
  if !h.hears p then h
  else if p = 0 then h.wrongWay p
  else if h.isHeadstock then
    if h.chain.offered = some n.toNat then
      { h with chain := { h.chain with readies := ⟨m, ok, job.toNat⟩ :: h.chain.readies.filter fun r => decide (r.module ≠ m.val) } }
    else h
  else h.passUp (fromModule m 0x75 (n.toNat + 2 ^ 32 * b2n ok + 2 ^ 40 * reason.toNat) (toLE 4 job.toNat))

/-- Page d is admitted to slot n at a belt point of this module's BELT. -/
def Hw.joinSlot (h : Hw) (n d : Nat) (b : Coord) : Hw :=
  let c : Chain := { h.chain with slots := h.chain.takeSlot n d }
  ({ h with chain := c }.admitPage d b).later .gradeCheck

/-- The page held for slot n is still there to be admitted. -/
def Hw.heldFor (h : Hw) (n d : Nat) (held : Nat) : Bool :=
  decide (n = held) && match h.page? d with
    | some g => decide (g.state = .resident)
    | none => false

/-- SLOT_GO: a Tailstock admits the page it holds for the slot, or skips the slot; while its press stops at the gap it admits none (R46). -/
def slotGo (p : Fin 2) (n : BitVec 32) (go : Bool) (h : Hw) : Hw :=
  if !h.hears p then h
  else if !h.facesUp p then h.wrongWay p
  else
    let h := h.chainDown (fromModule 0 0x76 (n.toNat + 2 ^ 32 * b2n go) [])
    let held := h.chain.held
    let c : Chain := { h.chain with held := none, nextSlot := (n.toNat + 1) % 4294967296 }
    let h := { h with chain := c }
    match held with
    | some (k, d, b) => if go && h.heldFor n.toNat d k && !h.headrace.stopAtGap then h.joinSlot k d b else h.skipSlot 0
    | none => h.skipSlot 0

/-- The page of a joint slot (R446). -/
def Hw.pageOfSlot (h : Hw) (n : Nat) : Option PageRec :=
  match h.chain.slots.find? fun x => decide (x.1 = n) with
  | some x => h.page? x.2
  | none => none

/-- SLOT_DROP: the slot's page returns to RESIDENT where it has not started (R154, R449). -/
def slotDrop (p : Fin 2) (m : Fin 16) (n : BitVec 32) (h : Hw) : Hw :=
  if !h.hears p then h
  else
    let h := h.passOn p (fromModule m 0x77 n.toNat [])
    match h.pageOfSlot n.toNat with
    | some g => h.returnPage g.desc
    | none => h

/-- The Headstock has heard of a spoil of slot n, and records the first reason (R450). -/
def Hw.spoilKnown (h : Hw) (n : Nat) : Bool := h.chain.spoils.any fun x => decide (x.1 = n)
def Hw.noteSpoil (h : Hw) (n reason : Nat) : Hw :=
  if h.spoilKnown n then h else { h with chain := { h.chain with spoils := (n, reason) :: h.chain.spoils } }

/-- Another module has spoiled its page of slot n: the slot's page here and every page from EXPOSING to FUSED is spoiled with PEER
(R449). -/
def Hw.spoilOfSlot (h : Hw) (n : Nat) : Hw :=
  let mine := (h.pageOfSlot n).map PageRec.desc
  h.spoilWhere (fun g => g.state.inFlight || (decide (mine = some g.desc) && decide (g.state = .admitted))) 0x16

/-- A module has spoiled its page of slot n for a reason that allows no reprint, and so releases it (R82): the Headstock's page of the slot
is released, and every module is told (R449). -/
def Hw.releaseOfSlot (h : Hw) (n : Nat) : Hw :=
  match h.pageOfSlot n with
  | some g => (h.releasePage g.desc 0x22).later (.chainRelease n)
  | none => h.later (.chainRelease n)

/-- PAGE_SPOIL of module m goes up to the Headstock, which sends it on to every module, once for a slot; a module that it comes down to
spoils with PEER, but the one whose own it is (R449, R450). -/
def peerPageSpoil (p : Fin 2) (m : Fin 16) (n : BitVec 32) (reason : BitVec 8) (h : Hw) : Hw :=
  if !h.hears p then h
  else
    let f := fromModule m 0x78 (n.toNat + 2 ^ 32 * reason.toNat) []
    if !h.isHeadstock then
      if p = 1 then h.passUp f
      else if m.val = h.moduleNo then h.chainDown f
      else (h.chainDown f).spoilOfSlot n.toNat
    else
      let h := if h.spoilKnown n.toNat then h else ((h.noteSpoil n.toNat reason.toNat).chainDown f).spoilOfSlot n.toNat
      if reprints reason.toNat then h else h.releaseOfSlot n.toNat

/-- RELEASE: the slot's page is released with REPRINT_LIMIT (R449). -/
def peerRelease (p : Fin 2) (n : BitVec 32) (h : Hw) : Hw :=
  if !h.hears p then h
  else if !h.facesUp p then h.wrongWay p
  else
    let h := h.chainDown (fromModule 0 0x79 n.toNat [])
    match h.pageOfSlot n.toNat with
    | some g => h.releasePage g.desc 0x22
    | none => h

/-- GRADE: the Tailstock's grade change is pending, for the gap after the named slot (R447). -/
def peerGrade (p : Fin 2) (g : Fin 8) (last : BitVec 32) (h : Hw) : Hw :=
  if !h.hears p then h
  else if !h.facesUp p then h.wrongWay p
  else
    let h := h.chainDown (fromModule 0 0x7A (g.val + 2 ^ 32 * last.toNat) [])
    let h := (h.wr pHEADRACE HEADRACE.HR_STS_PEND_GRADE g).wr pHEADRACE HEADRACE.HR_STS_PEND_VALID 1
    let h := { h with chain := { h.chain with gradeAfter := some last.toNat } }
    if h.pressIdle && h.slotPassed then h.gradeApply else h

/-- JAM of another module: a jam with cause REQUEST (R347, R449). -/
def peerJam (p : Fin 2) (m : Fin 16) (cause : Fin 8) (h : Hw) : Hw :=
  if !h.hears p ∨ m.val = h.moduleNo then h else (h.passOn p (fromModule m 0x7B cause [])).jamHere 5 0 0

/-- What the chain hears of a slot whose page this module spoiled: a Tailstock tells the Headstock, or, cut off from it, the modules
beyond; the Headstock tells every module (R449). -/
def Hw.tellUpOrDown (h : Hw) (f : Frame) : Hw := if h.isHeadstock || !h.linkUp (.peer 0) then h.chainDown f else h.chainUp f
def Hw.sendSpoil (h : Hw) (n reason : Nat) : Hw :=
  let g := if h.isHeadstock then h.noteSpoil n reason else h
  if h.isHeadstock && h.spoilKnown n then h else g.tellUpOrDown (h.ctrlFrame 0x78 (n + 2 ^ 32 * reason) [])
def Hw.sendDrop (h : Hw) (n : Nat) : Hw := h.tellUpOrDown (h.ctrlFrame 0x77 n [])

/-- RELEASE goes from the Headstock only (R438). -/
def Hw.sendRelease (h : Hw) (n : Nat) : Hw := if h.isHeadstock then h.chainDown (h.ctrlFrame 0x79 n []) else h

/-! ### Memory of a peer (R439) -/

/-- Whether n bytes at a commons offset lie in MEM_WIN. -/
def Hw.inWin (h : Hw) (off n : Nat) : Bool :=
  inRange off n (h.rd pPEERA PEER.MEM_WIN_BASE * 65536, h.rd pPEERA PEER.MEM_WIN_LIMIT * 65536)
    && decide (off + n ≤ commonsEnd)

/-- MEM WRITE of the module next to this one (R439): its writes reach the Millpond in the order in which they come (R409). -/
def memWrite (p : Fin 2) (off : BitVec 64) (bytes : List Byte) (h : Hw) : Hw :=
  if !h.hears p then h
  else if 256 < bytes.length then h.violation (.peer p) 0x12 3 0 0
  else if !h.inWin off.toNat bytes.length then h.violation (.peer p) 0x16 3 0 0
  else h.putBytes off.toNat bytes

/-- MEM READ of the module next to this one: answered with READ_REPLY, in order after its writes (R409, R439). A length above 256 is a
field out of range (DESIGN CHOICE, assumption 51). -/
def memRead (p : Fin 2) (off : BitVec 48) (len : BitVec 16) (h : Hw) : Hw :=
  if !h.hears p then h
  else if 256 < len.toNat ∨ !h.inWin off.toNat len.toNat then h.violation (.peer p) 0x16 3 0 0
  else h.relSend (.peer p) (plainFrame 3 0x82 (off.toNat + 2 ^ 48 * len.toNat) (h.bytes off.toNat len.toNat))

/-- READ_REPLY: the data goes to the engine kernel. -/
def readReply (p : Fin 2) (param : BitVec 64) (bytes : List Byte) (h : Hw) : Hw :=
  if !h.hears p then h else h.send (.toKernel (.peer p) (plainFrame 3 0x82 param.toNat bytes))

/-! ### Time across the chain (R443–R445) -/

/-- PRESS_TIME at which bit 0 of the next alignment codeword leaves on a port, as its transmitter and the clock stand (R218, R443). -/
def Hw.nextAlign (h : Hw) (p : Fin 2) : Stamp := h.timeAfter (h.alignIn (.peer p))

/-- A frame of the TIME channel, which goes once, leaves on a port. -/
def Hw.timeFrame (h : Hw) (p : Fin 2) (ftype : Nat) (t : Stamp) : Hw := h.frameOut (.peer p) (plainFrame 5 ftype t.toNat [])

/-- Every 1 ms the upstream side sends PEER_SYNC with the departure time of its next alignment codeword. -/
def peerSyncTimer (h : Hw) : Hw := if h.hears 1 then h.timeFrame 1 0x60 (h.nextAlign 1) else h

/-- PEER_SYNC has come to the downstream side, and the codeword it names is stamped t2: DELAY_REQ leaves, its t3 taken the same way. -/
def peerSync (p : Fin 2) (t1 t2 : Stamp) (h : Hw) : Hw :=
  if !h.hears p then h
  else if !h.facesUp p then h.violation (.peer p) 0x13 5 0 0
  else { h with chain := { h.chain with sync := some (t1, t2, h.nextAlign p) } }.timeFrame p 0x61 (h.nextAlign p)

/-- DELAY_REQ arrives at the upstream side, stamped t4, which DELAY_RESP returns. -/
def delayReq (p : Fin 2) (t4 : Stamp) (h : Hw) : Hw :=
  if !h.hears p then h
  else if p = 0 then h.violation (.peer p) 0x13 5 0 0
  else h.timeFrame p 0x62 t4

/-- A difference of stamps in ps: a unit is 1000/1024 ps, and the manual states no rounding (assumption 2). -/
def picos (a b : Stamp) : Int := approxDiv ((a - b).toInt * 125) 128

/-- OFFSET and DELAY of an exchange, in ps (R443). -/
def exchangeOf (t1 t2 t3 t4 : Stamp) (asym : Int) : Int × Int :=
  let fwd := picos t2 t1
  let rev := picos t4 t3
  ((fwd - rev - asym) / 2, (fwd + rev) / 2)

/-- PRESS_TIME units of an offset in ps. -/
def psUnits (ps : Int) : Int := approxDiv (ps * 128) 125

/-- The time servo drives the offset towards 0 (R444): the rate within the clamp of R42 and the part of the offset it slews are its
own (free). -/
def Hw.servo (h : Hw) (off : Int) : Hw :=
  let a := h.free 32
  let b := a.2.free 64
  let u := psUnits off
  let part : Int := (b.1 % (u.natAbs + 1) : Nat)
  (b.2.wr pTIME TIME.RATE_ADJ (unsignedOf 32 (rateClamp (signed 32 a.1)))).slewBy (if u < 0 then part else -part)

/-- The engine kernel joins the Headstock's time (R436, R445): above 1 µs it sets PRESS_TIME, then it selects the peer as source. -/
def Hw.joinTime (h : Hw) (off : Int) : Hw :=
  if !h.kernelRuns then h
  else if 1000000 < off.natAbs then
    (if h.anyExposing then h
     else (h.setTime (h.clk.time - BitVec.ofInt 64 (psUnits off))).wr pTIME TIME.TIME_CTRL_SRC 1)
  else h.wr pTIME TIME.TIME_CTRL_SRC 1

/-- DELAY_RESP completes the exchange (R443–R445). -/
def delayResp (p : Fin 2) (t4 : Stamp) (h : Hw) : Hw :=
  if !h.hears p then h
  else if !h.facesUp p then h.violation (.peer p) 0x13 5 0 0
  else match h.chain.sync with
  | none => h
  | some (t1, t2, t3) =>
    let q := pPEERA
    let r := exchangeOf t1 t2 t3 t4 (signed 16 (h.use q PEER.ASYM))
    let h := (h.wr q PEER.OFFSET (unsignedOf 32 r.1)).wr q PEER.DELAY (unsignedOf 24 r.2)
    let late := decide (h.rd q PEER.TIME_TOL < r.1.natAbs)
    let was := h.chain.late
    let h := { h with chain := { h.chain with sync := none, late := late } }.persist q 4 late
    let h := if late && !was then h.raise q 4 (peerCap (h.neighbour 0) 0 5) else h
    if h.rd pTIME TIME.TIME_CTRL_SRC = 0 then h.joinTime r.1
    else
      let h := h.servo r.1
      if h.rd q PEER.TIME_FAIL < r.1.natAbs then h.chainBreak else h

/-- No exchange has succeeded for 5 ms: the time is lost (R445, R449). -/
def timeExchangeLost (h : Hw) : Hw :=
  if h.chainOn && !h.isHeadstock && decide (h.rd pTIME TIME.TIME_CTRL_SRC ≠ 0) then
    { h with chain := { h.chain with sync := none } }.chainBreak
  else h

/-! ### The gap (R80, R82, R219, R440, R442, R481) -/

/-- The pages whose staged fields apply in a gap. -/
def gapPages : List Nat := [pTIME, pCLOCK, pPEERA, pPEERB] ++ (List.range 8).map pSWATH

/-- The press stops at the gap (R18, R46, R426): admitted pages that have not started return to RESIDENT, and the schedule stops. -/
def Hw.stopPress (h : Hw) : Hw :=
  let ds := (h.headrace.pages.filter fun g => decide (g.state = .admitted)).map PageRec.desc
  (ds.foldl (fun h d => h.dropPage d) h).modHr fun r => { r with slot := none, lastSlot := none, running := false }

/-- The engine kernel retrains, in a gap, every link with a failed channel (R219, R437). -/
def Hw.retrainFailed (h : Hw) : Hw :=
  let ls := (List.range 8).map headOf ++ (List.finRange 2).map LinkId.peer
  ls.foldl (fun h l => if h.kernelRuns && h.linkUp l && ((h.chan l 3).failed || (h.chan l 4).failed) then h.retrain l else h) h

/-- The engine kernel's work on BELT in a gap (R55): it recalibrates the offsets after a disagreement, and with the COMMIT it makes once the
channel that BELT has left is healed. -/
def Hw.beltGap (h : Hw) : Hw :=
  if !h.kernelRuns then h
  else
    let healed := h.beltHealed
    let h := if healed && !h.is pTIME FACE.PAGE_STS_IN_RESET then h.startCommit pTIME else h
    if healed || h.belt.recal then h.beltRecal else h

/-- A gap between pages: no page exposes. -/
def gapBoundary (h : Hw) : Hw :=
  if h.anyExposing then h
  else
    let h := h.modHr fun r => { r with fcMoved := false }
    let h := h.beltGap
    let h := gapPages.foldl (fun h p => if h.boundaryNow p then h.commitWhole p else h) h
    let h := h.wr2 pPEERA PEER.DIGEST_LO PEER.DIGEST_HI 0 h.digestNow
    let h := if h.chainOn && h.isHeadstock then
        forN 16 (fun m h =>
          if h.memberState m = 3 then h.setMember m 4
          else if m ≠ 0 ∧ h.memberState m ≠ 0 ∧ !h.present m then h.setMember m 0
          else h) h
      else h
    let h := h.retrainFailed
    if h.headrace.stopAtGap then h.stopPress else h

end Sys2Proof.Machine
end

