-- ==== Sys2Proof/Machine/Resets.lean ====
section
/-! DEFINITION. Block resets, and PAGE_CTRL.EN and FREEZE of every page (R457, R466, R477). -/

namespace Sys2Proof.Machine

/-! ### Which unit a page is -/

/-- The index of an axis, stepper, station or other page within its class (R476). -/
def unitOf (p : Nat) : Nat := pageInstance p

/-- The station of a station page, as a station number. -/
def stationOf (p : Nat) : StationNo := ⟨pageInstance p % 8, Nat.mod_lt _ (by decide)⟩

/-! ### FREEZE (R477) -/

/-- The W0 addresses of a page's block registers that hold RO fields. -/
def roAddrs (p : Nat) : List Nat :=
  match clsOf p with
  | some c => ((rowsOf c).filter fun r => decide (r.acc = .ro)).flatMap fun r =>
      (List.range (max 1 r.count)).map fun i => addrOf r.fld p i
  | none => []

/-- The view a page holds is taken anew from the present values. With the counts of a FEEDBACK page it holds their stamps, which a read of
CH_POS then latches (R234). -/
def Hw.holdView (h : Hw) (p : Nat) : Hw :=
  let live := h.wr p FACE.PAGE_STS_FROZEN 0
  let live := match clsOf p with
    | some .feedback | some .feedback2 =>
      (fbChannels (unitOf p)).foldl (fun (g : Hw) c => g.wr2 p FEEDBACK.TLAST_LO FEEDBACK.TLAST_HI (c % 8) (h.encStamp c)) live
    | _ => live
  let f := (roAddrs p).foldl (fun f a => tset regReset f a (live.shown a)) h.frozen
  { h with frozen := f }.wr p FACE.PAGE_STS_FROZEN 1

/-- A write of PAGE_CTRL.FREEZE (R477). -/
def freezeWrite (m : Master) (page : PageNo) (v : Bool) (h : Hw) : Hw :=
  let p := 4096 * page.val
  if (clsOf p).isNone then h
  else h.writeTo m (addrOf FACE.PAGE_CTRL_FREEZE p 0) fun h =>
    let was := h.is p FACE.PAGE_CTRL_FREEZE
    let h := h.wr p FACE.PAGE_CTRL_FREEZE (b2n v)
    if v && !was then h.holdView p
    else if v then h
    else h.wr p FACE.PAGE_STS_FROZEN 0

/-! ### Block reset (R477) -/

/-- Counters of a page at zero. -/
def Hw.clearAll (h : Hw) (p : Nat) (fs : List Field) : Hw := fs.foldl (fun h f => h.wr p f 0) h

/-- A block reset of a PEER page takes the link down and clears the counters (R447). -/
def Hw.resetPeer (h : Hw) (p : Fin 2) : Hw :=
  let l : LinkId := .peer p
  let h := h.retrain l
  h.clearAll (pPEER p) [PEER.HB_MISS, PEER.RETRY_CNT, PEER.VIOL_TX, PEER.VIOL_RX]

/-- A block reset of HOST clears the counters and resets no context (R413). -/
def Hw.resetHost (h : Hw) : Hw :=
  let h := h.clearAll pHOST [HOST.REFUSED_WR, HOST.MSIX_DROP, HOST.PCIE_ERR]
  forN 16 (fun c h => h.wri pHOST HOST.CTX_STS_RESETS c 0) h

/-- A block reset of MAILBOX clears FULL and EXPIRED in every mailbox, and the counters (R432). -/
def Hw.resetMailbox (h : Hw) : Hw :=
  let h := h.clearAll pMAILBOX [MAILBOX.MB_FULL, MAILBOX.REFUSED, MAILBOX.VIOL_CNT]
  forN 32 (fun n h => (h.mbWr n MAILBOX.MB_CFG_FULL 0).mbWr n MAILBOX.MB_CFG_EXPIRED 0) h

/-- A block reset of a THERMAL page clears the counters and the capture, and leaves the supervisor alone (R363). -/
def Hw.resetThermal (h : Hw) (p : Nat) : Hw :=
  h.clearAll p [FACE.FE_ADDR_LO, FACE.FE_ADDR_HI, FACE.FE_INFO_MASTER, FACE.FE_INFO_ACCESS, FACE.FE_INFO_SOURCE,
    FACE.FE_INFO_INJECTED, FACE.FE_INFO_VALID, FACE.FE_TIME_LO, FACE.FE_TIME_HI, FACE.FE_COUNT]

/-- The effect of a block reset as the chapter of the page gives it. -/
def Hw.resetBlock (h : Hw) (p : Nat) : Hw :=
  let u := unitOf p
  match clsOf p with
  | none | some .ident | some .presence | some .clock | some .time | some .supply | some .kernel => h
  | some .fantail => h.clearAll p [FANTAIL.LEASE_EXP, FANTAIL.RECLAIMED]
  | some .thermalA | some .thermalB => h.resetThermal p
  | some .sluice => h.resetSluice
  | some .mailbox => h.resetMailbox
  | some .host => h.resetHost
  | some .peerA => h.resetPeer 0
  | some .peerB => h.resetPeer 1
  | some .headrace => h.resetHeadrace
  | some .codecEnc => h.resetCodec
  | some .dma => h.resetDma u
  | some .leat => h.resetLeat u
  | some .feedback | some .feedback2 => h.resetFeedback u
  | some .sheet => h.resetSheet
  | some .lamp => h.resetLamp
  | some .hvio => h.resetHvio u
  | some .gov => h.resetGov u
  | some .axis => h.resetAxis u
  | some .gate => h.resetGate u
  | some .motion => h.resetMotion
  | some .step => h.resetStep u
  | some .pipe => h.resetPipe u
  | some .decode => h.resetDecode u
  | some .warp => h.resetWarp u
  | some .screen => h.resetScreen u
  | some .emit => h.resetEmit u
  | some .swath => h.resetSwath u
  | some .scanclk => h.resetScanClock u
  | some .ivina => h.resetIvina (stationOf p)

/-- The master identities of a block (R402, R429): those whose credits its reset returns (R468). -/
def mastersOf (p : Nat) : List Nat :=
  match clsOf p with
  | some .dma => (List.range 16).map fun k => 0x0200 + 16 * unitOf p + k
  | some .sluice => [0x0300]
  | some .pipe | some .decode | some .emit => [0x0600 + unitOf p]
  | _ => []

/-- A master that stops keeps the credits of one kind it holds (R468): at most 128, and no more than the pool has; how many is not
stated (free). -/
def Hw.strandOne (h : Hw) (key : Nat) : Hw :=
  let f := h.free 8
  let lent := (f.2.ledger.filter fun x => decide (x.1 % 2 = key % 2)).foldl (fun a x => a + x.2) 0
  if tget (fun _ => 0) h.ledger key = 0 then
    { f.2 with ledger := tset (fun _ => 0) f.2.ledger key (min (f.1 % 129) (2048 - lent)) }
  else h

/-- The masters of a hung block keep what they hold. -/
def Hw.strand (h : Hw) (p : Nat) : Hw :=
  ((mastersOf p).foldl (fun h m => (h.strandOne (2 * m)).strandOne (2 * m + 1)) h).showLedger

/-- Whether the masters of a block may hold credits: it has work in hand. -/
def Hw.inHand (h : Hw) (p : Nat) : Bool :=
  match clsOf p with
  | some .dma => (List.range 16).any fun k => (h.dmaOf (16 * unitOf p + k)).isSome
  | some .sluice => h.sluice.seq.isSome
  | some .pipe | some .decode => (h.mill (unitOf p)).cur.isSome
  | some .emit => decide ((h.stn (unitOf p)).emit.sw = .downloading)
  | _ => false

/-- A block reset begins (R457, R468, R477): none on IDENT and PRESENCE, while one runs, or during a module reset. -/
def Hw.blockReset (h : Hw) (p : Nat) : Hw :=
  if (clsOf p).isNone ∨ p = pIDENT ∨ p = pPRESENCE ∨ h.is p FACE.PAGE_STS_IN_RESET ∨ h.boot.inReset then h
  else
    let h := (h.wr p FACE.PAGE_STS_IN_RESET 1).wr p FACE.PAGE_STS_RUNNING 0
    let h := (h.dropCommit p).wr p FACE.PAGE_STS_COMMIT_PENDING 0
    let h := h.clearAll p [FACE.FLT_INJ_PENDING, FACE.FLT_INJ_ARM]
    ((if h.inHand p then h.strand p else h).reclaim fun m => (mastersOf p).contains m).resetBlock p

/-- A write of PAGE_CTRL.BLOCK_RESET (R477). -/
def blockResetWrite (m : Master) (page : PageNo) (h : Hw) : Hw :=
  let p := 4096 * page.val
  if (clsOf p).isNone then h
  else h.writeTo m (addrOf FACE.PAGE_CTRL_BLOCK_RESET p 0) fun h => h.blockReset p

/-- A block reset ends (R466, R477, R478): the block works again where EN is 1, replies held for the mailboxes it has emptied follow (R424), and a frozen view is refreshed once. -/
def blockResetEnd (page : PageNo) (h : Hw) : Hw :=
  let p := 4096 * page.val
  if !h.is p FACE.PAGE_STS_IN_RESET then h
  else
    let h := (h.wr p FACE.PAGE_STS_IN_RESET 0).wr p FACE.PAGE_STS_HUNG 0
    let h := h.wr p FACE.PAGE_STS_RUNNING (h.rd p FACE.PAGE_CTRL_EN)
    let h := match clsOf p with
      | some .leat => h.trunkFollow (unitOf p)
      | some .ivina => h.lanesFollow (.head (stationOf p))
      | some .peerA => h.lanesFollow (.peer 0)
      | some .peerB => h.lanesFollow (.peer 1)
      | some .scanclk => h.sclkGo (unitOf p)
      | some .mailbox => forN 32 (fun n h => h.deliver n) h
      | some .feedback | some .feedback2 => (fbChannels (unitOf p)).foldl (fun h c => h.encJudge c) h
      | _ => h
    if h.is p FACE.PAGE_CTRL_FREEZE then h.holdView p else h

/-! ### PAGE_CTRL.EN (R477) -/

/-- EN reads 1 and ignores writes on these pages (R477). -/
def fixedEn (c : Cls) : Bool :=
  match c with
  | .ident | .presence | .clock | .time | .fantail | .thermalA | .thermalB | .sluice | .supply | .mailbox | .host
  | .kernel => true
  | _ => false

/-- What clearing an enable field does, where it is 1; the field then shows its own value again (R477). -/
def Hw.asCleared (h : Hw) (p : Nat) (f : Field) (i : Nat) (clear : Hw → Hw) : Hw :=
  if h.isi p f i then (clear h).wri p f i 1 else h

/-- What setting an enable field does, where its own value is 1 (R477). -/
def Hw.asSet (h : Hw) (p : Nat) (f : Field) (i : Nat) (set : Hw → Hw) : Hw :=
  if h.isi p f i then set (h.wri p f i 0) else h

/-- The enabled divided outputs stop, or start from zero, as FEEDBACK2 is disabled and enabled (R239, R477). -/
def Hw.divsOff (h : Hw) : Hw :=
  forN 4 (fun d h => if h.div d FEEDBACK.DIV_CFG_EN = 1 then h.wri (pFEEDBACK 2) FEEDBACK.DIV_STS_RUNNING d 0 else h) h
def Hw.divsOn (h : Hw) : Hw := forN 4 (fun d h => if h.div d FEEDBACK.DIV_CFG_EN = 1 then h.divStart d else h) h

/-- The enable fields of a page that is disabled take the effect of a clear, all at once; a block that carries a page spoils it
(R406, R477). -/
def Hw.pageDisable (h : Hw) (p : Nat) : Hw :=
  let u := unitOf p
  let k := kernelMaster
  match clsOf p with
  | some .axis => h.asCleared p AXIS.AX_CTRL_EN 0 (axisEnWrite k u false)
  | some .step => h.asCleared p STEP.STEP_CTRL_EN 0 (stepEnWrite k u false)
  | some .hvio => forN 14 (fun c h => h.asCleared p HVIO.HV_CFG_EN c (hvEnWrite k (14 * u + c) false)) h
  | some .lamp => forN 8 (fun c h => h.asCleared p LAMP.LC_CFG_EN c (lampEnWrite k c false)) h
  | some .gov => forN 24 (fun i h => h.asCleared p GOV.SL_CFG_EN i (govSlotDisable k (24 * u + i))) h
  | some .leat => h.trunkFollow u
  | some .ivina => (h.lanesFollow (.head (stationOf p))).spoilCarried u 0x11
  | some .peerA => h.lanesFollow (.peer 0)
  | some .peerB => h.lanesFollow (.peer 1)
  | some .scanclk => (h.asCleared p SCANCLK.SC_CTRL_EN 0 (sclkEnWrite k (stationOf p) false)).spoilCarried u 0x11
  | some .swath => h.swathOff u
  | some .feedback | some .feedback2 =>
    (if u = 2 then h.divsOff else h) |> fun h =>
      (fbChannels u).foldl (fun h c => h.asCleared p FEEDBACK.CH_CFG_EN (c % 8) (encoderEnWrite k c false)) h
  | some .headrace => h.asCleared p HEADRACE.HR_CTRL_FORECAST_EN 0 (forecastEnClear k)
  | some .dma => h.dmaDrop (fun c _ => decide (c / 16 = u)) 9
  | some .pipe | some .warp | some .screen => h.spoilMill u
  | some .decode => h.spoilCarried u 0x11
  | some .emit => (h.asCleared p EMIT.EM_CTRL_CAL_EN 0 (calEnWrite k (stationOf p) false)).spoilCarried u 0x11
  | _ => h

/-- The enable fields' own values are in force again (R477). What an E-STOP holds off stays off: this is not the engine kernel's re-arming
of the output (R34). -/
def Hw.pageEnable (h : Hw) (p : Nat) : Hw :=
  let u := unitOf p
  let k := kernelMaster
  match clsOf p with
  | some .axis => h.asSet p AXIS.AX_CTRL_EN 0 fun h => h.axisEnable u false
  | some .step => h.asSet p STEP.STEP_CTRL_EN 0 fun h => h.stepEnable u false
  | some .hvio => forN 14 (fun c h => h.asSet p HVIO.HV_CFG_EN c (hvEnWrite k (14 * u + c) true)) h
  | some .lamp => forN 8 (fun c h => h.asSet p LAMP.LC_CFG_EN c fun h => h.lampEnable c false) h
  | some .gov => forN 24 (fun i h => h.asSet p GOV.SL_CFG_EN i (govSlotEn k (24 * u + i))) h
  | some .leat => h.trunkFollow u
  | some .ivina => h.lanesFollow (.head (stationOf p))
  | some .peerA => h.lanesFollow (.peer 0)
  | some .peerB => h.lanesFollow (.peer 1)
  | some .scanclk => h.sclkGo u
  | some .feedback | some .feedback2 =>
    (if u = 2 then h.divsOn else h) |> fun h =>
      (fbChannels u).foldl (fun h c => h.asSet p FEEDBACK.CH_CFG_EN (c % 8) (encoderEnWrite k c true)) h
  | some .emit => h.asSet p EMIT.EM_CTRL_CAL_EN 0 (calEnWrite k (stationOf p) true)
  | _ => h

/-- A write of PAGE_CTRL.EN (R477). -/
def pageEnWrite (m : Master) (page : PageNo) (v : Bool) (h : Hw) : Hw :=
  let p := 4096 * page.val
  match clsOf p with
  | none => h
  | some c =>
    h.writeTo m (addrOf FACE.PAGE_CTRL_EN p 0) fun h =>
      if fixedEn c || decide (h.is p FACE.PAGE_CTRL_EN = v) then h
      else
        let h := (h.wr p FACE.PAGE_CTRL_EN (b2n v)).wr p FACE.PAGE_STS_RUNNING (b2n (v && !h.is p FACE.PAGE_STS_IN_RESET))
        if v then h.pageEnable p else (h.pageDisable p).commitOff p

end Sys2Proof.Machine
end

