-- ==== Sys2Proof/Machine/Registers.lean ====
section
/-! DEFINITION. Writes of registers without behaviour of their own, and the Faceplate's own commands (R8, R9, R398, R452–R477). -/

namespace Sys2Proof.Machine

/-! ### Fields with behaviour of their own -/

/-- The fields of a page whose writes are commands of their own; a plain register write leaves them alone. -/
def ownFields (c : Cls) : List Field :=
  match c with
  | .time => [TIME.TIME_CTRL_SET, TIME.SLEW_REQ, TIME.TOF_CTRL_GO, TIME.SURF_STS_STALE, TIME.SURF_STS_REVERSE,
      TIME.SURF_STS_TOF_LATE, TIME.SURF_STS_TOF_EARLY]
  | .headrace => [HEADRACE.HR_CTRL_FORECAST_EN, HEADRACE.HR_CTRL_LOCK, HEADRACE.GT_BANK_SWITCH, HEADRACE.SUBMIT,
      HEADRACE.PLANE_READY_INDEX, HEADRACE.PLANE_READY_STATION, HEADRACE.WITHDRAW, HEADRACE.RING_CFG_LOG2SIZE, HEADRACE.RING_CFG_EN]
  | .codecEnc => [CODEC_ENC.JOB_SUBMIT]
  | .warp => [WARP.WBANK_SWITCH, WARP.WBANK_CANCEL]
  | .screen => [SCREEN.SBANK_SWITCH, SCREEN.SBANK_CANCEL]
  | .swath => [SWATH.SW_CTRL_EN]
  | .scanclk => [SCANCLK.SC_CTRL_EN]
  | .emit => [EMIT.EM_CTRL_CAL_EN, EMIT.EM_CTRL_DEAD_CLR, EMIT.EBANK_SWITCH, EMIT.EBANK_CANCEL, EMIT.CEIL_UW, EMIT.HEALTH_STS_MEAS_OVER]
  | .ivina => [IVINA.IV_CTRL_EN, IVINA.IV_CTRL_LEN_EN, IVINA.IV_CTRL_LANE_EN, IVINA.IV_CTRL_RETRAIN]
  | .feedback => [FEEDBACK.CH_CFG_EN, FEEDBACK.CH_STS_ILLEGAL, FEEDBACK.CH_STS_BISS_ERR]
  | .feedback2 => [FEEDBACK.CH_CFG_EN, FEEDBACK.CH_STS_ILLEGAL, FEEDBACK.CH_STS_BISS_ERR, FEEDBACK.DIV_CFG_EN, FEEDBACK.DIV_CFG_SRC,
      FEEDBACK.DIV_CFG_INV, FEEDBACK.DIV_CFG_MIN_SP]
  | .axis => [AXIS.AX_CTRL_EN, AXIS.AX_CTRL_ALIGN_REQ]
  | .gate => [GATE.BRIDGE_CLR]
  | .motion => [MOTION.GRP_CFG_MEMBERS, MOTION.GRP_CFG_EN, MOTION.GRP_GO, MOTION.RDV_CTRL_GO, MOTION.RDV_CTRL_ABORT]
  | .step => [STEP.STEP_CTRL_EN, STEP.STEP_CTRL_MODE, STEP.STEP_CTRL_STOP_NOW, STEP.TARGET, STEP.V_TGT, STEP.POS_SET]
  | .gov => [GOV.GV_CTRL_STAT_CLR, GOV.SL_CFG_EN, GOV.SL_STS_SWITCH]
  | .hvio => [HVIO.HV_CLR, HVIO.PT_BANK_SWITCH, HVIO.HV_CFG_EN]
  | .lamp => [LAMP.LOCK_CLR, LAMP.FUS_CLR, LAMP.LC_CFG_EN]
  | .leat => [LEAT.LT_CTRL_EN, LEAT.CMD_PUSH, LEAT.RPT_POP]
  | .sheet => [SHEET.SH_CTRL_EN, SHEET.SH_CTRL_JAM_REQ, SHEET.SH_CTRL_JAM_CLR, SHEET.SH_ENTRY_DESC, SHEET.SH_ENTRY_STATE,
      SHEET.SH_ENTRY_CLASS]
  | .thermalA | .thermalB => [THERMAL.BROKEN]
  | .sluice => [SLUICE.SQ_CTRL_STOP_REQ, SLUICE.PROG_STORE, SLUICE.LOG_PUSH]
  | .supply => [SUPPLY.RAIL_CMD_GO]
  | .host => [HOST.HOST_LOCK_LOCK]
  | .dma => [DMA.CTRL_GO, DMA.CTRL_ABORT]
  | .mailbox => [MAILBOX.MB_CTRL_LOCK, MAILBOX.MB_DATA]
  | .presence => [PRESENCE.PR_CTRL_CLOSE]
  | .peerA | .peerB => [PEER.PR_CTRL_EN, PEER.PR_CTRL_LANE_EN, PEER.PR_CTRL_RETRAIN]
  | .fantail => [FANTAIL.FT_CTRL_EN, FANTAIL.FT_CTRL_RESUME, FANTAIL.FT_FREQ]
  | _ => []

/-- The Faceplate fields whose writes are commands of their own. -/
def ownFace : List Field :=
  [FACE.PAGE_CTRL_EN, FACE.PAGE_CTRL_FREEZE, FACE.PAGE_CTRL_BLOCK_RESET, FACE.PAGE_CTRL_COMMIT, FACE.PAGE_CTRL_LOCK,
    FACE.FE_INFO_VALID, FACE.EVT_MASK, FACE.FLT_INJ_ARM]

/-! ### Ranges -/

/-- Fields whose written value the manual clamps, with the range. -/
def clampRange (c : Cls) (f : Field) : Option (Nat × Nat) :=
  match c with
  | .swath => if f = SWATH.LINK_GUARD then some (200, 2000) else if f = SWATH.RET_HOLD then some (1, 63) else none
  | .scanclk => if f = SCANCLK.BD_WIN then some (20, 5000) else none
  | .headrace => if f = HEADRACE.PART_BASE ∨ f = HEADRACE.PART_LIMIT then some (0, 34332) else none
  | .step => if f = STEP.CURRENT_I_RUN ∨ f = STEP.CURRENT_I_HOLD then some (0, 5657) else none
  | .sheet => if f = SHEET.REPORT_MAX then some (0, 4000) else none
  | _ => none

/-- Fields with a range outside which the manual states no value: a free value within the range is stored then (assumption 1). -/
def openRange (c : Cls) (f : Field) : Option (Nat × Nat) :=
  match c with
  | .headrace => if f = HEADRACE.REPRINT_DEF then some (1, 15) else none
  | .axis =>
    if f = AXIS.PWM_PER then some (10000, 100000) else if f = AXIS.AX_CFG_POLE_PAIRS then some (1, 15) else none
  | .gate =>
    if f = GATE.GD_CTRL_TRIP_REPEAT then some (1, 15)
    else if f = GATE.REFRESH_REFRESH_MIN then some (200, 2000)
    else if f = GATE.BLANK_BLANK_NS then some (100, 1000)
    else none
  | .step =>
    if f = STEP.CHOP_PER then some (20000, 100000)
    else if f = STEP.V_MAX then some (0, 10000)
    else if f = STEP.I_TRIP then some (0, 7800)
    else none
  | .gov => if f = GOV.SL_DL_DEADLINE then some (60, 1000) else none
  | .lamp => if f = LAMP.LC_CFG_SOFT_HC then some (2, 100) else none
  | .hvio => if f = HVIO.HV_PER then some (1000, 50000) else none
  | .host => if f = HOST.COM_LIMIT then some (0, 4096) else none
  | .mailbox => if f = MAILBOX.MB_TMO then some (1, 65535) else none
  | .kernel => if f = KERNEL.KWD_TMO then some (2, 100) else none
  | .feedback | .feedback2 =>
    if f = FEEDBACK.BISS_CFG_BITS then some (8, 40)
    else if f = FEEDBACK.BISS_CFG_CYCLE ∨ f = FEEDBACK.BISS_CFG_TIMEOUT then some (1, 255)
    else none
  | _ => none

/-- Store a value in the field at an address. -/
def Hw.putField (h : Hw) (a : Nat) (f : Field) (v : Nat) : Hw := h.setWord a (putBits (h.word a) f.hi f.lo v)

/-- Store a written value: as written, clamped, or a free value of the range where the manual states none. -/
def Hw.storeField (h : Hw) (c : Cls) (a : Nat) (f : Field) (v : Nat) : Hw :=
  match clampRange c f with
  | some r => h.putField a f (clampN r.1 r.2 v)
  | none => match openRange c f with
    | some r =>
      if r.1 ≤ v ∧ v ≤ r.2 then h.putField a f v
      else
        let x := h.free 32
        x.2.putField a f (r.1 + x.1 % (r.2 + 1 - r.1))
    | none => h.putField a f v

/-- DEAD_NS (R262): clamped to 100–1000 ns; a value that is no multiple of 5 ns gives a free multiple within the range. -/
def Hw.storeDead (h : Hw) (a v : Nat) : Hw :=
  let v := clampN 100 1000 v
  if v % 5 = 0 then h.putField a GATE.DEAD_DEAD_NS v
  else
    let x := h.free 32
    x.2.putField a GATE.DEAD_DEAD_NS (100 + 5 * (x.1 % 181))

/-! ### Fields writable only while idle -/

/-- Whether the unit of an idle field is idle, for copy i of the field (R240, R259, R262, R292, R296, R315, R333). -/
def Hw.unitIdle (h : Hw) (c : Cls) (p i : Nat) (f : Field) : Bool :=
  let u := unitOf p
  match c with
  | .feedback | .feedback2 =>
    if f = FEEDBACK.DIV_NUM ∨ f = FEEDBACK.DIV_DEN then !h.isi p FEEDBACK.DIV_CFG_EN i else !h.isi p FEEDBACK.CH_CFG_EN i
  | .axis => decide (h.axState u = 0)
  | .gate => (List.range (bankBridges u)).all fun b => h.unitOff u b
  | .motion => decide (h.rdvState i = 0)
  | .step => decide (h.stpState u = 0)
  | .hvio => !h.isi p HVIO.HV_CFG_EN i
  | .lamp =>
    if 0x200 ≤ f.off then (List.range 8).all fun k => !(h.guards k).contains i || decide (h.lcState k = 0)
    else decide (h.lcState i = 0)
  | _ => true

/-- The flag of a refused write of an idle field. -/
def Hw.idleRefused (h : Hw) (c : Cls) (p i : Nat) : Hw :=
  match c with
  | .feedback | .feedback2 => h.wr p FEEDBACK.FB_STS_CFG_REFUSED 1
  | .axis => h.wr p AXIS.AX_STS_CFG_REFUSED 1
  | .gate => h.wr p GATE.GD_STS_CFG_REFUSED 1
  | .motion => h.wri p MOTION.RDV_STS_REFUSED i 1
  | .step => h.wr p STEP.STEP_STS_CFG_REFUSED 1
  | .hvio => h.wr p HVIO.HV_STS_CFG_REFUSED 1
  | .lamp => h.wr p LAMP.LP_STS_CFG_REFUSED 1
  | _ => h

/-! ### One field of a plain write -/

/-- A value that a field refuses: a divisor of 0 (R259, R292), the reserved clock source and RATE_ADJ under a peer port (R45). -/
def Hw.valueRefused (h : Hw) (c : Cls) (f : Field) (v : Nat) : Bool :=
  match c with
  | .axis => decide (f = AXIS.ANG_DEN ∧ v = 0)
  | .motion => decide (f = MOTION.GEAR_DEN ∧ v = 0)
  | .time => decide (f = TIME.TIME_CTRL_SRC ∧ v = 3) || (decide (f = TIME.RATE_ADJ) && decide (h.rd pTIME TIME.TIME_CTRL_SRC ≠ 0))
  | _ => false

/-- An RW field of a block register takes a written value. -/
def Hw.writeRw (h : Hw) (c : Cls) (p a i : Nat) (r : FieldRow) (v : Nat) : Hw :=
  if r.idle && !h.unitIdle c p i r.fld then h.idleRefused c p i
  else if h.valueRefused c r.fld v then h.idleRefused c p i
  else if r.fld = GATE.DEAD_DEAD_NS ∧ c = .gate then h.storeDead a v
  else
    let h := if c = .gov ∧ r.fld = GOV.SL_REF then h.refWritten (24 * pageInstance p + i) else h
    let h := (if r.staged then h.shadowWritten a else h).storeField c a r.fld v
    if c = .axis ∧ r.fld = AXIS.ELEC_OFS then h.wr p AXIS.AX_STS_OFS_VALID 1 else h

/-- One field of a block register in a plain write, by its access code (R8). -/
def Hw.writeField (h : Hw) (c : Cls) (p a : Nat) (w : Word) (r : FieldRow) : Hw :=
  if (ownFields c).contains r.fld then h
  else
    let v := bitsOf w r.fld.hi r.fld.lo
    let i := if r.fld.stride = 0 then 0 else (a - p - r.fld.off) / r.fld.stride
    match r.acc with
    | .ro | .wo | .w1s => h
    | .w1c => h.putField a r.fld (bitsOf (h.word a &&& ~~~ w) r.fld.hi r.fld.lo)
    | .rw => h.writeRw c p a i r v
    | .rwl => if h.is p FACE.PAGE_CTRL_LOCK then h else h.writeRw c p a i r v
    | .rwp => h.writeRw c p a i r v

/-- Every field of the block register at an address takes a plain write. -/
def Hw.writeFields (h : Hw) (c : Cls) (p a : Nat) (w : Word) : Hw :=
  ((rowsOf c).filter fun r => rowCovers r (pageOff a)).foldl (fun h r => h.writeField c p a w r) h

/-! ### Registers under presence (R317, R330, R355, R368, R427) -/

/-- The threshold words of a zone with one of them replaced, as WARN, THROTTLE, SHUTDOWN, RESTART, RATE_MAX. -/
def Hw.zoneWith (h : Hw) (p z : Nat) (a : Nat) (w : Word) : List Int :=
  let word (f : Field) : Word := if addrOf f p z = a then w else h.word (addrOf f p z)
  let u (f : Field) : Nat := bitsOf (word f) f.hi f.lo
  let g (f : Field) : Int := signed 16 (u f)
  [g THERMAL.ZLIM0_WARN, g THERMAL.ZLIM0_THROTTLE, g THERMAL.ZLIM1_SHUTDOWN, g THERMAL.ZLIM1_RESTART, u THERMAL.ZRATE_RATE_MAX]

/-- Whether a zone's thresholds may stand (R355): none above its shipped value, and RESTART < WARN < THROTTLE < SHUTDOWN. -/
def zoneAllowed (shipped : List Nat) (v : List Int) : Bool :=
  ((List.range 5).all fun i => decide (nthI v i ≤ (shipped.getD i 0 : Int)))
    && decide (nthI v 3 < nthI v 0 ∧ nthI v 0 < nthI v 1 ∧ nthI v 1 < nthI v 2)

/-- What an accepted write under presence does. While the press runs the engine kernel refuses a SHUTDOWN that a zone has reached (R363). -/
def Hw.writePresence (h : Hw) (m : Master) (c : Cls) (p a : Nat) (w : Word) : Hw :=
  match c with
  | .thermalA | .thermalB =>
    let z := (pageOff a - 0x200) / 16
    let v := h.zoneWith p z a w
    let hot := !h.pressIdle && decide (nthI v 2 ≤ signed 16 (h.rdi p THERMAL.ZSTS_ZONE_VAL z))
    if zoneAllowed (shippedZone (decide (c = .thermalB)) z) v && !hot then (h.writeFields c p a w).storeCeiling a
    else h.logRefused m a
  | .lamp =>
    if (pageOff a) % 16 = 8 ∧ bitsOf w 15 0 ≤ bitsOf w 31 16 then h
    else (h.writeFields c p a w).storeCeiling a
  | .hvio => (h.writeFields c p a w).storeCeiling a
  | .sluice =>
    if pageOff a = SLUICE.PROG_LO.off ∨ pageOff a = SLUICE.PROG_HI.off then
      let h := h.writeFields c p a w
      let x : StepWord := BitVec.ofNat 64 (h.rd2 p SLUICE.PROG_LO SLUICE.PROG_HI 0)
      let i := h.rd p SLUICE.PROG_IDX
      { h with mram := { h.mram with staged := tset (fun i => h.mram.program.steps.getD i 0) h.mram.staged i x } }
    else h.writeFields c p a w
  | _ => h.writeFields c p a w

/-! ### Registers for the engine kernel only (R346, R357, R380, R429) -/

/-- Whether the block register at an offset is written only by the engine kernel. -/
def kernelWord (c : Cls) (o : Nat) : Bool :=
  match c with
  | .thermalA => decide (o = THERMAL.TH_GRADE.off)
  | .sheet => decide (0x400 ≤ o)
  | .sluice => decide (0x100 ≤ o ∧ o < 0x118)
  | .kernel => true
  | _ => false

/-- A write of such a register by another master: ignored and logged, or refused on the KERNEL page. -/
def Hw.kernelRefused (h : Hw) (m : Master) (c : Cls) (a : Nat) : Hw :=
  if c = .kernel then h.refuse m a false true else h.logRefused m a

/-! ### What follows a plain write -/

/-- What a plain write of a block register brings about beside the stored value. -/
def Hw.afterWrite (h : Hw) (c : Cls) (o : Nat) (i : Nat) : Hw :=
  match c with
  | .headrace =>
    if o = HEADRACE.QUERY_IDX.off then h.showQuery else if o = HEADRACE.GRADE_CEIL.off then h.later .gradeCheck else h
  | .fantail => if o = FANTAIL.LEDGER_IDX.off then h.showLedger else h
  | .leat => if o = LEAT.NODE_IDX.off then h.showNodes i else h
  | .emit => if o = EMIT.CAL_IDX.off then h.showCal i else h
  | .feedback | .feedback2 => (fbChannels i).foldl (fun h c =>
      if o = pageOff (addrOf FEEDBACK.CH_CFG_SUPPLY_EN (fbPage c) (c % 8)) then
        { h with pins := { h.pins with enc5v := putBit h.pins.enc5v c (h.encIs c FEEDBACK.CH_CFG_SUPPLY_EN) } }
      else h) h
  | .sluice => if o = SLUICE.LOG_RD_IDX.off then h.showLog else if o = SLUICE.PROG_IDX.off then h.showStep else h
  | .mailbox =>
    let n := (o - 0x100) / 16
    if 0x100 ≤ o ∧ o % 16 = 8 then
      (if h.mb n MAILBOX.MB_CFG_EN = 0 ∧ h.mb n MAILBOX.MB_CFG_FULL = 1 then h.mbSetFull n false else h).deliver n
    else h
  | _ => h

/-- HR_CTRL.FORECAST_EN: 1 is stored, and a 0 over a 1 is the clear of R80. SW_CTRL.EN: 1 is stored, and a 0 over a 1 is the clear of
R155. -/
def Hw.clearingEnables (h : Hw) (m : Master) (c : Cls) (p o : Nat) (w : Word) : Hw :=
  if c = .headrace ∧ o = HEADRACE.HR_CTRL_FORECAST_EN.off then
    if bitsOf w 1 1 = 1 then h.wr p HEADRACE.HR_CTRL_FORECAST_EN 1
    else if h.is p HEADRACE.HR_CTRL_FORECAST_EN then forecastEnClear m h
    else h
  else if c = .swath ∧ o = SWATH.SW_CTRL_EN.off then
    if bitsOf w 0 0 = 1 then h.wr p SWATH.SW_CTRL_EN 1
    else if h.is p SWATH.SW_CTRL_EN then swathEnClear m (stationOf p) h
    else h
  else h

/-- SH_CTRL with JAM_REQ or JAM_CLR written 1: both in one write act as JAM_REQ (R347). -/
def Hw.jamWritten (h : Hw) (m : Master) (c : Cls) (o : Nat) (w : Word) : Hw :=
  if c = .sheet ∧ o = SHEET.SH_CTRL_JAM_REQ.off then
    (if bitsOf w 2 2 = 1 then jamReq m h else if bitsOf w 3 3 = 1 then jamClr m h else h)
  else h

/-- The page's LOCK is set (R477), under each of its names. -/
def Hw.lockPage (h : Hw) (p : Nat) : Hw :=
  let h := h.wr p FACE.PAGE_CTRL_LOCK 1
  if p = pHEADRACE then h.wr p HEADRACE.HR_CTRL_LOCK 1
  else if p = pHOST then h.wr p HOST.HOST_LOCK_LOCK 1
  else if p = pMAILBOX then h.wr p MAILBOX.MB_CTRL_LOCK 1
  else h

/-- HR_CTRL.LOCK, HOST_LOCK and MB_CTRL.LOCK written 1 are the page's LOCK (R477). -/
def Hw.lockWritten (h : Hw) (c : Cls) (p o : Nat) (w : Word) : Hw :=
  if (c = .headrace ∧ o = HEADRACE.HR_CTRL_LOCK.off ∧ bitsOf w 31 31 = 1)
      ∨ (c = .host ∧ o = HOST.HOST_LOCK_LOCK.off ∧ bitsOf w 31 31 = 1)
      ∨ (c = .mailbox ∧ o = MAILBOX.MB_CTRL_LOCK.off ∧ bitsOf w 0 0 = 1) then h.lockPage p
  else h

/-! ### Faceplate words -/

/-- One interrupt for a source of a page goes to the target of EVT_VECTOR (R452, R479). -/
def Hw.sendEvent (h : Hw) (p i : Nat) : Hw :=
  if h.is p FACE.EVT_VECTOR_KERNEL then h.send (.kernelIrq p i)
  else h.msix (h.rd p FACE.EVT_VECTOR_CONTEXT) (h.rd p FACE.EVT_VECTOR_VECTOR)

/-- Bits of FLT_STS are written 1 (R452, R478): a bit whose source is raised in the same clock stays 1. -/
def Hw.clearFlags (h : Hw) (p w : Nat) : Hw :=
  forN 16 (fun i h =>
    if bitAt w i && !(h.raisedOn p).any fun r => decide (r.source = i) then h.setBit p FACE.FLT_STS i false else h) h

/-- Bits of EVT_PEND are written 1 (R452, R478): a bit whose source is raised in the same clock stays 1, and its interrupt is sent as for a
change from 0 to 1. -/
def Hw.clearEvents (h : Hw) (p w : Nat) : Hw :=
  forN 16 (fun i h =>
    let rs := (h.raisedOn p).filter fun r => decide (r.source = i)
    if !bitAt w i || !h.bit p FACE.EVT_PEND i then h
    else if rs.isEmpty || !bitAt (h.reaction p i) 0 then h.setBit p FACE.EVT_PEND i false
    else if rs.all Raised.wasPend && !h.bit p FACE.EVT_MASK i then h.sendEvent p i
    else h) h

/-- A plain write of a Faceplate word (R454, R466, R476). -/
def Hw.writeFace (h : Hw) (c : Cls) (p a : Nat) (w : Word) : Hw :=
  let o := pageOff a
  if o = FACE.FLT_REACT_LO.off then h.wr p FACE.FLT_REACT_LO (reactWord c 0 w.toNat)
  else if o = FACE.FLT_REACT_HI.off then h.wr p FACE.FLT_REACT_HI (reactWord c 8 w.toNat)
  else if o = FACE.FLT_STS.off then h.clearFlags p w.toNat
  else if o = FACE.EVT_PEND.off then h.clearEvents p w.toNat
  else if o = FACE.FLT_SCOPE.off then h.wr p FACE.FLT_SCOPE (scopeWritten c (w.toNat % 65536))
  else if o = FACE.TIMEOUT_CFG_WD_US.off then
    if alwaysOn c then h else h.wr p FACE.TIMEOUT_CFG_WD_US (max 100 (w.toNat % 65536))
  else (rowsFACE.filter fun r => rowCovers r o).foldl (fun h r =>
    if ownFace.contains r.fld then h
    else match r.acc with
      | .rw => h.putField a r.fld (bitsOf w r.fld.hi r.fld.lo)
      | .w1c => h.putField a r.fld (bitsOf (h.word a &&& ~~~ w) r.fld.hi r.fld.lo)
      | _ => h) h

/-! ### The plain write -/

/-- A DMA channel's register takes a plain write (R402, R406): while the channel is busy, SRC, DST, COUNT and CTRL take none. -/
def Hw.writeDma (h : Hw) (p a k : Nat) (w : Word) : Hw :=
  let o := (pageOff a - 0x100) % 64
  if o < 0x18 ∧ (h.dmaOf k).isSome then h.dmaBusyWrite k
  else if o = 0x14 then h.dmaCtrl k w
  else h.writeFields .dma p a w

/-- DIDT (R268): GROSS from the bank's minimum, which is its reset value, to 4000, and NORM from 20 to below GROSS. -/
def Hw.writeDidt (h : Hw) (p a : Nat) (w : Word) : Hw :=
  let gross := clampN (bitsOf (regReset (addrOf GATE.DIDT_GROSS p 0)) 31 16) 4000 (bitsOf w 31 16)
  (h.putField a GATE.DIDT_GROSS gross).putField a GATE.DIDT_NORM (clampN 20 (gross - 1) (bitsOf w 15 0))

/-- WIN of an axis with MIN_WIN at most T/4 and SETTLE at most MIN_WIN − 100 (R259). -/
def Hw.clampWin (h : Hw) (p : Nat) : Hw :=
  let win := min (h.rd p AXIS.WIN_MIN_WIN) (h.rd p AXIS.PWM_PER / 4)
  (h.wr p AXIS.WIN_MIN_WIN win).wr p AXIS.WIN_SETTLE (min (h.rd p AXIS.WIN_SETTLE) (win - 100))

/-- The effect of an accepted plain write of a block register. -/
def Hw.writeBlock (h : Hw) (m : Master) (c : Cls) (p a : Nat) (w : Word) : Hw :=
  let o := pageOff a
  if kernelWord c o && !isKernel m then h.kernelRefused m c a
  else if c = .sheet ∧ 0x800 ≤ o ∧ h.sh SHEET.SH_STS_IN_FLIGHT 0 ≠ 0 then h.shRefuse ((o - 0x800) / 16) 0
  else if ((rowsOf c).any fun r => rowCovers r o && decide (r.acc = .rwp) && !(ownFields c).contains r.fld) then
    h.gatedWrite m a fun h => h.writePresence m c p a w
  else
    let h :=
      if c = .gate ∧ o = GATE.DIDT_NORM.off then h.writeDidt p a w
      else if c = .thermalA ∧ o = THERMAL.TH_GRADE.off then h.thGrade (bitsOf w 2 0)
      else if c = .sheet ∧ 0x400 ≤ o ∧ o < 0x800 ∧ o % 16 = 12 then h.purgeWritten ((o - 0x400) / 16) (bitsOf w 24 24 = 1)
      else if c = .dma ∧ 0x100 ≤ o then h.writeDma p a (16 * unitOf p + (o - 0x100) / 64) w
      else if c = .axis ∧ (o = AXIS.WIN_MIN_WIN.off ∨ o = AXIS.PWM_PER.off) then (h.writeFields c p a w).clampWin p
      else h.writeFields c p a w
    (((h.clearingEnables m c p o w).jamWritten m c o w).lockWritten c p o w).afterWrite c o (unitOf p)

/-- A write of a W0 register by a master (R8, R9, R398, R400, R476): every field without behaviour of its own takes what its access code
lets it take. A write that is not naturally aligned, or of another size than 4 bytes, has no effect (R400). -/
def w0RegisterWrite (m : Master) (a : BitVec 20) (n : BitVec 10) (w : Word) (h : Hw) : Hw :=
  let a := a.toNat
  let p := pageBase a
  match clsOf p with
  | none => h
  | some c =>
    if !w0Takes a n.toNat then h
    else
      let effect (h : Hw) : Hw := if pageOff a < 0x80 then h.writeFace c p a w else h.writeBlock m c p a w
      if c = .dma ∧ 0x100 ≤ pageOff a ∧ pageOff a < 0x500 then h.dmaWrite m (16 * unitOf p + (pageOff a - 0x100) / 64) a effect
      else h.writeTo m a effect

/-- An access to a W0 address in no page (R475): all ones, or ignored; refused on the HOST page either way. -/
def w0UnmappedAccess (m : Master) (a : BitVec 20) (write : Bool) (h : Hw) : Hw :=
  if (clsOf (pageBase a.toNat)).isSome then h
  else
    let h := if write then h else h.send (.readValue m a.toNat 0xFFFFFFFF)
    if h.pageServed m pHOST && h.masterActs m then h.refuse m a.toNat false write else h

/-! ### The Faceplate's commands -/

/-- FE_INFO.VALID written 1 re-arms the capture (R455, R456). -/
def feRearm (m : Master) (page : PageNo) (h : Hw) : Hw :=
  let p := 4096 * page.val
  if (clsOf p).isNone then h
  else h.writeTo m (addrOf FACE.FE_INFO_VALID p 0) fun h => h.rearm p

/-- Whether a page offers an injection (R459, R460). -/
def Hw.injOffered (h : Hw) (c : Cls) (checker target : Nat) : Bool :=
  bitAt (injMask c) checker && decide (1 ≤ checker) &&
    match c with
    | .pipe => decide (target ≤ 2)
    | .leat => true
    | .fantail => (clsOfNum target).isSome
    | .kernel => decide (target = 0) && h.is pKERNEL KERNEL.KN_STS_STANDBY_OK
    | _ => decide (target = 0)

/-- FLT_INJ.ARM arms an injection, or is refused (R458, R459). -/
def fltInjArm (m : Master) (page : PageNo) (checker : BitVec 4) (target : BitVec 8) (h : Hw) : Hw :=
  let p := 4096 * page.val
  match clsOf p with
  | none => h
  | some c =>
    h.writeTo m (addrOf FACE.FLT_INJ_ARM p 0) fun h =>
      if h.injOffered c checker.toNat target.toNat then
        let h := (h.wr p FACE.FLT_INJ_CHECKER checker.toNat).wr p FACE.FLT_INJ_TARGET target.toNat
        (h.wr p FACE.FLT_INJ_ARM 1).wr p FACE.FLT_INJ_PENDING 1
      else h.wr p FACE.FLT_INJ_REFUSED 1

/-- A write of EVT_MASK: a bit that is cleared while EVT_PEND is 1 sends an interrupt (R452). -/
def evtMaskWrite (m : Master) (page : PageNo) (mask : BitVec 16) (h : Hw) : Hw :=
  let p := 4096 * page.val
  match clsOf p with
  | none => h
  | some c =>
    h.writeTo m (addrOf FACE.EVT_MASK p 0) fun h =>
      let was := h.rd p FACE.EVT_MASK
      let h := h.wr p FACE.EVT_MASK (mask.toNat % 2 ^ nsrc c)
      forN (nsrc c) (fun i h =>
        if bitAt was i && !bitAt mask.toNat i && h.bit p FACE.EVT_PEND i then h.sendEvent p i else h) h

/-- A write of PAGE_CTRL.LOCK (R477). -/
def pageLock (m : Master) (page : PageNo) (h : Hw) : Hw :=
  let p := 4096 * page.val
  if (clsOf p).isNone then h
  else h.writeTo m (addrOf FACE.PAGE_CTRL_LOCK p 0) fun h => h.lockPage p

/-! ### The Fantail (R461–R463, R473) -/

/-- A write of FT_CTRL by a master that is not the engine kernel is ignored and captured (R473). -/
def Hw.fanWrite (h : Hw) (m : Master) (effect : Hw → Hw) : Hw :=
  let a := addrOf FANTAIL.FT_CTRL_EN pFANTAIL 0
  h.writeTo m a fun h => if isKernel m then effect h else h.refuse m a false true

/-- Whether FLT_STS is 0 at each source whose reaction freezes the Fantail, on every page (R463). -/
def Hw.fanClear (h : Hw) : Bool :=
  allPages.all fun p => (List.range 16).all fun i => !(bitAt (h.reaction p i) 2 && h.bit p FACE.FLT_STS i)

/-- FT_CTRL.RESUME (R463): toggling resumes with EN set, no cause 2 to 4 persisting, and no freezing source recorded. -/
def fantailResume (m : Master) (h : Hw) : Hw :=
  h.fanWrite m fun h =>
    if h.is pFANTAIL FANTAIL.FT_CTRL_EN && !h.is pFANTAIL FANTAIL.FT_STS_TOGGLING && h.ready && !h.mram.hold && h.fanClear then
      h.fanStart
    else h

/-- A write of FT_CTRL.EN (R462, R463): a clear freezes the output; a set lets RESUME start it. -/
def fantailEnWrite (m : Master) (v : Bool) (h : Hw) : Hw :=
  h.fanWrite m fun h =>
    let h := h.wr pFANTAIL FANTAIL.FT_CTRL_EN (b2n v)
    if v then h else h.freezeFantail 5

/-- A write of FT_FREQ (R461, R473): a value outside 100–10,000 Hz is ignored. -/
def ftFreqWrite (m : Master) (v : BitVec 14) (h : Hw) : Hw :=
  h.writeTo m (addrOf FANTAIL.FT_FREQ pFANTAIL 0) fun h =>
    if 100 ≤ v.toNat ∧ v.toNat ≤ 10000 then h.wr pFANTAIL FANTAIL.FT_FREQ v.toNat else h

/-! ### Fabric and watchdogs (R465, R466, R468) -/

/-- An access to a block register is not answered within 2 µs (R465): a block in reset is no such case. -/
def fabricTimeout (m : Master) (a : BitVec 20) (write : Bool) (h : Hw) : Hw :=
  let a := a.toNat
  let p := pageBase a
  if (clsOf p).isNone || decide (pageOff a < 0x80) || !h.pageServed m p || h.is p FACE.PAGE_STS_IN_RESET then h
  else
    let h := if write then h else h.send (.readValue m a 0xFFFFFFFF)
    h.raise pFANTAIL 2 ⟨a, m.toNat, b2n write, false⟩

/-- A block with work in hand, which it finishes with EN 0 too (R477), has made no progress for WD_US (R466); its masters keep the credits they hold (R468). -/
def blockWatchdog (page : PageNo) (h : Hw) : Hw :=
  let p := 4096 * page.val
  match clsOf p with
  | none => h
  | some c =>
    if alwaysOn c || h.is p FACE.PAGE_STS_IN_RESET || h.boot.inReset then h
    else ((h.strand p).wr p FACE.PAGE_STS_HUNG 1).raise pFANTAIL 2 (cap0 p)

/-- The 1 µs check of pools and ledger (R468); ok tells that they agree. -/
def ledgerCheck (ok : Bool) (h : Hw) : Hw := if ok ∨ h.boot.inReset then h.showLedger else h.raise pFANTAIL 1 (cap0 0)

/-- A fabric parity error in a transaction with a page (R468). -/
def fabricParityError (page : PageNo) (h : Hw) : Hw :=
  if (clsOf (4096 * page.val)).isNone ∨ h.boot.inReset then h else h.raise pFANTAIL 1 (cap0 (4096 * page.val))

end Sys2Proof.Machine
end

