-- ==== Sys2Proof/Machine/Settle.lean ====
section
/-! DEFINITION. The end of a step: what its raises and units have left to be done, and the levels of the LEN outputs (R33, R34, R183,
R223, R453). -/

namespace Sys2Proof.Machine

/-- The rank of a follow-up: spoils come before the jam they may share a cause with, jams in the order of their codes, resets last. -/
def Due.rank (d : Due) : Nat :=
  match d with
  | .spoilOn _ _ | .spoilExposing _ | .spoilFlight _ => 0
  | .chainSpoil _ _ | .chainRelease _ | .chainDrop _ => 1
  | .purge _ => 2
  | .encoderLost _ => 3
  | .axisMoved _ _ _ => 4
  | .trigger _ _ | .govInputs => 4
  | .headUp _ _ | .peerUp _ | .peerDown _ => 5
  | .laneTrains _ _ | .laneTrained _ _ | .laneOff _ _ => 5
  | .revive _ => 6
  | .gradeCheck => 7
  | .holdView _ => 8
  | .jam c => 16 + c
  | .blockReset _ => 1000
  | .shutdown _ => 1001
  | .moduleReset _ _ _ _ => 1002
  | .restart _ | .again _ => 1003

/-- The first follow-up of the lowest rank. -/
def firstDue : List Due → Option Due
  | [] => none
  | d :: ds =>
    match firstDue ds with
    | none => some d
    | some e => if d.rank ≤ e.rank then some d else some e

/-- One follow-up is done. -/
def Hw.doDue (h : Hw) (d : Due) : Hw :=
  match d with
  | .spoilOn s r => h.spoilStation s r
  | .spoilExposing r => h.spoilWhere (fun g => decide (g.state = .exposing)) r
  | .spoilFlight r => h.spoilWhere (fun g => g.state.inFlight) r
  | .chainSpoil n r => h.sendSpoil n r
  | .chainRelease n => h.sendRelease n
  | .chainDrop n => h.sendDrop n
  | .purge d => h.purgeSheets d
  | .encoderLost c => h.axEncoderLost c
  | .axisMoved n old new => h.govAxis n old new
  | .headUp s v => h.emHeadUp s v
  | .laneTrains s k => h.laneTrains (Fin.ofNat 8 s) k
  | .laneTrained s k => h.laneTrained (Fin.ofNat 8 s) k
  | .laneOff s k => h.laneOff (Fin.ofNat 8 s) k
  | .peerUp p => h.peerRise p
  | .peerDown p => h.peerFall p
  | .trigger k i => h.govTrigger k i
  | .govInputs => h.govInputs
  | .revive s => if h.exposingOn s then h else h.reviveHeld s
  | .gradeCheck => h.followPages
  | .holdView p => h.holdView p
  | .jam c => h.declareJam c 0 0
  | .blockReset p => h.blockReset p
  | .shutdown c => h.shutdownFor c
  | .moduleReset c p i f => { h.moduleReset c p i f with due := [] }
  | .restart c => { h.restart c with due := [] }
  | .again c => h.startAgain c

/-- The follow-ups are done in turn, those they cause themselves included; the bound is never reached (assumption 44). -/
def Hw.settleN : Nat → Hw → Hw
  | 0, h => h
  | n + 1, h =>
    match firstDue h.due with
    | none => h
    | some d => Hw.settleN n ({ h with due := h.due.erase d }.doDue d)

/-- The conditions under which LEN_s may be high (R33, R34, R183, R223). -/
def Hw.lenHolds (h : Hw) (s : Nat) : Bool :=
  bitAt h.pins.lenPermit s && h.pins.ilk1 && h.pins.ilk2 && h.pins.estop1 && h.pins.estop2 && !h.boot.inReset
    && h.is (pIVINA s) IVINA.IV_CTRL_LEN_EN && h.is (pIVINA s) IVINA.IV_STS_LINK_UP && h.is (pIVINA s) IVINA.IV_STS_HEAD_READY
    && !h.is (pEMIT s) EMIT.HEALTH_STS_MEAS_OVER

/-- LEN_s follows its conditions, and IV_STS.LEN shows it. -/
def Hw.lenFollow (s : Nat) (h : Hw) : Hw :=
  let v := h.lenHolds s
  if bitAt h.pins.len s = v then h
  else { h with pins := { h.pins with len := putBit h.pins.len s v } }.wr (pIVINA s) IVINA.IV_STS_LEN (b2n v)

/-- Every LEN output follows its conditions. -/
def Hw.driveLen (h : Hw) : Hw := forN 8 Hw.lenFollow h

/-- The end of a step. -/
def Hw.settle (h : Hw) : Hw := { h.settleN 4096 with due := [] }.driveLen

end Sys2Proof.Machine
end

