-- ==== Sys2Proof/Machine/State.lean ====
section
/-! DEFINITION. The machine's state: the hardware, and the commands that wait; and its state right after reset. -/

namespace Sys2Proof.Machine

/-- The state: the hardware, and the commands that have reached it and have not been taken, first in, first out. -/
structure State where
  hw : Hw
  pending : List Instr
deriving DecidableEq, Repr

/-- The faults. No command raises one: the hardware answers every command with a state. -/
inductive Fault where
  /-- Raised by nothing; safe. -/
  | halted
deriving DecidableEq, Repr

/-- The refusals. -/
inductive Refusal where
  /-- A command of the table that has no meaning yet, by its mnemonic. Raised by its arm of the dispatch alone; safe. No arm does. -/
  | notModelled (mnemonic : String)
deriving DecidableEq, Repr

/-- Whether a memory list has its canonical form (R59): addresses strictly rising, and no entry that reads as an unlisted byte. -/
def Memory.wf : List Host.Cell → Bool
  | [] => true
  | (a, b) :: m => decide (b ≠ 0) && (m.all fun x => decide (a < x.1)) && Memory.wf m

/-- The machine before mains comes on, with no command waiting. -/
def State.reset : State := ⟨Hw.reset, []⟩

/-- A state with other hardware. -/
def State.withHw (s : State) (h : Hw) : State := { s with hw := h }

end Sys2Proof.Machine
end

