-- ==== Sys2Proof/Machine/Finish.lean ====
section
/-! DEFINITION. How every meaning ends: the follow-ups of the step are done and the next state is answered. -/

namespace Sys2Proof.Machine

/-- The next state, from the hardware that a command's effect leaves. The queue is the step's. -/
def finish (s : State) (h : Hw) : Host.Outcome State Fault Refusal := .next (s.withHw h.settle)

end Sys2Proof.Machine
end

