-- ==== Sys2Proof/Machine/HeatCommands.lean ====
section
/-! DEFINITION. The meanings of the commands of high voltage and fuser lamps: each is its effect on the hardware, and the end of the step. -/

namespace Sys2Proof.Machine

/-- HV_PERIOD_START (R315): An HV PWM period starts and the new duty applies. -/
def execHvPeriodStart (c : Fin 42) (s : State) : Host.Outcome State Fault Refusal :=
  finish s (hvPeriodStart c.val s.hw)

/-- HV_CONVERSION (R316): A VS or IS conversion completes and is checked against trips. -/
def execHvConversion (c : Fin 42) (vs is : BitVec 16) (s : State) : Host.Outcome State Fault Refusal :=
  finish s (hvConversion c.val vs is s.hw)

/-- HV_OPEN_TEST (R316): Every 10 µs an open-connection test is made on a sense input. -/
def execHvOpenTest (c : Fin 42) (current pass : Bool) (s : State) : Host.Outcome State Fault Refusal :=
  finish s (hvOpenTest c.val current pass s.hw)

/-- HV_CLR (R317): HV_CLR clears TRIPPED on disabled channels. -/
def execHvClr (m : Master) (i : Fin 3) (mask : BitVec 14) (s : State) : Host.Outcome State Fault Refusal :=
  finish s (hvClr m i.val mask.toNat s.hw)

/-- PT_BANK_SWITCH (R321): PT_BANK.SWITCH validates the inactive setpoint bank for the next gap. -/
def execPtBankSwitch (m : Master) (s : State) : Host.Outcome State Fault Refusal :=
  finish s (ptBankSwitch m s.hw)

/-- PT_BANK_APPLY (R321): At the gap the validated setpoint bank becomes active. -/
def execPtBankApply (s : State) : Host.Outcome State Fault Refusal :=
  finish s (ptBankApply s.hw)

/-- HV_REF_RAMP (R320): In the gap before a page the kernel ramps HV references to the page's setpoints. -/
def execHvRefRamp (c : Fin 42) (us : BitVec 32) (s : State) : Host.Outcome State Fault Refusal :=
  finish s (hvRefRamp c.val us.toNat s.hw)

/-- ZERO_CROSS (R323): A mains zero-cross is measured; bursts and inrush timing follow it. -/
def execZeroCross (rising : Bool) (t : Stamp) (s : State) : Host.Outcome State Fault Refusal :=
  finish s (zeroCross rising t s.hw)

/-- LAMP_GRANT (R326): At Z−200 µs the scheduler grants half-cycles within BUDGET. -/
def execLampGrant (rising : Bool) (s : State) : Host.Outcome State Fault Refusal :=
  finish s (lampGrant rising s.hw)

/-- LAMP_SHORT (R328): Instantaneous CT current exceeds 2×E_k; the lamp goes LOCKED. -/
def execLampShort (i : CtSample) (s : State) : Host.Outcome State Fault Refusal :=
  finish s (lampShort i.lamp.val i.peak.toNat s.hw)

/-- LAMP_HALF_CYCLE_END (R328): A half-cycle ends and peak and rms are judged for overload and stuck-on. -/
def execLampHalfCycleEnd (k : Fin 8) (peak rms : BitVec 32) (s : State) : Host.Outcome State Fault Refusal :=
  finish s (lampHalfCycleEnd k.val peak.toNat rms.toNat s.hw)

/-- MAINS_SENSE_LOST (R329): No zero-cross for 1.5 H or frequency out of range drops every lamp. -/
def execMainsSenseLost (s : State) : Host.Outcome State Fault Refusal :=
  finish s (mainsSenseLost s.hw)

/-- LAMP_EN_WRITE (R325): A write of LC_CFG.EN starts or stops a lamp channel, or is refused. -/
def execLampEnWrite (m : Master) (k : Fin 8) (v : Bool) (s : State) : Host.Outcome State Fault Refusal :=
  finish s (lampEnWrite m k.val v s.hw)

/-- LOCK_CLR (R325): LOCK_CLR returns a LOCKED disabled channel to OFF. -/
def execLockClr (m : Master) (mask : BitVec 8) (s : State) : Host.Outcome State Fault Refusal :=
  finish s (lockClr m mask.toNat s.hw)

/-- FUS_CLR (R330): FUS_CLR returns a HELD channel to OFF when its guards allow. -/
def execFusClr (m : Master) (mask : BitVec 8) (s : State) : Host.Outcome State Fault Refusal :=
  finish s (fusClr m mask.toNat s.hw)

/-- TIN_TIMEOUT (R330): No update for 200 µs treats the input as above CEIL. -/
def execTinTimeout (t : Fin 16) (s : State) : Host.Outcome State Fault Refusal :=
  finish s (tinTimeout t.val s.hw)

/-- PWM_FAULT (R332): An HV output driver's own check fails and raises PWM_FAULT. -/
def execPwmFault (c : Fin 42) (s : State) : Host.Outcome State Fault Refusal :=
  finish s (pwmFault c.val s.hw)

/-- HV_EN_WRITE (R315): A write of HV_CFG.EN enables an HV channel, or disables it and holds its output low, raising HVEN_LOSS if HVEN is
low. -/
def execHvEnWrite (m : Master) (c : Fin 42) (v : Bool) (s : State) : Host.Outcome State Fault Refusal :=
  finish s (hvEnWrite m c.val v s.hw)

end Sys2Proof.Machine
end

