-- ==== Sys2Proof/Machine/HostCommands.lean ====
section
/-! DEFINITION. The meanings of the commands of hosts, DMA, mailboxes, register pages and faults: each is its effect on the hardware, and the end of the step. -/

namespace Sys2Proof.Machine

/-- CONTEXT_RESET (R411): A function-level reset, PERST_N or link down resets one or all host contexts: channels dropped, pages released
or withdrawn, ring disabled. -/
def execContextReset (x : CtxCause) (s : State) : Host.Outcome State Fault Refusal :=
  finish s (contextReset x s.hw)

/-- CONTEXT_RESET_END (R411): A context reset completes and IN_RESET clears. -/
def execContextResetEnd (c : Fin 16) (s : State) : Host.Outcome State Fault Refusal :=
  finish s (contextResetEnd c s.hw)

/-- PCIE_LINK_DOWN (R397): The PCIe link goes down, acting as a context reset of every context, and retraining begins. -/
def execPcieLinkDown (s : State) : Host.Outcome State Fault Refusal :=
  finish s (pcieLinkDown s.hw)

/-- PCIE_LINK_UP (R397): The PCIe link is up again at the data-link layer and LINK_STS.UP reads 1. -/
def execPcieLinkUp (speed : BitVec 4) (width : BitVec 5) (flit : Bool) (s : State) : Host.Outcome State Fault Refusal :=
  finish s (pcieLinkUp speed width flit s.hw)

/-- VF_ENABLE (R401): VF Enable or Bus Master Enable changes, making contexts working or not and applying written vector counts. -/
def execVfEnable (vf : Bool) (f : FnConfig) (s : State) : Host.Outcome State Fault Refusal :=
  finish s (vfEnable vf f.busMaster f.msixOn f.masks s.hw)

/-- UNSUPPORTED_REQUEST (R396): A request the module does not support is answered with Unsupported Request, counted and raises PCIE_ERROR.
-/
def execUnsupportedRequest (c : Fin 16) (off : BitVec 26) (w1 : Bool) (r : BadRequest) (s : State) : Host.Outcome State Fault Refusal :=
  finish s (unsupportedRequest c off w1 r.write r.aer s.hw)

/-- W0_REGISTER_WRITE (R398): A write to a W0 register without behaviour of its own is stored, or ignored and refused under the writer
permissions. -/
def execW0RegisterWrite (m : Master) (x : W0Access) (w : Word) (s : State) : Host.Outcome State Fault Refusal :=
  finish s (w0RegisterWrite m x.addr x.bytes w s.hw)

/-- W0_UNMAPPED_ACCESS (R475): An access to a W0 address in no page reads all ones or is ignored, and is refused on the HOST page. -/
def execW0UnmappedAccess (m : Master) (a : BitVec 20) (write : Bool) (s : State) : Host.Outcome State Fault Refusal :=
  finish s (w0UnmappedAccess m a write s.hw)

/-- VIEW_READ (R399): A context reads through its W1 view of the Millpond; served or refused by range. -/
def execViewRead (c : Fin 16) (off : BitVec 26) (n : BitVec 10) (uncorr : Bool) (s : State) : Host.Outcome State Fault Refusal :=
  finish s (viewRead c off n uncorr s.hw)

/-- VIEW_WRITE (R399): A context writes through its W1 view; served only within its commons range. -/
def execViewWrite (c : Fin 16) (off : BitVec 25) (bytes : List Byte) (s : State) : Host.Outcome State Fault Refusal :=
  finish s (viewWrite c off bytes s.hw)

/-- ATOMIC_OP (R396): A FetchAdd, Swap or CAS on the commons view executes single-copy atomically at the commons. -/
def execAtomicOp (c : Fin 16) (off : BitVec 25) (wide : Bool) (k : AtomicKind) (s : State) : Host.Outcome State Fault Refusal :=
  finish s (atomicOp c off wide k s.hw)

/-- W1_TABLE_WRITE (R486): A write into a W1 table bank is accepted only into a writable inactive bank from context 0 or the kernel, else
refused. -/
def execW1TableWrite (m : Master) (off : BitVec 25) (bytes : List Byte) (s : State) : Host.Outcome State Fault Refusal :=
  finish s (w1TableWrite m off bytes s.hw)

/-- LATCHED_LO_READ (R58): A read of a _LO register latches the matching _HI value for the reading master. -/
def execLatchedLoRead (m : Master) (x : W0Access) (s : State) : Host.Outcome State Fault Refusal :=
  finish s (latchedLoRead m x.addr x.bytes s.hw)

/-- CH_POS_READ (R234): A read of CH_POS latches the stamp of the last count into TLAST for the reader. -/
def execChPosRead (m : Master) (c : Fin 20) (s : State) : Host.Outcome State Fault Refusal :=
  finish s (chPosRead m c.val s.hw)

/-- DEFERRED_TEST_RUN (R392): A deferred test runs in the first long enough gap. -/
def execDeferredTestRun (s : State) : Host.Outcome State Fault Refusal :=
  finish s (deferredTestRun s.hw)

/-- DEFER_TIMEOUT (R392): No gap within 10 s makes the kernel lengthen the next spacing. -/
def execDeferTimeout (s : State) : Host.Outcome State Fault Refusal :=
  finish s (deferTimeout s.hw)

/-- DMA_GO (R404): CTRL.GO checks a transfer and starts it, or ends it with an error. -/
def execDmaGo (m : Master) (k : Fin 64) (w : Word) (s : State) : Host.Outcome State Fault Refusal :=
  finish s (dmaGo m k w s.hw)

/-- DMA_HOST_COMPLETION (R404): A host read completion arrives; an error ends the transfer. -/
def execDmaHostCompletion (k : Fin 64) (r : HostReply) (s : State) : Host.Outcome State Fault Refusal :=
  finish s (dmaHostCompletion k r s.hw)

/-- DMA_DONE (R405): A transfer ends and DONE is set. -/
def execDmaDone (k : Fin 64) (badUnit : Option (BitVec 26)) (s : State) : Host.Outcome State Fault Refusal :=
  finish s (dmaDone k badUnit s.hw)

/-- DMA_ABORT (R406): CTRL.ABORT ends a busy transfer with DROPPED. -/
def execDmaAbort (m : Master) (k : Fin 64) (s : State) : Host.Outcome State Fault Refusal :=
  finish s (dmaAbort m k s.hw)

/-- DMA_HOST_TIMEOUT (R404): A host read not completed in 10 ms ends the transfer. -/
def execDmaHostTimeout (k : Fin 64) (s : State) : Host.Outcome State Fault Refusal :=
  finish s (dmaHostTimeout k s.hw)

/-- ROW_LEASE_EXPIRY (R469): A Millpond row lease expires and the row is released. -/
def execRowLeaseExpiry (s : State) : Host.Outcome State Fault Refusal :=
  finish s (rowLeaseExpiry s.hw)

/-- ATOMIC_LOCK_EXPIRY (R469): An AtomicOp lock expires and completes with Completer Abort. -/
def execAtomicLockExpiry (m : Master) (s : State) : Host.Outcome State Fault Refusal :=
  finish s (atomicLockExpiry m s.hw)

/-- MB_WRITE (R415): A SENDER write of MB_DATA stores the word, or is dropped. -/
def execMbWrite (m : Master) (n : Fin 32) (w : Word) (s : State) : Host.Outcome State Fault Refusal :=
  finish s (mbWrite m n w s.hw)

/-- MB_READ (R415): A RECEIVER read of MB_DATA returns the word and clears FULL. -/
def execMbRead (m : Master) (n : Fin 32) (s : State) : Host.Outcome State Fault Refusal :=
  finish s (mbRead m n s.hw)

/-- MB_EXPIRE (R417): A word left FULL for MB_TMO is discarded and EXPIRED set. -/
def execMbExpire (n : Fin 32) (s : State) : Host.Outcome State Fault Refusal :=
  finish s (mbExpire n s.hw)

/-- HELLO (R422): HELLO negotiates the mailbox version or quarantines the pair. -/
def execHello (n : Fin 32) (s : State) : Host.Outcome State Fault Refusal :=
  finish s (hello n s.hw)

/-- PING (R426): PING echoes its argument. -/
def execPing (n : Fin 32) (s : State) : Host.Outcome State Fault Refusal :=
  finish s (ping n s.hw)

/-- STATUS (R426): STATUS returns state, grade, jam and press set. -/
def execStatus (n : Fin 32) (s : State) : Host.Outcome State Fault Refusal :=
  finish s (status n s.hw)

/-- PRESS_UP (R426): PRESS_UP starts bring-up. -/
def execPressUp (n : Fin 32) (s : State) : Host.Outcome State Fault Refusal :=
  finish s (pressUp n s.hw)

/-- PRESS_UP_DONE (R426): Bring-up ends and the final reply follows. -/
def execPressUpDone (ok : Bool) (stations : BitVec 8) (detail : BitVec 16) (s : State) : Host.Outcome State Fault Refusal :=
  finish s (pressUpDone ok stations detail s.hw)

/-- PRESS_STOP (R426): PRESS_STOP stops the press at the next gap. -/
def execPressStop (n : Fin 32) (s : State) : Host.Outcome State Fault Refusal :=
  finish s (pressStop n s.hw)

/-- PRESS_STOP_DONE (R426): The press is idle and the final reply follows. -/
def execPressStopDone (s : State) : Host.Outcome State Fault Refusal :=
  finish s (pressStopDone s.hw)

/-- MODULE_RESET_SERVICE (R426): The service replies OK and schedules a module reset. -/
def execModuleResetService (n : Fin 32) (s : State) : Host.Outcome State Fault Refusal :=
  finish s (moduleResetService n s.hw)

/-- RESET_SERVICE_DELAY (R426): 10 ms after the reply the module resets. -/
def execResetServiceDelay (s : State) : Host.Outcome State Fault Refusal :=
  finish s (resetServiceDelay s.hw)

/-- RUN_TEST (R426): RUN_TEST runs or defers a test. -/
def execRunTest (n : Fin 32) (gapFits : Bool) (s : State) : Host.Outcome State Fault Refusal :=
  finish s (runTest n gapFits s.hw)

/-- FW_LOAD (R428): A presence-gated FW_LOAD checks an image and starts writing the idle slot. -/
def execFwLoad (n : Fin 32) (s : State) : Host.Outcome State Fault Refusal :=
  finish s (fwLoad n s.hw)

/-- FW_LOAD_DONE (R428): The slot is written and read back; OK or FAILED. -/
def execFwLoadDone (readBackOk : Bool) (s : State) : Host.Outcome State Fault Refusal :=
  finish s (fwLoadDone readBackOk s.hw)

/-- BIND_STORE (R426): A presence-gated BIND_STORE stores new bindings. -/
def execBindStore (n : Fin 32) (s : State) : Host.Outcome State Fault Refusal :=
  finish s (bindStore n s.hw)

/-- LOG_MARK (R426): LOG_MARK writes a log record of kind 0x1000. -/
def execLogMark (n : Fin 32) (s : State) : Host.Outcome State Fault Refusal :=
  finish s (logMark n s.hw)

/-- DEFER_LIST (R426): DEFER_LIST returns the number of deferred requests. -/
def execDeferList (n : Fin 32) (s : State) : Host.Outcome State Fault Refusal :=
  finish s (deferList n s.hw)

/-- BAD_OPCODE_COMMAND (R425): An unknown or disallowed command is answered with a status. -/
def execBadOpcodeCommand (n : Fin 32) (s : State) : Host.Outcome State Fault Refusal :=
  finish s (badOpcodeCommand n s.hw)

/-- PAIR_MISMATCH (R429): A lockstep mismatch retires the pair and migrates its tasks. -/
def execPairMismatch (p : Fin 4) (us10 : BitVec 16) (s : State) : Host.Outcome State Fault Refusal :=
  finish s (pairMismatch p us10 s.hw)

/-- TASK_CHECKPOINT (R429): Every 10 µs kernel tasks are checkpointed. -/
def execTaskCheckpoint (c : Checkpoint) (s : State) : Host.Outcome State Fault Refusal :=
  finish s (taskCheckpoint c.pair c.us10 s.hw)

/-- KWD_EXPIRE (R430): The kernel watchdog expires and resets the module. -/
def execKwdExpire (s : State) : Host.Outcome State Fault Refusal :=
  finish s (kwdExpire s.hw)

/-- WATCHDOG_WARN (R433): Half of KWD_TMO passes unserviced. -/
def execWatchdogWarn (p : Fin 4) (s : State) : Host.Outcome State Fault Refusal :=
  finish s (watchdogWarn p s.hw)

/-- FE_REARM (R455): Writing 1 to FE_INFO.VALID re-arms the capture. -/
def execFeRearm (m : Master) (page : PageNo) (s : State) : Host.Outcome State Fault Refusal :=
  finish s (feRearm m page s.hw)

/-- FLT_INJ_ARM (R458): FLT_INJ.ARM arms an injection or sets REFUSED. -/
def execFltInjArm (m : Master) (page : PageNo) (checker : BitVec 4) (target : BitVec 8) (s : State) : Host.Outcome State Fault Refusal :=
  finish s (fltInjArm m page checker target s.hw)

/-- EVT_MASK_WRITE (R452): Clearing EVT_MASK with EVT_PEND set sends an interrupt. -/
def execEvtMaskWrite (m : Master) (page : PageNo) (mask : BitVec 16) (s : State) : Host.Outcome State Fault Refusal :=
  finish s (evtMaskWrite m page mask s.hw)

/-- FANTAIL_RESUME (R463): FT_CTRL.RESUME restarts toggling, or is ignored. -/
def execFantailResume (m : Master) (s : State) : Host.Outcome State Fault Refusal :=
  finish s (fantailResume m s.hw)

/-- FANTAIL_EN_WRITE (R462): A write of FT_CTRL.EN starts or freezes the Fantail. -/
def execFantailEnWrite (m : Master) (v : Bool) (s : State) : Host.Outcome State Fault Refusal :=
  finish s (fantailEnWrite m v s.hw)

/-- FT_FREQ_WRITE (R461): FT_FREQ takes effect at the next edge. -/
def execFtFreqWrite (m : Master) (v : BitVec 14) (s : State) : Host.Outcome State Fault Refusal :=
  finish s (ftFreqWrite m v s.hw)

/-- FABRIC_TIMEOUT (R465): A block does not answer within 2 µs; HUNG is raised. -/
def execFabricTimeout (m : Master) (a : BitVec 20) (write : Bool) (s : State) : Host.Outcome State Fault Refusal :=
  finish s (fabricTimeout m a write s.hw)

/-- BLOCK_WATCHDOG (R466): A block makes no progress for WD_US and is hung. -/
def execBlockWatchdog (page : PageNo) (s : State) : Host.Outcome State Fault Refusal :=
  finish s (blockWatchdog page s.hw)

/-- LEDGER_CHECK (R468): Every 1 µs pools and ledger are checked. -/
def execLedgerCheck (ok : Bool) (s : State) : Host.Outcome State Fault Refusal :=
  finish s (ledgerCheck ok s.hw)

/-- FABRIC_PARITY_ERROR (R468): A fabric parity error raises FABRIC_FAULT. -/
def execFabricParityError (page : PageNo) (s : State) : Host.Outcome State Fault Refusal :=
  finish s (fabricParityError page s.hw)

/-- PAGE_EN_WRITE (R477): PAGE_CTRL.EN disables or restores the block. -/
def execPageEnWrite (m : Master) (page : PageNo) (v : Bool) (s : State) : Host.Outcome State Fault Refusal :=
  finish s (pageEnWrite m page v s.hw)

/-- FREEZE_WRITE (R477): PAGE_CTRL.FREEZE holds or releases the read-only view. -/
def execFreezeWrite (m : Master) (page : PageNo) (v : Bool) (s : State) : Host.Outcome State Fault Refusal :=
  finish s (freezeWrite m page v s.hw)

/-- BLOCK_RESET (R477): PAGE_CTRL.BLOCK_RESET starts a block reset. -/
def execBlockReset (m : Master) (page : PageNo) (s : State) : Host.Outcome State Fault Refusal :=
  finish s (blockResetWrite m page s.hw)

/-- BLOCK_RESET_END (R477): A block reset ends and IN_RESET clears. -/
def execBlockResetEnd (page : PageNo) (s : State) : Host.Outcome State Fault Refusal :=
  finish s (blockResetEnd page s.hw)

/-- COMMIT (R480): PAGE_CTRL.COMMIT sets COMMIT_PENDING, or is refused. -/
def execCommit (m : Master) (page : PageNo) (s : State) : Host.Outcome State Fault Refusal :=
  finish s (commit m page s.hw)

/-- COMMIT_APPLY (R481): At the block's boundary staged fields take their shadow values. -/
def execCommitApply (page : PageNo) (u : Fin 64) (s : State) : Host.Outcome State Fault Refusal :=
  finish s (commitApply page u s.hw)

/-- PAGE_LOCK (R477): PAGE_CTRL.LOCK locks the page's RWL fields. -/
def execPageLock (m : Master) (page : PageNo) (s : State) : Host.Outcome State Fault Refusal :=
  finish s (pageLock m page s.hw)

end Sys2Proof.Machine
end

