-- ==== Sys2Proof/Machine/LinkCommands.lean ====
section
/-! DEFINITION. The meanings of the commands of head links and peers: each is its effect on the hardware, and the end of the step. -/

namespace Sys2Proof.Machine

/-- GAP_BOUNDARY (R481): A gap between pages arrives, where gap-bound changes, staged fields and chain membership apply. -/
def execGapBoundary (s : State) : Host.Outcome State Fault Refusal :=
  finish s (gapBoundary s.hw)

/-- SERDESPLL_UNLOCK (R194): A lane reference PLL loses lock and the lanes it serves fail. -/
def execSerdespllUnlock (i : Fin 3) (s : State) : Host.Outcome State Fault Refusal :=
  finish s (serdespllUnlock i.val s.hw)

/-- HEAD_STATUS (R217): A HEAD_STATUS frame updates HEAD_READY and the head status. -/
def execHeadStatus (stn : StationNo) (param : BitVec 64) (s : State) : Host.Outcome State Fault Refusal :=
  finish s (headStatus stn param s.hw)

/-- HEAD_STATUS_TIMEOUT (R217): No HEAD_STATUS for 5 ms clears HEAD_READY and drops LEN_s. -/
def execHeadStatusTimeout (stn : StationNo) (s : State) : Host.Outcome State Fault Refusal :=
  finish s (headStatusTimeout stn s.hw)

/-- REG_REPLY (R217): A REG_REPLY from the head is passed to the engine kernel. -/
def execRegReply (stn : StationNo) (f : Frame) (s : State) : Host.Outcome State Fault Refusal :=
  finish s (regReply stn f s.hw)

/-- IVINA_VIOLATION_RX (R222): A VIOLATION frame from the head is counted, recorded and may spoil pages. -/
def execIvinaViolationRx (l : LinkId) (reason : BitVec 8) (ch : BitVec 3) (seq : BitVec 16) (detail : BitVec 32) (s : State) : Host.Outcome State Fault Refusal :=
  finish s (ivinaViolationRx l reason.toNat ch.toNat seq.toNat detail.toNat s.hw)

/-- IVINA_BAD_FRAME (R221): A received frame or cell breaks the protocol; it is dropped, counted and answered. -/
def execIvinaBadFrame (l : LinkId) (reason : BitVec 8) (ch : BitVec 3) (seq : BitVec 16) (detail : BitVec 32) (s : State) : Host.Outcome State Fault Refusal :=
  finish s (ivinaBadFrame l reason.toNat ch.toNat seq.toNat detail.toNat s.hw)

/-- IVINA_RELIABLE_FRAME (R219): A TABLE or MGMT frame is delivered in SEQ order, dropped as duplicate or answered SEQ_AHEAD. -/
def execIvinaReliableFrame (l : LinkId) (ch : BitVec 3) (seq : BitVec 16) (s : State) : Host.Outcome State Fault Refusal :=
  finish s (ivinaReliableFrame l ch.toNat seq.toNat s.hw)

/-- IVINA_ACK (R219): An ACK frame acknowledges reliable frames of a channel. -/
def execIvinaAck (l : LinkId) (ch : BitVec 3) (seq : BitVec 16) (s : State) : Host.Outcome State Fault Refusal :=
  finish s (ivinaAck l ch.toNat seq.toNat s.hw)

/-- IVINA_RESEND_TIMEOUT (R219): No ACK for the oldest frame in 20 µs resends it; after 8 resends the channel fails. -/
def execIvinaResendTimeout (l : LinkId) (ch : BitVec 3) (s : State) : Host.Outcome State Fault Refusal :=
  finish s (ivinaResendTimeout l ch.toNat s.hw)

/-- IVINA_TS1 (R201): A valid TS1 received in DETECT moves the lane towards NEGOTIATE. -/
def execIvinaTs1 (l : LinkId) (k : Fin 3) (m : Message) (s : State) : Host.Outcome State Fault Refusal :=
  finish s (ivinaTs1 l k.val m s.hw)

/-- IVINA_TS2 (R203): A TS2 is compared and the lane goes to CONFIRM, QUARANTINE or stays with a reason. -/
def execIvinaTs2 (l : LinkId) (k : Fin 3) (m : Message) (s : State) : Host.Outcome State Fault Refusal :=
  finish s (ivinaTs2 l k.val m s.hw)

/-- IVINA_TS3 (R201): TS3 with the agreed version count towards ACTIVE after deskew. -/
def execIvinaTs3 (l : LinkId) (k : Fin 3) (m : Message) (s : State) : Host.Outcome State Fault Refusal :=
  finish s (ivinaTs3 l k.val m s.hw)

/-- IVINA_DETECT_TIMEOUT (R201): DETECT runs 20 ms without success and restarts. -/
def execIvinaDetectTimeout (l : LinkId) (k : Fin 3) (s : State) : Host.Outcome State Fault Refusal :=
  finish s (ivinaDetectTimeout l k.val s.hw)

/-- IVINA_NEGOTIATE_TIMEOUT (R201): NEGOTIATE runs 5 ms and returns to DETECT. -/
def execIvinaNegotiateTimeout (l : LinkId) (k : Fin 3) (s : State) : Host.Outcome State Fault Refusal :=
  finish s (ivinaNegotiateTimeout l k.val s.hw)

/-- IVINA_CONFIRM_TIMEOUT (R201): CONFIRM runs 1 ms and returns to DETECT. -/
def execIvinaConfirmTimeout (l : LinkId) (k : Fin 3) (s : State) : Host.Outcome State Fault Refusal :=
  finish s (ivinaConfirmTimeout l k.val s.hw)

/-- IVINA_FAILED_TIMEOUT (R201): A FAILED lane returns to DETECT after 10 ms. -/
def execIvinaFailedTimeout (l : LinkId) (k : Fin 3) (s : State) : Host.Outcome State Fault Refusal :=
  finish s (ivinaFailedTimeout l k.val s.hw)

/-- ALIGNMENT_CODEWORD (R196): An alignment codeword arrives, carrying lane state and retrain requests and allowing joins. -/
def execAlignmentCodeword (l : LinkId) (k : Fin 3) (am : BitVec 64) (fields : BitVec 54) (skew : BitVec 16) (corrected : BitVec 32) (s : State) : Host.Outcome State Fault Refusal :=
  finish s (alignmentCodeword l k.val (alignMessage am fields) skew.toNat corrected.toNat s.hw)

/-- ALIGNMENT_MISSING (R205): Four consecutive alignment codewords are missing or wrong and the lane fails. -/
def execAlignmentMissing (l : LinkId) (k : Fin 3) (s : State) : Host.Outcome State Fault Refusal :=
  finish s (alignmentMissing l k.val s.hw)

/-- LANE_SIGNAL_LOSS (R205): Signal or CDR lock is lost for 1 µs and the lane fails. -/
def execLaneSignalLoss (l : LinkId) (k : Fin 3) (s : State) : Host.Outcome State Fault Refusal :=
  finish s (laneSignalLoss l k.val s.hw)

/-- CODEWORD_UNCORRECTABLE (R200): An uncorrectable codeword is rebuilt from its stripe, or cells are lost; too many fail the lane. -/
def execCodewordUncorrectable (l : LinkId) (k : Fin 3) (w : LostCodeword) (s : State) : Host.Outcome State Fault Refusal :=
  finish s (codewordUncorrectable l k.val w.pos.toNat w.others s.hw)

/-- IV_RETRAIN (R201): IV_CTRL.RETRAIN sends every lane to DETECT. -/
def execIvRetrain (m : Master) (l : LinkId) (s : State) : Host.Outcome State Fault Refusal :=
  finish s (ivRetrain m l s.hw)

/-- IV_EN_WRITE (R201): A write of IV_CTRL.EN or LANE_EN enables lanes or returns them to DISABLED. -/
def execIvEnWrite (m : Master) (stn : StationNo) (en : Bool) (lanes : BitVec 3) (s : State) : Host.Outcome State Fault Refusal :=
  finish s (ivEnWrite m stn en lanes.toNat s.hw)

/-- LEN_EN_WRITE (R223): A write of IV_CTRL.LEN_EN grants or withdraws permission for LEN_s. -/
def execLenEnWrite (m : Master) (stn : StationNo) (v : Bool) (s : State) : Host.Outcome State Fault Refusal :=
  finish s (lenEnWrite m stn v s.hw)

/-- PEER_HELLO (R441): A peer HELLO starts the version and digest exchange. -/
def execPeerHello (p : Fin 2) (verMin verMax : BitVec 8) (m : Fin 16) (digest : BitVec 64) (s : State) : Host.Outcome State Fault Refusal :=
  finish s (peerHello p verMin verMax m digest s.hw)

/-- ACCEPT (R441): ACCEPT sets the agreed peer version or quarantines. -/
def execAccept (p : Fin 2) (m : Fin 16) (version : BitVec 8) (s : State) : Host.Outcome State Fault Refusal :=
  finish s (peerAccept p m version s.hw)

/-- HEARTBEAT (R448): A HEARTBEAT updates grade, state and digest agreement. -/
def execHeartbeat (p : Fin 2) (m : Fin 16) (grade : Fin 8) (exposing jammed : Bool) (digest : BitVec 64) (exchange : Option (BitVec 32)) (members excluded refused : BitVec 16) (s : State) : Host.Outcome State Fault Refusal :=
  finish s (heartbeat p m grade exposing jammed digest exchange members excluded refused s.hw)

/-- HEARTBEAT_TIMER (R448): Every 100 µs HEARTBEAT is sent on each port. -/
def execHeartbeatTimer (s : State) : Host.Outcome State Fault Refusal :=
  finish s (heartbeatTimer s.hw)

/-- HEARTBEAT_LOSS (R448): Ten missed heartbeats make the far modules ABSENT. -/
def execHeartbeatLoss (p : Fin 2) (m : Fin 16) (s : State) : Host.Outcome State Fault Refusal :=
  finish s (heartbeatLoss p m s.hw)

/-- SLOT_OFFER_TIMER (R446): 200 µs before a due time the Headstock sends SLOT_OFFER. -/
def execSlotOfferTimer (due : Stamp) (s : State) : Host.Outcome State Fault Refusal :=
  finish s (slotOfferTimer due s.hw)

/-- SLOT_OFFER (R446): A Tailstock evaluates admission and answers SLOT_READY. -/
def execSlotOffer (p : Fin 2) (n : BitVec 32) (grade : Fin 8) (pHead pOwn : Coord) (due : Stamp) (s : State) : Host.Outcome State Fault Refusal :=
  finish s (slotOffer p n grade pHead pOwn due s.hw)

/-- SLOT_READY (R446): The Headstock records a member's readiness. -/
def execSlotReady (p : Fin 2) (m : Fin 16) (n : BitVec 32) (ok : Bool) (reason : BitVec 8) (job : BitVec 32) (s : State) : Host.Outcome State Fault Refusal :=
  finish s (slotReady p m n ok reason job s.hw)

/-- SLOT_GO (R446): SLOT_GO admits or skips the slot. -/
def execSlotGo (p : Fin 2) (n : BitVec 32) (go : Bool) (s : State) : Host.Outcome State Fault Refusal :=
  finish s (slotGo p n go s.hw)

/-- SLOT_DROP (R449): SLOT_DROP applies R154 to the slot. -/
def execSlotDrop (p : Fin 2) (m : Fin 16) (n : BitVec 32) (s : State) : Host.Outcome State Fault Refusal :=
  finish s (slotDrop p m n s.hw)

/-- PEER_PAGE_SPOIL (R449): PAGE_SPOIL spoils the slot's page with PEER. -/
def execPeerPageSpoil (p : Fin 2) (m : Fin 16) (n : BitVec 32) (reason : BitVec 8) (s : State) : Host.Outcome State Fault Refusal :=
  finish s (peerPageSpoil p m n reason s.hw)

/-- RELEASE (R449): RELEASE releases the slot's page with REPRINT_LIMIT. -/
def execRelease (p : Fin 2) (n : BitVec 32) (s : State) : Host.Outcome State Fault Refusal :=
  finish s (peerRelease p n s.hw)

/-- GRADE (R447): GRADE changes the grade after the named slot. -/
def execGrade (p : Fin 2) (g : Fin 8) (last : BitVec 32) (s : State) : Host.Outcome State Fault Refusal :=
  finish s (peerGrade p g last s.hw)

/-- PEER_JAM (R449): A peer JAM runs a jam with cause REQUEST. -/
def execPeerJam (p : Fin 2) (m : Fin 16) (cause : Fin 8) (s : State) : Host.Outcome State Fault Refusal :=
  finish s (peerJam p m cause s.hw)

/-- MEM_WRITE (R439): A peer MEM WRITE writes the commons within MEM_WIN. -/
def execMemWrite (p : Fin 2) (off : BitVec 64) (bytes : List Byte) (s : State) : Host.Outcome State Fault Refusal :=
  finish s (memWrite p off bytes s.hw)

/-- MEM_READ (R439): A peer MEM READ is answered with READ_REPLY. -/
def execMemRead (p : Fin 2) (off : BitVec 48) (len : BitVec 16) (s : State) : Host.Outcome State Fault Refusal :=
  finish s (memRead p off len s.hw)

/-- READ_REPLY (R439): A READ_REPLY returns data to the kernel. -/
def execReadReply (p : Fin 2) (param : BitVec 64) (bytes : List Byte) (s : State) : Host.Outcome State Fault Refusal :=
  finish s (readReply p param bytes s.hw)

/-- PEER_SYNC_TIMER (R443): Every 1 ms PEER_SYNC is sent downstream. -/
def execPeerSyncTimer (_u : Unit) (s : State) : Host.Outcome State Fault Refusal :=
  finish s (peerSyncTimer s.hw)

/-- PEER_SYNC (R443): PEER_SYNC is stamped and a DELAY_REQ sent. -/
def execPeerSync (p : Fin 2) (t1 t2 : Stamp) (_u : Unit) (s : State) : Host.Outcome State Fault Refusal :=
  finish s (peerSync p t1 t2 s.hw)

/-- DELAY_REQ (R443): DELAY_REQ is stamped and answered with DELAY_RESP. -/
def execDelayReq (p : Fin 2) (t4 : Stamp) (s : State) : Host.Outcome State Fault Refusal :=
  finish s (delayReq p t4 s.hw)

/-- DELAY_RESP (R444): DELAY_RESP completes the exchange and drives the time servo. -/
def execDelayResp (p : Fin 2) (t4 : Stamp) (s : State) : Host.Outcome State Fault Refusal :=
  finish s (delayResp p t4 s.hw)

/-- TIME_EXCHANGE_LOST (R445): No exchange for 5 ms treats time as lost. -/
def execTimeExchangeLost (s : State) : Host.Outcome State Fault Refusal :=
  finish s (timeExchangeLost s.hw)

/-- CREDIT_CELL (R220): A received cell, IDLE cells included, carries CR_CNT for a channel and the sender's credits grow by the
difference. -/
def execCreditCell (l : LinkId) (ch : BitVec 3) (cnt : BitVec 8) (s : State) : Host.Outcome State Fault Refusal :=
  finish s (creditCell l ch.toNat cnt.toNat s.hw)

/-- HEAD_RX_OK_TIMEOUT (R226): No lane receives a valid alignment codeword for 20 µs, and HEAD_RX_OK returns to 0. -/
def execHeadRxOkTimeout (stn : StationNo) (s : State) : Host.Outcome State Fault Refusal :=
  finish s (headRxOkTimeout stn s.hw)

/-- PR_EN_WRITE (R437): A write of PEER PR_CTRL.EN or LANE_EN enables a peer port's lanes out of DISABLED, or returns them there. -/
def execPrEnWrite (m : Master) (p : Fin 2) (en : Bool) (lanes : BitVec 2) (s : State) : Host.Outcome State Fault Refusal :=
  finish s (prEnWrite m p en lanes.toNat s.hw)

end Sys2Proof.Machine
end

