-- ==== Sys2Proof/Machine/MotionCommands.lean ====
section
/-! DEFINITION. The meanings of the commands of encoders, axes, bridges, steppers and the Governor: each is its effect on the hardware, and the end of the step. -/

namespace Sys2Proof.Machine

/-- ENC_SUPPLY_OVERLOAD (R26): An ENC5V output overloads and is reported against its channel as a hardware fault. -/
def execEncSupplyOverload (c : Fin 20) (s : State) : Host.Outcome State Fault Refusal :=
  finish s (encSupplyOverload c.val s.hw)

/-- ENCODER_COUNT (R227): A filtered quadrature edge counts, stamps and drives SURF, BELT and divided outputs. -/
def execEncoderCount (c : Fin 20) (a b : Bool) (t : Stamp) (s : State) : Host.Outcome State Fault Refusal :=
  finish s (encoderCount c.val a b t s.hw)

/-- ENCODER_ILLEGAL (R228): A and B change in the same tick: the count is lost, ILLEGAL set and POS_VALID cleared. -/
def execEncoderIllegal (e : EncoderTick) (s : State) : Host.Outcome State Fault Refusal :=
  finish s (encoderIllegal e.chan.val e.time s.hw)

/-- ENCODER_SIGNAL_LOSS (R229): An input stays below 200 mV for 1 µs; LOSS sets a hardware fault. -/
def execEncoderSignalLoss (c : Fin 20) (line : Fin 3) (s : State) : Host.Outcome State Fault Refusal :=
  finish s (encoderSignalLoss c.val line.val s.hw)

/-- ENCODER_INDEX (R230): A Z rising edge latches IDX_POS and IDX_T and checks IDX_PERIOD. -/
def execEncoderIndex (c : Fin 20) (e : IndexEdge) (s : State) : Host.Outcome State Fault Refusal :=
  finish s (encoderIndex c.val e.a e.b e.time s.hw)

/-- BISS_CYCLE (R231): Every CYCLE µs a BiSS-C frame is clocked out. -/
def execBissCycle (c : Fin 20) (s : State) : Host.Outcome State Fault Refusal :=
  finish s (bissCycle c.val s.hw)

/-- BISS_FRAME (R232): A BiSS-C frame ends: a good sample steps POS, a bad or jumping one is skipped. -/
def execBissFrame (c : Fin 20) (t : Stamp) (started released : Bool) (position : List Bool) (nE nW : Bool) (crc : BitVec 6) (delay : BitVec 32) (s : State) : Host.Outcome State Fault Refusal :=
  finish s (bissFrame c.val t started released (bissBits position nE nW crc) delay.toNat s.hw)

/-- SPEED_UPDATE (R237): Every 1 µs SPEED and ACCEL are computed and the method may change. -/
def execSpeedUpdate (c : Fin 20) (t : Stamp) (s : State) : Host.Outcome State Fault Refusal :=
  finish s (speedUpdate c.val t s.hw)

/-- ENCODER_STALL (R237): No count for STALL ms sets SPEED 0 and STOPPED. -/
def execEncoderStall (c : Fin 20) (s : State) : Host.Outcome State Fault Refusal :=
  finish s (encoderStall c.val s.hw)

/-- DIV_OUTPUT_EDGE (R239): A backlogged divided-output count leaves X6 once MIN_SP allows. -/
def execDivOutputEdge (d : Fin 4) (t : Stamp) (s : State) : Host.Outcome State Fault Refusal :=
  finish s (divOutputEdge d.val t s.hw)

/-- DIV_CFG_WRITE (R239): A DIV_CFG write enables a divided output from zero, or is refused. -/
def execDivCfgWrite (m : Master) (d : Fin 4) (w : Word) (s : State) : Host.Outcome State Fault Refusal :=
  finish s (divCfgWrite m d.val w s.hw)

/-- ENCODER_ERR_CLEAR (R236): A write of 1 to ILLEGAL or BISS_ERR clears it and sets POS_VALID again. -/
def execEncoderErrClear (m : Master) (c : Fin 20) (illegal biss : Bool) (s : State) : Host.Outcome State Fault Refusal :=
  finish s (encoderErrClear m c.val illegal biss s.hw)

/-- AXIS_EN_WRITE (R257): A write of AX_CTRL.EN enables an axis into CATCH or PRECHARGE, or stops it to OFF. -/
def execAxisEnWrite (m : Master) (n : Fin 20) (v : Bool) (s : State) : Host.Outcome State Fault Refusal :=
  finish s (axisEnWrite m n.val v s.hw)

/-- ALIGN_REQ (R256): ALIGN_REQ requests measurement of ELEC_OFS at the next enable. -/
def execAlignReq (m : Master) (n : Fin 20) (s : State) : Host.Outcome State Fault Refusal :=
  finish s (alignReq m n.val s.hw)

/-- AXIS_PERIOD_START (R242): A PWM period starts: samples taken, controllers update, new duties apply. -/
def execAxisPeriodStart (n : Fin 20) (codeA codeB zero vbus obsTheta : BitVec 16) (obsSpeed : BitVec 32) (t : Stamp) (s : State) : Host.Outcome State Fault Refusal :=
  finish s (axisPeriodStart n.val codeA.toInt codeB.toInt zero.toInt vbus.toNat obsTheta.toNat obsSpeed.toInt t s.hw)

/-- HANDOVER_DONE (R250): After 64 HANDOVER periods the axis enters RUN and sets OBS_VALID. -/
def execHandoverDone (n : Fin 20) (s : State) : Host.Outcome State Fault Refusal :=
  finish s (handoverDone n.val s.hw)

/-- CATCH_MEASURE_DONE (R252): CATCH_MEAS ends and the measurement decides PRECHARGE, WAIT or FAULT. -/
def execCatchMeasureDone (n : Fin 20) (speed : BitVec 32) (theta amp : BitVec 16) (s : State) : Host.Outcome State Fault Refusal :=
  finish s (catchMeasureDone n.val speed.toInt theta.toNat amp.toNat s.hw)

/-- CATCH_WAIT_REMEASURE (R252): Every 100 ms in WAIT the rotor is measured again. -/
def execCatchWaitRemeasure (n : Fin 20) (speed : BitVec 32) (theta amp : BitVec 16) (s : State) : Host.Outcome State Fault Refusal :=
  finish s (catchWaitRemeasure n.val speed.toInt theta.toNat amp.toNat s.hw)

/-- CATCH_WAIT_TIMEOUT (R252): WAIT lasts CATCH_WAIT and the axis faults with CATCH_FAIL. -/
def execCatchWaitTimeout (n : Fin 20) (s : State) : Host.Outcome State Fault Refusal :=
  finish s (catchWaitTimeout n.val s.hw)

/-- PRECHARGE_DONE (R253): Every bootstrap of the axis is charged and it leaves PRECHARGE. -/
def execPrechargeDone (n : Fin 20) (s : State) : Host.Outcome State Fault Refusal :=
  finish s (prechargeDone n.val s.hw)

/-- PRECHARGE_FAIL (R253): Bootstraps are not charged in time and the axis faults with PRECHARGE_FAIL. -/
def execPrechargeFail (n : Fin 20) (s : State) : Host.Outcome State Fault Refusal :=
  finish s (prechargeFail n.val s.hw)

/-- ALIGN_DONE (R249): T_ALIGN ends and the axis enters RAMP or RUN. -/
def execAlignDone (n : Fin 20) (s : State) : Host.Outcome State Fault Refusal :=
  finish s (alignDone n.val s.hw)

/-- HANDOVER_TIMEOUT (R250): Handover is not reached within HO_TIMEOUT and the axis faults. -/
def execHandoverTimeout (n : Fin 20) (s : State) : Host.Outcome State Fault Refusal :=
  finish s (handoverTimeout n.val s.hw)

/-- OBSERVER_LOSS (R251): The observer loses speed or back-EMF for 10 ms and the polygon faults. -/
def execObserverLoss (n : Fin 20) (s : State) : Host.Outcome State Fault Refusal :=
  finish s (observerLoss n.val s.hw)

/-- GOV_SILENT (R258): The Governor slot has not sampled within GOV_WD and the axis faults. -/
def execGovSilent (n : Fin 20) (s : State) : Host.Outcome State Fault Refusal :=
  finish s (govSilent n.val s.hw)

/-- POLY_START_RETRY (R250): The kernel retries a failed polygon start after 2 s, at most three times. -/
def execPolyStartRetry (n : Fin 20) (s : State) : Host.Outcome State Fault Refusal :=
  finish s (polyStartRetry n.val s.hw)

/-- PHASE_ENGAGE (R255): The kernel enables the phase slot once speed and LOCKED hold. -/
def execPhaseEngage (n : Fin 8) (s : State) : Host.Outcome State Fault Refusal :=
  finish s (phaseEngage n.val s.hw)

/-- POLY_CATCH_RESTORE (R390): After a module reset the kernel loads catch sets and enables spinning polygons. -/
def execPolyCatchRestore (mask : BitVec 8) (s : State) : Host.Outcome State Fault Refusal :=
  finish s (polyCatchRestore mask.toNat s.hw)

/-- CATCH_SET_STORE (R390): The kernel stores a polygon's catch set after a change. -/
def execCatchSetStore (n : Fin 8) (s : State) : Host.Outcome State Fault Refusal :=
  finish s (catchSetStore n.val s.hw)

/-- SHORT_TRIP (R269): A switch's di/dt exceeds an active threshold; it turns off softly and the leg is held off. -/
def execShortTrip (x : Fin 6) (l : Fin 24) (side : Fin 2) (gross blanked : Bool) (s : State) : Host.Outcome State Fault Refusal :=
  finish s (shortTrip x.val l.val side.val gross blanked s.hw)

/-- BOOT_UVLO (R266): A bootstrap falls below threshold while driving; the bridge goes off with STAGE_OFF. -/
def execBootUvlo (x : Fin 6) (b : BootLevel) (s : State) : Host.Outcome State Fault Refusal :=
  finish s (bootUvlo x.val b.leg.val b.mv.toNat s.hw)

/-- VGD_UVLO (R267): A gate bank supply leaves range; the bank goes off with STAGE_OFF. -/
def execVgdUvlo (x : Fin 6) (mv : BitVec 16) (s : State) : Host.Outcome State Fault Refusal :=
  finish s (vgdUvlo x.val mv.toNat s.hw)

/-- BANK_OFF_CLEAR (R267): VGD_OK has held 1 ms and BANK_OFF clears. -/
def execBankOffClear (x : Fin 6) (s : State) : Host.Outcome State Fault Refusal :=
  finish s (bankOffClear x.val s.hw)

/-- BRIDGE_CLR (R271): BRIDGE_CLR releases a latched bridge whose axis is OFF, or is refused. -/
def execBridgeClr (m : Master) (x : Fin 6) (mask : BitVec 8) (s : State) : Host.Outcome State Fault Refusal :=
  finish s (bridgeClr m x.val mask.toNat s.hw)

/-- STEP_EN_WRITE (R277): A write of STEP_CTRL.EN starts PRECHARGE or stops the stepper to OFF. -/
def execStepEnWrite (m : Master) (n : Fin 16) (v : Bool) (s : State) : Host.Outcome State Fault Refusal :=
  finish s (stepEnWrite m n.val v s.hw)

/-- STEP_PRECHARGE_DONE (R277): All four bootstraps are charged and the stepper enters HOLD. -/
def execStepPrechargeDone (n : Fin 16) (s : State) : Host.Outcome State Fault Refusal :=
  finish s (stepPrechargeDone n.val s.hw)

/-- STEP_PRECHARGE_FAIL (R277): Bootstraps are not charged within 200 µs and the stepper faults. -/
def execStepPrechargeFail (n : Fin 16) (s : State) : Host.Outcome State Fault Refusal :=
  finish s (stepPrechargeFail n.val s.hw)

/-- STOP_NOW (R288): An immediate stop freezes μ and enters HOLD with POS_VALID 0. -/
def execStopNow (m : Master) (n : Fin 16) (s : State) : Host.Outcome State Fault Refusal :=
  finish s (stopNow m n.val s.hw)

/-- TARGET_WRITE (R285): A TARGET write replans the profile from the present state. -/
def execTargetWrite (m : Master) (n : Fin 16) (v : Word) (s : State) : Host.Outcome State Fault Refusal :=
  finish s (targetWrite m n.val v s.hw)

/-- V_TGT_WRITE (R285): A V_TGT write replans a velocity move. -/
def execVTgtWrite (m : Master) (n : Fin 16) (v : BitVec 16) (s : State) : Host.Outcome State Fault Refusal :=
  finish s (vTgtWrite m n.val v s.hw)

/-- MODE_WRITE (R285): A MODE write changes the profile goal, or is refused. -/
def execModeWrite (m : Master) (n : Fin 16) (v : BitVec 2) (s : State) : Host.Outcome State Fault Refusal :=
  finish s (modeWrite m n.val v.toNat s.hw)

/-- POS_SET (R289): A POS_SET in HOLD sets POS and sets POS_VALID, or is refused. -/
def execPosSet (m : Master) (n : Fin 16) (v : Word) (s : State) : Host.Outcome State Fault Refusal :=
  finish s (posSet m n.val v s.hw)

/-- MOTION_TICK (R284): Every 1 µs the profiles advance and coarse commands, gears and rendezvous update. -/
def execMotionTick (t : Stamp) (s : State) : Host.Outcome State Fault Refusal :=
  finish s (motionTick t s.hw)

/-- CHOP_PERIOD_START (R279): A chopping period starts: phase currents sampled, u computed, legs pulsed. -/
def execChopPeriodStart (n : Fin 16) (iA iB vbus : BitVec 16) (t : Stamp) (s : State) : Host.Outcome State Fault Refusal :=
  finish s (chopPeriodStart n.val iA.toInt iB.toInt vbus.toNat t s.hw)

/-- HOLD_CURRENT_REDUCE (R283): At rest for HOLD_DELAY, the stepper current falls to I_HOLD. -/
def execHoldCurrentReduce (n : Fin 16) (s : State) : Host.Outcome State Fault Refusal :=
  finish s (holdCurrentReduce n.val s.hw)

/-- GRP_CFG_WRITE (R290): A GRP_CFG write sets group membership, or is refused. -/
def execGrpCfgWrite (m : Master) (g : Fin 4) (w : Word) (s : State) : Host.Outcome State Fault Refusal :=
  finish s (grpCfgWrite m g.val w s.hw)

/-- GRP_GO (R290): GRP_GO starts or retargets a linear group move, or is refused. -/
def execGrpGo (m : Master) (g : Fin 4) (s : State) : Host.Outcome State Fault Refusal :=
  finish s (grpGo m g.val s.hw)

/-- RDV_GO (R292): RDV_CTRL.GO starts a rendezvous in PURSUE. -/
def execRdvGo (m : Master) (r : Fin 4) (s : State) : Host.Outcome State Fault Refusal :=
  finish s (rdvGo m r.val s.hw)

/-- RDV_ABORT (R292): RDV_CTRL.ABORT returns the channel to IDLE with V_TGT 0. -/
def execRdvAbort (m : Master) (r : Fin 4) (s : State) : Host.Outcome State Fault Refusal :=
  finish s (rdvAbort m r.val s.hw)

/-- GOV_SAMPLE (R298): A slot's trigger plus TRIG_DELAY arrives; it latches input and reference and queues. -/
def execGovSample (j : Fin 96) (s : State) : Host.Outcome State Fault Refusal :=
  finish s (govSample j.val s.hw)

/-- GOV_EVAL_DONE (R302): An evaluation completes and writes SL_OUT and the target. -/
def execGovEvalDone (g : Fin 4) (s : State) : Host.Outcome State Fault Refusal :=
  finish s (govEvalDone g.val s.hw)

/-- GOV_DEADLINE_MISS (R305): The output is not written by DEADLINE; the evaluation is abandoned and counted. -/
def execGovDeadlineMiss (j : Fin 96) (s : State) : Host.Outcome State Fault Refusal :=
  finish s (govDeadlineMiss j.val s.hw)

/-- GOV_SLOT_EN (R310): SL_CFG.EN 1 validates and starts a slot, or is refused. -/
def execGovSlotEn (m : Master) (j : Fin 96) (s : State) : Host.Outcome State Fault Refusal :=
  finish s (govSlotEn m j.val s.hw)

/-- GOV_SLOT_DISABLE (R310): SL_CFG.EN 0 stops a slot after writing its safe value. -/
def execGovSlotDisable (m : Master) (j : Fin 96) (s : State) : Host.Outcome State Fault Refusal :=
  finish s (govSlotDisable m j.val s.hw)

/-- GOV_BANK_SWITCH (R308): SL_STS.SWITCH starts validation of the inactive coefficient bank, or sets BUSY. -/
def execGovBankSwitch (m : Master) (j : Fin 96) (s : State) : Host.Outcome State Fault Refusal :=
  finish s (govBankSwitch m j.val s.hw)

/-- GOV_VALIDATE_DONE (R308): Coefficient validation ends: switch pending, or CONFIG_REJECT. -/
def execGovValidateDone (j : Fin 96) (s : State) : Host.Outcome State Fault Refusal :=
  finish s (govValidateDone j.val s.hw)

/-- GOV_ENGINE_FAULT (R313): An uncorrectable state error or checker failure stops every slot of the unit. -/
def execGovEngineFault (g : Fin 4) (s : State) : Host.Outcome State Fault Refusal :=
  finish s (govEngineFault g.val s.hw)

/-- GV_STAT_CLR (R314): GV_CTRL.STAT_CLR clears QWAIT_MAX, MISS_CNT and REG_CHG. -/
def execGvStatClr (m : Master) (g : Fin 4) (s : State) : Host.Outcome State Fault Refusal :=
  finish s (gvStatClr m g.val s.hw)

/-- HWFAULT_CLEAR (R235): An encoder channel's hardware-fault cause ends (signal back above 200 mV, supply overload gone), so HWFAULT
clears. -/
def execHwfaultClear (c : Fin 20) (supply : Bool) (s : State) : Host.Outcome State Fault Refusal :=
  finish s (hwfaultClear c.val supply s.hw)

/-- ENCODER_EN_WRITE (R240): A write of CH_CFG.EN starts a channel counting and sets POS_VALID, or stops it. -/
def execEncoderEnWrite (m : Master) (c : Fin 20) (v : Bool) (s : State) : Host.Outcome State Fault Refusal :=
  finish s (encoderEnWrite m c.val v s.hw)

end Sys2Proof.Machine
end

