-- ==== Sys2Proof/Machine/PowerCommands.lean ====
section
/-! DEFINITION. The meanings of the commands of mains, start-up, safety, power sequencing and temperature: each is its effect on the hardware, and the end of the step. -/

namespace Sys2Proof.Machine

/-- MAINS_ON (R382): Mains comes within range at X1: VAON rises, the Sluice runs START and the module heads for READY. -/
def execMainsOn (vrms freq : BitVec 16) (s : State) : Host.Outcome State Fault Refusal :=
  finish s (mainsOn vrms freq s.hw)

/-- BOOT_IMAGE_SELECT (R384): The boot ROM finishes verifying the image slots and boots the valid image with the higher GEN, or enters
BOOT_FAIL. -/
def execBootImageSelect (s : State) : Host.Outcome State Fault Refusal :=
  finish s (bootImageSelect s.hw)

/-- SELF_TEST_DONE (R386): The start-up self-tests end; a covered fault degrades its group and any other failure holds the module FAULTED.
-/
def execSelfTestDone (r : SelfTest) (s : State) : Host.Outcome State Fault Refusal :=
  finish s (selfTestDone r s.hw)

/-- READY (R382): The engine kernel completes bring-up: configuration store loaded, LOCK set, Fantail enabled, mailboxes answer. -/
def execReady (s : State) : Host.Outcome State Fault Refusal :=
  finish s (ready s.hw)

/-- MODULE_RESET (R387): A module reset cause (RESET_N, fault reaction, watchdog, service) forces every output safe and discards pages,
pins and rings. -/
def execModuleReset (lowNs : BitVec 32) (s : State) : Host.Outcome State Fault Refusal :=
  finish s (moduleResetN lowNs s.hw)

/-- RESET_N_RELEASE (R391): RESET_N is released and the boot starts from the boot ROM. -/
def execResetNRelease (s : State) : Host.Outcome State Fault Refusal :=
  finish s (resetNRelease s.hw)

/-- INTERLOCK_OPEN (R33): ILK1 or ILK2 carries less than 4 mA; every LEN_s drops in hardware and pages exposing are spoiled. -/
def execInterlockOpen (i : Fin 2) (s : State) : Host.Outcome State Fault Refusal :=
  finish s (interlockOpen i s.hw)

/-- INTERLOCK_CLOSE (R33): Both interlock loops close, starting the 100 ms before the kernel may re-enable laser emission. -/
def execInterlockClose (i : Fin 2) (s : State) : Host.Outcome State Fault Refusal :=
  finish s (interlockClose i s.hw)

/-- ESTOP_OPEN (R34): An E-STOP loop opens; LEN_s, half-bridge ENABLEs, HVEN_s and lamps are switched off in hardware. -/
def execEstopOpen (i : Fin 2) (s : State) : Host.Outcome State Fault Refusal :=
  finish s (estopOpen i s.hw)

/-- ESTOP_CLOSE (R34): Both E-STOP loops close, allowing the engine kernel to re-arm the outputs. -/
def execEstopClose (i : Fin 2) (s : State) : Host.Outcome State Fault Refusal :=
  finish s (estopClose i s.hw)

/-- COVER_EDGE (R35): A COVER input changes and raises an event only. -/
def execCoverEdge (i : Fin 4) (closed : Bool) (s : State) : Host.Outcome State Fault Refusal :=
  finish s (coverEdge i closed s.hw)

/-- COMMISSION_PRESS (R427): A debounced press of at least 50 ms of the COMMISSION button opens or restarts the 120 s presence window. -/
def execCommissionPress (ms : BitVec 16) (s : State) : Host.Outcome State Fault Refusal :=
  finish s (commissionPress ms s.hw)

/-- SEAL_CLOSE (R427): The SEAL loop closes and opens the presence window. -/
def execSealClose (s : State) : Host.Outcome State Fault Refusal :=
  finish s (sealClose s.hw)

/-- SEAL_OPEN (R427): The SEAL loop opens and closes the window unless a button window remains. -/
def execSealOpen (s : State) : Host.Outcome State Fault Refusal :=
  finish s (sealOpen s.hw)

/-- PRESENCE_WINDOW_EXPIRE (R427): The 120 s button window runs out and the presence window closes. -/
def execPresenceWindowExpire (s : State) : Host.Outcome State Fault Refusal :=
  finish s (presenceWindowExpire s.hw)

/-- PRESENCE_CLOSE (R427): A write of PR_CTRL.CLOSE ends the button window. -/
def execPresenceClose (m : Master) (s : State) : Host.Outcome State Fault Refusal :=
  finish s (presenceClose m s.hw)

/-- MBUS_UNDERVOLTAGE (R18): MBUS falls below 40 V: every ENABLE low, axes report MBUS_LOW and the kernel performs a jam stop. -/
def execMbusUndervoltage (vCap : BitVec 16) (s : State) : Host.Outcome State Fault Refusal :=
  finish s (mbusUndervoltage vCap s.hw)

/-- MBUS_OVERVOLTAGE (R18): MBUS rises above 56 V: every ENABLE low with the contactor kept closed. -/
def execMbusOvervoltage (vCap : BitVec 16) (s : State) : Host.Outcome State Fault Refusal :=
  finish s (mbusOvervoltage vCap s.hw)

/-- SUPPLY_PHASE_FAIL (R16): An internal supply phase fails and is isolated; a second failure raises the power-fail warning. -/
def execSupplyPhaseFail (p : Fin 3) (s : State) : Host.Outcome State Fault Refusal :=
  finish s (supplyPhaseFail p s.hw)

/-- THERMAL_SAMPLE (R353): Every 100 µs all sensors are sampled and judged against thresholds. -/
def execThermalSample (raw : Vector (BitVec 16) 44) (bad : BitVec 44) (power : Vector (BitVec 32) 3) (s : State) : Host.Outcome State Fault Refusal :=
  finish s (thermalSample raw.toList bad.toNat (power.toList.map BitVec.toNat) s.hw)

/-- SENSOR_BROKEN (R353): A sensor substituted for 1000 samples is marked BROKEN. -/
def execSensorBroken (i : Fin 44) (s : State) : Host.Outcome State Fault Refusal :=
  finish s (sensorBroken i.val s.hw)

/-- THERMAL_RATE_EVAL (R355): Every 100 ms each zone's rate is evaluated. -/
def execThermalRateEval (s : State) : Host.Outcome State Fault Refusal :=
  finish s (thermalRateEval s.hw)

/-- TH_STEP_TIMER (R357): TH_STEP seconds in throttle raise TH_GRADE again. -/
def execThStepTimer (s : State) : Host.Outcome State Fault Refusal :=
  finish s (thStepTimer s.hw)

/-- TH_CLEAR_TIMER (R357): TH_CLEAR seconds below the hysteresis lower TH_GRADE. -/
def execThClearTimer (s : State) : Host.Outcome State Fault Refusal :=
  finish s (thClearTimer s.hw)

/-- CP_SPREAD (R354): CP sensors disagree for 10 s and CP_SPREAD is raised. -/
def execCpSpread (s : State) : Host.Outcome State Fault Refusal :=
  finish s (cpSpread s.hw)

/-- THERMAL_RESTART (R359): After 10 s below RESTART the module restarts, or enters LOCKOUT. -/
def execThermalRestart (s : State) : Host.Outcome State Fault Refusal :=
  finish s (thermalRestart s.hw)

/-- TEMP_COMP (R362): Every 10 ms oscillator and converter references are corrected. -/
def execTempComp (s : State) : Host.Outcome State Fault Refusal :=
  finish s (tempComp s.hw)

/-- SENSOR_REJUDGE (R353): Writing 1 to a BROKEN bit has the sensor judged again. -/
def execSensorRejudge (m : Master) (board : Bool) (mask : BitVec 32) (s : State) : Host.Outcome State Fault Refusal :=
  finish s (sensorRejudge m board mask.toNat s.hw)

/-- SUPERVISOR_FAULT (R363): The supervisor's checker fails; TH_GRADE goes to 7. -/
def execSupervisorFault (s : State) : Host.Outcome State Fault Refusal :=
  finish s (supervisorFault s.hw)

/-- SLUICE_EN (R367): An EN step sets a rail's enable. -/
def execSluiceEn (s : State) : Host.Outcome State Fault Refusal :=
  finish s (sluiceEn s.hw)

/-- SLUICE_DIS (R371): A DIS step clears a rail's enable and starts its discharge. -/
def execSluiceDis (s : State) : Host.Outcome State Fault Refusal :=
  finish s (sluiceDis s.hw)

/-- SLUICE_DIS_DONE (R371): A DIS ends at its off threshold or ARG. -/
def execSluiceDisDone (mv : BitVec 16) (timedOut confirmed : Bool) (us : BitVec 24) (s : State) : Host.Outcome State Fault Refusal :=
  finish s (sluiceDisDone mv timedOut confirmed us s.hw)

/-- SLUICE_WAIT (R367): A WAIT step starts its ARG µs wait. -/
def execSluiceWait (s : State) : Host.Outcome State Fault Refusal :=
  finish s (sluiceWait s.hw)

/-- SLUICE_WAIT_DONE (R367): A WAIT's time runs out. -/
def execSluiceWaitDone (s : State) : Host.Outcome State Fault Refusal :=
  finish s (sluiceWaitDone s.hw)

/-- SLUICE_CHECK (R367): A CHECK step starts waiting for its condition. -/
def execSluiceCheck (s : State) : Host.Outcome State Fault Refusal :=
  finish s (sluiceCheck s.hw)

/-- SLUICE_CHECK_PASS (R367): A CHECK's condition holds and the sequence continues. -/
def execSluiceCheckPass (mv vIn vCap : BitVec 16) (s : State) : Host.Outcome State Fault Refusal :=
  finish s (sluiceCheckPass mv vIn vCap s.hw)

/-- SLUICE_CHECK_TIMEOUT (R367): A CHECK times out, writes CHECK_FAIL and continues at TARGET. -/
def execSluiceCheckTimeout (s : State) : Host.Outcome State Fault Refusal :=
  finish s (sluiceCheckTimeout s.hw)

/-- SLUICE_JUMP (R367): A JUMP step continues at its target. -/
def execSluiceJump (s : State) : Host.Outcome State Fault Refusal :=
  finish s (sluiceJump s.hw)

/-- SLUICE_LOG (R367): A LOG step queues a LOG_STEP record. -/
def execSluiceLog (s : State) : Host.Outcome State Fault Refusal :=
  finish s (sluiceLog s.hw)

/-- SLUICE_END (R367): An END step ends the sequence. -/
def execSluiceEnd (s : State) : Host.Outcome State Fault Refusal :=
  finish s (sluiceEnd s.hw)

/-- SLUICE_HALT_RETRY (R372): 10 s after a halt in START, STOP runs then START. -/
def execSluiceHaltRetry (s : State) : Host.Outcome State Fault Refusal :=
  finish s (sluiceHaltRetry s.hw)

/-- INT_RAIL_FAULT (R365): An internal rail loses power-good and shuts the module down. -/
def execIntRailFault (r : Fin 12) (s : State) : Host.Outcome State Fault Refusal :=
  finish s (intRailFault r s.hw)

/-- RAIL_RESTART (R365): 1 s after an internal rail fault the module restarts. -/
def execRailRestart (s : State) : Host.Outcome State Fault Refusal :=
  finish s (railRestart s.hw)

/-- EXT_RAIL_FAULT (R365): An external rail loses power-good and raises its source. -/
def execExtRailFault (r : Fin 34) (s : State) : Host.Outcome State Fault Refusal :=
  finish s (extRailFault r s.hw)

/-- POWER_FAIL_WARN (R373): A power-fail warning logs POWER_FAIL and starts STOP. -/
def execPowerFailWarn (vrms : BitVec 16) (noZeroCross : Bool) (s : State) : Host.Outcome State Fault Refusal :=
  finish s (powerFailWarn vrms noZeroCross s.hw)

/-- MAINS_RETURN (R373): Mains in range for 1 s after a warning runs START again. -/
def execMainsReturn (vrms freq : BitVec 16) (s : State) : Host.Outcome State Fault Refusal :=
  finish s (mainsReturn vrms freq s.hw)

/-- STOP_REQ (R370): SQ_CTRL.STOP_REQ starts the STOP segment. -/
def execStopReq (m : Master) (s : State) : Host.Outcome State Fault Refusal :=
  finish s (stopReq m s.hw)

/-- PROG_STORE (R368): A presence-gated PROG_STORE validates and stores the staged program. -/
def execProgStore (m : Master) (s : State) : Host.Outcome State Fault Refusal :=
  finish s (progStore m s.hw)

/-- RAIL_CMD_GO (R375): RAIL_CMD.GO switches an external rail, or is refused. -/
def execRailCmdGo (m : Master) (r : BitVec 6) (on : Bool) (s : State) : Host.Outcome State Fault Refusal :=
  finish s (railCmdGo m r on s.hw)

/-- LOG_PUSH (R378): LOG_PUSH queues a kernel log record. -/
def execLogPush (m : Master) (s : State) : Host.Outcome State Fault Refusal :=
  finish s (logPush m s.hw)

/-- LOG_UNIT_WRITE (R378): The MRAM writer writes the next queued record. -/
def execLogUnitWrite (readBack : Bool) (s : State) : Host.Outcome State Fault Refusal :=
  finish s (logUnitWrite readBack s.hw)

/-- LOG_UNIT_LEASE_EXPIRY (R469): An MRAM write exceeds 1.5 µs and is abandoned. -/
def execLogUnitLeaseExpiry (s : State) : Host.Outcome State Fault Refusal :=
  finish s (logUnitLeaseExpiry s.hw)

/-- MBUS_DISCHARGED (R371): MBUS falls below 5 V and MBUS_DISCHARGED is raised. -/
def execMbusDischarged (vCap : BitVec 16) (s : State) : Host.Outcome State Fault Refusal :=
  finish s (mbusDischarged vCap s.hw)

/-- MBUS_UV_CLEAR (R18): MBUS rises above 42 V, the undervoltage condition clears and axes stop reporting MBUS_LOW. -/
def execMbusUvClear (vCap : BitVec 16) (s : State) : Host.Outcome State Fault Refusal :=
  finish s (mbusUvClear vCap s.hw)

/-- MBUS_OV_CLEAR (R18): MBUS falls below 54 V and the overvoltage condition clears. -/
def execMbusOvClear (vCap : BitVec 16) (s : State) : Host.Outcome State Fault Refusal :=
  finish s (mbusOvClear vCap s.hw)

/-- MAINS_RANGE (R381): The X1 input leaves 85–305 VAC and SUPPLY raises MAINS_RANGE. -/
def execMainsRange (vrms : BitVec 16) (s : State) : Host.Outcome State Fault Refusal :=
  finish s (mainsRange vrms s.hw)

/-- AON_FAULT (R381): The always-on checker fails and SUPPLY raises AON_FAULT. -/
def execAonFault (s : State) : Host.Outcome State Fault Refusal :=
  finish s (aonFault s.hw)

/-- EXT_RAIL_POWER_GOOD (R365): An external rail that had lost power-good regains it, ending, for VHEAD_s, the station's head fault. -/
def execExtRailPowerGood (r : Fin 35) (mv vIn vCap : BitVec 16) (s : State) : Host.Outcome State Fault Refusal :=
  finish s (extRailPowerGood r mv vIn vCap s.hw)

end Sys2Proof.Machine
end

