-- ==== Sys2Proof/Machine/PressCommands.lean ====
section
/-! DEFINITION. The meanings of the commands of press time, pages, admission and encoder jobs: each is its effect on the hardware, and the end of the step. -/

namespace Sys2Proof.Machine

/-- TIME_SET (R43): TIME_CTRL.SET loads SET_LO/HI into PRESS_TIME, or is refused while exposing or not on the TCXO. -/
def execTimeSet (m : Master) (s : State) : Host.Outcome State Fault Refusal :=
  finish s (timeSet m s.hw)

/-- SLEW_REQ_WRITE (R44): A write of SLEW_REQ starts, replaces or ends a slew of PRESS_TIME. -/
def execSlewReqWrite (m : Master) (v : Word) (s : State) : Host.Outcome State Fault Refusal :=
  finish s (slewReqWrite m v s.hw)

/-- SLEW_COMPLETE (R44): The whole requested offset has been applied and SLEW_ACTIVE clears. -/
def execSlewComplete (s : State) : Host.Outcome State Fault Refusal :=
  finish s (slewComplete s.hw)

/-- TCXO_LOST (R46): The TCXO leaves 200 ppm or stops; holdover begins and admission stops at the next gap. -/
def execTcxoLost (s : State) : Host.Outcome State Fault Refusal :=
  finish s (tcxoLost s.hw)

/-- SURF_STALE (R52): No drum count for STALE_LIM while the station drive runs; STALE set and the page exposing spoiled. -/
def execSurfStale (stn : StationNo) (s : State) : Host.Outcome State Fault Refusal :=
  finish s (surfStale stn s.hw)

/-- TOF_GO (R56): A write of TOF_CTRL.GO takes t0 for the masked stations and starts computing SURF_TOF, or is refused while BUSY. -/
def execTofGo (m : Master) (mask : BitVec 8) (t0 : Stamp) (s : State) : Host.Outcome State Fault Refusal :=
  finish s (tofGo m mask t0 s.hw)

/-- TOF_COMPLETE (R56): The SURF_TOF computation ends, updating SURF_TOF or setting TOF_LATE or TOF_EARLY. -/
def execTofComplete (s : State) : Host.Outcome State Fault Refusal :=
  finish s (tofComplete s.hw)

/-- TOF_DEADLINE (R497): A station has no successful GO 5 ms before its first line; the page returns to RESIDENT and its slot stays empty.
-/
def execTofDeadline (stn : StationNo) (d : BitVec 20) (s : State) : Host.Outcome State Fault Refusal :=
  finish s (tofDeadline stn d s.hw)

/-- SUBMIT (R70): A write of HEADRACE.SUBMIT pushes a command into the command queue, or is dropped when it is full. -/
def execSubmit (m : Master) (idx : BitVec 20) (s : State) : Host.Outcome State Fault Refusal :=
  finish s (submit m idx s.hw)

/-- PLANE_READY (R70): A write of PLANE_READY pushes a plane declaration into the command queue, or is dropped when full. -/
def execPlaneReady (m : Master) (idx : BitVec 20) (stn : StationNo) (s : State) : Host.Outcome State Fault Refusal :=
  finish s (planeReady m idx stn s.hw)

/-- WITHDRAW (R70): A write of WITHDRAW pushes a withdrawal into the command queue, or is dropped when full. -/
def execWithdraw (m : Master) (idx : BitVec 20) (s : State) : Host.Outcome State Fault Refusal :=
  finish s (withdraw m idx s.hw)

/-- SUBMIT_PROCESS (R67): The Headrace takes a SUBMIT, checks it in order and creates a page or writes SUBMIT_REJECT. -/
def execSubmitProcess (readOk : Bool) (s : State) : Host.Outcome State Fault Refusal :=
  finish s (submitProcess readOk s.hw)

/-- PLANE_VERIFY (R71): The Headrace takes a PLANE_READY and starts verifying the plane. -/
def execPlaneVerify (s : State) : Host.Outcome State Fault Refusal :=
  finish s (planeVerify s.hw)

/-- PLANE_VERIFY_DONE (R71): Verification ends: the plane is pinned with PLANE_OK, or rejected; a page may become RESIDENT. -/
def execPlaneVerifyDone (readOk : Bool) (s : State) : Host.Outcome State Fault Refusal :=
  finish s (planeVerifyDone readOk s.hw)

/-- WITHDRAW_PROCESS (R74): The Headrace takes a WITHDRAW and releases or refuses the page by its state. -/
def execWithdrawProcess (s : State) : Host.Outcome State Fault Refusal :=
  finish s (withdrawProcess s.hw)

/-- STACK_LOST (R60): An HBM3E stack is lost; reads are reconstructed from the other three. -/
def execStackLost (i : Fin 4) (s : State) : Host.Outcome State Fault Refusal :=
  finish s (stackLost i s.hw)

/-- SLOT_DUE (R76): A slot's admission time arrives and the Headrace admits the first page or skips the slot. -/
def execSlotDue (s : State) : Host.Outcome State Fault Refusal :=
  finish s (slotDue s.hw)

/-- GRADE_CHANGE_APPLY (R77): The pending grade change takes effect in the gap after the last admitted page. -/
def execGradeChangeApply (s : State) : Host.Outcome State Fault Refusal :=
  finish s (gradeChangeApply s.hw)

/-- GT_BANK_SWITCH (R79): A write of GT_BANK.SWITCH requests a grade-table bank switch at the next gap, or is ignored while pending. -/
def execGtBankSwitch (m : Master) (s : State) : Host.Outcome State Fault Refusal :=
  finish s (gtBankSwitch m s.hw)

/-- GT_BANK_APPLY (R79): At the gap the incoming grade and runout tables are checked and switched, or TABLE_REJECT is raised. -/
def execGtBankApply (s : State) : Host.Outcome State Fault Refusal :=
  finish s (gtBankApply s.hw)

/-- FORECAST_EVAL (R80): The 1 ms forecast evaluation computes the margin and may step FC_GRADE up. -/
def execForecastEval (_u : Unit) (s : State) : Host.Outcome State Fault Refusal :=
  finish s (forecastEval s.hw)

/-- FORECAST_STEP_DOWN (R80): The margin of the next faster grade has held non-negative for STEPUP_HOLD, so FC_GRADE is decremented. -/
def execForecastStepDown (s : State) : Host.Outcome State Fault Refusal :=
  finish s (forecastStepDown s.hw)

/-- FORECAST_EN_CLEAR (R80): A clear of HR_CTRL.FORECAST_EN sets FC_GRADE to 0 at once and stops the forecast. -/
def execForecastEnClear (m : Master) (s : State) : Host.Outcome State Fault Refusal :=
  finish s (forecastEnClear m s.hw)

/-- RING_CFG_WRITE (R86): A write of RING_CFG clamps LOG2SIZE and, with EN set, resets RING_HEAD and RING_TAIL. -/
def execRingCfgWrite (m : Master) (c : Fin 16) (log2 : BitVec 4) (en : Bool) (s : State) : Host.Outcome State Fault Refusal :=
  finish s (ringCfgWrite m c log2 en s.hw)

/-- ENC_JOB_SUBMIT (R106): A write of JOB_SUBMIT queues an encoder job, or is dropped when the queue is full. -/
def execEncJobSubmit (m : Master) (idx : BitVec 21) (s : State) : Host.Outcome State Fault Refusal :=
  finish s (encJobSubmit m idx s.hw)

/-- ENC_JOB_START (R103): A free, enabled encoder takes the first queued job and checks it. -/
def execEncJobStart (e : Fin 4) (s : State) : Host.Outcome State Fault Refusal :=
  finish s (encJobStart e s.hw)

/-- ENC_BILLET_DONE (R104): An encoder finishes coding one billet and writes it and its index entry. -/
def execEncBilletDone (e : Fin 4) (readOk : Bool) (s : State) : Host.Outcome State Fault Refusal :=
  finish s (encBilletDone e readOk s.hw)

/-- ENC_FAULT (R107): An encoder's internal check fails; its job ends ENC_FAULT and it stops until block reset. -/
def execEncFault (e : Fin 4) (s : State) : Host.Outcome State Fault Refusal :=
  finish s (encFault e s.hw)

/-- ENC_LEASE_EXPIRY (R469): An encoder completes no billet for 10 ms; the job ends ENC_FAULT and the encoder is freed. -/
def execEncLeaseExpiry (e : Fin 4) (s : State) : Host.Outcome State Fault Refusal :=
  finish s (encLeaseExpiry e s.hw)

/-- TIME_SYNC (R218): Every 1 ms a TIME_SYNC frame is sent to the head. -/
def execTimeSync (stn : StationNo) (_u : Unit) (s : State) : Host.Outcome State Fault Refusal :=
  finish s (timeSync stn s.hw)

/-- SURF_STS_CLEAR (R54): A W1C write clears STALE or REVERSE in SURF_STS, and VALID is restored once the other conditions hold. -/
def execSurfStsClear (m : Master) (stn : StationNo) (mask : BitVec 4) (s : State) : Host.Outcome State Fault Refusal :=
  finish s (surfStsClear m stn mask s.hw)

end Sys2Proof.Machine
end

