-- ==== Sys2Proof/Machine/SheetCommands.lean ====
section
/-! DEFINITION. The meanings of the commands of Leat trunks and sheets: each is its effect on the hardware, and the end of the step. -/

namespace Sys2Proof.Machine

/-- LEAT_CYCLE (R335): Every 50 µs a trunk cycle starts with a beacon and downlink frames. -/
def execLeatCycle (t : Fin 4) (time : Stamp) (s : State) : Host.Outcome State Fault Refusal :=
  finish s (leatCycle t time s.hw)

/-- LEAT_HELLO (R339): A HELLO from a node is answered with ACCEPT or QUARANTINE. -/
def execLeatHello (t : Fin 4) (u : Uplink) (verMin verMax : BitVec 8) (vendor : BitVec 16) (w : NodeModel) (s : State) : Host.Outcome State Fault Refusal :=
  finish s (leatHello t u.node u.slot verMin verMax vendor w.code w.firmware s.hw)

/-- LEAT_STATUS (R337): A STATUS frame from a node is taken. -/
def execLeatStatus (t : Fin 4) (u : Uplink) (ack : BitVec 8) (lo hi : Word) (s : State) : Host.Outcome State Fault Refusal :=
  finish s (leatStatus t u.node u.slot ack lo hi s.hw)

/-- LEAT_EDGE (R337): An EDGE frame is accepted and offered to checkpoints or the report queue. -/
def execLeatEdge (t : Fin 4) (u : Uplink) (seq ack : BitVec 8) (input : Fin 16) (level : Bool) (low : Word) (arrival : Stamp) (s : State) : Host.Outcome State Fault Refusal :=
  finish s (leatEdge t u.node u.slot seq ack input level low arrival s.hw)

/-- LEAT_VALUE (R337): A VALUE frame is taken and routed. -/
def execLeatValue (t : Fin 4) (u : Uplink) (ack : BitVec 8) (idx : Fin 16) (fault : Bool) (v : BitVec 16) (low : Word) (s : State) : Host.Outcome State Fault Refusal :=
  finish s (leatValue t u.node u.slot ack idx fault v low s.hw)

/-- LEAT_REPLY (R337): A REPLY frame is accepted and queued. -/
def execLeatReply (t : Fin 4) (u : Uplink) (seq ack : BitVec 8) (lo hi : Word) (s : State) : Host.Outcome State Fault Refusal :=
  finish s (leatReply t u.node u.slot seq ack lo hi s.hw)

/-- LEAT_VIOLATION_RX (R340): A VIOLATION frame from a node is counted and logged. -/
def execLeatViolationRx (t : Fin 4) (u : Uplink) (ack reason : BitVec 8) (x : Concerned) (s : State) : Host.Outcome State Fault Refusal :=
  finish s (leatViolationRx t u.node u.slot ack reason x.seq x.ftype s.hw)

/-- LEAT_BAD_FRAME (R340): An uplink frame breaking the protocol is dropped and counted. -/
def execLeatBadFrame (t : Fin 4) (n reason seq ftype : BitVec 8) (s : State) : Host.Outcome State Fault Refusal :=
  finish s (leatBadFrame t n reason seq ftype s.hw)

/-- LEAT_CMD_FAIL (R338): RETRY_MAX repeats pass without ACK; the command is dropped. -/
def execLeatCmdFail (t : Fin 4) (n : BitVec 8) (s : State) : Host.Outcome State Fault Refusal :=
  finish s (leatCmdFail t n s.hw)

/-- LEAT_NODE_SILENT (R339): No valid frame in SILENCE_LIM slots makes the node SILENT. -/
def execLeatNodeSilent (t : Fin 4) (n : BitVec 8) (s : State) : Host.Outcome State Fault Refusal :=
  finish s (leatNodeSilent t n s.hw)

/-- LEAT_LINE_ERROR (R340): More than 64 CRC failures in 1 ms raise LINE_ERROR. -/
def execLeatLineError (t : Fin 4) (s : State) : Host.Outcome State Fault Refusal :=
  finish s (leatLineError t s.hw)

/-- CMD_PUSH (R350): CMD_PUSH queues a downlink command, or drops it when full. -/
def execCmdPush (m : Master) (t : Fin 4) (s : State) : Host.Outcome State Fault Refusal :=
  finish s (cmdPush m t s.hw)

/-- RPT_POP (R350): RPT_POP removes the head of the report queue. -/
def execRptPop (m : Master) (t : Fin 4) (s : State) : Host.Outcome State Fault Refusal :=
  finish s (rptPop m t s.hw)

/-- LT_EN_WRITE (R350): A write of LT_CTRL.EN starts or stops beacons. -/
def execLtEnWrite (m : Master) (t : Fin 4) (v : Bool) (s : State) : Host.Outcome State Fault Refusal :=
  finish s (ltEnWrite m t v s.hw)

/-- SHEET_OPEN (R342): A SH_ENTRY write opens a sheet, or is refused. -/
def execSheetOpen (m : Master) (n : Fin 64) (d : BitVec 20) (k : SheetClass) (s : State) : Host.Outcome State Fault Refusal :=
  finish s (sheetOpen m n d k.cls k.purge s.hw)

/-- SHEET_EN_WRITE (R341): A write of SH_CTRL.EN enables tracking, or is refused. -/
def execSheetEnWrite (m : Master) (v : Bool) (s : State) : Host.Outcome State Fault Refusal :=
  finish s (sheetEnWrite m v s.hw)

/-- CHECKPOINT_MISSED (R344): No matching edge by t_close + REPORT_MAX declares a jam. -/
def execCheckpointMissed (n : Fin 64) (i : Fin 128) (trail : Bool) (s : State) : Host.Outcome State Fault Refusal :=
  finish s (checkpointMissed n i trail s.hw)

/-- JAM_REQ (R347): SH_CTRL.JAM_REQ declares a jam with cause REQUEST. -/
def execJamReq (m : Master) (s : State) : Host.Outcome State Fault Refusal :=
  finish s (jamReq m s.hw)

/-- JAM_CLR (R349): JAM_CLR frees every slot if drives are stopped, else refused. -/
def execJamClr (m : Master) (s : State) : Host.Outcome State Fault Refusal :=
  finish s (jamClr m s.hw)

end Sys2Proof.Machine
end

