-- ==== Sys2Proof/Machine/StationCommands.lean ====
section
/-! DEFINITION. The meanings of the commands of decoding, the Millrace, planning, scan clocks and emitters: each is its effect on the hardware, and the end of the step. -/

namespace Sys2Proof.Machine

/-- BILLET_DECODE_DONE (R99): A decoder ends a billet: checked samples pass to the line store, or a first failure starts a re-fetch. -/
def execBilletDecodeDone (stn : StationNo) (d : Fin 2) (x : BilletRead) (s : State) : Host.Outcome State Fault Refusal :=
  finish s (billetDecodeDone stn d x s.hw)

/-- BILLET_REFETCH_DONE (R99): A re-fetched billet decodes, recovering it or spoiling the page with BILLET_CRC. -/
def execBilletRefetchDone (stn : StationNo) (d : Fin 2) (x : BilletRead) (s : State) : Host.Outcome State Fault Refusal :=
  finish s (billetRefetchDone stn d x s.hw)

/-- BAND_FILL_START (R112): Band k−1 is released and the decoders begin writing band k+1 into its slot. -/
def execBandFillStart (stn : StationNo) (s : State) : Host.Outcome State Fault Refusal :=
  finish s (bandFillStart stn s.hw)

/-- PREFILL_START (R114): An admitted page's prefill starts once the station has finished the page before it. -/
def execPrefillStart (stn : StationNo) (s : State) : Host.Outcome State Fault Refusal :=
  finish s (prefillStart stn s.hw)

/-- LINE_FINISH (R110): The Millrace finishes an exposure line and hands it to the framer, releasing bands as it goes. -/
def execLineFinish (stn : StationNo) (t : LineTimes) (corrected : BitVec 16) (mem : LineMem) (s : State) : Host.Outcome State Fault Refusal :=
  finish s (lineFinish stn t.finish t.reads corrected.toNat mem s.hw)

/-- LINE_LATE (R113): A line is not finished by its deadline; LINE_LATE, LATE_CNT and a STREAM_FAULT spoil. -/
def execLineLate (stn : StationNo) (s : State) : Host.Outcome State Fault Refusal :=
  finish s (lineLate stn s.hw)

/-- WBANK_SWITCH (R130): A write of WBANK.SWITCH starts validation of the inactive warp bank, or sets BUSY. -/
def execWbankSwitch (m : Master) (stn : StationNo) (s : State) : Host.Outcome State Fault Refusal :=
  finish s (wbankSwitch m stn s.hw)

/-- WBANK_CANCEL (R130): WBANK.CANCEL stops validation or drops the arming. -/
def execWbankCancel (m : Master) (stn : StationNo) (s : State) : Host.Outcome State Fault Refusal :=
  finish s (wbankCancel m stn s.hw)

/-- SBANK_SWITCH (R130): A write of SBANK.SWITCH starts validation of the inactive rendering bank, or sets BUSY. -/
def execSbankSwitch (m : Master) (stn : StationNo) (s : State) : Host.Outcome State Fault Refusal :=
  finish s (sbankSwitch m stn s.hw)

/-- SBANK_CANCEL (R130): SBANK.CANCEL stops validation or drops the arming. -/
def execSbankCancel (m : Master) (stn : StationNo) (s : State) : Host.Outcome State Fault Refusal :=
  finish s (sbankCancel m stn s.hw)

/-- BANK_VALIDATE_DONE (R131): Validation of a warp or rendering bank ends: ARMED on pass, IDLE with TABLE_REJECT on fail. -/
def execBankValidateDone (stn : StationNo) (b : BankCheck) (s : State) : Host.Outcome State Fault Refusal :=
  finish s (bankValidateDone stn b.screen b.uncorr s.hw)

/-- POLY_INDEX_EDGE (R138): An INDEX_s edge is accepted as facet 0 or ignored and counted, possibly raising FACET_SLIP. -/
def execPolyIndexEdge (stn : StationNo) (s : State) : Host.Outcome State Fault Refusal :=
  finish s (polyIndexEdge stn s.hw)

/-- PLAN_RUN (R143): At the plan time of a facet the planner predicts SURF, checks, assigns beam roles and requests lines. -/
def execPlanRun (stn : StationNo) (k : Fin 4) (s : State) : Host.Outcome State Fault Refusal :=
  finish s (planRun stn k s.hw)

/-- SWATH_EN_CLEAR (R155): A clear of SW_CTRL.EN stops planning and spoils a planned or exposing page. -/
def execSwathEnClear (m : Master) (stn : StationNo) (s : State) : Host.Outcome State Fault Refusal :=
  finish s (swathEnClear m stn s.hw)

/-- BD_SOS (R165): An accepted BD_SOS edge is stamped, anchors the scan clock and advances the facet count. -/
def execBdSos (stn : StationNo) (e : BdEdge) (s : State) : Host.Outcome State Fault Refusal :=
  finish s (bdSos stn e.time e.falling s.hw)

/-- BD_EOS (R162): An accepted BD_EOS edge updates SCAN_DUR and may end a page's last facet. -/
def execBdEos (stn : StationNo) (e : BdEdge) (s : State) : Host.Outcome State Fault Refusal :=
  finish s (bdEos stn e.time e.falling s.hw)

/-- BD_MISS (R163): A SOS window closes without an edge; the facet is flywheeled from sos_pred, and a second one clears LOCKED. -/
def execBdMiss (stn : StationNo) (s : State) : Host.Outcome State Fault Refusal :=
  finish s (bdMiss stn s.hw)

/-- PLL_RELOCK_DONE (R168): The scan-clock PLL relocks after a divider change and the start sequence follows. -/
def execPllRelockDone (stn : StationNo) (s : State) : Host.Outcome State Fault Refusal :=
  finish s (pllRelockDone stn s.hw)

/-- SCLK_START (R169): With EN, PLL lock and a good pair, SCLK_s starts with ordinary cycles. -/
def execSclkStart (stn : StationNo) (s : State) : Host.Outcome State Fault Refusal :=
  finish s (sclkStart stn s.hw)

/-- SCLK_EN_WRITE (R170): A write of SC_CTRL.EN enables the scan clock or requests its stop. -/
def execSclkEnWrite (m : Master) (stn : StationNo) (v : Bool) (s : State) : Host.Outcome State Fault Refusal :=
  finish s (sclkEnWrite m stn v s.hw)

/-- SYSPLL_UNLOCK (R175): The 1 GHz system PLL loses lock; shipped reaction is a module reset. -/
def execSyspllUnlock (s : State) : Host.Outcome State Fault Refusal :=
  finish s (syspllUnlock s.hw)

/-- COREPLL_UNLOCK (R175): The 1.25 GHz pipeline PLL loses lock; shipped reaction is a module reset. -/
def execCorepllUnlock (s : State) : Host.Outcome State Fault Refusal :=
  finish s (corepllUnlock s.hw)

/-- CLK_MON (R175): A clock monitor sees a clock outside ±0.5 %; shipped reaction is a module reset. -/
def execClkMon (s : State) : Host.Outcome State Fault Refusal :=
  finish s (clkMon s.hw)

/-- EBANK_SWITCH (R184): A write of EBANK.SWITCH starts validation of the inactive emitter bank, or sets BUSY. -/
def execEbankSwitch (m : Master) (stn : StationNo) (s : State) : Host.Outcome State Fault Refusal :=
  finish s (ebankSwitch m stn s.hw)

/-- EBANK_CANCEL (R184): EBANK.CANCEL stops validation, download or arming. -/
def execEbankCancel (m : Master) (stn : StationNo) (s : State) : Host.Outcome State Fault Refusal :=
  finish s (ebankCancel m stn s.hw)

/-- EMIT_VALIDATE_DONE (R186): Emitter-bank validation ends: download starts on pass, TABLE_FAULT on fail. -/
def execEmitValidateDone (stn : StationNo) (s : State) : Host.Outcome State Fault Refusal :=
  finish s (emitValidateDone stn s.hw)

/-- CHECK_REPLY (R185): The head's CHECK_REPLY arrives; a match arms the bank, a mismatch retries once then fails. -/
def execCheckReply (stn : StationNo) (b : Fin 2) (crc : Word) (s : State) : Host.Outcome State Fault Refusal :=
  finish s (checkReply stn b crc s.hw)

/-- EMIT_DOWNLOAD_TIMEOUT (R469): An emitter download lease of 2 ms expires and the download fails with check 0x2A. -/
def execEmitDownloadTimeout (stn : StationNo) (s : State) : Host.Outcome State Fault Refusal :=
  finish s (emitDownloadTimeout stn s.hw)

/-- CEIL_UW_WRITE (R183): A presence-gated write of CEIL_UW is stored and sent to the head at once. -/
def execCeilUwWrite (m : Master) (stn : StationNo) (v : BitVec 16) (s : State) : Host.Outcome State Fault Refusal :=
  finish s (ceilUwWrite m stn v s.hw)

/-- DEAD_CLR (R189): A write of EM_CTRL.DEAD_CLR is held until a gap on the station. -/
def execDeadClr (m : Master) (stn : StationNo) (s : State) : Host.Outcome State Fault Refusal :=
  finish s (deadClr m stn s.hw)

/-- DEAD_CLR_APPLY (R189): In a gap the dead-beam retest is requested from the head with DEAD_TEST. -/
def execDeadClrApply (stn : StationNo) (s : State) : Host.Outcome State Fault Refusal :=
  finish s (deadClrApply stn s.hw)

/-- CAL_EN_WRITE (R216): A write of EM_CTRL.CAL_EN sends CAL_CTRL to the head. -/
def execCalEnWrite (m : Master) (stn : StationNo) (v : Bool) (s : State) : Host.Outcome State Fault Refusal :=
  finish s (calEnWrite m stn v s.hw)

/-- BEAM_DEAD (R188): A BEAM_DEAD frame from the head marks a beam dead and counts the takeover. -/
def execBeamDead (stn : StationNo) (b : Fin 48) (s : State) : Host.Outcome State Fault Refusal :=
  finish s (beamDead stn b s.hw)

/-- EXPOSURE_LOST (R151): An EXPOSURE_LOST frame sets EXP_LOST and spoils the page with STREAM_FAULT. -/
def execExposureLost (stn : StationNo) (d : BitVec 20) (s : State) : Host.Outcome State Fault Refusal :=
  finish s (exposureLost stn d.toNat s.hw)

/-- CAL_MEAS (R183): A calibration measurement arrives; above CEIL_UW it drops LEN_s and sets MEAS_OVER. -/
def execCalMeas (stn : StationNo) (b : Fin 48) (step : Fin 16) (meas : BitVec 16) (s : State) : Host.Outcome State Fault Refusal :=
  finish s (calMeas stn b step meas s.hw)

/-- DEAD_RESULT (R189): A DEAD_RESULT frame marks retested beams live again from the next page. -/
def execDeadResult (stn : StationNo) (mask : BitVec 48) (s : State) : Host.Outcome State Fault Refusal :=
  finish s (deadResult stn mask s.hw)

/-- MEAS_OVER_CLEAR (R183): A W1C write clears HEALTH_STS.MEAS_OVER, lifting the hold on LEN_s for the station. -/
def execMeasOverClear (m : Master) (stn : StationNo) (s : State) : Host.Outcome State Fault Refusal :=
  finish s (measOverClear m stn s.hw)

end Sys2Proof.Machine
end

