-- ==== Sys2Proof/Machine/Dispatch.lean ====
section
/-! DEFINITION. The dispatch: one arm for each command of the opcode table. -/

namespace Sys2Proof.Machine

def exec (i : Instr) (s : State) : Host.Outcome State Fault Refusal :=
  match i with
  | .mainsOn vrms freq => Sys2Proof.Machine.execMainsOn vrms freq s
  | .bootImageSelect => Sys2Proof.Machine.execBootImageSelect s
  | .selfTestDone r => Sys2Proof.Machine.execSelfTestDone r s
  | .ready => Sys2Proof.Machine.execReady s
  | .moduleReset lowNs => Sys2Proof.Machine.execModuleReset lowNs s
  | .resetNRelease => Sys2Proof.Machine.execResetNRelease s
  | .interlockOpen ix => Sys2Proof.Machine.execInterlockOpen ix s
  | .interlockClose ix => Sys2Proof.Machine.execInterlockClose ix s
  | .estopOpen ix => Sys2Proof.Machine.execEstopOpen ix s
  | .estopClose ix => Sys2Proof.Machine.execEstopClose ix s
  | .coverEdge ix closed => Sys2Proof.Machine.execCoverEdge ix closed s
  | .commissionPress ms => Sys2Proof.Machine.execCommissionPress ms s
  | .sealClose => Sys2Proof.Machine.execSealClose s
  | .sealOpen => Sys2Proof.Machine.execSealOpen s
  | .presenceWindowExpire => Sys2Proof.Machine.execPresenceWindowExpire s
  | .presenceClose m => Sys2Proof.Machine.execPresenceClose m s
  | .contextReset x => Sys2Proof.Machine.execContextReset x s
  | .contextResetEnd c => Sys2Proof.Machine.execContextResetEnd c s
  | .pcieLinkDown => Sys2Proof.Machine.execPcieLinkDown s
  | .pcieLinkUp speed width flit => Sys2Proof.Machine.execPcieLinkUp speed width flit s
  | .vfEnable vf f => Sys2Proof.Machine.execVfEnable vf f s
  | .unsupportedRequest c off w1 r => Sys2Proof.Machine.execUnsupportedRequest c off w1 r s
  | .w0RegisterWrite m x w => Sys2Proof.Machine.execW0RegisterWrite m x w s
  | .w0UnmappedAccess m a write => Sys2Proof.Machine.execW0UnmappedAccess m a write s
  | .viewRead c off n uncorr => Sys2Proof.Machine.execViewRead c off n uncorr s
  | .viewWrite c off bytes => Sys2Proof.Machine.execViewWrite c off bytes s
  | .atomicOp c off wide k => Sys2Proof.Machine.execAtomicOp c off wide k s
  | .w1TableWrite m off bytes => Sys2Proof.Machine.execW1TableWrite m off bytes s
  | .latchedLoRead m x => Sys2Proof.Machine.execLatchedLoRead m x s
  | .chPosRead m c => Sys2Proof.Machine.execChPosRead m c s
  | .mbusUndervoltage vCap => Sys2Proof.Machine.execMbusUndervoltage vCap s
  | .mbusOvervoltage vCap => Sys2Proof.Machine.execMbusOvervoltage vCap s
  | .supplyPhaseFail p => Sys2Proof.Machine.execSupplyPhaseFail p s
  | .encSupplyOverload c => Sys2Proof.Machine.execEncSupplyOverload c s
  | .timeSet m => Sys2Proof.Machine.execTimeSet m s
  | .slewReqWrite m v => Sys2Proof.Machine.execSlewReqWrite m v s
  | .slewComplete => Sys2Proof.Machine.execSlewComplete s
  | .tcxoLost => Sys2Proof.Machine.execTcxoLost s
  | .surfStale stn => Sys2Proof.Machine.execSurfStale stn s
  | .tofGo m mask t0 => Sys2Proof.Machine.execTofGo m mask t0 s
  | .tofComplete => Sys2Proof.Machine.execTofComplete s
  | .tofDeadline stn d => Sys2Proof.Machine.execTofDeadline stn d s
  | .submit m idx => Sys2Proof.Machine.execSubmit m idx s
  | .planeReady m idx stn => Sys2Proof.Machine.execPlaneReady m idx stn s
  | .withdraw m idx => Sys2Proof.Machine.execWithdraw m idx s
  | .submitProcess readOk => Sys2Proof.Machine.execSubmitProcess readOk s
  | .planeVerify => Sys2Proof.Machine.execPlaneVerify s
  | .planeVerifyDone readOk => Sys2Proof.Machine.execPlaneVerifyDone readOk s
  | .withdrawProcess => Sys2Proof.Machine.execWithdrawProcess s
  | .stackLost ix => Sys2Proof.Machine.execStackLost ix s
  | .slotDue => Sys2Proof.Machine.execSlotDue s
  | .gapBoundary => Sys2Proof.Machine.execGapBoundary s
  | .gradeChangeApply => Sys2Proof.Machine.execGradeChangeApply s
  | .gtBankSwitch m => Sys2Proof.Machine.execGtBankSwitch m s
  | .gtBankApply => Sys2Proof.Machine.execGtBankApply s
  | .forecastEval u => Sys2Proof.Machine.execForecastEval u s
  | .forecastStepDown => Sys2Proof.Machine.execForecastStepDown s
  | .forecastEnClear m => Sys2Proof.Machine.execForecastEnClear m s
  | .ringCfgWrite m c log2 en => Sys2Proof.Machine.execRingCfgWrite m c log2 en s
  | .billetDecodeDone stn d x => Sys2Proof.Machine.execBilletDecodeDone stn d x s
  | .billetRefetchDone stn d x => Sys2Proof.Machine.execBilletRefetchDone stn d x s
  | .bandFillStart stn => Sys2Proof.Machine.execBandFillStart stn s
  | .prefillStart stn => Sys2Proof.Machine.execPrefillStart stn s
  | .encJobSubmit m idx => Sys2Proof.Machine.execEncJobSubmit m idx s
  | .encJobStart e => Sys2Proof.Machine.execEncJobStart e s
  | .encBilletDone e readOk => Sys2Proof.Machine.execEncBilletDone e readOk s
  | .encFault e => Sys2Proof.Machine.execEncFault e s
  | .encLeaseExpiry e => Sys2Proof.Machine.execEncLeaseExpiry e s
  | .lineFinish stn t corrected mem => Sys2Proof.Machine.execLineFinish stn t corrected mem s
  | .lineLate stn => Sys2Proof.Machine.execLineLate stn s
  | .wbankSwitch m stn => Sys2Proof.Machine.execWbankSwitch m stn s
  | .wbankCancel m stn => Sys2Proof.Machine.execWbankCancel m stn s
  | .sbankSwitch m stn => Sys2Proof.Machine.execSbankSwitch m stn s
  | .sbankCancel m stn => Sys2Proof.Machine.execSbankCancel m stn s
  | .bankValidateDone stn b => Sys2Proof.Machine.execBankValidateDone stn b s
  | .polyIndexEdge stn => Sys2Proof.Machine.execPolyIndexEdge stn s
  | .planRun stn k => Sys2Proof.Machine.execPlanRun stn k s
  | .swathEnClear m stn => Sys2Proof.Machine.execSwathEnClear m stn s
  | .bdSos stn e => Sys2Proof.Machine.execBdSos stn e s
  | .bdEos stn e => Sys2Proof.Machine.execBdEos stn e s
  | .bdMiss stn => Sys2Proof.Machine.execBdMiss stn s
  | .pllRelockDone stn => Sys2Proof.Machine.execPllRelockDone stn s
  | .sclkStart stn => Sys2Proof.Machine.execSclkStart stn s
  | .sclkEnWrite m stn v => Sys2Proof.Machine.execSclkEnWrite m stn v s
  | .syspllUnlock => Sys2Proof.Machine.execSyspllUnlock s
  | .corepllUnlock => Sys2Proof.Machine.execCorepllUnlock s
  | .serdespllUnlock ix => Sys2Proof.Machine.execSerdespllUnlock ix s
  | .clkMon => Sys2Proof.Machine.execClkMon s
  | .ebankSwitch m stn => Sys2Proof.Machine.execEbankSwitch m stn s
  | .ebankCancel m stn => Sys2Proof.Machine.execEbankCancel m stn s
  | .emitValidateDone stn => Sys2Proof.Machine.execEmitValidateDone stn s
  | .checkReply stn b crc => Sys2Proof.Machine.execCheckReply stn b crc s
  | .emitDownloadTimeout stn => Sys2Proof.Machine.execEmitDownloadTimeout stn s
  | .ceilUwWrite m stn v => Sys2Proof.Machine.execCeilUwWrite m stn v s
  | .deadClr m stn => Sys2Proof.Machine.execDeadClr m stn s
  | .deadClrApply stn => Sys2Proof.Machine.execDeadClrApply stn s
  | .calEnWrite m stn v => Sys2Proof.Machine.execCalEnWrite m stn v s
  | .beamDead stn b => Sys2Proof.Machine.execBeamDead stn b s
  | .exposureLost stn d => Sys2Proof.Machine.execExposureLost stn d s
  | .calMeas stn b step meas => Sys2Proof.Machine.execCalMeas stn b step meas s
  | .headStatus stn param => Sys2Proof.Machine.execHeadStatus stn param s
  | .headStatusTimeout stn => Sys2Proof.Machine.execHeadStatusTimeout stn s
  | .regReply stn f => Sys2Proof.Machine.execRegReply stn f s
  | .deadResult stn mask => Sys2Proof.Machine.execDeadResult stn mask s
  | .ivinaViolationRx l reason ch seq detail => Sys2Proof.Machine.execIvinaViolationRx l reason ch seq detail s
  | .ivinaBadFrame l reason ch seq detail => Sys2Proof.Machine.execIvinaBadFrame l reason ch seq detail s
  | .ivinaReliableFrame l ch seq => Sys2Proof.Machine.execIvinaReliableFrame l ch seq s
  | .ivinaAck l ch seq => Sys2Proof.Machine.execIvinaAck l ch seq s
  | .ivinaResendTimeout l ch => Sys2Proof.Machine.execIvinaResendTimeout l ch s
  | .ivinaTs1 l k m => Sys2Proof.Machine.execIvinaTs1 l k m s
  | .ivinaTs2 l k m => Sys2Proof.Machine.execIvinaTs2 l k m s
  | .ivinaTs3 l k m => Sys2Proof.Machine.execIvinaTs3 l k m s
  | .ivinaDetectTimeout l k => Sys2Proof.Machine.execIvinaDetectTimeout l k s
  | .ivinaNegotiateTimeout l k => Sys2Proof.Machine.execIvinaNegotiateTimeout l k s
  | .ivinaConfirmTimeout l k => Sys2Proof.Machine.execIvinaConfirmTimeout l k s
  | .ivinaFailedTimeout l k => Sys2Proof.Machine.execIvinaFailedTimeout l k s
  | .alignmentCodeword l k am fields skew corrected => Sys2Proof.Machine.execAlignmentCodeword l k am fields skew corrected s
  | .alignmentMissing l k => Sys2Proof.Machine.execAlignmentMissing l k s
  | .laneSignalLoss l k => Sys2Proof.Machine.execLaneSignalLoss l k s
  | .codewordUncorrectable l k w => Sys2Proof.Machine.execCodewordUncorrectable l k w s
  | .timeSync stn u => Sys2Proof.Machine.execTimeSync stn u s
  | .ivRetrain m l => Sys2Proof.Machine.execIvRetrain m l s
  | .ivEnWrite m stn en lanes => Sys2Proof.Machine.execIvEnWrite m stn en lanes s
  | .lenEnWrite m stn v => Sys2Proof.Machine.execLenEnWrite m stn v s
  | .encoderCount c a b t => Sys2Proof.Machine.execEncoderCount c a b t s
  | .encoderIllegal e => Sys2Proof.Machine.execEncoderIllegal e s
  | .encoderSignalLoss c line => Sys2Proof.Machine.execEncoderSignalLoss c line s
  | .encoderIndex c e => Sys2Proof.Machine.execEncoderIndex c e s
  | .bissCycle c => Sys2Proof.Machine.execBissCycle c s
  | .bissFrame c t started released position nE nW crc delay => Sys2Proof.Machine.execBissFrame c t started released position nE nW crc delay s
  | .speedUpdate c t => Sys2Proof.Machine.execSpeedUpdate c t s
  | .encoderStall c => Sys2Proof.Machine.execEncoderStall c s
  | .divOutputEdge d t => Sys2Proof.Machine.execDivOutputEdge d t s
  | .divCfgWrite m d w => Sys2Proof.Machine.execDivCfgWrite m d w s
  | .encoderErrClear m c illegal biss => Sys2Proof.Machine.execEncoderErrClear m c illegal biss s
  | .axisEnWrite m n v => Sys2Proof.Machine.execAxisEnWrite m n v s
  | .alignReq m n => Sys2Proof.Machine.execAlignReq m n s
  | .axisPeriodStart n codeA codeB zero vbus obsTheta obsSpeed t => Sys2Proof.Machine.execAxisPeriodStart n codeA codeB zero vbus obsTheta obsSpeed t s
  | .handoverDone n => Sys2Proof.Machine.execHandoverDone n s
  | .catchMeasureDone n speed theta amp => Sys2Proof.Machine.execCatchMeasureDone n speed theta amp s
  | .catchWaitRemeasure n speed theta amp => Sys2Proof.Machine.execCatchWaitRemeasure n speed theta amp s
  | .catchWaitTimeout n => Sys2Proof.Machine.execCatchWaitTimeout n s
  | .prechargeDone n => Sys2Proof.Machine.execPrechargeDone n s
  | .prechargeFail n => Sys2Proof.Machine.execPrechargeFail n s
  | .alignDone n => Sys2Proof.Machine.execAlignDone n s
  | .handoverTimeout n => Sys2Proof.Machine.execHandoverTimeout n s
  | .observerLoss n => Sys2Proof.Machine.execObserverLoss n s
  | .govSilent n => Sys2Proof.Machine.execGovSilent n s
  | .polyStartRetry n => Sys2Proof.Machine.execPolyStartRetry n s
  | .phaseEngage n => Sys2Proof.Machine.execPhaseEngage n s
  | .polyCatchRestore mask => Sys2Proof.Machine.execPolyCatchRestore mask s
  | .catchSetStore n => Sys2Proof.Machine.execCatchSetStore n s
  | .shortTrip x l side gross blanked => Sys2Proof.Machine.execShortTrip x l side gross blanked s
  | .bootUvlo x b => Sys2Proof.Machine.execBootUvlo x b s
  | .vgdUvlo x mv => Sys2Proof.Machine.execVgdUvlo x mv s
  | .bankOffClear x => Sys2Proof.Machine.execBankOffClear x s
  | .bridgeClr m x mask => Sys2Proof.Machine.execBridgeClr m x mask s
  | .stepEnWrite m n v => Sys2Proof.Machine.execStepEnWrite m n v s
  | .stepPrechargeDone n => Sys2Proof.Machine.execStepPrechargeDone n s
  | .stepPrechargeFail n => Sys2Proof.Machine.execStepPrechargeFail n s
  | .stopNow m n => Sys2Proof.Machine.execStopNow m n s
  | .targetWrite m n v => Sys2Proof.Machine.execTargetWrite m n v s
  | .vTgtWrite m n v => Sys2Proof.Machine.execVTgtWrite m n v s
  | .modeWrite m n v => Sys2Proof.Machine.execModeWrite m n v s
  | .posSet m n v => Sys2Proof.Machine.execPosSet m n v s
  | .motionTick t => Sys2Proof.Machine.execMotionTick t s
  | .chopPeriodStart n iA iB vbus t => Sys2Proof.Machine.execChopPeriodStart n iA iB vbus t s
  | .holdCurrentReduce n => Sys2Proof.Machine.execHoldCurrentReduce n s
  | .grpCfgWrite m g w => Sys2Proof.Machine.execGrpCfgWrite m g w s
  | .grpGo m g => Sys2Proof.Machine.execGrpGo m g s
  | .rdvGo m r => Sys2Proof.Machine.execRdvGo m r s
  | .rdvAbort m r => Sys2Proof.Machine.execRdvAbort m r s
  | .govSample j => Sys2Proof.Machine.execGovSample j s
  | .govEvalDone g => Sys2Proof.Machine.execGovEvalDone g s
  | .govDeadlineMiss j => Sys2Proof.Machine.execGovDeadlineMiss j s
  | .govSlotEn m j => Sys2Proof.Machine.execGovSlotEn m j s
  | .govSlotDisable m j => Sys2Proof.Machine.execGovSlotDisable m j s
  | .govBankSwitch m j => Sys2Proof.Machine.execGovBankSwitch m j s
  | .govValidateDone j => Sys2Proof.Machine.execGovValidateDone j s
  | .govEngineFault g => Sys2Proof.Machine.execGovEngineFault g s
  | .gvStatClr m g => Sys2Proof.Machine.execGvStatClr m g s
  | .hvPeriodStart c => Sys2Proof.Machine.execHvPeriodStart c s
  | .hvConversion c vs is => Sys2Proof.Machine.execHvConversion c vs is s
  | .hvOpenTest c current pass => Sys2Proof.Machine.execHvOpenTest c current pass s
  | .hvClr m ix mask => Sys2Proof.Machine.execHvClr m ix mask s
  | .ptBankSwitch m => Sys2Proof.Machine.execPtBankSwitch m s
  | .ptBankApply => Sys2Proof.Machine.execPtBankApply s
  | .hvRefRamp c us => Sys2Proof.Machine.execHvRefRamp c us s
  | .zeroCross rising t => Sys2Proof.Machine.execZeroCross rising t s
  | .lampGrant rising => Sys2Proof.Machine.execLampGrant rising s
  | .lampShort ix => Sys2Proof.Machine.execLampShort ix s
  | .lampHalfCycleEnd k peak rms => Sys2Proof.Machine.execLampHalfCycleEnd k peak rms s
  | .mainsSenseLost => Sys2Proof.Machine.execMainsSenseLost s
  | .lampEnWrite m k v => Sys2Proof.Machine.execLampEnWrite m k v s
  | .lockClr m mask => Sys2Proof.Machine.execLockClr m mask s
  | .fusClr m mask => Sys2Proof.Machine.execFusClr m mask s
  | .tinTimeout t => Sys2Proof.Machine.execTinTimeout t s
  | .leatCycle t time => Sys2Proof.Machine.execLeatCycle t time s
  | .leatHello t u verMin verMax vendor w => Sys2Proof.Machine.execLeatHello t u verMin verMax vendor w s
  | .leatStatus t u ack lo hi => Sys2Proof.Machine.execLeatStatus t u ack lo hi s
  | .leatEdge t u seq ack input level low arrival => Sys2Proof.Machine.execLeatEdge t u seq ack input level low arrival s
  | .leatValue t u ack idx fault v low => Sys2Proof.Machine.execLeatValue t u ack idx fault v low s
  | .leatReply t u seq ack lo hi => Sys2Proof.Machine.execLeatReply t u seq ack lo hi s
  | .leatViolationRx t u ack reason x => Sys2Proof.Machine.execLeatViolationRx t u ack reason x s
  | .leatBadFrame t n reason seq ftype => Sys2Proof.Machine.execLeatBadFrame t n reason seq ftype s
  | .leatCmdFail t n => Sys2Proof.Machine.execLeatCmdFail t n s
  | .leatNodeSilent t n => Sys2Proof.Machine.execLeatNodeSilent t n s
  | .leatLineError t => Sys2Proof.Machine.execLeatLineError t s
  | .cmdPush m t => Sys2Proof.Machine.execCmdPush m t s
  | .rptPop m t => Sys2Proof.Machine.execRptPop m t s
  | .ltEnWrite m t v => Sys2Proof.Machine.execLtEnWrite m t v s
  | .sheetOpen m n d k => Sys2Proof.Machine.execSheetOpen m n d k s
  | .sheetEnWrite m v => Sys2Proof.Machine.execSheetEnWrite m v s
  | .checkpointMissed n ix trail => Sys2Proof.Machine.execCheckpointMissed n ix trail s
  | .jamReq m => Sys2Proof.Machine.execJamReq m s
  | .jamClr m => Sys2Proof.Machine.execJamClr m s
  | .thermalSample raw bad power => Sys2Proof.Machine.execThermalSample raw bad power s
  | .sensorBroken ix => Sys2Proof.Machine.execSensorBroken ix s
  | .thermalRateEval => Sys2Proof.Machine.execThermalRateEval s
  | .thStepTimer => Sys2Proof.Machine.execThStepTimer s
  | .thClearTimer => Sys2Proof.Machine.execThClearTimer s
  | .cpSpread => Sys2Proof.Machine.execCpSpread s
  | .thermalRestart => Sys2Proof.Machine.execThermalRestart s
  | .tempComp => Sys2Proof.Machine.execTempComp s
  | .sensorRejudge m board mask => Sys2Proof.Machine.execSensorRejudge m board mask s
  | .supervisorFault => Sys2Proof.Machine.execSupervisorFault s
  | .sluiceEn => Sys2Proof.Machine.execSluiceEn s
  | .sluiceDis => Sys2Proof.Machine.execSluiceDis s
  | .sluiceDisDone mv timedOut confirmed us => Sys2Proof.Machine.execSluiceDisDone mv timedOut confirmed us s
  | .sluiceWait => Sys2Proof.Machine.execSluiceWait s
  | .sluiceWaitDone => Sys2Proof.Machine.execSluiceWaitDone s
  | .sluiceCheck => Sys2Proof.Machine.execSluiceCheck s
  | .sluiceCheckPass mv vIn vCap => Sys2Proof.Machine.execSluiceCheckPass mv vIn vCap s
  | .sluiceCheckTimeout => Sys2Proof.Machine.execSluiceCheckTimeout s
  | .sluiceJump => Sys2Proof.Machine.execSluiceJump s
  | .sluiceLog => Sys2Proof.Machine.execSluiceLog s
  | .sluiceEnd => Sys2Proof.Machine.execSluiceEnd s
  | .sluiceHaltRetry => Sys2Proof.Machine.execSluiceHaltRetry s
  | .intRailFault r => Sys2Proof.Machine.execIntRailFault r s
  | .railRestart => Sys2Proof.Machine.execRailRestart s
  | .extRailFault r => Sys2Proof.Machine.execExtRailFault r s
  | .powerFailWarn vrms noZeroCross => Sys2Proof.Machine.execPowerFailWarn vrms noZeroCross s
  | .mainsReturn vrms freq => Sys2Proof.Machine.execMainsReturn vrms freq s
  | .stopReq m => Sys2Proof.Machine.execStopReq m s
  | .progStore m => Sys2Proof.Machine.execProgStore m s
  | .railCmdGo m r on => Sys2Proof.Machine.execRailCmdGo m r on s
  | .logPush m => Sys2Proof.Machine.execLogPush m s
  | .logUnitWrite readBack => Sys2Proof.Machine.execLogUnitWrite readBack s
  | .logUnitLeaseExpiry => Sys2Proof.Machine.execLogUnitLeaseExpiry s
  | .mbusDischarged vCap => Sys2Proof.Machine.execMbusDischarged vCap s
  | .deferredTestRun => Sys2Proof.Machine.execDeferredTestRun s
  | .deferTimeout => Sys2Proof.Machine.execDeferTimeout s
  | .dmaGo m k w => Sys2Proof.Machine.execDmaGo m k w s
  | .dmaHostCompletion k r => Sys2Proof.Machine.execDmaHostCompletion k r s
  | .dmaDone k badUnit => Sys2Proof.Machine.execDmaDone k badUnit s
  | .dmaAbort m k => Sys2Proof.Machine.execDmaAbort m k s
  | .dmaHostTimeout k => Sys2Proof.Machine.execDmaHostTimeout k s
  | .rowLeaseExpiry => Sys2Proof.Machine.execRowLeaseExpiry s
  | .atomicLockExpiry m => Sys2Proof.Machine.execAtomicLockExpiry m s
  | .mbWrite m n w => Sys2Proof.Machine.execMbWrite m n w s
  | .mbRead m n => Sys2Proof.Machine.execMbRead m n s
  | .mbExpire n => Sys2Proof.Machine.execMbExpire n s
  | .hello n => Sys2Proof.Machine.execHello n s
  | .ping n => Sys2Proof.Machine.execPing n s
  | .status n => Sys2Proof.Machine.execStatus n s
  | .pressUp n => Sys2Proof.Machine.execPressUp n s
  | .pressUpDone ok stations detail => Sys2Proof.Machine.execPressUpDone ok stations detail s
  | .pressStop n => Sys2Proof.Machine.execPressStop n s
  | .pressStopDone => Sys2Proof.Machine.execPressStopDone s
  | .moduleResetService n => Sys2Proof.Machine.execModuleResetService n s
  | .resetServiceDelay => Sys2Proof.Machine.execResetServiceDelay s
  | .runTest n gapFits => Sys2Proof.Machine.execRunTest n gapFits s
  | .fwLoad n => Sys2Proof.Machine.execFwLoad n s
  | .fwLoadDone readBackOk => Sys2Proof.Machine.execFwLoadDone readBackOk s
  | .bindStore n => Sys2Proof.Machine.execBindStore n s
  | .logMark n => Sys2Proof.Machine.execLogMark n s
  | .deferList n => Sys2Proof.Machine.execDeferList n s
  | .badOpcodeCommand n => Sys2Proof.Machine.execBadOpcodeCommand n s
  | .pairMismatch p us10 => Sys2Proof.Machine.execPairMismatch p us10 s
  | .taskCheckpoint c => Sys2Proof.Machine.execTaskCheckpoint c s
  | .kwdExpire => Sys2Proof.Machine.execKwdExpire s
  | .watchdogWarn p => Sys2Proof.Machine.execWatchdogWarn p s
  | .peerHello p verMin verMax m digest => Sys2Proof.Machine.execPeerHello p verMin verMax m digest s
  | .accept p m version => Sys2Proof.Machine.execAccept p m version s
  | .heartbeat p m grade exposing jammed digest exchange members excluded refused => Sys2Proof.Machine.execHeartbeat p m grade exposing jammed digest exchange members excluded refused s
  | .heartbeatTimer => Sys2Proof.Machine.execHeartbeatTimer s
  | .heartbeatLoss p m => Sys2Proof.Machine.execHeartbeatLoss p m s
  | .slotOfferTimer due => Sys2Proof.Machine.execSlotOfferTimer due s
  | .slotOffer p n grade pHead pOwn due => Sys2Proof.Machine.execSlotOffer p n grade pHead pOwn due s
  | .slotReady p m n ok reason job => Sys2Proof.Machine.execSlotReady p m n ok reason job s
  | .slotGo p n go => Sys2Proof.Machine.execSlotGo p n go s
  | .slotDrop p m n => Sys2Proof.Machine.execSlotDrop p m n s
  | .peerPageSpoil p m n reason => Sys2Proof.Machine.execPeerPageSpoil p m n reason s
  | .release p n => Sys2Proof.Machine.execRelease p n s
  | .grade p g last => Sys2Proof.Machine.execGrade p g last s
  | .peerJam p m cause => Sys2Proof.Machine.execPeerJam p m cause s
  | .memWrite p off bytes => Sys2Proof.Machine.execMemWrite p off bytes s
  | .memRead p off len => Sys2Proof.Machine.execMemRead p off len s
  | .readReply p param bytes => Sys2Proof.Machine.execReadReply p param bytes s
  | .peerSyncTimer u => Sys2Proof.Machine.execPeerSyncTimer u s
  | .peerSync p t1 t2 u => Sys2Proof.Machine.execPeerSync p t1 t2 u s
  | .delayReq p t4 => Sys2Proof.Machine.execDelayReq p t4 s
  | .delayResp p t4 => Sys2Proof.Machine.execDelayResp p t4 s
  | .timeExchangeLost => Sys2Proof.Machine.execTimeExchangeLost s
  | .feRearm m page => Sys2Proof.Machine.execFeRearm m page s
  | .fltInjArm m page checker target => Sys2Proof.Machine.execFltInjArm m page checker target s
  | .evtMaskWrite m page mask => Sys2Proof.Machine.execEvtMaskWrite m page mask s
  | .fantailResume m => Sys2Proof.Machine.execFantailResume m s
  | .fantailEnWrite m v => Sys2Proof.Machine.execFantailEnWrite m v s
  | .ftFreqWrite m v => Sys2Proof.Machine.execFtFreqWrite m v s
  | .fabricTimeout m a write => Sys2Proof.Machine.execFabricTimeout m a write s
  | .blockWatchdog page => Sys2Proof.Machine.execBlockWatchdog page s
  | .ledgerCheck ok => Sys2Proof.Machine.execLedgerCheck ok s
  | .fabricParityError page => Sys2Proof.Machine.execFabricParityError page s
  | .pageEnWrite m page v => Sys2Proof.Machine.execPageEnWrite m page v s
  | .freezeWrite m page v => Sys2Proof.Machine.execFreezeWrite m page v s
  | .blockReset m page => Sys2Proof.Machine.execBlockReset m page s
  | .blockResetEnd page => Sys2Proof.Machine.execBlockResetEnd page s
  | .commit m page => Sys2Proof.Machine.execCommit m page s
  | .commitApply page u => Sys2Proof.Machine.execCommitApply page u s
  | .pageLock m page => Sys2Proof.Machine.execPageLock m page s
  | .mbusUvClear vCap => Sys2Proof.Machine.execMbusUvClear vCap s
  | .mbusOvClear vCap => Sys2Proof.Machine.execMbusOvClear vCap s
  | .mainsRange vrms => Sys2Proof.Machine.execMainsRange vrms s
  | .hwfaultClear c supply => Sys2Proof.Machine.execHwfaultClear c supply s
  | .pwmFault c => Sys2Proof.Machine.execPwmFault c s
  | .aonFault => Sys2Proof.Machine.execAonFault s
  | .creditCell l ch cnt => Sys2Proof.Machine.execCreditCell l ch cnt s
  | .headRxOkTimeout stn => Sys2Proof.Machine.execHeadRxOkTimeout stn s
  | .extRailPowerGood r mv vIn vCap => Sys2Proof.Machine.execExtRailPowerGood r mv vIn vCap s
  | .surfStsClear m stn mask => Sys2Proof.Machine.execSurfStsClear m stn mask s
  | .measOverClear m stn => Sys2Proof.Machine.execMeasOverClear m stn s
  | .hvEnWrite m c v => Sys2Proof.Machine.execHvEnWrite m c v s
  | .encoderEnWrite m c v => Sys2Proof.Machine.execEncoderEnWrite m c v s
  | .prEnWrite m p en lanes => Sys2Proof.Machine.execPrEnWrite m p en lanes s

end Sys2Proof.Machine
end

