-- ==== Sys2Proof/Machine/Step.lean ====
section
/-! DEFINITION. The step: the command at the front of the queue, or a cycle of the clock. -/

namespace Sys2Proof.Machine

/-- What a step does with no command waiting: one cycle of the 1 GHz system clock (R42). -/
def idle (s : State) : State := s.withHw s.hw.tick

/-- One step: the command at the front of the queue is taken and executed with the rest of the queue; on an empty queue the clock runs. -/
def step (s : State) : Host.Outcome State Fault Refusal :=
  match s.pending with
  | [] => .next (idle s)
  | c :: rest => exec c { s with pending := rest }

/-- The state with the command that a word spells at the front of its queue; unchanged where the word spells none. -/
def State.withFetchWord (s : State) (nbits w : Nat) : State :=
  match decodeTableWord nbits w with
  | some c => { s with pending := c :: s.pending }
  | none => s

end Sys2Proof.Machine
end

