-- ==== Sys2Proof/Safety.lean ====
section
/-! DEFINITION. The terms the statements use: what a safe state is, when a register write is taken, and the state a command leaves. -/

namespace Sys2Proof.Machine

/-- Every laser enable is high exactly while its conditions hold (R33, R34, R183, R223), and no follow-up of a step is left undone. -/
def Hw.Safe (h : Hw) : Prop := (∀ s, s < 8 → bitAt h.pins.len s = h.lenHolds s) ∧ h.due = []

/-- A write of the register at W0 address a by master m is taken: the page is served, the master acts and may write it (R382, R398,
R411), and the block of a block register answers (R465). -/
def Hw.takes (h : Hw) (m : Master) (a : Nat) : Bool :=
  h.pageServed m (pageBase a) && h.masterActs m && h.mayWrite m a && (decide (pageOff a < 0x80) || h.blockAnswers (pageBase a))

/-- The hardware g is h but for its registers, what the module has sent or holds back in the MSI-X pending bits, what is left for the end of
the step, and the account of the raises of this clock. -/
def Says (h g : Hw) : Prop :=
  ∃ r x d rs t c m, g = { h with regs := r, sent := x, due := d, raised := rs, raisedAt := t, capAt := c, msixFns := m }

/-- The state a command leaves: its effect h, and the follow-ups of the step done. -/
def State.settled (s : State) (h : Hw) : State := s.withHw h.settle

end Sys2Proof.Machine
end

