-- ==== Sys2Proof/WellFormed.lean ====
section
/-! DEFINITION. Which commands are well formed: operands that a link or a bus can carry. An ill-formed command names a lane that its
link does not have, or a value that its field cannot hold; every other operand is bounded by its type. -/

namespace Sys2Proof.Machine

/-- A link with a head has the lanes A, B and P (R193); a peer port has A and B (R437). -/
def LinkId.hasLane (l : LinkId) (k : Fin 3) : Bool :=
  match l with
  | .head _ => true
  | .peer _ => decide (k.val < 2)

/-- The fields of a TS record fit their widths (R202). -/
def TsRec.fits (t : TsRec) : Bool :=
  decide (t.tsType < 256 ∧ t.laneId < 256 ∧ t.station < 256 ∧ t.verMin < 256 ∧ t.verMax < 256 ∧ t.verAgreed < 256 ∧ t.reason < 256
    ∧ t.caps < 256 ∧ t.crTable < 65536 ∧ t.crMgmt < 65536 ∧ t.lineBufs < 65536 ∧ t.tablesValid < 256 ∧ t.vendor < 65536
    ∧ t.model < 65536 ∧ t.serial < 2 ^ 64 ∧ t.fw < 2 ^ 32)

/-- The fields of a frame header fit their widths (R207). -/
def Frame.fits (f : Frame) : Bool :=
  decide (f.ch < 8 ∧ f.ftype < 256 ∧ f.flags < 256 ∧ f.seq < 65536 ∧ f.ack < 65536 ∧ f.param < 2 ^ 64 ∧ f.body.length < 2 ^ 18)

/-- The operands of an AtomicOp fit its width (R396). -/
def AtomicKind.fits (k : AtomicKind) (wide : Bool) : Bool :=
  let top := if wide then 2 ^ 64 else 2 ^ 32
  match k with
  | .fetchAdd v | .swap v => decide (v < top)
  | .cas x y => decide (x < top ∧ y < top)

/-- A frame body has a length that its header can state: 16 bits in units of 4 bytes (R207). -/
def bodyFits (bytes : List Byte) : Bool := decide (bytes.length < 2 ^ 18)

end Sys2Proof.Machine

namespace Sys2Proof
open Sys2Proof.Machine

/-- Whether a command is well formed. -/
def Instr.wf (c : Instr) : Bool :=
  match c with
  | .atomicOp _ _ wide k => k.fits wide
  | .regReply _ f => f.fits
  | .ivinaTs1 l k _ => l.hasLane k
  | .ivinaTs2 l k _ => l.hasLane k
  | .ivinaTs3 l k _ => l.hasLane k
  | .ivinaDetectTimeout l k => l.hasLane k
  | .ivinaNegotiateTimeout l k => l.hasLane k
  | .ivinaConfirmTimeout l k => l.hasLane k
  | .ivinaFailedTimeout l k => l.hasLane k
  | .alignmentCodeword l k _ _ _ _ => l.hasLane k
  | .alignmentMissing l k => l.hasLane k
  | .laneSignalLoss l k => l.hasLane k
  | .codewordUncorrectable l k _ => l.hasLane k
  | .memWrite _ _ bytes => bodyFits bytes
  | .readReply _ _ bytes => bodyFits bytes
  | .mainsOn .. | .bootImageSelect | .selfTestDone .. | .ready | .moduleReset .. | .resetNRelease | .interlockOpen ..
  | .interlockClose .. | .estopOpen .. | .estopClose .. | .coverEdge .. | .commissionPress .. | .sealClose | .sealOpen
  | .presenceWindowExpire | .presenceClose .. | .contextReset .. | .contextResetEnd .. | .pcieLinkDown | .pcieLinkUp ..
  | .vfEnable .. | .unsupportedRequest .. | .w0RegisterWrite .. | .w0UnmappedAccess .. | .viewRead .. | .viewWrite ..
  | .w1TableWrite .. | .latchedLoRead .. | .chPosRead .. | .mbusUndervoltage .. | .mbusOvervoltage .. | .supplyPhaseFail ..
  | .encSupplyOverload .. | .timeSet .. | .slewReqWrite .. | .slewComplete | .tcxoLost | .surfStale .. | .tofGo .. | .tofComplete
  | .tofDeadline .. | .submit .. | .planeReady .. | .withdraw .. | .submitProcess .. | .planeVerify | .planeVerifyDone ..
  | .withdrawProcess | .stackLost .. | .slotDue | .gapBoundary | .gradeChangeApply | .gtBankSwitch .. | .gtBankApply
  | .forecastEval .. | .forecastStepDown | .forecastEnClear .. | .ringCfgWrite .. | .billetDecodeDone .. | .billetRefetchDone ..
  | .bandFillStart .. | .prefillStart .. | .encJobSubmit .. | .encJobStart .. | .encBilletDone .. | .encFault ..
  | .encLeaseExpiry .. | .lineFinish .. | .lineLate .. | .wbankSwitch .. | .wbankCancel .. | .sbankSwitch .. | .sbankCancel ..
  | .bankValidateDone .. | .polyIndexEdge .. | .planRun .. | .swathEnClear .. | .bdSos .. | .bdEos .. | .bdMiss ..
  | .pllRelockDone .. | .sclkStart .. | .sclkEnWrite .. | .syspllUnlock | .corepllUnlock | .serdespllUnlock .. | .clkMon
  | .ebankSwitch .. | .ebankCancel .. | .emitValidateDone .. | .checkReply .. | .emitDownloadTimeout .. | .ceilUwWrite ..
  | .deadClr .. | .deadClrApply .. | .calEnWrite .. | .beamDead .. | .exposureLost .. | .calMeas .. | .headStatus ..
  | .headStatusTimeout .. | .deadResult .. | .ivinaViolationRx .. | .ivinaBadFrame .. | .ivinaReliableFrame .. | .ivinaAck ..
  | .ivinaResendTimeout .. | .timeSync .. | .ivRetrain .. | .ivEnWrite .. | .lenEnWrite .. | .encoderCount .. | .encoderIllegal ..
  | .encoderSignalLoss .. | .encoderIndex .. | .bissCycle .. | .bissFrame .. | .speedUpdate .. | .encoderStall ..
  | .divOutputEdge .. | .divCfgWrite .. | .encoderErrClear .. | .axisEnWrite .. | .alignReq .. | .axisPeriodStart ..
  | .handoverDone .. | .catchMeasureDone .. | .catchWaitRemeasure .. | .catchWaitTimeout .. | .prechargeDone .. | .prechargeFail ..
  | .alignDone .. | .handoverTimeout .. | .observerLoss .. | .govSilent .. | .polyStartRetry .. | .phaseEngage ..
  | .polyCatchRestore .. | .catchSetStore .. | .shortTrip .. | .bootUvlo .. | .vgdUvlo .. | .bankOffClear .. | .bridgeClr ..
  | .stepEnWrite .. | .stepPrechargeDone .. | .stepPrechargeFail .. | .stopNow .. | .targetWrite .. | .vTgtWrite .. | .modeWrite ..
  | .posSet .. | .motionTick .. | .chopPeriodStart .. | .holdCurrentReduce .. | .grpCfgWrite .. | .grpGo .. | .rdvGo ..
  | .rdvAbort .. | .govSample .. | .govEvalDone .. | .govDeadlineMiss .. | .govSlotEn .. | .govSlotDisable .. | .govBankSwitch ..
  | .govValidateDone .. | .govEngineFault .. | .gvStatClr .. | .hvPeriodStart .. | .hvConversion .. | .hvOpenTest .. | .hvClr ..
  | .ptBankSwitch .. | .ptBankApply | .hvRefRamp .. | .zeroCross .. | .lampGrant .. | .lampShort .. | .lampHalfCycleEnd ..
  | .mainsSenseLost | .lampEnWrite .. | .lockClr .. | .fusClr .. | .tinTimeout .. | .leatCycle .. | .leatHello .. | .leatStatus ..
  | .leatEdge .. | .leatValue .. | .leatReply .. | .leatViolationRx .. | .leatBadFrame .. | .leatCmdFail .. | .leatNodeSilent ..
  | .leatLineError .. | .cmdPush .. | .rptPop .. | .ltEnWrite .. | .sheetOpen .. | .sheetEnWrite .. | .checkpointMissed ..
  | .jamReq .. | .jamClr .. | .thermalSample .. | .sensorBroken .. | .thermalRateEval | .thStepTimer | .thClearTimer | .cpSpread
  | .thermalRestart | .tempComp | .sensorRejudge .. | .supervisorFault | .sluiceEn | .sluiceDis | .sluiceDisDone .. | .sluiceWait
  | .sluiceWaitDone | .sluiceCheck | .sluiceCheckPass .. | .sluiceCheckTimeout | .sluiceJump | .sluiceLog | .sluiceEnd
  | .sluiceHaltRetry | .intRailFault .. | .railRestart | .extRailFault .. | .powerFailWarn .. | .mainsReturn .. | .stopReq ..
  | .progStore .. | .railCmdGo .. | .logPush .. | .logUnitWrite .. | .logUnitLeaseExpiry | .mbusDischarged .. | .deferredTestRun
  | .deferTimeout | .dmaGo .. | .dmaHostCompletion .. | .dmaDone .. | .dmaAbort .. | .dmaHostTimeout .. | .rowLeaseExpiry
  | .atomicLockExpiry .. | .mbWrite .. | .mbRead .. | .mbExpire .. | .hello .. | .ping .. | .status .. | .pressUp ..
  | .pressUpDone .. | .pressStop .. | .pressStopDone | .moduleResetService .. | .resetServiceDelay | .runTest .. | .fwLoad ..
  | .fwLoadDone .. | .bindStore .. | .logMark .. | .deferList .. | .badOpcodeCommand .. | .pairMismatch .. | .taskCheckpoint ..
  | .kwdExpire | .watchdogWarn .. | .peerHello .. | .accept .. | .heartbeat .. | .heartbeatTimer | .heartbeatLoss ..
  | .slotOfferTimer .. | .slotOffer .. | .slotReady .. | .slotGo .. | .slotDrop .. | .peerPageSpoil .. | .release .. | .grade ..
  | .peerJam .. | .memRead .. | .peerSyncTimer .. | .peerSync .. | .delayReq .. | .delayResp .. | .timeExchangeLost | .feRearm ..
  | .fltInjArm .. | .evtMaskWrite .. | .fantailResume .. | .fantailEnWrite .. | .ftFreqWrite .. | .fabricTimeout ..
  | .blockWatchdog .. | .ledgerCheck .. | .fabricParityError .. | .pageEnWrite .. | .freezeWrite .. | .blockReset ..
  | .blockResetEnd .. | .commit .. | .commitApply .. | .pageLock .. | .mbusUvClear .. | .mbusOvClear .. | .mainsRange ..
  | .hwfaultClear .. | .pwmFault .. | .aonFault | .creditCell .. | .headRxOkTimeout .. | .extRailPowerGood .. | .surfStsClear ..
  | .measOverClear .. | .hvEnWrite .. | .encoderEnWrite .. | .prEnWrite .. => true

end Sys2Proof
end

