-- ==== Sys2Proof/Certificates/Slice0/Obligations.lean ====
section
/-! DEFINITION. The statements for the provers: what a step and every command do, what they leave alone, and what holds in every state. -/

open Sys2Proof Sys2Proof.Machine

/-- A step takes the command at the front of the queue and executes it with the rest of the queue. A step of a state with
command c at the front of its queue is exec of c on that state with the rest of the queue. (95_what_each_step_holds.md) -/
def Obligations.StepRunsFrontCommand : Prop :=
  ∀ (s : State) (c : Instr), step { s with pending := c :: s.pending } = exec c s

/-- With no command waiting a step is one cycle of the 1 GHz clock. The model's choice (log entry 21): on an empty queue a step
runs PRESS_TIME, the Fantail output, the lanes of the links and the lamp outputs for one cycle, and answers a next state. It
brings no follow-up and moves nothing else: not the Millpond, the pages, the chain, the axes or the sheets, no output but the
lamps', and no register word but those of FANTAIL and the rebuild counters of the head links. (R42, R195, R322, R461) -/
def Obligations.EmptyQueueTicks : Prop :=
  ∀ h : Hw, step ⟨h, []⟩ = .next ⟨h.tick, []⟩ ∧ h.tick.due = h.due ∧ h.tick.mem = h.mem ∧ h.tick.headrace = h.headrace
    ∧ h.tick.chain = h.chain ∧ h.tick.axes = h.axes ∧ h.tick.sheets = h.sheets ∧ h.tick.pins = { h.pins with lamp := h.tick.pins.lamp }
    ∧ ∀ a, pageBase a ≠ pFANTAIL → (∀ k, k < 8 → a ≠ addrOf IVINA.REBUILT (pIVINA k) 0) → h.tick.word a = h.word a

/-- A cycle of the clock advances PRESS_TIME and its fraction by 1024 × (1 + e) and takes from the slew what it has applied. In
a powered module, PRESS_TIME and the 32-bit fraction together, in units of 2^-32 of a PRESS_TIME unit and modulo 2^96, advance
by 1024 × (2^32 + the clamped RATE_ADJ) and the part of the slew applied in the cycle; the slew loses that part, and while more
of it remains than one cycle applies, rate and slew together are the clamped sum of R42. That a step on an empty queue is a
cycle is the model's choice (log entry 21). (R42, R44) -/
def Obligations.TickAdvancesPressTime : Prop :=
  ∀ (h : Hw), h.boot.vaon = true → h.clk.frac < 2 ^ 32 →
    let rate := signed 32 (h.rd pTIME TIME.RATE_ADJ)
    let d := slewPart rate h.clk.slew
    let c := (idle ⟨h, []⟩).hw.clk
    (c.time.toNat * 2 ^ 32 + c.frac) % 2 ^ 96
        = (h.clk.time.toNat * 2 ^ 32 + h.clk.frac + (1024 * (4294967296 + rateClamp rate) + d).toNat) % 2 ^ 96
      ∧ c.frac < 2 ^ 32 ∧ c.slew = h.clk.slew - d
      ∧ (1024 * 85899 ≤ h.clk.slew → d + 1024 * rateClamp rate = 1024 * rateClamp (rate + 85899))
      ∧ (h.clk.slew ≤ -(1024 * 85899) → d + 1024 * rateClamp rate = 1024 * rateClamp (rate - 85899))

/-- Before mains comes on every register has its reset value, memory lists nothing, every loop reads open and no command waits.
The state State.reset: no command waits, every register word is its reset value, the Millpond and the table banks list no byte,
nothing is powered, every interlock and E-STOP loop reads open and every output is low. Reset values the spec does not state are
the model's (log entry 19). (R41, R75, R382) -/
def Obligations.ResetState : Prop :=
  State.reset.pending = [] ∧ (∀ a, State.reset.hw.word a = regReset a) ∧ (∀ a, State.reset.hw.byte a = 0)
    ∧ (∀ o, State.reset.hw.table o = w1Reset o) ∧ State.reset.hw.boot.vaon = false ∧ State.reset.hw.pins.ilk1 = false
    ∧ State.reset.hw.pins.ilk2 = false ∧ State.reset.hw.pins.estop1 = false ∧ State.reset.hw.pins.estop2 = false
    ∧ State.reset.hw.pins.len = 0 ∧ State.reset.hw.pins.hven = 0 ∧ State.reset.hw.pins.lamp = 0
    ∧ State.reset.hw.headrace.pages = [] ∧ State.reset.hw.mram.queue = [] ∧ State.reset.hw.due = []

/-- The reset state is safe. Every laser enable is low at reset, where its conditions do not hold, and no follow-up of a step is
left undone. (R223, R224) -/
def Obligations.ResetIsSafe : Prop :=
  State.reset.hw.Safe

/-- Every step from a safe state answers only safe states. Whatever command stands at the front of the queue, or none: after the
step each LEN output is high exactly while its conditions hold (R33, R34, R183, R223), and no follow-up of the step is left
undone. (R33, R34, R183, R223) -/
def Obligations.StepKeepsSafe : Prop :=
  ∀ (s t : State), s.hw.Safe → step s = .next t → t.hw.Safe

/-- After every step a laser enable is high only while all of its conditions hold. From a safe state, whatever the step does:
where LEN of station k is high afterwards, both interlock loops are closed and re-enabled, neither E-STOP loop is open, LEN_EN,
LINK_UP and HEAD_READY are 1, MEAS_OVER is 0 and no module reset is in progress; so a write of LEN_EN alone never raises it
while another condition fails. (R223) -/
def Obligations.LaserEnableOnlyWhileAllHold : Prop :=
  ∀ (s t : State) (k : Nat), s.hw.Safe → step s = .next t → k < 8 → bitAt t.hw.pins.len k = true →
    t.hw.pins.ilk1 = true ∧ t.hw.pins.ilk2 = true ∧ bitAt t.hw.pins.lenPermit k = true ∧ t.hw.pins.estop1 = true
      ∧ t.hw.pins.estop2 = true ∧ t.hw.rd (pIVINA k) IVINA.IV_CTRL_LEN_EN = 1 ∧ t.hw.rd (pIVINA k) IVINA.IV_STS_LINK_UP = 1
      ∧ t.hw.rd (pIVINA k) IVINA.IV_STS_HEAD_READY = 1 ∧ t.hw.rd (pEMIT k) EMIT.HEALTH_STS_MEAS_OVER = 0 ∧ t.hw.boot.inReset = false

/-- Every command answers a next state and leaves the queue alone. No command faults and none is refused, in any state and on
any operands; the queue is the step's alone. (95_what_each_step_holds.md) -/
def Obligations.EveryCommandAnswers : Prop :=
  ∀ (c : Instr) (s : State), ∃ h : Hw, exec c s = .next (s.settled h)

/-- The end of a step with nothing left to follow up changes only the LEN outputs and IV_STS.LEN. With no follow-up left,
settling a step changes the registers and the LEN outputs alone, and of the registers only the IV_STS words of the eight heads.
(R223) -/
def Obligations.QuietEndOfStepFrame : Prop :=
  ∀ h : Hw, h.due = [] → (∃ r n, h.settle = { h with regs := r, pins := { h.pins with len := n } })
    ∧ ∀ a, (∀ k, k < 8 → a ≠ addrOf IVINA.IV_STS_LEN (pIVINA k) 0) → h.settle.word a = h.word a

/-- A raise changes registers of its own page, of HOST and of FANTAIL, what is sent and what follows, and nothing else. Whatever
the reaction: everything but the registers, what the module has sent or holds back in its MSI-X pending bits, the follow-ups of
the step and the record of the clock's raises is unchanged, and of the registers every word outside the raising page, HOST and
FANTAIL. (R452, R453, R455, R462) -/
def Obligations.RaiseFrame : Prop :=
  ∀ (h : Hw) (p i : Nat) (c : Cap), p % 4096 = 0 → (Says h (h.raise p i c))
    ∧ ∀ a, pageBase a ≠ p → pageBase a ≠ pHOST → pageBase a ≠ pFANTAIL → (h.raise p i c).word a = h.word a

/-- The first raise of a page fills the capture, every further one only counts, and FE_REARM arms it again. Every raise begins
with its record. While VALID is 0 the record fills the capture with the value, master, access type, source index, injection
mark, PRESS_TIME, VALID and a count of 1; while VALID is 1 it only increments FE_COUNT, which saturates, but that of the raises
of one clock the capture holds the one of the lowest source index, or on a GATE page the first in the order SUPPLY,
BRIDGE_FAULT, BOOT_UVLO, SHORT of R273. A write of 1 to VALID clears it and sets FE_COUNT to 0 in the same step; raises of that
clock are captured and counted again after it. Every raise of a clock has its own record and reaction; one whose reaction code
is 0 is its record alone. That commands at one value of the cycle counter are of one clock is the model's choice (log entry 11).
(R455, R456) -/
def Obligations.FirstErrorCapture : Prop :=
  (∀ (h : Hw) (p i : Nat) (c : Cap), i < 16 → h.rd p FACE.FE_INFO_VALID = 0 →
    let g := h.record p i c
    g.rd2 p FACE.FE_ADDR_LO FACE.FE_ADDR_HI 0 = c.addr % 2 ^ 64 ∧ g.rd p FACE.FE_INFO_MASTER = c.master % 2 ^ 16
      ∧ g.rd p FACE.FE_INFO_ACCESS = c.access % 16 ∧ g.rd p FACE.FE_INFO_SOURCE = i ∧ g.rd p FACE.FE_INFO_INJECTED = b2n c.injected
      ∧ g.rd p FACE.FE_INFO_VALID = 1 ∧ g.rd2 p FACE.FE_TIME_LO FACE.FE_TIME_HI 0 = h.now ∧ g.rd p FACE.FE_COUNT = 1
      ∧ g.bit p FACE.FLT_STS i = true)
  ∧ (∀ (h : Hw) (p i : Nat) (c : Cap), i < 16 → h.rd p FACE.FE_INFO_VALID = 1 →
    (tget (fun _ => none) h.capAt p ≠ some h.mono ∨ captureRank p (h.rd p FACE.FE_INFO_SOURCE) ≤ captureRank p i) →
    let g := h.record p i c
    g.rd2 p FACE.FE_ADDR_LO FACE.FE_ADDR_HI 0 = h.rd2 p FACE.FE_ADDR_LO FACE.FE_ADDR_HI 0
      ∧ g.word (addrOf FACE.FE_INFO_VALID p 0) = h.word (addrOf FACE.FE_INFO_VALID p 0)
      ∧ g.rd2 p FACE.FE_TIME_LO FACE.FE_TIME_HI 0 = h.rd2 p FACE.FE_TIME_LO FACE.FE_TIME_HI 0
      ∧ g.rd p FACE.FE_COUNT = min (2 ^ 32 - 1) (h.rd p FACE.FE_COUNT + 1) ∧ g.bit p FACE.FLT_STS i = true)
  ∧ (∀ (h : Hw) (p i : Nat) (c : Cap), i < 16 → h.rd p FACE.FE_INFO_VALID = 1 → tget (fun _ => none) h.capAt p = some h.mono →
    captureRank p i < captureRank p (h.rd p FACE.FE_INFO_SOURCE) →
    let g := h.record p i c
    g.rd2 p FACE.FE_ADDR_LO FACE.FE_ADDR_HI 0 = c.addr % 2 ^ 64 ∧ g.rd p FACE.FE_INFO_MASTER = c.master % 2 ^ 16
      ∧ g.rd p FACE.FE_INFO_SOURCE = i ∧ g.rd p FACE.FE_INFO_VALID = 1
      ∧ g.rd p FACE.FE_COUNT = min (2 ^ 32 - 1) (h.rd p FACE.FE_COUNT + 1) ∧ g.bit p FACE.FLT_STS i = true)
  ∧ (∀ p i, captureRank p i = if clsOf p = some .gate then [3, 1, 2, 0].getD i i else i)
  ∧ (∀ (h : Hw) (p i : Nat) (c : Cap), h.reaction p i = 0 → h.raise p i c = h.record p i c)
  ∧ (∀ (s : State) (m : Master) (page : PageNo), s.hw.takes m (addrOf FACE.FE_INFO_VALID (4096 * page.val) 0) = true →
    (clsOf (4096 * page.val)).isSome = true → ∃ z : Hw, exec (.feRearm m page) s = .next (s.settled (z.fabricUse (4096 * page.val)))
      ∧ (s.hw.raisedOn (4096 * page.val) = [] → z.rd (4096 * page.val) FACE.FE_INFO_VALID = 0 ∧ z.rd (4096 * page.val) FACE.FE_COUNT = 0)
      ∧ (s.hw.raisedOn (4096 * page.val) ≠ [] → z.rd (4096 * page.val) FACE.FE_INFO_VALID = 1
          ∧ z.rd (4096 * page.val) FACE.FE_COUNT = (s.hw.raisedOn (4096 * page.val)).length % 2 ^ 32))

/-- The W0 addresses in no page are exactly the three ranges the map leaves out. An address of W0 lies in no page exactly where
it is in 0x3_F000–0x3_FFFF, 0x5_0000–0x7_FFFF or 0xC_0000–0xF_FFFF. (R474, R475) -/
def Obligations.PageMapOfW0 : Prop :=
  ∀ a : Nat, a < 0x100000 → (clsOf (pageBase a) = none ↔
    (0x3F000 ≤ a ∧ a ≤ 0x3FFFF) ∨ (0x50000 ≤ a ∧ a ≤ 0x7FFFF) ∨ (0xC0000 ≤ a ∧ a ≤ 0xFFFFF))

/-- A register write that the table of R398 does not permit is ignored, counted and captured. A write by a master that may not
write the register has no effect but its account: it changes no state but registers, messages, follow-ups and the record of the
clock's raises, and no register word outside HOST, FANTAIL and the page written, whose own counter a DMA page has; on every
other page that is served to a master that acts, a write of four bytes that is aligned is exactly the refusal of R398. (R398) -/
def Obligations.RefusedWriteChangesNothing : Prop :=
  ∀ (s : State) (m : Master) (x : W0Access) (w : Word), s.hw.mayWrite m x.addr.toNat = false →
    ∃ z : Hw, exec (.w0RegisterWrite m x w) s = .next (s.settled z) ∧ Says s.hw z
      ∧ (∀ b, pageBase b ≠ pageBase x.addr.toNat → pageBase b ≠ pHOST → pageBase b ≠ pFANTAIL → z.word b = s.hw.word b)
      ∧ (∀ c, s.hw.pageServed m (pageBase x.addr.toNat) = true → s.hw.masterActs m = true → clsOf (pageBase x.addr.toNat) = some c →
          c ≠ .dma → w0Takes x.addr.toNat x.bytes.toNat = true → z = s.hw.refuse m x.addr.toNat false true)

/-- A write through the view or by a peer stores its bytes and leaves every other byte and everything else alone. With no
follow-up left over: a view write inside the commons range of its context, and a MEM_WRITE inside the peer window, answer a next
state in which each byte of the range reads as written, every other byte of the Millpond reads as before, and memory keeps its
canonical form; nothing else changes but what the end of every step drives, LEN and the IV_STS words of the heads. (R59, R399,
R439) -/
def Obligations.MillpondWritesFrame : Prop :=
  (∀ (s : State) (c : Fin 16) (off : BitVec 25) (bytes : List Byte), s.hw.due = [] → s.hw.masterActs (ctxMaster c) = true →
    s.hw.w1Served = true → w1Access (w1TableEnd + off.toNat) bytes.length = true →
    inRange (s.hw.viewMpa c (w1TableEnd + off.toNat)) bytes.length (s.hw.commonsRange c) = true →
    ∃ t, exec (.viewWrite c off bytes) s = .next t
      ∧ (∃ r n x, t.hw = { s.hw with regs := r, pins := { s.hw.pins with len := n }, mem := x })
      ∧ (∀ i, i < bytes.length → t.hw.byte (s.hw.viewMpa c (w1TableEnd + off.toNat) + i) = bytes.getD i 0)
      ∧ (∀ x, (x < s.hw.viewMpa c (w1TableEnd + off.toNat) ∨ s.hw.viewMpa c (w1TableEnd + off.toNat) + bytes.length ≤ x) →
          t.hw.byte x = s.hw.byte x)
      ∧ (Memory.wf s.hw.mem = true → Memory.wf t.hw.mem = true)
      ∧ (∀ a, (∀ k, k < 8 → a ≠ addrOf IVINA.IV_STS_LEN (pIVINA k) 0) → t.hw.word a = s.hw.word a))
  ∧ (∀ (s : State) (p : Fin 2) (off : BitVec 64) (bytes : List Byte), s.hw.due = [] → s.hw.hears p = true → bytes.length ≤ 256 →
    s.hw.inWin off.toNat bytes.length = true →
    ∃ t, exec (.memWrite p off bytes) s = .next t
      ∧ (∃ r n x, t.hw = { s.hw with regs := r, pins := { s.hw.pins with len := n }, mem := x }) ∧ (∀ i, i < bytes.length → t.hw.byte (off.toNat + i) = bytes.getD i 0)
      ∧ (∀ x, (x < off.toNat ∨ off.toNat + bytes.length ≤ x) → t.hw.byte x = s.hw.byte x)
      ∧ (Memory.wf s.hw.mem = true → Memory.wf t.hw.mem = true)
      ∧ (∀ a, (∀ k, k < 8 → a ≠ addrOf IVINA.IV_STS_LEN (pIVINA k) 0) → t.hw.word a = s.hw.word a))

/-- Commands that report or count change registers, messages and follow-ups only. CONTEXT_RESET_END, PCIE_LINK_UP,
SYSPLL_UNLOCK, COREPLL_UNLOCK, CLK_MON, HEAD_STATUS_TIMEOUT, HEAD_RX_OK_TIMEOUT, BANK_OFF_CLEAR, MBUS_DISCHARGED, MBUS_OV_CLEAR,
MAINS_RANGE, ROW_LEASE_EXPIRY, WATCHDOG_WARN, FABRIC_PARITY_ERROR, PWM_FAULT and AON_FAULT leave the Millpond, the table banks,
every pin and every unit's own state as they are: before the end of the step only registers, what the module has sent or holds
back in its MSI-X pending bits, what is to follow and the record of the clock's raises have changed; WATCHDOG_WARN notes the
pair that warned besides. (R18, R175, R217, R267, R332, R371, R381, R397, R411, R433, R468, R469) -/
def Obligations.RegisterOnlyCommandsFrame : Prop :=
  let only (s : State) (c : Instr) : Prop := ∃ z, Says s.hw z ∧ exec c s = .next (s.settled z)
  ∀ s : State, (∀ c, only s (.contextResetEnd c)) ∧ (∀ a b f, only s (.pcieLinkUp a b f)) ∧ only s .syspllUnlock ∧ only s .corepllUnlock
    ∧ only s .clkMon ∧ (∀ k, only s (.headStatusTimeout k)) ∧ (∀ k, only s (.headRxOkTimeout k)) ∧ (∀ x, only s (.bankOffClear x))
    ∧ (∀ v, only s (.mbusDischarged v)) ∧ (∀ v, only s (.mbusOvClear v)) ∧ (∀ v, only s (.mainsRange v)) ∧ only s .rowLeaseExpiry
    ∧ (∀ p, ∃ w z, Says { s.hw with boot := { s.hw.boot with warned := w } } z ∧ exec (.watchdogWarn p) s = .next (s.settled z)) ∧ (∀ p, only s (.fabricParityError p))
    ∧ (∀ c, only s (.pwmFault c)) ∧ only s .aonFault

/-- A module reset by RESET_N keeps what R388 keeps and clears the rest. In a powered module, RESET_N low for at least 5.5 µs
leaves the module in reset in BOOT with every LEN and LAMP output low; PRESS_TIME, the Millpond, the MRAM, the Sluice and the
thermal supervisor keep their state; every page, queue, mailbox session, transfer and table bank is lost and SURF and BELT
return to 0. (R53, R75, R387, R388) -/
def Obligations.ModuleResetKeepsAndClears : Prop :=
  ∀ (s : State) (lowNs : BitVec 32), s.hw.boot.vaon = true → 5500 ≤ lowNs.toNat → ∃ t, exec (.moduleReset lowNs) s = .next t
    ∧ t.hw.boot.inReset = true ∧ t.hw.modState = 0 ∧ t.hw.pins.len = 0 ∧ t.hw.pins.lamp = 0 ∧ t.hw.pins.hven = s.hw.pins.hven
    ∧ t.hw.clk.time = s.hw.clk.time ∧ t.hw.mem = s.hw.mem ∧ t.hw.mram = s.hw.mram ∧ t.hw.sluice = s.hw.sluice
    ∧ t.hw.thermal = s.hw.thermal ∧ t.hw.headrace = Headrace.reset ∧ t.hw.codec = Codec.reset ∧ t.hw.boxes = [] ∧ t.hw.jobs = []
    ∧ t.hw.dma = [] ∧ t.hw.w1 = [] ∧ t.hw.surf = [] ∧ t.hw.belt = Belt.reset ∧ t.hw.axes = [] ∧ t.hw.steppers = [] ∧ t.hw.due = []

/-- A RAW billet decodes to the samples it was packed from. Whatever its 16,384 samples: the RAW form has 28,676 bytes, and
decoding it gives the samples back, check value included. (R88, R89, R90) -/
def Obligations.RawBilletRoundTrip : Prop :=
  ∀ xs : List Sample, xs.length = 16384 → (∀ x ∈ xs, x.tone < 1024 ∧ x.tag < 16) →
    (encodeRaw xs).length = 28676 ∧ decodeBillet true (encodeRaw xs) = .ok xs

/-- A coded billet decodes to the samples the encoder was given. Whatever its 16,384 samples: each row's candidate, header, tag
runs, residual codes, padding and trailer decode to the samples coded. (R91, R92, R93, R94, R95, R96, R97, R101) -/
def Obligations.CodedBilletRoundTrip : Prop :=
  ∀ xs : List Sample, xs.length = 16384 → (∀ x ∈ xs, x.tone < 1024 ∧ x.tag < 16) → decodeBillet false (encodeCoded xs) = .ok xs

/-- Sample n of a RAW billet occupies data bits 14n to 14n + 13, T below G, from the least significant bit. Bit j of the 16-bit
form of sample n is data bit 14n + j, and data bit i is bit i mod 8 of byte i div 8. (R90) -/
def Obligations.RawPackingPlacesBits : Prop :=
  ∀ (xs : List Sample) (n j : Nat), xs.length = 16384 → (∀ x ∈ xs, x.tone < 1024 ∧ x.tag < 16) → n < 16384 → j < 14 →
    bitAt ((encodeRaw xs).getD ((14 * n + j) / 8) 0).toNat ((14 * n + j) % 8)
      = (if j < 10 then bitAt (xs.getD n ⟨0, 0⟩).tone j else bitAt (xs.getD n ⟨0, 0⟩).tag (j - 10))

/-- A word stored in a mailbox is what its receiver is given. After a word enters mailbox n its data register holds the word and
FULL is 1, whatever is raised and sent for it, and no other mailbox's data or flag has changed; taking it empties the mailbox
and leaves the data register as it is, so the receiver's read, which sends that register, gives the word. (R415, R417) -/
def Obligations.MailboxHoldsTheWord : Prop :=
  (∀ (h : Hw) (m : Master) (n : Fin 32) (w : Word), (h.mbStore m n w).mb n MAILBOX.MB_DATA = w.toNat
    ∧ (h.mbStore m n w).mb n MAILBOX.MB_CFG_FULL = 1
    ∧ ∀ k : Fin 32, k ≠ n → (h.mbStore m n w).mb k MAILBOX.MB_DATA = h.mb k MAILBOX.MB_DATA
        ∧ (h.mbStore m n w).mb k MAILBOX.MB_CFG_FULL = h.mb k MAILBOX.MB_CFG_FULL)
  ∧ (∀ (h : Hw) (m : Master) (n : Fin 32), (h.mbTake m n).mb n MAILBOX.MB_CFG_FULL = 0
    ∧ (h.mbTake m n).mb n MAILBOX.MB_DATA = h.mb n MAILBOX.MB_DATA)

/-- A training record and an alignment codeword are received as they were sent. Whatever their fields: the message of a training
codeword, which holds the record 17 times under its CRC-32C, gives the record back, and the message of an alignment codeword
gives back its lane, station, ALIGN_SEQ, RX_LANE_OK and RETRAIN_REQ. (R88, R196, R197, R202) -/
def Obligations.LinkRecordsRoundTrip : Prop :=
  (∀ t : TsRec, t.fits = true → t.message.ts = some t)
  ∧ (∀ a : AlignRec, a.laneId < 256 → a.station < 256 → a.seq < 2 ^ 32 → a.rxOk < 8 → a.retrain < 8 → a.message.align = some a)

/-- Any codeword of a stripe is rebuilt from the other two, and each cell stands at its place. Whatever cells a stripe carries:
the message of each of the lanes A, B and P is the exclusive or of the other two; and in a data codeword of five 128-byte cells
bit k of byte i of cell j is message bit 20 + 1024 j + 8 i + k. (R197, R198, R199, R200) -/
def Obligations.StripeParity : Prop :=
  (∀ cells : List (List Byte), rebuilt (stripeMessage cells 0) (stripeMessage cells 1) = stripeMessage cells 2
    ∧ rebuilt (stripeMessage cells 0) (stripeMessage cells 2) = stripeMessage cells 1
    ∧ rebuilt (stripeMessage cells 1) (stripeMessage cells 2) = stripeMessage cells 0)
  ∧ (∀ (cells : List (List Byte)) (j i k : Nat), cells.length = 5 → (∀ c ∈ cells, c.length = 128) → j < 5 → i < 128 → k < 8 →
      (dataMessage cells).getLsbD (20 + 1024 * j + 8 * i + k) = bitAt ((cells.getD j []).getD i 0).toNat k)

/-- No leg ever has both switches on, and what holds a leg holds both of them off. Whatever the modulator commands, at every
time: the two switches of a leg are not on together; both are off while the bridge is latched, the bank is off, an E-STOP loop
is open or MBUS is out of range, while the bridge is not driven, while a trip has the leg, and until DEAD_NS has run since
ENABLE or PULSE last changed; the high side is off while BOOT_OK is 0; and otherwise the high side is on exactly while PULSE is
high, the low side exactly while it is low. (R260, R266, R267, R270, R271) -/
def Obligations.LegSwitches : Prop :=
  ∀ (h : Hw) (x l : Nat) (t : Stamp),
    let r := h.bridge x (l / bankLegs x)
    let i := l % bankLegs x
    let s := h.legSwitches x l t
    let tripped := r.trips.any fun k => decide (k.leg = l)
    let since := t.toNat - max (r.enable (h.bridgeCharged x (l / bankLegs x)) t.toNat).2 (r.lastEdge i t.toNat)
    let dead := 1024 * h.rd (pGATE x) GATE.DEAD_DEAD_NS
    ¬(s.1 = true ∧ s.2 = true)
      ∧ (h.stageHeld x (l / bankLegs x) = true → s = (false, false)) ∧ (r.drive = .off → s = (false, false))
      ∧ (tripped = true → s = (false, false)) ∧ (since < dead → s = (false, false))
      ∧ (h.bit (pGATE x) GATE.BOOT_OK l = false → s.1 = false)
      ∧ (r.drive = .on → h.stageHeld x (l / bankLegs x) = false → tripped = false → dead ≤ since → h.bit (pGATE x) GATE.BOOT_OK l = true →
          s = (r.pulse i t.toNat, !r.pulse i t.toNat))

/-- A phase correction is spread evenly over its cycles and adds up, and a cycle carries four pixels from its rising edge on.
The parts of a correction of n steps over k cycles add up to n, no two of them differ by more than one step, and none is above
128 steps where n is at most 128 k; the anchor edge of a facet, which the marker cycle follows PIX0_SCLK cycles later, lies
within a step of its target where the cycles before it have room for the correction; every cycle is as long as its correction
makes it, or an ordinary period; and pixel 4 m + i begins i quarters of a period after the rising edge m cycles after the marker
cycle's. (R159, R165, R167) -/
def Obligations.ScanClockCorrection : Prop :=
  (∀ (n : Int) (k : Nat), 0 < k → (spreadSteps n k).length = k ∧ (spreadSteps n k).sum = n
    ∧ (∀ x ∈ spreadSteps n k, ∀ y ∈ spreadSteps n k, x - y ≤ 1) ∧ (n.natAbs ≤ 128 * k → ∀ x ∈ spreadSteps n k, x.natAbs ≤ 128))
  ∧ (∀ (c : Sclk) (t : Stamp) (phase mag : Int) (pix0 : Nat), 0 < c.period →
      let b := c.refTo t
      let g := c.anchored t phase mag pix0
      (b.nextEdge (8192 * b.den)).2.1 ≤ b.target t phase →
      ∃ lead : Nat, g.1.marker = some ((lead + pix0 : Nat) : Int)
        ∧ (g.2.natAbs ≤ 128 * lead → (g.1.edge lead - b.target t phase).natAbs < b.step))
  ∧ (∀ (c : Sclk) (j : Nat), c.edge (j + 1 : Nat) - c.edge j = c.cycles.getD j c.period)
  ∧ (∀ (c : Sclk) (k : Int) (m i : Nat), i < 4 → c.marker = some k →
      ∃ x : Int, c.pixelAt (4 * m + i) = some x ∧ 4 * x = 4 * c.edge (k + m) + i * c.period)

/-- A program stored in MRAM is the one the next START runs, and the one before it is kept. Whichever copies hold a program:
after a store of the next generation the stored program is selected, and where a program was selected from a copy that copy
still holds it. (R368) -/
def Obligations.StoredProgramSurvives : Prop :=
  ∀ (m : Mram) (g : Program), g.gen = m.selected.gen + 1 → (m.store g).selected = g
    ∧ ∀ p, (m.copyA = some p ∨ m.copyB = some p) → p = m.selected → ((m.store g).copyA = some p ∨ (m.store g).copyB = some p)

/-- Mains-on, boot, self-test and READY complete. Mains within range starts time at 0 with the Millpond empty and VAON up; the
boot ROM starts the valid image chosen by GEN and counts its boot as failed, or enters BOOT_FAIL; a passed, covered or failed
self-test is taken; READY is entered with its failed boots cleared; RESET_N held low for 5.5 us or more resets the module, and
its release ends the low level. (R382, R384, R385, R386, R391, R392, R394) -/
def Obligations.StartUpCommandsComplete : Prop :=
  (∀ (s : State) (vrms freq : BitVec 16), mainsInRange vrms.toNat freq.toNat = true → ∃ z : Hw, exec (.mainsOn vrms freq) s = .next
        (s.settled (z)) ∧ z.clk = ⟨0, 0, 0, 0⟩ ∧ z.boot.vaon = true ∧ z.mem = [] ∧ z.pins.sealAtMains = s.hw.pins.sealClosed ∧
        z.boot.slotA = s.hw.boot.slotA ∧ z.boot.slotB = s.hw.boot.slotB)
  ∧ (∀ (s : State) (k : Nat), s.hw.romRuns = true → pickSlot s.hw.boot.slotA.valid s.hw.boot.slotB.valid s.hw.boot.slotA
        s.hw.boot.slotB = some k → ∃ z : Hw, exec .bootImageSelect s = .next (s.settled (z)) ∧ z.boot.slot = some k ∧
        z.boot.inReset = false ∧ z.boot.slotA.fails = s.hw.boot.slotA.fails + (if k = 0 then 1 else 0) ∧ z.boot.slotB.fails =
        s.hw.boot.slotB.fails + (if k = 0 then 0 else 1) ∧ z.rd pIDENT IDENT.MOD_STS_STATE = 1 ∧ z.rd pIDENT IDENT.MOD_STS_SLOT =
        k)
  ∧ (∀ (s : State), s.hw.romRuns = true → pickSlot s.hw.boot.slotA.valid s.hw.boot.slotB.valid s.hw.boot.slotA s.hw.boot.slotB = none →
        ∃ z : Hw, exec .bootImageSelect s = .next (s.settled (z)) ∧ z.modState = 3 ∧ z.mem = s.hw.mem.filter fun c => decide
        (commonsEnd ≤ c.1))
  ∧ (∀ (s : State), s.hw.modState = 1 → s.hw.boot.inReset = false → exec (.selfTestDone .pass) s = .next (s.settled (
          let g := if s.hw.boot.tested then s.hw else s.hw.repaired;
          { g with boot := { g.boot with tested := true } })))
  ∧ (∀ (s : State) (f : CoveredFault) (fs : List CoveredFault), s.hw.modState = 1 → s.hw.boot.inReset = false → exec (.selfTestDone
        (.covered f fs)) s = .next (s.settled ((f :: fs).foldl Hw.memberFails
        { s.hw with boot := { s.hw.boot with tested := true } })))
  ∧ (∀ (s : State) (u : BitVec 8), s.hw.modState = 1 → s.hw.boot.inReset = false → exec (.selfTestDone (.failed u)) s = .next
        (s.settled ((s.hw.wr pIDENT IDENT.MOD_STS_STATE 4).wr pIDENT IDENT.MOD_STS_TEST u.toNat)))
  ∧ (∀ (s : State), s.hw.modState = 1 → s.hw.boot.inReset = false → s.hw.boot.tested = true → 4000 ≤ s.hw.enterReady.tellReset.rd
        pSUPPLY SUPPLY.MBUS_V_CAP → exec .ready s = .next (s.settled (s.hw.enterReady.tellReset)))
  ∧ (∀ (s : State) (lowNs : BitVec 32), s.hw.boot.vaon = true → 5500 ≤ lowNs.toNat → exec (.moduleReset lowNs) s = .next (s.settled
        ({ s.hw with boot := { s.hw.boot with resetNLow := true } }.moduleReset 1 0 0 false)))
  ∧ (∀ (s : State), s.hw.boot.resetNLow = true → exec .resetNRelease s = .next (s.settled
        ({ s.hw with boot := { s.hw.boot with resetNLow := false, causeAt := s.hw.clk.time } })))

/-- Interlock, E-STOP, covers and the presence inputs complete. The interlock and E-STOP loops, the covers, the COMMISSION
button, the SEAL loop and the end of the presence window each answer the next state written. (R33, R34, R35, R37, R38, R427) -/
def Obligations.SafetyInputsComplete : Prop :=
  (∀ (s : State), exec (.interlockOpen 0) s = .next (s.settled
        ({ s.hw with pins := { s.hw.pins with lenPermit := 0, ilk1 := false } }.later (.spoilExposing 0x12))))
  ∧ (∀ (s : State), exec (.interlockOpen 1) s = .next (s.settled
        ({ s.hw with pins := { s.hw.pins with lenPermit := 0, ilk2 := false } }.later (.spoilExposing 0x12))))
  ∧ (∀ (s : State), s.hw.pins.ilk1 = false → s.hw.pins.ilk2 = true → exec (.interlockClose 0) s = .next (s.settled
        ({ s.hw with pins := { s.hw.pins with ilk1 := true, ilkClosedAt := s.hw.clk.cycles } })))
  ∧ (∀ (s : State), s.hw.pins.ilk1 = false → exec (.interlockClose 1) s = .next (s.settled
        ({ s.hw with pins := { s.hw.pins with ilk2 := true } })))
  ∧ (∀ (s : State), exec (.estopOpen 0) s = .next (s.settled ((forN 8 (fun k (g : Hw) => g.setHven k false)
        ({ s.hw with pins := { { s.hw.pins with lenPermit := 0 }.holdAll true with estop1 := false } }.later (.spoilFlight
        0x17)).allStageOff).lampsEstop)))
  ∧ (∀ (s : State), exec (.estopOpen 1) s = .next (s.settled ((forN 8 (fun k (g : Hw) => g.setHven k false)
        ({ s.hw with pins := { { s.hw.pins with lenPermit := 0 }.holdAll true with estop2 := false } }.later (.spoilFlight
        0x17)).allStageOff).lampsEstop)))
  ∧ (∀ (s : State), exec (.estopClose 0) s = .next (s.settled ({ s.hw with pins := { s.hw.pins with estop1 := true } })))
  ∧ (∀ (s : State), exec (.estopClose 1) s = .next (s.settled ({ s.hw with pins := { s.hw.pins with estop2 := true } })))
  ∧ (∀ (s : State) (i : Fin 4) (closed : Bool), s.hw.kernelRuns = true → exec (.coverEdge i closed) s = .next (s.settled
        ({ s.hw with pins := { s.hw.pins with cover := putBit s.hw.pins.cover i closed } }.send (.cover i closed s.hw.clk.time))))
  ∧ (∀ (s : State) (ms : BitVec 16), s.hw.boot.vaon = true → 50 ≤ ms.toNat → s.hw.windowOpen = true → exec (.commissionPress ms) s =
        .next (s.settled (({ s.hw with pins := { s.hw.pins with buttonEnds := some (s.hw.mono + buttonWindow) } }.wr pPRESENCE
        PRESENCE.PR_STS_BUTTON 1).lockoutPresence)))
  ∧ (∀ (s : State), s.hw.boot.vaon = true → s.hw.windowOpen = false → exec .sealClose s = .next (s.settled
        ((({ s.hw with pins := { s.hw.pins with sealClosed := true } }.wr pPRESENCE PRESENCE.PR_STS_SEAL 1).windowMoved
        0xFFFF).lockoutPresence)))
  ∧ (∀ (s : State), s.hw.boot.vaon = true → s.hw.pins.sealClosed = true → s.hw.pins.buttonEnds = none → exec .sealOpen s = .next
        (s.settled (({ s.hw with pins := { s.hw.pins with sealClosed := false } }.wr pPRESENCE PRESENCE.PR_STS_SEAL 0).windowMoved
        0xFFFF)))
  ∧ (∀ (s : State), s.hw.buttonRuns = false → s.hw.pins.buttonEnds.isSome = true → s.hw.pins.sealClosed = false → exec
        .presenceWindowExpire s = .next (s.settled (({ s.hw with pins := { s.hw.pins with buttonEnds := none } }.wr pPRESENCE
        PRESENCE.PR_STS_BUTTON 0).windowMoved 0xFFFF)))
  ∧ (∀ (s : State) (m : Master), s.hw.takes m (addrOf PRESENCE.PR_CTRL_CLOSE pPRESENCE 0) = true → s.hw.pins.buttonEnds.isSome = true →
        s.hw.pins.sealClosed = false → exec (.presenceClose m) s = .next (s.settled
        ((({ s.hw with pins := { s.hw.pins with buttonEnds := none } }.wr pPRESENCE PRESENCE.PR_STS_BUTTON 0).windowMoved
        m.toNat).fabricUse (pageBase (addrOf PRESENCE.PR_CTRL_CLOSE pPRESENCE 0)))))

/-- Context resets, the PCIe link and the functions' enables complete. A function-level reset, a fundamental reset, the end of a
context reset, the PCIe link going down and coming up, VF Enable, Bus Master Enable and the MSI-X state of the functions, an
unsupported request and one with another error each answer the next state written. (R396, R397, R399, R401, R411) -/
def Obligations.HostContextsComplete : Prop :=
  (∀ (s : State) (u : Fin 16), exec (.contextReset (.flr u)) s = .next (s.settled (s.hw.contextReset u true)))
  ∧ (∀ (s : State), exec (.contextReset .perst) s = .next (s.settled (forN 16 (fun c g => g.contextReset c false) s.hw.pcieReset)))
  ∧ (∀ (s : State) (c : Fin 16), exec (.contextResetEnd c) s = .next (s.settled ((s.hw.wri pHOST HOST.CTX_STS_IN_RESET c 0).setBit
        pHOST HOST.CTX_SUM_IN_RESET c false)))
  ∧ (∀ (s : State), exec .pcieLinkDown s = .next (s.settled (forN 16 (fun c g => g.contextReset c false) (((s.hw.wr pHOST
        HOST.LINK_STS_UP 0).persist pHOST 1 false).raise pHOST 0 (cap0 0)))))
  ∧ (∀ (s : State) (speed : BitVec 4) (width : BitVec 5) (flit : Bool), s.hw.boot.vaon = true → 6 ≤ speed.toNat → 16 ≤ width.toNat →
        exec (.pcieLinkUp speed width flit) s = .next (s.settled (((((s.hw.wr pHOST HOST.LINK_STS_SPEED speed.toNat).wr pHOST
        HOST.LINK_STS_WIDTH width.toNat).wr pHOST HOST.LINK_STS_FLIT (b2n flit)).wr pHOST HOST.LINK_STS_UP 1).persist pHOST 1
        false)))
  ∧ (∀ (s : State) (busMaster on : BitVec 16) (masks : List MaskWrite), exec (.vfEnable false ⟨busMaster, on, masks⟩) s = .next
        (s.settled ((forN 16 (fun c g => ((g.wri pHOST HOST.CTX_STS_ENABLED c (b2n (decide (c = 0)))).wri pHOST
        HOST.CTX_STS_BUS_MASTER c (b2n (busMaster.getLsbD c))).setBit pHOST HOST.CTX_SUM_ENABLED c (decide (c = 0)))
        s.hw).msixConfig on masks)))
  ∧ (∀ (s : State) (c : Fin 16) (off : BitVec 26) (w1 write : Bool), exec (.unsupportedRequest c off w1 ⟨write, false⟩) s = .next
        (s.settled (s.hw.unsupported (ctxMaster c) off.toNat w1 write)))
  ∧ (∀ (s : State) (c : Fin 16) (off : BitVec 26) (w1 write : Bool), exec (.unsupportedRequest c off w1 ⟨write, true⟩) s = .next
        (s.settled ((s.hw.inc pHOST HOST.PCIE_ERR).pcieError (ctxMaster c) off.toNat w1 write)))

/-- Register, view and table accesses of the host complete. A register write that is taken changes its register by the page's
rules, an access to no page reads all ones and is refused, a view read and a view write that a window admits move the bytes, an
AtomicOp answers the old value, a table write to a writable bank changes the bank, and a read of a low or CH_POS register
latches its companion. (R58, R396, R398, R399, R475, R486) -/
def Obligations.HostAccessComplete : Prop :=
  (∀ (s : State) (m : Master) (a : BitVec 20) (n : BitVec 10) (w : Word) (c : Cls), clsOf (pageBase a.toNat) = some c → c ≠ .dma →
        w0Takes a.toNat n.toNat = true → pageOff a.toNat < 0x80 → s.hw.takes m a.toNat = true → exec (.w0RegisterWrite m ⟨a, n⟩ w)
        s = .next (s.settled ((s.hw.writeFace c (pageBase a.toNat) a.toNat w).fabricUse (pageBase a.toNat))))
  ∧ (∀ (s : State) (m : Master) (a : BitVec 20) (n : BitVec 10) (w : Word) (c : Cls), clsOf (pageBase a.toNat) = some c → c ≠ .dma →
        w0Takes a.toNat n.toNat = true → 0x80 ≤ pageOff a.toNat → s.hw.takes m a.toNat = true → exec (.w0RegisterWrite m ⟨a, n⟩ w)
        s = .next (s.settled ((s.hw.writeBlock m c (pageBase a.toNat) a.toNat w).fabricUse (pageBase a.toNat))))
  ∧ (∀ (s : State) (m : Master) (a : BitVec 20) (n : BitVec 10) (w : Word), clsOf (pageBase a.toNat) = some .dma → w0Takes a.toNat
        n.toNat = true → 0x100 ≤ pageOff a.toNat → s.hw.takes m a.toNat = true → exec (.w0RegisterWrite m ⟨a, n⟩ w) s = .next
        (s.settled ((s.hw.writeBlock m .dma (pageBase a.toNat) a.toNat w).fabricUse (pageBase a.toNat))))
  ∧ (∀ (s : State) (m : Master) (a : BitVec 20), clsOf (pageBase a.toNat) = none → s.hw.pageServed m pHOST = true → s.hw.masterActs m =
        true → exec (.w0UnmappedAccess m a false) s = .next (s.settled ((s.hw.send (.readValue m a.toNat 0xFFFFFFFF)).refuse m
        a.toNat false false)))
  ∧ (∀ (s : State) (m : Master) (a : BitVec 20), clsOf (pageBase a.toNat) = none → s.hw.pageServed m pHOST = true → s.hw.masterActs m =
        true → exec (.w0UnmappedAccess m a true) s = .next (s.settled (s.hw.refuse m a.toNat false true)))
  ∧ (∀ (s : State) (c : Fin 16) (off : BitVec 26) (n : BitVec 10) (uncorr : Bool), s.hw.masterActs (ctxMaster c) = true → s.hw.w1Served
        = true → w1Access off.toNat n.toNat = true → w1TableEnd ≤ off.toNat → inRange (s.hw.viewMpa c off.toNat) n.toNat
        (s.hw.commonsRange c) = true → uncorr = false → s.hw.stacksGive (s.hw.viewMpa c off.toNat) n.toNat = true → exec
        (.viewRead c off n uncorr) s = .next (s.settled (s.hw.send (.readBytes (ctxMaster c) off.toNat (s.hw.bytes (s.hw.viewMpa c
        off.toNat) n.toNat)))))
  ∧ (∀ (s : State) (c : Fin 16) (off : BitVec 25) (bytes : List Byte), s.hw.masterActs (ctxMaster c) = true → s.hw.w1Served = true →
        w1Access (w1TableEnd + off.toNat) bytes.length = true → inRange (s.hw.viewMpa c (w1TableEnd + off.toNat)) bytes.length
        (s.hw.commonsRange c) = true → exec (.viewWrite c off bytes) s = .next (s.settled (s.hw.putBytes (s.hw.viewMpa c
        (w1TableEnd + off.toNat)) bytes)))
  ∧ (∀ (s : State) (c : Fin 16) (off : BitVec 25) (k : AtomicKind) (v : Nat), s.hw.masterActs (ctxMaster c) = true → s.hw.w1Served =
        true → inRange (s.hw.viewMpa c (w1TableEnd + off.toNat)) 4 (s.hw.commonsRange c) = true → (w1TableEnd + off.toNat) % 4 = 0
        → k.result 4 (ofLE (s.hw.bytes (s.hw.viewMpa c (w1TableEnd + off.toNat)) 4)) = some v → exec (.atomicOp c off false k) s =
        .next (s.settled ((s.hw.putBytes (s.hw.viewMpa c (w1TableEnd + off.toNat)) (toLE 4 v)).send (.atomicDone (ctxMaster c)
        (some (ofLE (s.hw.bytes (s.hw.viewMpa c (w1TableEnd + off.toNat)) 4)))))))
  ∧ (∀ (s : State) (m : Master) (off : BitVec 25) (bytes : List Byte), s.hw.masterActs m = true → s.hw.ready = true → w1Access
        off.toNat bytes.length = true → isTrusted m = true → (∀ i, i < bytes.length → ∃ b, bankOf (off.toNat + i) = some b ∧
        s.hw.bankWritable b = true) → exec (.w1TableWrite m off bytes) s = .next (s.settled (s.hw.putTables off.toNat bytes)))
  ∧ (∀ (s : State) (m : Master) (a : BitVec 20) (n : BitVec 10) (k : Cls), clsOf (pageBase a.toNat) = some k → loRegs k (pageOff
        a.toNat) = true → w0Takes a.toNat n.toNat = true → exec (.latchedLoRead m ⟨a, n⟩) s = .next (s.settled (((s.hw.latch m
        (a.toNat + 4) (s.hw.readW0 m (a.toNat + 4))).send (.readValue m a.toNat (s.hw.readW0 m a.toNat).toNat)).fabricUse
        (pageBase a.toNat))))
  ∧ (∀ (s : State) (m : Master) (c : Fin 20), s.hw.pageServed m (fbPage c.val) = true → s.hw.masterActs m = true → s.hw.blockAnswers
        (fbPage c.val) = true → s.hw.is (fbPage c.val) FACE.PAGE_STS_FROZEN = false → exec (.chPosRead m c) s = .next (s.settled (
          let g := ((s.hw.wr2 (fbPage c.val) FEEDBACK.TLAST_LO FEEDBACK.TLAST_HI (c.val % 8) (s.hw.encStamp c.val)).latch m
              (addrOf FEEDBACK.TLAST_LO (fbPage c.val) (c.val % 8)) (BitVec.ofNat 32 (s.hw.encStamp c.val))).latch m (addrOf
              FEEDBACK.TLAST_HI (fbPage c.val) (c.val % 8)) (BitVec.ofNat 32 (s.hw.encStamp c.val / 2 ^ 32));
          (g.send (.readValue m (addrOf FEEDBACK.CH_POS (fbPage c.val) (c.val % 8)) (g.readW0 m (addrOf FEEDBACK.CH_POS (fbPage
              c.val) (c.val % 8))).toNat)).fabricUse (fbPage c.val))))

/-- PRESS_TIME, slew, SURF and TOF commands complete. SET loads PRESS_TIME while no page is exposing and the source is the
module's own, a slew request is taken, a completed slew ends, a lost TCXO puts the time in holdover, a stale SURF fails, and a
TOF computation starts, completes and meets its deadline. (R43, R44, R46, R52, R56, R497) -/
def Obligations.TimeCommandsComplete : Prop :=
  (∀ (s : State) (m : Master), s.hw.takes m (addrOf TIME.TIME_CTRL_SET pTIME 0) = true → s.hw.anyExposing = false → s.hw.rd pTIME
        TIME.TIME_CTRL_SRC = 0 → exec (.timeSet m) s = .next (s.settled ((s.hw.setTime (BitVec.ofNat 64 (s.hw.rd2 pTIME
        TIME.SET_LO TIME.SET_HI 0))).fabricUse (pageBase (addrOf TIME.TIME_CTRL_SET pTIME 0)))))
  ∧ (∀ (s : State) (m : Master), s.hw.takes m (addrOf TIME.TIME_CTRL_SET pTIME 0) = true → s.hw.anyExposing = true → exec (.timeSet m)
        s = .next (s.settled ((s.hw.wr pTIME TIME.TIME_STS_SET_REFUSED 1).fabricUse (pageBase (addrOf TIME.TIME_CTRL_SET pTIME
        0)))))
  ∧ (∀ (s : State) (m : Master) (v : Word), s.hw.takes m (addrOf TIME.SLEW_REQ pTIME 0) = true → s.hw.rd pTIME TIME.TIME_CTRL_SRC = 0 →
        exec (.slewReqWrite m v) s = .next (s.settled (((s.hw.wr pTIME TIME.SLEW_REQ v.toNat).slewBy v.toInt).fabricUse (pageBase
        (addrOf TIME.SLEW_REQ pTIME 0)))))
  ∧ (∀ (s : State), s.hw.clk.slew = 0 → exec .slewComplete s = .next (s.settled (s.hw.wr pTIME TIME.TIME_STS_SLEW_ACTIVE 0)))
  ∧ (∀ (s : State), exec .tcxoLost s = .next (s.settled (
          let u := (s.hw.wr pTIME TIME.TIME_STS_LOCKED 0).wr pTIME TIME.TIME_STS_HOLDOVER 1;
          ((if u.kernelRuns then { u with headrace := { u.headrace with stopAtGap := true } } else u).persist pTIME 0 true).raise
              pTIME 0 (cap0 0))))
  ∧ (∀ (s : State) (stn : StationNo), s.hw.driveRuns stn = true → exec (.surfStale stn) s = .next (s.settled (s.hw.surfFail stn
        TIME.SURF_STS_STALE)))
  ∧ (∀ (s : State) (m : Master) (mask : BitVec 8) (t0 : Stamp), s.hw.takes m (addrOf TIME.TOF_CTRL_GO pTIME 0) = true → s.hw.is pTIME
        TIME.TOF_CTRL_BUSY = false → ∃ z : Hw, exec (.tofGo m mask t0) s = .next (s.settled ((z).fabricUse (pageBase (addrOf
        TIME.TOF_CTRL_GO pTIME 0)))) ∧ z.tofCalc.map (fun x => x.1) = below 8 fun k => bitAt mask.toNat k ∧ z.is pTIME
        TIME.TOF_CTRL_BUSY = true ∧ z.rd pTIME TIME.TOF_CTRL_MASK = mask.toNat ∧ (∀ x ∈ z.tofCalc, x.2.2.2 = BitVec.ofNat 48
        (s.hw.rd2 pTIME TIME.TOF_BELT_LO TIME.TOF_BELT_HI 0)))
  ∧ (∀ (s : State), s.hw.is pTIME TIME.TOF_CTRL_BUSY = true → exec .tofComplete s = .next (s.settled (s.hw.tofCalc.foldl (fun g x =>
        g.tofResult x.1 x.2.1 x.2.2.1 x.2.2.2) ({ s.hw with tofCalc := [] }.wr pTIME TIME.TOF_CTRL_BUSY 0))))
  ∧ (∀ (s : State) (stn : StationNo) (d : BitVec 20) (g : PageRec), s.hw.page? d.toNat = some g → g.uses stn = true → (g.on
        stn).tof.isNone = true → exec (.tofDeadline stn d) s = .next (s.settled (s.hw.missSlot d.toNat)))

/-- Submission, plane verification, withdrawal and a lost stack complete. SUBMIT, PLANE_READY and WITHDRAW enter the command
queue with their writer; the head of the queue is taken when the Headrace is free: a descriptor that passes its checks makes a
page, one that fails is rejected with the check's reason; a plane is verified or rejected; a page not in flight is withdrawn; a
first lost stack is noted and raised. (R60, R67, R70, R71, R74) -/
def Obligations.PageCommandsComplete : Prop :=
  (∀ (s : State) (m : Master) (idx : BitVec 20), s.hw.takes m (addrOf HEADRACE.SUBMIT pHEADRACE 0) = true → exec (.submit m idx) s =
        .next (s.settled ((s.hw.pushCmd m idx.toNat (.submit m idx.toNat)).fabricUse (pageBase (addrOf HEADRACE.SUBMIT pHEADRACE
        0)))))
  ∧ (∀ (s : State) (m : Master) (idx : BitVec 20) (stn : StationNo), s.hw.takes m (addrOf HEADRACE.PLANE_READY_INDEX pHEADRACE 0) =
        true → exec (.planeReady m idx stn) s = .next (s.settled ((s.hw.pushCmd m idx.toNat (.planeReady m idx.toNat
        stn)).fabricUse (pageBase (addrOf HEADRACE.PLANE_READY_INDEX pHEADRACE 0)))))
  ∧ (∀ (s : State) (m : Master) (idx : BitVec 20), s.hw.takes m (addrOf HEADRACE.WITHDRAW pHEADRACE 0) = true → exec (.withdraw m idx)
        s = .next (s.settled ((s.hw.pushCmd m idx.toNat (.withdraw m idx.toNat)).fabricUse (pageBase (addrOf HEADRACE.WITHDRAW
        pHEADRACE 0)))))
  ∧ (∀ (s : State) (readOk : Bool) (m : Master) (idx : Nat) (rest : List HrCmd), s.hw.headrace.queue = .submit m idx :: rest →
        s.hw.hrFree = true → exec (.submitProcess readOk) s = .next (s.settled (
          let u := s.hw.takeCmd;
          let bs := u.descBytes idx;
          let e := u.submitCheck m idx readOk bs;
          if e = 0 then
          let g := pageOf idx (u.rd pHEADRACE HEADRACE.REPRINT_DEF) bs;
          ((u.modHr fun r => { r with pages := r.pages ++ [g] }).complete g.ctx (g.completion .state 0
              0xFF)).showPages.followPages else
          let known := decide (e ≠ 0x0D ∧ e ≠ 0x0E);
          u.reject m ⟨if known then fieldLE bs 0 4 else 0, idx, 15, .submitReject, e, 0, 0xFF, if known then fieldLE bs 0x20 4
              else 0⟩)))
  ∧ (∀ (s : State) (m : Master) (idx k : Nat) (rest : List HrCmd) (g : PageRec), s.hw.headrace.queue = .planeReady m idx k :: rest →
        s.hw.hrFree = true → s.hw.takeCmd.pageFor m idx = some g → g.uses k = true → (g.plane k).verified = false → exec
        .planeVerify s = .next (s.settled (s.hw.takeCmd.modHr fun r => { r with verifying := some (m, idx, k) })))
  ∧ (∀ (s : State) (readOk : Bool) (m : Master) (idx k : Nat) (g : PageRec), s.hw.headrace.verifying = some (m, idx, k) → (s.hw.modHr
        fun r => { r with verifying := none }).pageFor m idx = some g → exec (.planeVerifyDone readOk) s = .next (s.settled (
          let u := s.hw.modHr fun r => { r with verifying := none };
          let e := u.planeCheck g (g.plane k) readOk;
          if e ≠ 0 then u.reject m (g.completion .planeReject e k) else
          let v := (((u.modPage idx fun x => { x with planes := x.planes.set k { g.plane k with verified := true } }).pageRecord
              idx .planeOk 0 k).ratioAdd g (g.plane k)).showPages;
          match v.page? idx with
          | some x => if x.state = .submitted ∧ x.verifiedMask &&& x.mask = x.mask then (v.enterState idx .resident 0).followPages
              else v
          | none => v)))
  ∧ (∀ (s : State) (m : Master) (idx : Nat) (rest : List HrCmd) (g : PageRec), s.hw.headrace.queue = .withdraw m idx :: rest →
        s.hw.hrFree = true → s.hw.takeCmd.pageFor m idx = some g → g.state.inFlight = false → exec .withdrawProcess s = .next
        (s.settled (s.hw.takeCmd.withdrawPage idx 0x20)))
  ∧ (∀ (s : State) (i : Fin 4), s.hw.bit pHEADRACE HEADRACE.HR_STS_STACK_OK i = true → exec (.stackLost i) s = .next (s.settled (
          let u := (s.hw.setBit pHEADRACE HEADRACE.HR_STS_STACK_OK i false).raise pHEADRACE 6 (cap0 i);
          if 2 ≤ u.lostStacks then u.storeFailed else u)))

/-- The schedule, grade changes, the forecast and the completion rings complete. A due slot admits its candidate when no
admission condition fails, a gap applies what waited for it, a pending grade, and a bank switch that waits with it, is applied
once every page is exposed, a grade-table switch waits for its moment, the forecast is evaluated, stepped and cleared, and a
completion ring is configured. (R76, R77, R79, R80, R86, R481) -/
def Obligations.ScheduleCommandsComplete : Prop :=
  (∀ (s : State) (a : Slot) (g : PageRec), s.hw.headrace.slot = some a → s.hw.candidate = some g → s.hw.headrace.stopAtGap = false →
        s.hw.kernelRuns = true → s.hw.decides = true → exec .slotDue s = .next (s.settled (
          let why := s.hw.admitFails g a.beltP (s.hw.effGrade g);
          let go := decide (why = 0) && (!s.hw.chainOn || s.hw.jointGo g.jobId);
          let u := s.hw.jointClose g.desc go g.jobId;
          (if go then u.admitPage g.desc a.beltP else u.skipSlot why).slotTaken a)))
  ∧ (∀ (s : State), s.hw.anyExposing = false → exec .gapBoundary s = .next (s.settled (
          let u := gapPages.foldl (fun g p => if g.boundaryNow p then g.commitWhole p else g) (s.hw.modHr fun r =>
              { r with fcMoved := false }).beltGap;
          let v := u.wr2 pPEERA PEER.DIGEST_LO PEER.DIGEST_HI 0 u.digestNow;
          let w := (if v.chainOn && v.isHeadstock then forN 16 (fun m g => if g.memberState m = 3 then g.setMember m 4 else if m ≠
              0 ∧ g.memberState m ≠ 0 ∧ !g.present m then g.setMember m 0 else g) v else v).retrainFailed;
          if w.headrace.stopAtGap then w.stopPress else w)))
  ∧ (∀ (s : State), s.hw.is pHEADRACE HEADRACE.HR_STS_PEND_VALID = true → s.hw.allExposed = true → s.hw.slotPassed = true → s.hw.is
        pHEADRACE HEADRACE.GT_BANK_SWITCH_PEND = false → exec .gradeChangeApply s = .next (s.settled
        (s.hw.gradeApply.followPages)))
  ∧ (∀ (s : State), s.hw.is pHEADRACE HEADRACE.HR_STS_PEND_VALID = true → s.hw.allExposed = true → s.hw.slotPassed = true → s.hw.is
        pHEADRACE HEADRACE.GT_BANK_SWITCH_PEND = true → exec .gradeChangeApply s = .next (s.settled (
          let u := s.hw.gtApply;
          if u.is pHEADRACE HEADRACE.HR_STS_PEND_VALID then u.gradeApply.followPages else u)))
  ∧ (∀ (s : State) (m : Master), s.hw.takes m (addrOf HEADRACE.GT_BANK_SWITCH pHEADRACE 0) = true → s.hw.is pHEADRACE
        HEADRACE.GT_BANK_SWITCH_PEND = false → exec (.gtBankSwitch m) s = .next (s.settled ((
            let u := s.hw.wr pHEADRACE HEADRACE.GT_BANK_SWITCH_PEND 1;
            if u.pressIdle then u.gtApply else if u.gtChanges && !u.is pHEADRACE HEADRACE.HR_STS_PEND_VALID then u.gradeRequest
                u.runGrade else u).fabricUse (pageBase (addrOf HEADRACE.GT_BANK_SWITCH pHEADRACE 0)))))
  ∧ (∀ (s : State), s.hw.is pHEADRACE HEADRACE.GT_BANK_SWITCH_PEND = true → s.hw.anyExposing = false → s.hw.gtChanges = false → exec
        .gtBankApply s = .next (s.settled (s.hw.gtApply)))
  ∧ (∀ (s : State) (u : Unit), s.hw.is pHEADRACE HEADRACE.HR_CTRL_FORECAST_EN = true → s.hw.kernelRuns = true → exec (.forecastEval u)
        s = .next (s.settled (
          let u := s.hw.wr pHEADRACE HEADRACE.INGEST_RATE s.hw.ingestRate;
          let m := u.margin u.runGrade s.hw.ingestRate;
          let fc := u.rd pHEADRACE HEADRACE.HR_STS_FC_GRADE;
          let calm := decide (0 < fc) && !(u.margin (fc - 1) s.hw.ingestRate).neg;
          let v := ((u.wr pHEADRACE HEADRACE.FC_MARGIN m.shown).wr pHEADRACE HEADRACE.HR_STS_STARVE (b2n m.neg)).modHr fun r =>
              { r with marginSince := if calm then (if r.marginSince.isSome then r.marginSince else some u.clk.time) else none };
          if m.neg && decide (fc < 7) && !v.headrace.fcMoved then v.fcStep (fc + 1) else v)))
  ∧ (∀ (s : State), s.hw.is pHEADRACE HEADRACE.HR_CTRL_FORECAST_EN = true → s.hw.kernelRuns = true → 0 < s.hw.rd pHEADRACE
        HEADRACE.HR_STS_FC_GRADE → s.hw.headrace.marginSince.isSome = true → s.hw.headrace.fcMoved = false → exec
        .forecastStepDown s = .next (s.settled (s.hw.fcStep (s.hw.rd pHEADRACE HEADRACE.HR_STS_FC_GRADE - 1))))
  ∧ (∀ (s : State) (m : Master), s.hw.takes m (addrOf HEADRACE.HR_CTRL_FORECAST_EN pHEADRACE 0) = true → exec (.forecastEnClear m) s =
        .next (s.settled (((((((s.hw.wr pHEADRACE HEADRACE.HR_CTRL_FORECAST_EN 0).modHr fun r =>
        { r with marginSince := none }).wr pHEADRACE HEADRACE.HR_STS_FC_GRADE 0).wr pHEADRACE HEADRACE.HR_STS_STARVE 0).wr
        pHEADRACE HEADRACE.FC_MARGIN 0x7FFFFFFF).followPages).fabricUse (pageBase (addrOf HEADRACE.HR_CTRL_FORECAST_EN pHEADRACE
        0)))))
  ∧ (∀ (s : State) (m : Master) (c : Fin 16) (log2 : BitVec 4) (en : Bool), s.hw.takes m (addrOf HEADRACE.RING_CFG_EN pHEADRACE c) =
        true → s.hw.isi pHEADRACE HEADRACE.RING_CFG_EN c = false → exec (.ringCfgWrite m c log2 en) s = .next (s.settled
        (((s.hw.wri pHEADRACE HEADRACE.RING_CFG_LOG2SIZE c (clampN 6 12 log2.toNat)).wri pHEADRACE HEADRACE.RING_CFG_EN c (b2n
        en)).fabricUse (pageBase (addrOf HEADRACE.RING_CFG_EN pHEADRACE c)))))

/-- The decoders and encoders of billets complete. A decoder's billet and re-fetch end, a band fill and a prefill start, an
encoder job is queued, started and advanced by a billet, and an encoder's fault and expired lease end its job. (R98, R99, R103,
R104, R106, R107, R112, R114, R469) -/
def Obligations.CodecCommandsComplete : Prop :=
  (∀ (s : State) (stn : StationNo) (d : Fin 2) (x : BilletRead), exec (.billetDecodeDone stn d x) s = .next (s.settled
        (s.hw.billetEnd stn d x false)))
  ∧ (∀ (s : State) (stn : StationNo) (d : Fin 2) (x : BilletRead), exec (.billetRefetchDone stn d x) s = .next (s.settled
        (s.hw.billetEnd stn d x true)))
  ∧ (∀ (s : State) (stn : StationNo) (g : PageRec), s.hw.millPage stn = some g → (s.hw.mill stn).filling = none → (s.hw.mill
        stn).complete < g.bands → 2 ≤ (s.hw.mill stn).complete → (s.hw.mill stn).complete < (s.hw.mill stn).released + 2 →
        s.hw.runs (pDECODE stn) = true → exec (.bandFillStart stn) s = .next (s.settled (s.hw.startBand stn (s.hw.mill
        stn).complete g.cols)))
  ∧ (∀ (s : State) (stn : StationNo) (g : PageRec), (s.hw.mill stn).cur = none → s.hw.nextPrefill stn = some g → s.hw.runs (pDECODE
        stn) = true → s.hw.runs (pPIPE stn) = true → ∃ z : Hw, exec (.prefillStart stn) s = .next (s.settled (z)) ∧ (z.mill
        stn).cur = some g.desc ∧ z.is (pPIPE stn) PIPE.PIPE_STS_PREFILL = true)
  ∧ (∀ (s : State) (m : Master) (idx : BitVec 21), s.hw.takes m (addrOf CODEC_ENC.JOB_SUBMIT pCODEC 0) = true → s.hw.codec.queue.length
        < 64 → exec (.encJobSubmit m idx) s = .next (s.settled
        (({ s.hw with codec := { s.hw.codec with queue := s.hw.codec.queue ++ [(idx.toNat, m)] } }.showJobs).fabricUse (pageBase
        (addrOf CODEC_ENC.JOB_SUBMIT pCODEC 0)))))
  ∧ (∀ (s : State) (e : Fin 4) (idx : Nat) (m : Master) (rest : List (Nat × Master)), s.hw.codec.queue = (idx, m) :: rest →
        s.hw.encoder e = none → s.hw.bit pCODEC CODEC_ENC.ENC_CTRL_ENC_EN e = true → s.hw.bit pCODEC CODEC_ENC.ENC_STS_FAULTED e =
        false → s.hw.runs pCODEC = true → exec (.encJobStart e) s = .next (s.settled (
          let u := { s.hw with codec := { s.hw.codec with queue := rest } }.showJobs;
          let j : EncJob :=
              { idx := idx, master := m, desc := u.jobBytes idx, row := 0, col := 0, next := 0, billets := 0, noshrink := 0, stop := false };
          let k := { j with next := j.dst };
          let err := u.jobCheck k;
          if err = 0 then u.setEncoder e (some k) else u.jobEnd k e err)))
  ∧ (∀ (s : State) (e : Fin 4) (readOk : Bool) (j : EncJob), s.hw.encoder e = some j → readOk = true → s.hw.jobReads j = true → exec
        (.encBilletDone e readOk) s = .next (s.settled (s.hw.encWrite e j (j.body (s.hw.jobSamples j)) (encodeBillet
        (s.hw.jobSamples j)).isNone)))
  ∧ (∀ (s : State) (e : Fin 4), exec (.encFault e) s = .next (s.settled (
          let u := s.hw.setBit pCODEC CODEC_ENC.ENC_STS_FAULTED e true;
          (
            match u.encoder e with
            | some j => u.encoderEnd e j 9
            | none => u).raise pCODEC 3 ⟨e, 0x0700 + e, 7, false⟩)))
  ∧ (∀ (s : State) (e : Fin 4) (j : EncJob), s.hw.encoder e = some j → exec (.encLeaseExpiry e) s = .next (s.settled ((s.hw.inc
        pFANTAIL FANTAIL.LEASE_EXP).encoderEnd e j 9)))

/-- Lines and rendering banks complete. A requested line whose bands are complete is finished in time, late or lost; a warp or
screen bank switch starts its validation, a cancel ends it, and a validation that no check fails arms the bank. (R110, R113,
R130, R131) -/
def Obligations.RenderingCommandsComplete : Prop :=
  (∀ (s : State) (stn : StationNo) (t : Stamp) (reads : List Stamp) (corrected : BitVec 16) (mem : LineMem) (r : LineReq) (rest :
        List LineReq) (g : PageRec), (s.hw.mill stn).reqs = r :: rest → s.hw.millPage stn = some g → (g.on stn).prefilled = true →
        (s.hw.lineRows stn g r).2 / 64 < (s.hw.mill stn).complete → lineMemAt stn g mem = none → t.toNat ≤ r.deadline.toNat → exec
        (.lineFinish stn ⟨t, reads⟩ corrected mem) s = .next (s.settled (((s.hw.pipeInject stn).incBy (pPIPE stn) PIPE.ECC_CORR 0
        corrected.toNat).lineDone stn g r (s.hw.lineRows stn g r) reads t)))
  ∧ (∀ (s : State) (stn : StationNo) (t : Stamp) (reads : List Stamp) (corrected : BitVec 16) (mem : LineMem) (r : LineReq) (rest :
        List LineReq) (g : PageRec), (s.hw.mill stn).reqs = r :: rest → s.hw.millPage stn = some g → (g.on stn).prefilled = true →
        (s.hw.lineRows stn g r).2 / 64 < (s.hw.mill stn).complete → lineMemAt stn g mem = none → r.deadline.toNat < t.toNat → exec
        (.lineFinish stn ⟨t, reads⟩ corrected mem) s = .next (s.settled (((s.hw.pipeInject stn).incBy (pPIPE stn) PIPE.ECC_CORR 0
        corrected.toNat).lineIsLate stn)))
  ∧ (∀ (s : State) (stn : StationNo) (t : Stamp) (reads : List Stamp) (corrected : BitVec 16) (mem : LineMem) (r : LineReq) (rest :
        List LineReq) (g : PageRec) (a : Nat), (s.hw.mill stn).reqs = r :: rest → s.hw.millPage stn = some g → (g.on
        stn).prefilled = true → (s.hw.lineRows stn g r).2 / 64 < (s.hw.mill stn).complete → lineMemAt stn g mem = some a → exec
        (.lineFinish stn ⟨t, reads⟩ corrected mem) s = .next (s.settled ((((s.hw.pipeInject stn).incBy (pPIPE stn) PIPE.ECC_CORR 0
        corrected.toNat).raise (pPIPE stn) 1 (pipeCap stn a)).spoilOne g.desc 0x11)))
  ∧ (∀ (s : State) (stn : StationNo), exec (.lineLate stn) s = .next (s.settled (s.hw.lineIsLate stn)))
  ∧ (∀ (s : State) (m : Master) (stn : StationNo), s.hw.takes m (addrOf WARP.WBANK_SWITCH (pWARP stn) 0) = true → (s.hw.stn stn).warpSw
        = .idle → exec (.wbankSwitch m stn) s = .next (s.settled ((s.hw.warpEnter stn .validating).fabricUse (pageBase (addrOf
        WARP.WBANK_SWITCH (pWARP stn) 0)))))
  ∧ (∀ (s : State) (m : Master) (stn : StationNo), s.hw.takes m (addrOf WARP.WBANK_CANCEL (pWARP stn) 0) = true → exec (.wbankCancel m
        stn) s = .next (s.settled ((s.hw.warpEnter stn .idle).fabricUse (pageBase (addrOf WARP.WBANK_CANCEL (pWARP stn) 0)))))
  ∧ (∀ (s : State) (m : Master) (stn : StationNo), s.hw.takes m (addrOf SCREEN.SBANK_SWITCH (pSCREEN stn) 0) = true → (s.hw.stn
        stn).screenSw = .idle → exec (.sbankSwitch m stn) s = .next (s.settled ((s.hw.screenEnter stn .validating).fabricUse
        (pageBase (addrOf SCREEN.SBANK_SWITCH (pSCREEN stn) 0)))))
  ∧ (∀ (s : State) (m : Master) (stn : StationNo), s.hw.takes m (addrOf SCREEN.SBANK_CANCEL (pSCREEN stn) 0) = true → exec
        (.sbankCancel m stn) s = .next (s.settled ((s.hw.screenEnter stn .idle).fabricUse (pageBase (addrOf SCREEN.SBANK_CANCEL
        (pSCREEN stn) 0)))))
  ∧ (∀ (s : State) (stn : StationNo) (uncorr : Option (BitVec 20)), (s.hw.stn stn).screenSw = .validating → exec (.bankValidateDone stn
        ⟨true, uncorr⟩) s = .next (s.settled (
          let x := s.hw.readTable (some stn) (screenBase stn (1 - s.hw.rd (pSCREEN stn) SCREEN.SBANK_ACTIVE)) (uncorr.map
              BitVec.toNat);
          match validateRendering x.1 with
          | none => x.2.screenEnter stn .armed
          | some (c, n, o) => ((((x.2.screenEnter stn .idle).wr (pSCREEN stn) SCREEN.SREJECT_CHECK c).wr (pSCREEN stn)
              SCREEN.SREJECT_SET n).wr (pSCREEN stn) SCREEN.SREJECT_INDEX o).raise (pSCREEN stn) 0 (cap0 0))))
  ∧ (∀ (s : State) (stn : StationNo) (uncorr : Option (BitVec 20)), (s.hw.stn stn).warpSw = .validating → exec (.bankValidateDone stn
        ⟨false, uncorr⟩) s = .next (s.settled (
          let x := s.hw.readTable (some stn) (warpBase stn (1 - s.hw.rd (pWARP stn) WARP.WBANK_ACTIVE)) (uncorr.map fun b =>
              b.toNat % 0x8000);
          match validateWarp x.1 with
          | none => x.2.warpEnter stn .armed
          | some (c, o) => (((x.2.warpEnter stn .idle).wr (pWARP stn) WARP.WREJECT_CHECK c).wr (pWARP stn) WARP.WREJECT_INDEX
              o).raise (pWARP stn) 0 (cap0 0))))

/-- Beam-detect edges, plans, the scan clock and the losses of the clocks complete. An index edge, a BD_SOS and a BD_EOS edge of
the selected polarity, a missed edge, a plan, a relock, a start and the enables of the planner and the scan clock each answer
the next state written; an unlocked system PLL, core PLL or SerDes PLL and a clock monitor error clear their lock bit and raise
CLOCK's source, and the lanes on a lost SerDes PLL fail. (R138, R143, R155, R162, R163, R165, R168, R169, R170, R175, R194) -/
def Obligations.ScanClockCommandsComplete : Prop :=
  (∀ (s : State) (stn : StationNo), (s.hw.stn stn).facets.num = some 9 → (s.hw.stn stn).facets.eosSeen = true → exec (.polyIndexEdge
        stn) s = .next (s.settled (s.hw.modFac stn fun f => { f with indexSeen := true })))
  ∧ (∀ (s : State) (stn : StationNo) (n : Nat), (s.hw.stn stn).facets.num = some n → n ≠ 9 ∨ (s.hw.stn stn).facets.eosSeen = false →
        exec (.polyIndexEdge stn) s = .next (s.settled (
          let u := s.hw.inc (pSWATH stn) SWATH.INDEX_MISS;
          if (s.hw.stn stn).facets.strays.contains ((s.hw.facetSeq stn + 2 ^ 32 - 10) % 2 ^ 32) then ((u.raise (pSWATH stn) 2
              (u.slipCap stn)).spoilStation stn 0x11).modFac stn fun f =>
              { f with rebase := some (s.hw.facetSeq stn), strays := [] } else u.modFac stn fun f =>
              { f with strays := s.hw.facetSeq stn :: f.strays })))
  ∧ (∀ (s : State) (stn : StationNo) (k : Fin 4) (n : Nat) (x : Stamp × Nat × Nat), k.val ≠ 0 → s.hw.is (pSWATH stn) SWATH.SW_CTRL_EN =
        true → s.hw.runs (pSWATH stn) = true → (s.hw.stn stn).facets.waitRev = 0 → ((s.hw.stn stn).facets.plans.any fun x =>
        decide (x.1 = (s.hw.facetSeq stn + k) % 2 ^ 32)) = false → s.hw.facetTimes stn k = some x → (s.hw.stn stn).facets.num =
        some n → ∃ z : Hw, exec (.planRun stn k) s = .next (s.settled (z)) ∧ (z.stn stn).facets.plans.head?.map Prod.fst = some
        ((s.hw.facetSeq stn + k) % 2 ^ 32))
  ∧ (∀ (s : State) (m : Master) (stn : StationNo), s.hw.takes m (addrOf SWATH.SW_CTRL_EN (pSWATH stn) 0) = true → exec (.swathEnClear m
        stn) s = .next (s.settled (((s.hw.wr (pSWATH stn) SWATH.SW_CTRL_EN 0).swathOff stn).fabricUse (pageBase (addrOf
        SWATH.SW_CTRL_EN (pSWATH stn) 0)))))
  ∧ (∀ (s : State) (stn : StationNo) (t : Stamp) (falling : Bool), decide (s.hw.use (pSCANCLK stn) SCANCLK.SC_CTRL_SOS_EDGE = 1) =
        falling → s.hw.sosAccepted stn t = true → exec (.bdSos stn ⟨t, falling⟩) s = .next (s.settled (
          let u := s.hw.endPages stn (s.hw.facetSeq stn) t;
          let b := (if u.exposingOn stn then u else u.commitWhole (pSCANCLK stn));
          (((b.sosTake stn t false).wr2 (pSCANCLK stn) SCANCLK.SOS_TIME_LO SCANCLK.SOS_TIME_HI 0 t.toNat).lockJudge
              stn).phaseMeasure stn t)))
  ∧ (∀ (s : State) (stn : StationNo) (t : Stamp) (falling : Bool), decide (s.hw.use (pSCANCLK stn) SCANCLK.SC_CTRL_SOS_EDGE = 1) =
        falling → s.hw.sosAccepted stn t = false → exec (.bdSos stn ⟨t, falling⟩) s = .next (s.settled (s.hw.inc (pSCANCLK stn)
        SCANCLK.BD_SPUR)))
  ∧ (∀ (s : State) (stn : StationNo) (t : Stamp) (falling : Bool), (decide (s.hw.use (pSCANCLK stn) SCANCLK.SC_CTRL_SOS_EDGE = 1) ==
        falling) = false → exec (.bdSos stn ⟨t, falling⟩) s = .next (s.settled (s.hw)))
  ∧ (∀ (s : State) (stn : StationNo) (t : Stamp) (falling : Bool) (sos : Stamp) (rest : List Stamp) (n : Nat), decide (s.hw.use
        (pSCANCLK stn) SCANCLK.SC_CTRL_EOS_EDGE = 1) = falling → (s.hw.stn stn).facets.sos = sos :: rest → (s.hw.stn
        stn).facets.num = some n → (s.hw.stn stn).facets.eosSeen = false → 576 * s.hw.scanDur stn n < 10 * (t - sos).toNat → exec
        (.bdEos stn ⟨t, falling⟩) s = .next (s.settled (
          let u := (((s.hw.wr2 (pSCANCLK stn) SCANCLK.EOS_TIME_LO SCANCLK.EOS_TIME_HI 0 t.toNat).modFac stn fun f =>
              { f with eosSeen := true, eos := f.eos.set 0 (some t) }).wri (pSWATH stn) SWATH.SCAN_DUR n ((t - sos).toNat / 64 % 2
              ^ 24));
          (u.preAlign stn t).endPages stn (u.facetSeq stn) t)))
  ∧ (∀ (s : State) (stn : StationNo) (t : Stamp) (falling : Bool) (sos : Stamp) (rest : List Stamp), (s.hw.stn stn).facets.sos = sos ::
        rest → (s.hw.stn stn).facets.eosSeen = true → exec (.bdEos stn ⟨t, falling⟩) s = .next (s.settled (s.hw)))
  ∧ (∀ (s : State) (stn : StationNo) (q : Stamp), (s.hw.stn stn).facets.pred 1 = some q → s.hw.is (pSCANCLK stn) SCANCLK.SC_STS_LOCKED
        = true → exec (.bdMiss stn) s = .next (s.settled (
          let u := s.hw.sosTake stn q true;
          let v := (u.inc (pSCANCLK stn) SCANCLK.BD_MISS).raise (pSCANCLK stn) 1 (u.scCap stn);
          if 2 ≤ (v.stn stn).facets.fly then v.sclkUnlock stn else v.lockJudge stn)))
  ∧ (∀ (s : State) (stn : StationNo), (s.hw.stn stn).facets.relock = true → exec (.pllRelockDone stn) s = .next (s.settled (
          let p := pSCANCLK stn;
          let u := (s.hw.wr p SCANCLK.DIV_ACT0 (s.hw.rd p SCANCLK.DIV_PEND0)).wr p SCANCLK.DIV_ACT1 (s.hw.rd p SCANCLK.DIV_PEND1);
          (((u.wr p SCANCLK.SC_STS_PEND 0).wr p SCANCLK.SC_STS_PLL_LOCK 1).modFac stn fun f => { f with relock := false }).sclkGo
              stn)))
  ∧ (∀ (s : State) (stn : StationNo), s.hw.is (pSCANCLK stn) SCANCLK.SC_CTRL_EN = true → s.hw.runs (pSCANCLK stn) = true → s.hw.is
        (pSCANCLK stn) SCANCLK.SC_STS_PLL_LOCK = true → pairGood (s.hw.divAct stn).1 (s.hw.divAct stn).2 = true → s.hw.is
        (pSCANCLK stn) SCANCLK.SC_STS_RUNNING = false → exec (.sclkStart stn) s = .next (s.settled (
          let x := s.hw.free 64;
          ((x.2.modFac stn fun f =>
              { f with num := none, sos := [], eos := [], eosSeen := false, indexSeen := false, noIndex := 0, indexThisRev := false, strays := [], rebase := none, fly := 0, good := 0, plans := [], aligned := false, clk := some (Sclk.started f.clk s.hw.clk.time (s.hw.divAct stn).1 (postDiv (s.hw.divAct stn).2) x.1) }).wr
              (pSCANCLK stn) SCANCLK.SC_STS_RUNNING 1).wr (pSWATH stn) SWATH.SW_STS_FACET_VALID 0)))
  ∧ (∀ (s : State) (stn : StationNo), s.hw.is (pSCANCLK stn) SCANCLK.SC_STS_RUNNING = true → exec (.sclkStart stn) s = .next (s.settled
        (s.hw)))
  ∧ (∀ (s : State) (m : Master) (stn : StationNo), s.hw.takes m (addrOf SCANCLK.SC_CTRL_EN (pSCANCLK stn) 0) = true → exec
        (.sclkEnWrite m stn true) s = .next (s.settled ((s.hw.wr (pSCANCLK stn) SCANCLK.SC_CTRL_EN 1).fabricUse (pageBase (addrOf
        SCANCLK.SC_CTRL_EN (pSCANCLK stn) 0)))))
  ∧ (∀ (s : State) (m : Master) (stn : StationNo), s.hw.takes m (addrOf SCANCLK.SC_CTRL_EN (pSCANCLK stn) 0) = true → exec
        (.sclkEnWrite m stn false) s = .next (s.settled ((((s.hw.wr (pSCANCLK stn) SCANCLK.SC_CTRL_EN 0).sclkStop stn).commitOff
        (pSCANCLK stn)).fabricUse (pageBase (addrOf SCANCLK.SC_CTRL_EN (pSCANCLK stn) 0)))))
  ∧ (∀ (s : State), exec .syspllUnlock s = .next (s.settled ((s.hw.wr pCLOCK CLOCK.CLK_STS_SYSPLL_LOCK 0).raise pCLOCK 0 (cap0 0))))
  ∧ (∀ (s : State), exec .corepllUnlock s = .next (s.settled ((s.hw.wr pCLOCK CLOCK.CLK_STS_COREPLL_LOCK 0).raise pCLOCK 1 (cap0 0))))
  ∧ (∀ (s : State) (i : Fin 3), exec (.serdespllUnlock i) s = .next (s.settled (
          let u := (List.finRange 8).foldl (fun g s => g.laneFail (.head s) i) ((s.hw.setBit pCLOCK CLOCK.CLK_STS_SERDESPLL_LOCK i
              false).raise pCLOCK 2 (cap0 i));
          if i.val < 2 then (List.finRange 2).foldl (fun g p => g.laneFail (.peer p) i) u else u)))
  ∧ (∀ (s : State), exec .clkMon s = .next (s.settled ((s.hw.wr pCLOCK CLOCK.CLK_STS_MON_OK 0).raise pCLOCK 3 (cap0 0))))

/-- Emitter banks, ceilings, calibration and beam health complete. An emitter bank switch starts its validation and a cancel
ends it, a validated bank is downloaded, a matching check arms it, an expired download fails, a ceiling is written through the
presence gate, dead beams are cleared and retested, and the head's reports are taken. (R151, R183, R184, R185, R186, R188, R189,
R216, R469) -/
def Obligations.EmitterCommandsComplete : Prop :=
  (∀ (s : State) (m : Master) (stn : StationNo), s.hw.takes m (addrOf EMIT.EBANK_SWITCH (pEMIT stn) 0) = true → (s.hw.stn
        stn).emit.sw = .idle → exec (.ebankSwitch m stn) s = .next (s.settled ((s.hw.emEnter stn .validating).fabricUse (pageBase
        (addrOf EMIT.EBANK_SWITCH (pEMIT stn) 0)))))
  ∧ (∀ (s : State) (m : Master) (stn : StationNo), s.hw.takes m (addrOf EMIT.EBANK_CANCEL (pEMIT stn) 0) = true → exec (.ebankCancel m
        stn) s = .next (s.settled ((
            let u := if (s.hw.stn stn).emit.sw = .downloading then s.hw.emUnsend stn (s.hw.emTarget stn) else s.hw;
            u.emEnter stn .idle).fabricUse (pageBase (addrOf EMIT.EBANK_CANCEL (pEMIT stn) 0)))))
  ∧ (∀ (s : State) (stn : StationNo), (s.hw.stn stn).emit.sw = .validating → exec (.emitValidateDone stn) s = .next (s.settled (
          match validateEmit (s.hw.emitRegion stn (s.hw.emTarget stn)) (s.hw.rd (pEMIT stn) EMIT.CEIL_UW) with
          | some (c, o) => (s.hw.emEnter stn .idle).emReject stn c o
          | none => (s.hw.emEnter stn .downloading).emDownload stn (s.hw.emTarget stn))))
  ∧ (∀ (s : State) (stn : StationNo) (b : Fin 2) (crc : Word), s.hw.linkUp (.head stn) = true → (s.hw.stn stn).emit.redownload = [] →
        (s.hw.stn stn).emit.sw = .downloading → b.val = s.hw.emTarget stn → crc.toNat = tget (fun _ => 0) (s.hw.stn
        stn).emit.expect b → exec (.checkReply stn b crc) s = .next (s.settled (((s.hw.wr (pEMIT stn) EMIT.HEAD_CRC
        crc.toNat).modEmit stn fun e =>
        { e with headHolds := putBit e.headHolds b true, failed := putBit e.failed b false, redownload := e.redownload.erase b.val }).emArm
        stn)))
  ∧ (∀ (s : State) (stn : StationNo), (s.hw.stn stn).emit.sw = .downloading → exec (.emitDownloadTimeout stn) s = .next (s.settled
        ((s.hw.inc pFANTAIL FANTAIL.LEASE_EXP).emFail stn (s.hw.emTarget stn))))
  ∧ (∀ (s : State) (m : Master) (stn : StationNo) (v : BitVec 16), s.hw.takes m (addrOf EMIT.CEIL_UW (pEMIT stn) 0) = true →
        s.hw.windowOpen = true → exec (.ceilUwWrite m stn v) s = .next (s.settled ((((s.hw.gated m.toNat 1 (addrOf EMIT.CEIL_UW
        (pEMIT stn) 0) true).setCeil stn v.toNat).storeCeiling (addrOf EMIT.CEIL_UW (pEMIT stn) 0)).fabricUse (pageBase (addrOf
        EMIT.CEIL_UW (pEMIT stn) 0)))))
  ∧ (∀ (s : State) (m : Master) (stn : StationNo), s.hw.takes m (addrOf EMIT.EM_CTRL_DEAD_CLR (pEMIT stn) 0) = true → exec (.deadClr m
        stn) s = .next (s.settled ((s.hw.modEmit stn fun e => { e with deadClr := true }).fabricUse (pageBase (addrOf
        EMIT.EM_CTRL_DEAD_CLR (pEMIT stn) 0)))))
  ∧ (∀ (s : State) (stn : StationNo), (s.hw.stn stn).emit.deadClr = true → s.hw.exposingOn stn = false → exec (.deadClrApply stn) s =
        .next (s.settled ((s.hw.modEmit stn fun e => { e with deadClr := false, testing := true }).relSend (.head stn) (plainFrame
        4 0x42 0 []))))
  ∧ (∀ (s : State) (m : Master) (stn : StationNo) (v : Bool), s.hw.takes m (addrOf EMIT.EM_CTRL_CAL_EN (pEMIT stn) 0) = true → exec
        (.calEnWrite m stn v) s = .next (s.settled (((s.hw.wr (pEMIT stn) EMIT.EM_CTRL_CAL_EN (b2n v)).relSend (.head stn)
        (plainFrame 4 0x41 (b2n v) [])).fabricUse (pageBase (addrOf EMIT.EM_CTRL_CAL_EN (pEMIT stn) 0)))))
  ∧ (∀ (s : State) (stn : StationNo) (b : Fin 48), s.hw.linkUp (.head stn) = true → exec (.beamDead stn b) s = .next (s.settled
        ((((s.hw.setDead stn b true).inc (pEMIT stn) EMIT.TAKEOVER_CNT).showBdAlt stn).raise (pEMIT stn) 0 (emCap stn b))))
  ∧ (∀ (s : State) (stn : StationNo) (d : BitVec 20), s.hw.linkUp (.head stn) = true → exec (.exposureLost stn d) s = .next (s.settled
        (((s.hw.wr (pEMIT stn) EMIT.HEALTH_STS_EXP_LOST 1).inc (pEMIT stn) EMIT.LOST_CNT).spoilWhere (fun g => decide (g.desc =
        d.toNat) && g.uses stn && g.state.inFlight) 0x11)))
  ∧ (∀ (s : State) (stn : StationNo) (b : Fin 48) (step : Fin 16) (meas : BitVec 16), s.hw.linkUp (.head stn) = true → meas.toNat ≤
        s.hw.rd (pEMIT stn) EMIT.CEIL_UW → ∃ z : Hw, exec (.calMeas stn b step meas) s = .next (s.settled (z)) ∧ (tget (fun _ =>
        (0, 0)) (z.stn stn).emit.cal b).1 = meas.toNat ∧ z.pins = s.hw.pins)
  ∧ (∀ (s : State) (stn : StationNo) (mask : BitVec 48), s.hw.linkUp (.head stn) = true → (s.hw.stn stn).emit.testing = true → exec
        (.deadResult stn mask) s = .next (s.settled (
          let u := s.hw.modEmit stn fun e => { e with testing := false };
          if u.exposingOn stn then u.modEmit stn fun e => { e with revive := mask.toNat } else u.revive stn mask.toNat)))
  ∧ (∀ (s : State) (m : Master) (stn : StationNo), s.hw.takes m (addrOf EMIT.HEALTH_STS_MEAS_OVER (pEMIT stn) 0) = true → exec
        (.measOverClear m stn) s = .next (s.settled ((s.hw.wr (pEMIT stn) EMIT.HEALTH_STS_MEAS_OVER 0).fabricUse (pageBase (addrOf
        EMIT.HEALTH_STS_MEAS_OVER (pEMIT stn) 0)))))

/-- The head's reports, violations and reliable frames complete. HEAD_STATUS is shown with HEAD_READY, its silence clears
HEAD_READY, a register reply goes to the kernel, a violation is recorded and raised, and a reliable frame, an acknowledgement, a
resend, for which a credit is needed, and a credit cell move the channel. (R217, R219, R220, R221, R222, R226) -/
def Obligations.HeadLinkCommandsComplete : Prop :=
  (∀ (s : State) (stn : StationNo) (param : BitVec 64), s.hw.linkUp (.head stn) = true → exec (.headStatus stn param) s = .next
        (s.settled ((s.hw.wr (pIVINA stn) IVINA.HEAD_STATUS (param.toNat % 2 ^ 32)).wr (pIVINA stn) IVINA.IV_STS_HEAD_READY
        (param.toNat % 2))))
  ∧ (∀ (s : State) (stn : StationNo), exec (.headStatusTimeout stn) s = .next (s.settled (s.hw.wr (pIVINA stn) IVINA.IV_STS_HEAD_READY
        0)))
  ∧ (∀ (s : State) (stn : StationNo) (f : Frame), s.hw.linkUp (.head stn) = true → s.hw.kernelRuns = true → exec (.regReply stn f) s =
        .next (s.settled (s.hw.send (.toKernel (.ivina stn) f))))
  ∧ (∀ (s : State) (reason : BitVec 8) (ch : BitVec 3) (seq : BitVec 16) (detail : BitVec 32) (q : Fin 2), exec (.ivinaViolationRx
        (.peer q) reason ch seq detail) s = .next (s.settled (
          let v := (((((s.hw.inc (pPEER q) PEER.VIOL_RX).wr (pPEER q) PEER.LAST_VIOL_REASON reason.toNat).wr (pPEER q)
              PEER.LAST_VIOL_CH ch.toNat).wr (pPEER q) PEER.LAST_VIOL_DIR 1).wr (pPEER q) PEER.LAST_VIOL_SEQ seq.toNat);
          v.raise (pPEER q) 1 (v.linkCap (.peer q) reason.toNat ch.toNat 0 (if seq.toNat = 0 then detail.toNat else seq.toNat)))))
  ∧ (∀ (s : State) (reason : BitVec 8) (ch : BitVec 3) (seq : BitVec 16) (detail : BitVec 32) (q : Fin 8), exec (.ivinaViolationRx
        (.head q) reason ch seq detail) s = .next (s.settled (
          let v := (((((s.hw.inc (pIVINA q) IVINA.VIOL_RX).wr (pIVINA q) IVINA.LAST_VIOL_REASON reason.toNat).wr (pIVINA q)
              IVINA.LAST_VIOL_CH ch.toNat).wr (pIVINA q) IVINA.LAST_VIOL_DIR 1).wr (pIVINA q) IVINA.LAST_VIOL_SEQ seq.toNat);
          let u := v.raise (pIVINA q) 2 (v.linkCap (.head q) reason.toNat ch.toNat 0 (if seq.toNat = 0 then detail.toNat else
              seq.toNat));
          if reason.toNat = 0x23 then u.spoilWhere (fun g => (u.plannedPages q detail.toNat seq.toNat).contains g.desc && (decide
              (g.state = .admitted) || g.state.inFlight)) 0x11 else if reason.toNat = 0x20 ∨ reason.toNat = 0x22 ∨ reason.toNat =
              0x24 ∨ reason.toNat = 0x25 then u.spoilStation q 0x11 else u)))
  ∧ (∀ (s : State) (l : LinkId) (reason : BitVec 8) (ch : BitVec 3) (seq : BitVec 16) (detail : BitVec 32), s.hw.linkUp l = true →
        reason.toNat ≠ 0x14 → exec (.ivinaBadFrame l reason ch seq detail) s = .next (s.settled ((s.hw.bufferFreed l
        ch.toNat).violation l reason.toNat ch.toNat seq.toNat detail.toNat)))
  ∧ (∀ (s : State) (l : LinkId) (reason : BitVec 8) (ch : BitVec 3) (seq : BitVec 16) (detail : BitVec 32), s.hw.linkUp l = true →
        reason.toNat = 0x14 → exec (.ivinaBadFrame l reason ch seq detail) s = .next (s.settled (s.hw.violation l 0x14 ch.toNat
        seq.toNat detail.toNat)))
  ∧ (∀ (s : State) (l : LinkId) (ch : BitVec 3) (seq : BitVec 16), s.hw.linkUp l = true → ch.toNat = 3 ∨ ch.toNat = 4 →
        (s.hw.bufferFreed l ch.toNat).injArmed l.page 4 0 = false → seq.toNat = (s.hw.chan l ch.toNat).rxSeq → exec
        (.ivinaReliableFrame l ch seq) s = .next (s.settled (((s.hw.bufferFreed l ch.toNat).modChan l ch.toNat fun c =>
        { c with rxSeq := (c.rxSeq + 1) % 65536 }).ackNow l ch.toNat)))
  ∧ (∀ (s : State) (l : LinkId) (ch : BitVec 3) (seq : BitVec 16), s.hw.linkUp l = true → ((s.hw.chan l ch.toNat).unacked.any fun f =>
        decide (f.seq = seq.toNat)) = true → exec (.ivinaAck l ch seq) s = .next (s.settled (Hw.relFlush 64 l (s.hw.modChan l
        ch.toNat fun c => { c with unacked := (c.unacked.dropWhile fun f => decide (f.seq ≠ seq.toNat)).drop 1, resends := 0 }))))
  ∧ (∀ (s : State) (l : LinkId) (ch : BitVec 3), s.hw.linkUp l = true → (s.hw.chan l ch.toNat).unacked.isEmpty = false → (s.hw.chan l
        ch.toNat).failed = false → (s.hw.chan l ch.toNat).resends < 8 → ((s.hw.chan l ch.toNat).unacked.take (s.hw.chan l
        ch.toNat).credits).isEmpty = false → exec (.ivinaResendTimeout l ch) s = .next (s.settled (
          let c := s.hw.chan l ch.toNat;
          let fs := c.unacked.take c.credits;
          let u := s.hw.modChan l ch.toNat fun x => { x with resends := x.resends + 1, credits := x.credits - fs.length };
          let v := (
            match l with
            | .head q => u.incBy (pIVINA q) IVINA.RETRY_CNT 0 fs.length
            | .peer q => u.incBy (LinkId.peer q).page PEER.RETRY_CNT 0 fs.length);
          (fs.foldl (fun g f => g.frameOut l f) v).showCredits l)))
  ∧ (∀ (s : State) (l : LinkId) (ch : BitVec 3), (s.hw.chan l ch.toNat).resends < 8 → ((s.hw.chan l ch.toNat).unacked.take (s.hw.chan l
        ch.toNat).credits).isEmpty = true → exec (.ivinaResendTimeout l ch) s = .next (s.settled (s.hw)))
  ∧ (∀ (s : State) (l : LinkId) (ch : BitVec 3) (cnt : BitVec 8), s.hw.linkUp l = true → ch.toNat = 3 ∨ ch.toNat = 4 → exec
        (.creditCell l ch cnt) s = .next (s.settled (Hw.relFlush 64 l ((s.hw.modChan l ch.toNat fun c =>
        { c with credits := c.credits + (cnt.toNat + 256 - c.crLast) % 256, crLast := cnt.toNat % 256 }).showCredits l))))
  ∧ (∀ (s : State) (stn : StationNo), exec (.headRxOkTimeout stn) s = .next (s.settled (s.hw.wr (pIVINA stn) IVINA.IV_STS_HEAD_RX_OK
        0)))

/-- Training, alignment and failure of lanes complete. A TS1, TS2 or TS3 record moves its lane or counts, each timer sends its
lane back to DETECT, an alignment codeword brings a ready lane up, a missing one, a lost signal or too many uncorrectable
codewords fail an active lane, a lane out of ACTIVE that loses its signal loses its alignment count, the time of the next
alignment codeword is sent to the head, and the writes of EN, LANE_EN, RETRAIN and LEN_EN act. (R196, R200, R201, R203, R205,
R218, R437) -/
def Obligations.LaneCommandsComplete : Prop :=
  (∀ (s : State) (l : LinkId) (k : Fin 3) (m : Message) (t : TsRec), m.ts = some t → (s.hw.lane l k).st = .detect → t.tsType = 1 →
        k.val < l.lanes → l.tsMatches k t = true → 8 ≤ (s.hw.lane l k).aligns → exec (.ivinaTs1 l k m) s = .next (s.settled
        ((s.hw.showTs l t).laneMove l k .negotiate 0)))
  ∧ (∀ (s : State) (l : LinkId) (k : Fin 3) (m : Message) (t : TsRec), m.ts = some t → (s.hw.lane l k).st = .negotiate → t.tsType = 2 →
        k.val < l.lanes → l.tsMatches k t = true → (decide (t.verMin ≤ 1 ∧ 1 ≤ t.verMax)) = true → l.enough t = true → exec
        (.ivinaTs2 l k m) s = .next (s.settled (
          let g := s.hw.showTs l t;
          let u := g.modLane l k fun x => { x with ts := some t, precoded := g.precodes l k && bitAt t.caps 0 };
          let bad := u.tsDisagree l k t;
          if bad.isEmpty then (
            match l with
            | .head q => u.wr (pIVINA q) IVINA.IV_VER_AGREED 1
            | .peer _ => u).laneMove l k .confirm 0 else (u.trainingViolation l k 3).laneDisagrees l bad)))
  ∧ (∀ (s : State) (l : LinkId) (k : Fin 3) (m : Message) (t : TsRec), m.ts = some t → (s.hw.lane l k).st = .quarantine → t.tsType = 2
        → k.val < l.lanes → l.tsMatches k t = true → (decide (t.verMin ≤ 1 ∧ 1 ≤ t.verMax)) = true → (s.hw.lane l k).reason ≠ 4 ∨
        l.enough t = true → exec (.ivinaTs2 l k m) s = .next (s.settled ((s.hw.showTs l t).laneMove l k .negotiate 0)))
  ∧ (∀ (s : State) (l : LinkId) (k : Fin 3) (m : Message) (t : TsRec), m.ts = some t → (s.hw.lane l k).st = .confirm → t.tsType = 3 →
        k.val < l.lanes → l.tsMatches k t = true → t.verAgreed = 1 → exec (.ivinaTs3 l k m) s = .next (s.settled ((s.hw.showTs l
        t).modLane l k fun x => { x with ts3 := x.ts3 + 1, ready := decide (16 ≤ x.ts3 + 1) })))
  ∧ (∀ (s : State) (l : LinkId) (k : Fin 3), (s.hw.lane l k).st = .detect → exec (.ivinaDetectTimeout l k) s = .next (s.settled
        (s.hw.laneMove l k .detect (s.hw.lane l k).reason)))
  ∧ (∀ (s : State) (l : LinkId) (k : Fin 3), (s.hw.lane l k).st = .negotiate → exec (.ivinaNegotiateTimeout l k) s = .next (s.settled
        (s.hw.laneMove l k .detect 0)))
  ∧ (∀ (s : State) (l : LinkId) (k : Fin 3), (s.hw.lane l k).st = .confirm → exec (.ivinaConfirmTimeout l k) s = .next (s.settled
        (s.hw.laneMove l k .detect 0)))
  ∧ (∀ (s : State) (l : LinkId) (k : Fin 3), (s.hw.lane l k).st = .failed → exec (.ivinaFailedTimeout l k) s = .next (s.settled
        (s.hw.laneMove l k .detect 0)))
  ∧ (∀ (s : State) (l : LinkId) (k : Fin 3) (am : BitVec 64) (fields : BitVec 54) (skew : BitVec 16) (corrected : BitVec 32) (a :
        AlignRec), k.val < l.lanes → (alignMessage am fields).align = some a → l.alignValid k (s.hw.lane l k) a = true →
        skew.toNat ≤ 1934 → exec (.alignmentCodeword l k am fields skew corrected) s = .next (s.settled (
          let g := s.hw.symbolsCorrected l k corrected.toNat;
          let u := ((g.showAlign l a.rxOk skew.toNat).modLane l k fun x =>
              { x with alignSeq := a.seq, missed := 0, aligns := if x.alignStep a.seq = 1 then min 8 (x.aligns + 1) else 1 }).modLk
              l fun x => { x with rxPos := 0, rxBad := false };
          let v := (if (u.lane l k).st = .confirm ∧ (u.lane l k).ready ∧ g.alignAgrees l a.seq then u.laneJoin l k else u);
          forN l.lanes (fun j x => if bitAt a.retrain j then x.laneFail l j else x) v)))
  ∧ (∀ (s : State) (l : LinkId) (k : Fin 3) (am : BitVec 64) (fields : BitVec 54) (skew : BitVec 16) (corrected : BitVec 32), k.val <
        l.lanes → (alignMessage am fields).align = none → exec (.alignmentCodeword l k am fields skew corrected) s = .next
        (s.settled ((s.hw.symbolsCorrected l k corrected.toNat).alignWrong l k)))
  ∧ (∀ (s : State) (l : LinkId) (k : Fin 3), exec (.alignmentMissing l k) s = .next (s.settled ((s.hw.modLane l k fun x =>
        { x with aligns := 0 }).laneFail l k)))
  ∧ (∀ (s : State) (l : LinkId) (k : Fin 3), (s.hw.lane l k).st = .active → exec (.laneSignalLoss l k) s = .next (s.settled
        (s.hw.laneFail l k)))
  ∧ (∀ (s : State) (l : LinkId) (k : Fin 3), (s.hw.lane l k).st ≠ .active → exec (.laneSignalLoss l k) s = .next (s.settled
        (s.hw.modLane l k fun x => { x with aligns := 0 })))
  ∧ (∀ (s : State) (k : Fin 3) (pos : BitVec 8) (others : Option (Message × Message)) (q : Fin 2), (s.hw.lane (.peer q) k).st = .active
        → exec (.codewordUncorrectable (.peer q) k ⟨pos, others⟩) s = .next (s.settled (
          let u := s.hw.modLane (.peer q) k fun x =>
              { x with uncorr := s.hw.mono :: x.uncorr.takeWhile fun t => decide ((s.hw.mono - t).toNat < 1024000000) };
          if 64 < (u.lane (.peer q) k).uncorr.length then u.laneFail (.peer q) k else u)))
  ∧ (∀ (s : State) (k : Fin 3) (pos : BitVec 8) (others : Option (Message × Message)) (q : Fin 8), (s.hw.lane (.head q) k).st = .active
        → exec (.codewordUncorrectable (.head q) k ⟨pos, others⟩) s = .next (s.settled (
          let v := (s.hw.inci (pIVINA q) IVINA.CW_UNCORR k).stripeHurt q k pos.toNat others;
          let u := v.modLane (.head q) k fun x =>
              { x with uncorr := v.mono :: x.uncorr.takeWhile fun t => decide ((v.mono - t).toNat < 1024000000) };
          if u.rd (pIVINA q) IVINA.LANE_FAIL_THR < (u.lane (.head q) k).uncorr.length then u.laneFail (.head q) k else u)))
  ∧ (∀ (s : State) (stn : StationNo) (u : Unit) (k : Nat), ((List.range 3).find? fun k => decide ((s.hw.lane (.head stn) k).st =
        .active)) = some k → exec (.timeSync stn u) s = .next (s.settled (s.hw.ivSend stn
        { plainFrame 5 0x60 (s.hw.timeAfter (s.hw.alignIn (.head stn))).toNat [] with flags := 2 * k })))
  ∧ (∀ (s : State) (m : Master) (l : LinkId), s.hw.takes m (l.page + 0x80) = true → exec (.ivRetrain m l) s = .next (s.settled
        ((s.hw.retrain l).fabricUse (pageBase (l.page + 0x80)))))
  ∧ (∀ (s : State) (m : Master) (stn : StationNo) (en : Bool) (lanes : BitVec 3), s.hw.takes m (addrOf IVINA.IV_CTRL_EN (pIVINA stn) 0)
        = true → exec (.ivEnWrite m stn en lanes) s = .next (s.settled ((((s.hw.wr (pIVINA stn) IVINA.IV_CTRL_EN (b2n en)).wr
        (pIVINA stn) IVINA.IV_CTRL_LANE_EN lanes.toNat).lanesFollow (.head stn)).fabricUse (pageBase (addrOf IVINA.IV_CTRL_EN
        (pIVINA stn) 0)))))
  ∧ (∀ (s : State) (m : Master) (p : Fin 2) (en : Bool) (lanes : BitVec 2), s.hw.takes m (addrOf PEER.PR_CTRL_EN (pPEER p) 0) = true →
        exec (.prEnWrite m p en lanes) s = .next (s.settled ((((s.hw.wr (pPEER p) PEER.PR_CTRL_EN (b2n en)).wr (pPEER p)
        PEER.PR_CTRL_LANE_EN lanes.toNat).lanesFollow (.peer p)).fabricUse (pageBase (addrOf PEER.PR_CTRL_EN (pPEER p) 0)))))
  ∧ (∀ (s : State) (m : Master) (stn : StationNo), s.hw.takes m (addrOf IVINA.IV_CTRL_LEN_EN (pIVINA stn) 0) = true → isKernel m = true
        → s.hw.lenMay stn = true → exec (.lenEnWrite m stn true) s = .next (s.settled ((
            let u := s.hw.wr (pIVINA stn) IVINA.IV_CTRL_LEN_EN 1;
            { u with pins := { u.pins with lenPermit := putBit u.pins.lenPermit stn true } }).fabricUse (pageBase (addrOf
        IVINA.IV_CTRL_LEN_EN (pIVINA stn) 0)))))
  ∧ (∀ (s : State) (m : Master) (stn : StationNo), s.hw.takes m (addrOf IVINA.IV_CTRL_LEN_EN (pIVINA stn) 0) = true → exec (.lenEnWrite
        m stn false) s = .next (s.settled ((s.hw.wr (pIVINA stn) IVINA.IV_CTRL_LEN_EN 0).fabricUse (pageBase (addrOf
        IVINA.IV_CTRL_LEN_EN (pIVINA stn) 0)))))

/-- Encoder channels and divided outputs complete. A quadrature transition counts, an illegal one, a lost signal and an index
edge are taken, a BiSS-C channel clocks a frame out and takes one in, SPEED is updated and goes to zero at standstill, a divided
output gives its backlog and is configured, and a channel's errors are cleared. (R227, R228, R229, R230, R231, R232, R236, R237,
R239) -/
def Obligations.EncoderCommandsComplete : Prop :=
  (∀ (s : State) (c : Fin 20) (a b : Bool) (t : Stamp), s.hw.encCounts c = true → (s.hw.encSt c).a ≠ a → (s.hw.encSt c).b = b → exec
        (.encoderCount c a b t) s = .next (s.settled (
          let e := s.hw.encSt c;
          let q := quadrature (s.hw.enc c FEEDBACK.CH_CFG_MODE) e.a e.b a b;
          let u := (s.hw.encFast c t).encLevels c a b t;
          if q.1 then u.encStep c (q.2 != u.encIs c FEEDBACK.CH_CFG_DIR_INV) t else u)))
  ∧ (∀ (s : State) (c : Fin 20) (a b : Bool) (t : Stamp), s.hw.encCounts c = true → (s.hw.encSt c).a = a → (s.hw.encSt c).b ≠ b → exec
        (.encoderCount c a b t) s = .next (s.settled (
          let e := s.hw.encSt c;
          let q := quadrature (s.hw.enc c FEEDBACK.CH_CFG_MODE) e.a e.b a b;
          let u := (s.hw.encFast c t).encLevels c a b t;
          if q.1 then u.encStep c (q.2 != u.encIs c FEEDBACK.CH_CFG_DIR_INV) t else u)))
  ∧ (∀ (s : State) (c : Fin 20) (t : Stamp), s.hw.encCounts c = true → exec (.encoderIllegal ⟨c, t⟩) s = .next (s.settled (
          let u := (s.hw.encFast c t).encLevels c (!(s.hw.encSt c).a) (!(s.hw.encSt c).b) t;
          ((((u.encWr c FEEDBACK.CH_STS_ILLEGAL 1).inci (fbPage c) FEEDBACK.ERR_CNT (c % 8)).encValid c false).encJudge c).raise
              (fbPage c) 1 (fbCap c))))
  ∧ (∀ (s : State) (c : Fin 20) (line : Fin 3), s.hw.encIs c FEEDBACK.CH_CFG_LOSS_EN = true → s.hw.runs (fbPage c) = true →
        s.hw.encWatches c line = true → exec (.encoderSignalLoss c line) s = .next (s.settled (((s.hw.encWr c FEEDBACK.CH_STS_LOSS
        1).encJudge c).raise (fbPage c) 0 (fbCap c))))
  ∧ (∀ (s : State) (c : Fin 20) (a b : Bool) (t : Stamp), s.hw.encCounts c = true → (encoderCount c a b t s.hw).encCounts c = true → ∃
        z : Hw, exec (.encoderIndex c ⟨a, b, t⟩) s = .next (s.settled (z)) ∧ (z.encSt c).idxAt = some ((encoderCount c a b t
        s.hw).encSt c).pos)
  ∧ (∀ (s : State) (c : Fin 20), s.hw.encOn c = true → s.hw.enc c FEEDBACK.CH_CFG_MODE = 3 → exec (.bissCycle c) s = .next (s.settled
        (s.hw.send (.bissFrame c))))
  ∧ (∀ (s : State) (c : Fin 20) (t : Stamp) (started released : Bool) (position : List Bool) (nE nW : Bool) (crc : BitVec 6) (delay :
        BitVec 32), s.hw.encOn c = true → s.hw.enc c FEEDBACK.CH_CFG_MODE = 3 → (
        let x := bissData (clampN 8 40 (s.hw.enc c FEEDBACK.BISS_CFG_BITS)) (bissBits position nE nW crc);
        started && x.crcOk && x.nE && released) = false → exec (.bissFrame c t started released position nE nW crc delay) s =
        .next (s.settled (
          let u := (if started then s.hw.encWr c FEEDBACK.BISS_DELAY (delay.toNat % 65536) else s.hw);
          ((((u.modEnc c fun e => { e with badRun := e.badRun + 1 }).encWr c FEEDBACK.CH_STS_BISS_ERR 1).inci (fbPage c)
              FEEDBACK.ERR_CNT (c % 8)).encJudge c).raise (fbPage c) 3 (fbCap c))))
  ∧ (∀ (s : State) (c : Fin 20) (t : Stamp) (position : List Bool) (nE nW : Bool) (crc : BitVec 6) (delay : BitVec 32) (x : BissData),
        s.hw.encOn c = true → s.hw.enc c FEEDBACK.CH_CFG_MODE = 3 → bissData (clampN 8 40 (s.hw.enc c FEEDBACK.BISS_CFG_BITS))
        (bissBits position nE nW crc) = x → x.crcOk = true → x.nE = true → exec (.bissFrame c t true true position nE nW crc
        delay) s = .next (s.settled (
          let bits := clampN 8 40 (s.hw.enc c FEEDBACK.BISS_CFG_BITS);
          let v := x.value;
          let u := (s.hw.encWr c FEEDBACK.BISS_DELAY (delay.toNat % 65536)).encWr c FEEDBACK.CH_STS_WARN (b2n (!x.nW));
          let last := (u.encSt c).lastGood;
          let w := (u.modEnc c fun e => { e with badRun := 0, lastGood := some v }).encJudge c;
          match last with
          | none => w.modEnc c fun e => { e with good := (t, e.pos) :: e.good }
          | some y =>
          let d := bissDiff bits v y;
          if 2 ^ (bits - 2) < d.natAbs then ((w.encWr c FEEDBACK.CH_STS_BISS_ERR 1).encValid c false).raise (fbPage c) 6 (fbCap c)
              else (Hw.encSteps c (decide (0 < d) != w.encIs c FEEDBACK.CH_CFG_DIR_INV) t d.natAbs w).modEnc c fun e =>
              { e with good := (t, e.pos) :: e.good })))
  ∧ (∀ (s : State) (c : Fin 20) (t : Stamp), s.hw.encLives c = true → ∃ z : Hw, exec (.speedUpdate c t) s = .next (s.settled (z)) ∧
        (z.encSt c).speeds.length = min 64 ((s.hw.encSt c).speeds.length + 1) ∧ z.enc c FEEDBACK.SPEED = satSigned 32 ((z.encSt
        c).speeds.headD 0))
  ∧ (∀ (s : State) (c : Fin 20), s.hw.encLives c = true → exec (.encoderStall c) s = .next (s.settled ((s.hw.encWr c FEEDBACK.SPEED
        0).encWr c FEEDBACK.CH_STS_STOPPED 1)))
  ∧ (∀ (s : State) (d : Fin 4) (t : Stamp) (x : Bool) (xs : List Bool), (s.hw.divSt d).backlog = x :: xs → s.hw.divOn d = true →
        s.hw.divFree d t = true → exec (.divOutputEdge d t) s = .next (s.settled (((s.hw.modDiv d fun o =>
        { o with backlog := xs }).wri (pFEEDBACK 2) FEEDBACK.DIV_STS_BACKLOG d xs.length).divEdge d x t)))
  ∧ (∀ (s : State) (m : Master) (d : Fin 4) (w : Word), s.hw.takes m (addrOf FEEDBACK.DIV_CFG_EN (pFEEDBACK 2) d) = true → s.hw.div d
        FEEDBACK.DIV_DEN ≠ 0 → s.hw.div d FEEDBACK.DIV_NUM ≤ s.hw.div d FEEDBACK.DIV_DEN → s.hw.div d FEEDBACK.DIV_CFG_EN = 0 → w
        &&& 1 = 0 → ∃ z : Hw, exec (.divCfgWrite m d w) s = .next (s.settled ((z).fabricUse (pageBase (addrOf FEEDBACK.DIV_CFG_EN
        (pFEEDBACK 2) d)))) ∧ z.div d FEEDBACK.DIV_CFG_SRC = bitsOf w 5 1 ∧ z.div d FEEDBACK.DIV_CFG_EN = 0 ∧ z.div d
        FEEDBACK.DIV_STS_RUNNING = 0)
  ∧ (∀ (s : State) (m : Master) (c : Fin 20), s.hw.takes m (addrOf FEEDBACK.CH_STS_ILLEGAL (fbPage c) (c % 8)) = true → exec
        (.encoderErrClear m c true true) s = .next (s.settled (((((s.hw.encWr c FEEDBACK.CH_STS_ILLEGAL 0).encWr c
        FEEDBACK.CH_STS_BISS_ERR 0).encJudge c).encValid c true).fabricUse (pageBase (addrOf FEEDBACK.CH_STS_ILLEGAL (fbPage c) (c
        % 8))))))
  ∧ (∀ (s : State) (c : Fin 20), exec (.hwfaultClear c true) s = .next (s.settled ((s.hw.encWr c FEEDBACK.CH_STS_SUPPLY_OVL 0).encJudge
        c)))
  ∧ (∀ (s : State) (c : Fin 20), exec (.hwfaultClear c false) s = .next (s.settled ((s.hw.encWr c FEEDBACK.CH_STS_LOSS 0).encJudge c)))
  ∧ (∀ (s : State) (m : Master) (c : Fin 20), s.hw.takes m (addrOf FEEDBACK.CH_CFG_EN (fbPage c) (c % 8)) = true → exec
        (.encoderEnWrite m c false) s = .next (s.settled ((((s.hw.encWr c FEEDBACK.CH_CFG_EN 0).encJudge c).surfJudgeCh
        c).fabricUse (pageBase (addrOf FEEDBACK.CH_CFG_EN (fbPage c) (c % 8))))))
  ∧ (∀ (s : State) (m : Master) (c : Fin 20), s.hw.takes m (addrOf FEEDBACK.CH_CFG_EN (fbPage c) (c % 8)) = true → s.hw.encIs c
        FEEDBACK.CH_CFG_EN = false → exec (.encoderEnWrite m c true) s = .next (s.settled (((s.hw.encWr c FEEDBACK.CH_CFG_EN
        1).encValid c true).fabricUse (pageBase (addrOf FEEDBACK.CH_CFG_EN (fbPage c) (c % 8))))))

/-- Axis enables, catch, precharge and alignment complete. EN starts an axis from OFF (a polygon in CATCH, another in PRECHARGE)
and stops it from anywhere, ALIGN_REQ is kept for a PMSM axis, a caught rotor is judged, a charged bridge goes on to ALIGN or
RUN, an aligned axis goes to RUN and a polygon to its ramp, a failed phase of the start faults the axis with its cause, and a
failed polygon start is tried again. (R249, R250, R252, R253, R256, R257, R258) -/
def Obligations.AxisEnableCommandsComplete : Prop :=
  (∀ (s : State) (m : Master) (n : Fin 20), s.hw.takes m (addrOf AXIS.AX_CTRL_EN (pAXIS n) 0) = true → exec (.axisEnWrite m n false)
        s = .next (s.settled (((s.hw.wr (pAXIS n) AXIS.AX_CTRL_EN 0).axOff n).fabricUse (pageBase (addrOf AXIS.AX_CTRL_EN (pAXIS
        n) 0)))))
  ∧ (∀ (s : State) (m : Master) (n : Fin 20), s.hw.takes m (addrOf AXIS.AX_CTRL_EN (pAXIS n) 0) = true → s.hw.axState n = 0 → s.hw.is
        (pAXIS n) AXIS.AX_STS_MBUS_LOW = false → (
        let u := (if isKernel m then (s.hw.wr (pAXIS n) AXIS.AX_CTRL_EN 1).rearmUnit (axisBank n) (axisBridge n) else s.hw.wr
            (pAXIS n) AXIS.AX_CTRL_EN 1);
        u.stageHeld (axisBank n) (axisBridge n)) = false → exec (.axisEnWrite m n true) s = .next (s.settled ((
            let u := (if isKernel m then (s.hw.wr (pAXIS n) AXIS.AX_CTRL_EN 1).rearmUnit (axisBank n) (axisBridge n) else s.hw.wr
                (pAXIS n) AXIS.AX_CTRL_EN 1);
            if isPoly n then u.axEnter n 1 else u.axEnter n 3).fabricUse (pageBase (addrOf AXIS.AX_CTRL_EN (pAXIS n) 0)))))
  ∧ (∀ (s : State) (m : Master) (n : Fin 20), s.hw.takes m (addrOf AXIS.AX_CTRL_EN (pAXIS n) 0) = true → s.hw.axState n = 0 → s.hw.is
        (pAXIS n) AXIS.AX_STS_MBUS_LOW = false → (
        let u := (if isKernel m then (s.hw.wr (pAXIS n) AXIS.AX_CTRL_EN 1).rearmUnit (axisBank n) (axisBridge n) else s.hw.wr
            (pAXIS n) AXIS.AX_CTRL_EN 1);
        u.stageHeld (axisBank n) (axisBridge n)) = true → exec (.axisEnWrite m n true) s = .next (s.settled (((
              let u := (if isKernel m then (s.hw.wr (pAXIS n) AXIS.AX_CTRL_EN 1).rearmUnit (axisBank n) (axisBridge n) else
                  s.hw.wr (pAXIS n) AXIS.AX_CTRL_EN 1);
              u).axStageOff n).fabricUse (pageBase (addrOf AXIS.AX_CTRL_EN (pAXIS n) 0)))))
  ∧ (∀ (s : State) (m : Master) (n : Fin 20), s.hw.takes m (addrOf AXIS.AX_CTRL_ALIGN_REQ (pAXIS n) 0) = true → isPoly n = false → exec
        (.alignReq m n) s = .next (s.settled ((s.hw.wr (pAXIS n) AXIS.AX_CTRL_ALIGN_REQ 1).fabricUse (pageBase (addrOf
        AXIS.AX_CTRL_ALIGN_REQ (pAXIS n) 0)))))
  ∧ (∀ (s : State) (n : Fin 20) (speed : BitVec 32) (theta amp : BitVec 16), s.hw.axState n = 1 → exec (.catchMeasureDone n speed theta
        amp) s = .next (s.settled (s.hw.catchOutcome n speed.toInt theta.toNat amp.toNat)))
  ∧ (∀ (s : State) (n : Fin 20) (speed : BitVec 32) (theta amp : BitVec 16), s.hw.axState n = 2 → exec (.catchWaitRemeasure n speed
        theta amp) s = .next (s.settled (s.hw.catchOutcome n speed.toInt theta.toNat amp.toNat)))
  ∧ (∀ (s : State) (n : Fin 20), s.hw.axState n = 2 → exec (.catchWaitTimeout n) s = .next (s.settled (s.hw.axFault n 1 3)))
  ∧ (∀ (s : State) (n : Fin 20), s.hw.axState n = 3 → exec (.prechargeDone n) s = .next (s.settled (
          let u := (axisLegs n).foldl (fun g l => g.setBit (pGATE (axisBank n)) GATE.BOOT_OK l true) s.hw;
          if isPoly n then (if (u.ax n).caught then (u.axRun n true).wr (pAXIS n) AXIS.AX_STS_OBS_VALID 1 else u.axEnter n 4) else
              if u.is (pAXIS n) AXIS.AX_CTRL_ALIGN_REQ || !u.is (pAXIS n) AXIS.AX_STS_OFS_VALID then (u.wr (pAXIS n)
              AXIS.AX_CTRL_ALIGN_REQ 0).axEnter n 4 else u.axRun n false)))
  ∧ (∀ (s : State) (n : Fin 20), s.hw.axState n = 3 → exec (.prechargeFail n) s = .next (s.settled (s.hw.axFault n 1 7)))
  ∧ (∀ (s : State) (n : Fin 20), s.hw.axState n = 4 → isPoly n = true → exec (.alignDone n) s = .next (s.settled ((s.hw.axEnter n
        5).modAx n fun a => { a with theta := 0 })))
  ∧ (∀ (s : State) (n : Fin 20), s.hw.axState n = 4 → isPoly n = false → exec (.alignDone n) s = .next (s.settled (
          let u := s.hw.wr (pAXIS n) AXIS.ELEC_OFS ((65536 - s.hw.axEncAngle n) % 65536);
          ({ u with used := tset usedReset u.used (addrOf AXIS.ELEC_OFS (pAXIS n) 0) (u.word (addrOf AXIS.ELEC_OFS (pAXIS n) 0)) }.wr
              (pAXIS n) AXIS.AX_STS_OFS_VALID 1).axRun n false)))
  ∧ (∀ (s : State) (n : Fin 20), s.hw.axState n = 5 → exec (.handoverTimeout n) s = .next (s.settled (s.hw.axFault n 1 1)))

/-- The running axis, hand-over, its losses and the catch sets complete. A PWM period of an axis that does not drive only
measures its speed and shunt offset, one of a driving axis whose period before had no plan takes the newest reference and angle
and modulates, a hand-over ends in RUN, a lost observer and a silent Governor fault the axis, a failed polygon start is tried
again, a locked polygon engages its phase loop, and catch sets are stored and restored. (R242, R246, R250, R251, R255, R258,
R390) -/
def Obligations.AxisRunCommandsComplete : Prop :=
  (∀ (s : State) (n : Fin 20) (codeA codeB zero vbus obsTheta : BitVec 16) (obsSpeed : BitVec 32) (t : Stamp), (s.hw.axBegin n
        zero.toInt obsSpeed.toInt t).hw.runs (pAXIS n) = true → modulates ((s.hw.axBegin n zero.toInt obsSpeed.toInt t).hw.axState
        n) = false → exec (.axisPeriodStart n codeA codeB zero vbus obsTheta obsSpeed t) s = .next (s.settled (
          let b := s.hw.axBegin n zero.toInt obsSpeed.toInt t;
          let u := (if isPoly n && decide (b.hw.axState n ≠ 3) then b.hw.wr (pAXIS n) AXIS.ANGLE_THETA (obsTheta.toNat % 65536)
              else b.hw);
          if 1 ≤ b.hw.axState n ∧ b.hw.axState n ≤ 3 ∧ u.overSpeed n b.speed then u.axFault n 1 6 else u)))
  ∧ (∀ (s : State) (n : Fin 20) (codeA codeB zero vbus obsTheta : BitVec 16) (obsSpeed : BitVec 32) (t : Stamp), (s.hw.axBegin n
        zero.toInt obsSpeed.toInt t).hw.runs (pAXIS n) = false → exec (.axisPeriodStart n codeA codeB zero vbus obsTheta obsSpeed
        t) s = .next (s.settled ((s.hw.axBegin n zero.toInt obsSpeed.toInt t).hw)))
  ∧ (∀ (s : State) (n : Fin 20) (codeA codeB zero vbus obsTheta : BitVec 16) (obsSpeed : BitVec 32) (t : Stamp), (s.hw.axBegin n
        zero.toInt obsSpeed.toInt t).hw.runs (pAXIS n) = true → modulates ((s.hw.axBegin n zero.toInt obsSpeed.toInt t).hw.axState
        n) = true → (
        let b := s.hw.axBegin n zero.toInt obsSpeed.toInt t;
        b.hw.overCurrent n (!b.trips.isEmpty) b.ofs codeA.toInt codeB.toInt) = true → exec (.axisPeriodStart n codeA codeB zero
        vbus obsTheta obsSpeed t) s = .next (s.settled ((s.hw.axBegin n zero.toInt obsSpeed.toInt t).hw.axFault n 0 0)))
  ∧ (∀ (s : State) (n : Fin 20) (codeA codeB zero vbus obsTheta : BitVec 16) (obsSpeed : BitVec 32) (t : Stamp), (s.hw.axBegin n
        zero.toInt obsSpeed.toInt t).hw.runs (pAXIS n) = true → modulates ((s.hw.axBegin n zero.toInt obsSpeed.toInt t).hw.axState
        n) = true → (
        let b := s.hw.axBegin n zero.toInt obsSpeed.toInt t;
        b.hw.overCurrent n (!b.trips.isEmpty) b.ofs codeA.toInt codeB.toInt) = false → (s.hw.axBegin n zero.toInt obsSpeed.toInt
        t).hw.overSpeed n (s.hw.axBegin n zero.toInt obsSpeed.toInt t).speed = true → exec (.axisPeriodStart n codeA codeB zero
        vbus obsTheta obsSpeed t) s = .next (s.settled ((s.hw.axBegin n zero.toInt obsSpeed.toInt t).hw.axFault n 1 6)))
  ∧ (∀ (s : State) (n : Fin 20) (codeA codeB zero vbus obsTheta : BitVec 16) (obsSpeed : BitVec 32) (t : Stamp), (s.hw.axBegin n
        zero.toInt obsSpeed.toInt t).hw.runs (pAXIS n) = true → modulates ((s.hw.axBegin n zero.toInt obsSpeed.toInt t).hw.axState
        n) = true → (
        let b := s.hw.axBegin n zero.toInt obsSpeed.toInt t;
        b.hw.overCurrent n (!b.trips.isEmpty) b.ofs codeA.toInt codeB.toInt) = false → (s.hw.axBegin n zero.toInt obsSpeed.toInt
        t).hw.overSpeed n (s.hw.axBegin n zero.toInt obsSpeed.toInt t).speed = false → (isPoly n && decide ((s.hw.axBegin n
        zero.toInt obsSpeed.toInt t).hw.axState n = 7) && decide (obsSpeed.toInt < 9600)) = false → exec (.axisPeriodStart n codeA
        codeB zero vbus obsTheta obsSpeed t) s = .next (s.settled (
          let b := s.hw.axBegin n zero.toInt obsSpeed.toInt t;
          let c := b.hw.axLatchQ n t;
          let th := c.axAngle n obsTheta.toNat;
          let u := (c.modAx n fun x => { x with theta := th, periods := x.periods + 1 }).wr (pAXIS n) AXIS.ANGLE_THETA th;
          u.axPeriod n b.trips b.ofs b.speed codeA.toInt codeB.toInt vbus.toNat obsTheta.toNat obsSpeed.toInt (c.ax n).theta th
              t)))
  ∧ (∀ (s : State) (n : Fin 20), s.hw.axState n = 6 → exec (.handoverDone n) s = .next (s.settled ((((s.hw.axEnter n 7).wr (pAXIS n)
        AXIS.AX_STS_OBS_VALID 1).modAx n fun a => { a with fadeIn := false }).polyStarted n)))
  ∧ (∀ (s : State) (n : Fin 20), isPoly n = true → s.hw.axState n = 7 → exec (.observerLoss n) s = .next (s.settled (s.hw.axFault n 1
        2)))
  ∧ (∀ (s : State) (n : Fin 20), s.hw.axState n = 7 → s.hw.use (pAXIS n) AXIS.AX_CTRL_IQ_SRC = 0 → 1000 * s.hw.use (pAXIS n)
        AXIS.GOV_WD < s.hw.clk.cycles - s.hw.axHeard n → exec (.govSilent n) s = .next (s.settled (s.hw.axFault n 1 8)))
  ∧ (∀ (s : State) (n : Fin 20), isPoly n = true → s.hw.axState n = 8 → s.hw.kernelRuns = true → exec (.polyStartRetry n) s = .next
        (s.settled (if (s.hw.ax n).retries < 3 then axisEnWrite kernelMaster n true (((s.hw.modAx n fun a =>
        { a with retries := a.retries + 1 }).wr (pAXIS n) AXIS.AX_CTRL_EN 0).axOff n) else
        { s.hw with headrace := { s.hw.headrace with headFault := putBit s.hw.headrace.headFault (16 + n) true } })))
  ∧ (∀ (s : State) (n : Fin 8) (j : Nat), s.hw.kernelRuns = true → s.hw.is (pSCANCLK n) SCANCLK.SC_STS_LOCKED = true → s.hw.axState n =
        7 → 10000 * (signed 32 (s.hw.rd (pAXIS n) AXIS.SPEED_EST) - 16 * s.hw.polyRpm s.hw.runGrade).natAbs ≤ 4 * (16 *
        s.hw.polyRpm s.hw.runGrade) → s.hw.phaseSlot n = some j → exec (.phaseEngage n) s = .next (s.settled (
          let u := (if s.hw.slIs j GOV.SL_STS_FAULTED then govSlotDisable kernelMaster j s.hw else s.hw);
          if u.govEn j then u else govSlotEn kernelMaster j (u.boundOffset j))))
  ∧ (∀ (s : State) (mask : BitVec 8), s.hw.kernelRuns = true → exec (.polyCatchRestore mask) s = .next (s.settled (forN 8 (fun k g =>
        if !bitAt mask.toNat k then g.coastOver k else if g.axState k ≠ 0 ∨ bitAt g.boot.coasting k then g else (
              match g.validCatch k with
              | none =>
              let u := g.log ⟨logKind 4, 0, 0x0100, pageTag (pAXIS k), k⟩;
              { u with boot := { u.boot with coasting := putBit u.boot.coasting k true } }
              | some c => (g.catchLoad k c).bringAxis k)) s.hw)))
  ∧ (∀ (s : State) (n : Fin 8), s.hw.axState n = 7 → exec (.catchSetStore n) s = .next (s.settled
        ({ s.hw with mram := { s.hw.mram with catchSets := tset (fun _ => (none : Option CatchSet)) s.hw.mram.catchSets n (some (s.hw.catchSetOf n)) } })))

/-- Trips and undervoltages of the gate banks complete. A short trips its leg, records it and latches the bridge on its second
leg or its repeat count; a lost bootstrap and a lost gate supply are raised and take their units off; a bank comes back, and
latched bridges whose unit is off are cleared. (R266, R267, R269, R271) -/
def Obligations.GateCommandsComplete : Prop :=
  (∀ (s : State) (x : Fin 6) (l : Fin 24) (side : Fin 2) (gross blanked : Bool), l.val / bankLegs x < bankBridges x → (blanked &&
        !gross) = false → s.hw.heldBefore x (l.val / bankLegs x) = false → ((s.hw.bridge x (l.val / bankLegs x)).trips.any fun k
        => decide (k.leg = l.val ∧ k.side = side.val)) = false → s.hw.bit (pGATE x) GATE.BRIDGE_LATCH (l.val / bankLegs x) = false
        → exec (.shortTrip x l side gross blanked) s = .next (s.settled (
          let p := pGATE x;
          let b := l.val / bankLegs x;
          let u := ((s.hw.modBridge x b fun r => { r with trips := ⟨l.val, side.val, s.hw.clk.time⟩ :: r.trips }).setBit p
              GATE.LEG_TRIPPED l true).inc p GATE.TRIP_CNT;
          let v := ((((u.wr p GATE.LAST_TRIP_LEG l).wr p GATE.LAST_TRIP_SIDE side).wr p GATE.LAST_TRIP_GROSS (b2n gross)).wr p
              GATE.LAST_TRIP_BLANKED (b2n blanked)).wr p GATE.LAST_TRIP_BRIDGE b;
          let w := v.raise p 0 (gateCap l side b);
          if w.faultsBridge x l then ((((w.modBridge x b fun r => { r with latchAt := some w.clk.cycles }).setBit p
              GATE.BRIDGE_LATCH b true).inc p GATE.BRIDGE_CNT).raise p 1 (gateCap l side b)).stageOff x b else w)))
  ∧ (∀ (s : State) (x : Fin 6) (l : Fin 24) (mv : BitVec 16), l.val / bankLegs x < bankBridges x → s.hw.bit (pGATE x) GATE.BOOT_OK l =
        true → mv.toNat < 8500 → exec (.bootUvlo x ⟨l, mv⟩) s = .next (s.settled (
          let u := s.hw.setBit (pGATE x) GATE.BOOT_OK l false;
          if s.hw.unitDrives x (l.val / bankLegs x) then ((u.inc (pGATE x) GATE.UVLO_CNT).raise (pGATE x) 2 (gateCap l 1 (l.val /
              bankLegs x))).stageOff x (l.val / bankLegs x) else u)))
  ∧ (∀ (s : State) (x : Fin 6) (l : Fin 24) (mv : BitVec 16), l.val / bankLegs x < bankBridges x → s.hw.bit (pGATE x) GATE.BOOT_OK l =
        false → 9500 < mv.toNat → exec (.bootUvlo x ⟨l, mv⟩) s = .next (s.settled (s.hw.setBit (pGATE x) GATE.BOOT_OK l true)))
  ∧ (∀ (s : State) (x : Fin 6) (mv : BitVec 16), s.hw.is (pGATE x) GATE.GD_STS_VGD_OK = true → mv.toNat < 10500 ∨ 13500 < mv.toNat →
        exec (.vgdUvlo x mv) s = .next (s.settled ((s.hw.vgdMeasure x mv.toNat).bankFails x)))
  ∧ (∀ (s : State) (x : Fin 6) (mv : BitVec 16), 11000 < mv.toNat ∧ mv.toNat < 13000 → exec (.vgdUvlo x mv) s = .next (s.settled
        (((((s.hw.modBank x fun k => { k with under := false }).wr (pGATE x) GATE.VGD_MEAS mv.toNat).wr (pGATE x)
        GATE.GD_STS_VGD_OV 0).wr (pGATE x) GATE.GD_STS_VGD_OK 1))))
  ∧ (∀ (s : State) (x : Fin 6), s.hw.is (pGATE x) GATE.GD_STS_VGD_OK = true → s.hw.is (pGATE x) GATE.GD_STS_BANK_OFF = true → exec
        (.bankOffClear x) s = .next (s.settled (((s.hw.wr (pGATE x) GATE.GD_STS_BANK_OFF 0).wr (pGATE x) GATE.BOOT_OK 0).persist
        (pGATE x) 3 false)))
  ∧ (∀ (s : State) (m : Master) (x : Fin 6) (mask : BitVec 8), s.hw.takes m (addrOf GATE.BRIDGE_CLR (pGATE x) 0) = true → exec
        (.bridgeClr m x mask) s = .next (s.settled ((forN (bankBridges x) (fun b g => if !bitAt mask.toNat b then g else if
        g.unitOff x b then (g.setBit (pGATE x) GATE.BRIDGE_LATCH b false).modBridge x b fun r => { r with latchAt := none } else
        g.wr (pGATE x) GATE.GD_STS_CFG_REFUSED 1) s.hw).fabricUse (pageBase (addrOf GATE.BRIDGE_CLR (pGATE x) 0)))))

/-- Stepper enables, goals and periods complete. EN starts a stepper from OFF and stops it, a charged bridge freezes the current
angle and holds, STOP_NOW stops the axis, TARGET, V_TGT and MODE set its goal, POS_SET names the position at rest, and a chop
period measures and drives its phases. (R277, R279, R283, R285, R288, R289) -/
def Obligations.StepperCommandsComplete : Prop :=
  (∀ (s : State) (m : Master) (n : Fin 16), s.hw.takes m (addrOf STEP.STEP_CTRL_EN (pSTEP n) 0) = true → exec (.stepEnWrite m n
        false) s = .next (s.settled ((s.hw.stpOff n).fabricUse (pageBase (addrOf STEP.STEP_CTRL_EN (pSTEP n) 0)))))
  ∧ (∀ (s : State) (m : Master) (n : Fin 16), s.hw.takes m (addrOf STEP.STEP_CTRL_EN (pSTEP n) 0) = true → s.hw.is (pSTEP n)
        STEP.STEP_STS_MBUS_LOW = false → s.hw.stpState n = 0 → (
        let u := (if isKernel m then (s.hw.wr (pSTEP n) STEP.STEP_CTRL_EN 1).rearmUnit (stepBank n) (stepBridge n) else s.hw.wr
            (pSTEP n) STEP.STEP_CTRL_EN 1);
        u.stageHeld (stepBank n) (stepBridge n)) = false → exec (.stepEnWrite m n true) s = .next (s.settled (((
              let u := (if isKernel m then (s.hw.wr (pSTEP n) STEP.STEP_CTRL_EN 1).rearmUnit (stepBank n) (stepBridge n) else
                  s.hw.wr (pSTEP n) STEP.STEP_CTRL_EN 1);
              u).stpEnter n 1).fabricUse (pageBase (addrOf STEP.STEP_CTRL_EN (pSTEP n) 0)))))
  ∧ (∀ (s : State) (n : Fin 16), s.hw.stpState n = 1 → exec (.stepPrechargeDone n) s = .next (s.settled ((((stepLegs n).foldl (fun g l
        => g.setBit (pGATE (stepBank n)) GATE.BOOT_OK l true) s.hw).stpFreeze n).stpEnter n 2)))
  ∧ (∀ (s : State) (n : Fin 16), s.hw.stpState n = 1 → exec (.stepPrechargeFail n) s = .next (s.settled (s.hw.stpFault n 4)))
  ∧ (∀ (s : State) (m : Master) (n : Fin 16), s.hw.takes m (addrOf STEP.STEP_CTRL_STOP_NOW (pSTEP n) 0) = true → exec (.stopNow m n) s
        = .next (s.settled ((s.hw.stpHalt n).fabricUse (pageBase (addrOf STEP.STEP_CTRL_STOP_NOW (pSTEP n) 0)))))
  ∧ (∀ (s : State) (m : Master) (n : Fin 16) (v : Word), s.hw.takes m (addrOf STEP.TARGET (pSTEP n) 0) = true → exec (.targetWrite m n
        v) s = .next (s.settled ((s.hw.stpGoal n STEP.TARGET v.toNat).fabricUse (pageBase (addrOf STEP.TARGET (pSTEP n) 0)))))
  ∧ (∀ (s : State) (m : Master) (n : Fin 16) (v : BitVec 16), s.hw.takes m (addrOf STEP.V_TGT (pSTEP n) 0) = true → exec (.vTgtWrite m
        n v) s = .next (s.settled ((s.hw.stpGoal n STEP.V_TGT v.toNat).fabricUse (pageBase (addrOf STEP.V_TGT (pSTEP n) 0)))))
  ∧ (∀ (s : State) (m : Master) (n : Fin 16) (v : BitVec 2), s.hw.takes m (addrOf STEP.STEP_CTRL_MODE (pSTEP n) 0) = true → v.toNat < 2
        → 4 ≤ s.hw.rdvOf n → exec (.modeWrite m n v) s = .next (s.settled ((s.hw.stpGoal n STEP.STEP_CTRL_MODE v.toNat).fabricUse
        (pageBase (addrOf STEP.STEP_CTRL_MODE (pSTEP n) 0)))))
  ∧ (∀ (s : State) (m : Master) (n : Fin 16) (v : Word), s.hw.takes m (addrOf STEP.POS_SET (pSTEP n) 0) = true → s.hw.stpState n = 2 →
        exec (.posSet m n v) s = .next (s.settled ((((s.hw.modStp n fun x =>
        { x with angle := x.angle + s.hw.stpSign n x.mu - s.hw.stpSign n v.toInt, mu := v.toInt, c := v.toInt, p := v.toInt * pPerStep }).wr
        (pSTEP n) STEP.POS v.toNat).wr (pSTEP n) STEP.STEP_STS_POS_VALID 1).fabricUse (pageBase (addrOf STEP.POS_SET (pSTEP n)
        0)))))
  ∧ (∀ (s : State) (n : Fin 16) (iA iB vbus : BitVec 16) (t : Stamp), (s.hw.chopBegin n t).2.stpTakes n = true → (s.hw.chopBegin n
        t).2.runs (pSTEP n) = true → exec (.chopPeriodStart n iA iB vbus t) s = .next (s.settled (
          let p := pSTEP n;
          let r := s.hw.chopBegin n t;
          let u := (r.2.wr p STEP.I_MEAS_IA (satSigned 16 iA.toInt)).wr p STEP.I_MEAS_IB (satSigned 16 iB.toInt);
          let trip := u.use p STEP.I_TRIP;
          if trip < 2 * iA.toInt.natAbs ∨ trip < 2 * iB.toInt.natAbs then u.stpFault n 3 else
          let mu := u.stpMuAt n t;
          let v := (u.modStp n fun x => { x with mu := mu }).wr p STEP.POS (unsignedOf 32 mu);
          let w := (if r.1.isEmpty then v.chop n iA.toInt iB.toInt vbus.toNat mu else v);
          w.chopPulses n vbus.toNat r.1 t)))
  ∧ (∀ (s : State) (n : Fin 16), s.hw.stpState n = 2 → exec (.holdCurrentReduce n) s = .next (s.settled (s.hw.modStp n fun x =>
        { x with held := true })))

/-- The tick, groups and rendezvous channels complete. A motion tick samples BELT and moves groups, axes and rendezvous channels
in that order, a group is configured and started from rest, and a rendezvous starts on its axis and is aborted. (R284, R290,
R292) -/
def Obligations.MotionCommandsComplete : Prop :=
  (∀ (s : State) (t : Stamp), (forN 16 (fun n u => u.unitBoundary (pSTEP n) 0) (s.hw.beltSample t)).runs pMOTION = false → exec
        (.motionTick t) s = .next (s.settled (forN 16 (fun n u => u.unitBoundary (pSTEP n) 0) (s.hw.beltSample t))))
  ∧ (∀ (s : State) (t : Stamp), (forN 16 (fun n u => u.unitBoundary (pSTEP n) 0) (s.hw.beltSample t)).runs pMOTION = true → exec
        (.motionTick t) s = .next (s.settled (
          let a := forN 4 (fun g u => u.grpTick g t) (forN 16 (fun n u => u.unitBoundary (pSTEP n) 0) (s.hw.beltSample t));
          let b := forN 16 (fun n u => if u.stpTakes n && decide (u.grpOf n = 4) then u.stpTick n t else u) a;
          let c := forN 4 (fun r u => u.rdvTick r t) b;
          let d : Hw := { c with motion := { c.motion with ticks := c.motion.ticks + 1 } };
          if c.motion.ticks % 4 = 0 then forN 16 (fun n u => u.modStp n fun x =>
              { x with mus := ((t, u.stpMuAt n t) :: x.mus).take 257 }) d else d)))
  ∧ (∀ (s : State) (m : Master) (g : Fin 4) (w : Word), s.hw.takes m (addrOf MOTION.GRP_CFG_MEMBERS pMOTION g) = true → popCount16
        (bitsOf w 15 0) ≤ 4 → bitsOf w 31 31 = 0 → s.hw.mo MOTION.GRP_CFG_EN g = 0 → exec (.grpCfgWrite m g w) s = .next
        (s.settled (((s.hw.moWr MOTION.GRP_CFG_MEMBERS g (bitsOf w 15 0)).moWr MOTION.GRP_CFG_EN g 0).fabricUse (pageBase (addrOf
        MOTION.GRP_CFG_MEMBERS pMOTION g)))))
  ∧ (∀ (s : State) (m : Master) (g : Fin 4), s.hw.takes m (addrOf MOTION.GRP_GO pMOTION g) = true → s.hw.mo MOTION.GRP_CFG_EN g ≠ 0 →
        s.hw.runs pMOTION = true → s.hw.grpMoving g = false → ((below 16 fun n => bitAt (s.hw.mo MOTION.GRP_CFG_MEMBERS g) n).any
        fun n => s.hw.stpExited n) = false → ((below 16 fun n => bitAt (s.hw.mo MOTION.GRP_CFG_MEMBERS g) n).any fun n =>
        !s.hw.stpTakes n || decide (s.hw.stpState n = 3)) = false → exec (.grpGo m g) s = .next (s.settled (((s.hw.moWr
        MOTION.GRP_STS_REDIRECT g 0).grpStart g ((below 16 fun n => bitAt (s.hw.mo MOTION.GRP_CFG_MEMBERS g) n).map fun n => (n,
        s.hw.stpTarget n))).fabricUse (pageBase (addrOf MOTION.GRP_GO pMOTION g)))))
  ∧ (∀ (s : State) (m : Master) (g : Fin 4), s.hw.takes m (addrOf MOTION.GRP_GO pMOTION g) = true → s.hw.mo MOTION.GRP_CFG_EN g ≠ 0 →
        s.hw.runs pMOTION = true → s.hw.grpMoving g = true → ((below 16 fun n => bitAt (s.hw.mo MOTION.GRP_CFG_MEMBERS g) n).any
        fun n => s.hw.stpExited n) = false → ((below 16 fun n => bitAt (s.hw.mo MOTION.GRP_CFG_MEMBERS g) n).any fun n =>
        !s.hw.stpTakes n) = false → exec (.grpGo m g) s = .next (s.settled ((
            let ts := (below 16 fun n => bitAt (s.hw.mo MOTION.GRP_CFG_MEMBERS g) n).map fun n => (n, s.hw.stpTarget n);
            if s.hw.onLine g ts && !(s.hw.grp g).stopping then s.hw.modGrp g fun x => { x with ends := ts } else (s.hw.moWr
                MOTION.GRP_STS_REDIRECT g 1).modGrp g fun x => { x with stopping := true, next := ts }).fabricUse (pageBase
        (addrOf MOTION.GRP_GO pMOTION g)))))
  ∧ (∀ (s : State) (m : Master) (r : Fin 4), s.hw.takes m (addrOf MOTION.RDV_CTRL_GO pMOTION r) = true → s.hw.rdvState r = 0 →
        s.hw.stpTakes (s.hw.mo MOTION.RDV_CTRL_AXIS r) = true → s.hw.stpExited (s.hw.mo MOTION.RDV_CTRL_AXIS r) = false → 4 ≤
        s.hw.rdvOf (s.hw.mo MOTION.RDV_CTRL_AXIS r) → 4 ≤ s.hw.grpOf (s.hw.mo MOTION.RDV_CTRL_AXIS r) → exec (.rdvGo m r) s =
        .next (s.settled ((
            let n := s.hw.mo MOTION.RDV_CTRL_AXIS r;
            (((((((s.hw.moWr MOTION.RDV_STS_STATE r 1).moWr MOTION.RDV_STS_CORRECTED r 0).setBit pMOTION MOTION.MO_STS_RDV_ACTIVE
                r true).modRdv r fun _ => Rdv.reset).wr (pSTEP n) STEP.STEP_CTRL_MODE 2)).modStp n fun x =>
                { x with go := true })).fabricUse (pageBase (addrOf MOTION.RDV_CTRL_GO pMOTION r)))))
  ∧ (∀ (s : State) (m : Master) (r : Fin 4), s.hw.takes m (addrOf MOTION.RDV_CTRL_ABORT pMOTION r) = true → s.hw.rdvState r ≠ 0 → exec
        (.rdvAbort m r) s = .next (s.settled ((s.hw.rdvEnd r true).fabricUse (pageBase (addrOf MOTION.RDV_CTRL_ABORT pMOTION r)))))

/-- Governor samples, evaluations, slots and banks complete. A sample is taken unless an injection acts on it, an evaluation
ends with its output, one past its deadline and a missed deadline are counted and raised, a slot that passes its checks is
enabled and one is disabled, a bank switch is validated and applied, an engine fault acts on its unit, and the statistics clear.
(R298, R302, R305, R308, R310, R313, R314) -/
def Obligations.GovernorCommandsComplete : Prop :=
  (∀ (s : State) (j : Fin 96), s.hw.slUse j GOV.SL_CFG_TRIG = 0 ∨ (s.hw.gov j).due ≠ 0 → s.hw.injArmed (govPage j) 2 0 = false →
        s.hw.injArmed (govPage j) 1 0 = false → exec (.govSample j) s = .next (s.settled ((s.hw.modGov j fun x =>
        { x with due := x.due - 1 }).govTake j)))
  ∧ (∀ (s : State) (g : Fin 4) (x : GovSample) (rest : List GovSample), (s.hw.govU g).queue = x :: rest → s.hw.govLate x = false → exec
        (.govEvalDone g) s = .next (s.settled (((s.hw.modGovU g fun u => { u with queue := rest }).govEvaluate g x).govTrigger 4
        x.slot)))
  ∧ (∀ (s : State) (g : Fin 4) (x : GovSample) (rest : List GovSample), (s.hw.govU g).queue = x :: rest → s.hw.govLate x = true → exec
        (.govEvalDone g) s = .next (s.settled ((s.hw.modGovU g fun u => { u with queue := rest }).govMiss x)))
  ∧ (∀ (s : State) (j : Fin 96) (x : GovSample), ((s.hw.govU (govUnitOf j)).queue.find? fun x => decide (x.slot = j.val)) = some x →
        s.hw.govLate x = true → exec (.govDeadlineMiss j) s = .next (s.settled (
          let v := s.hw.modGovU (govUnitOf j) fun u => { u with queue := u.queue.erase x };
          let u := (((v.slWr x.slot GOV.SL_STS_MISSED 1).inc (govPage x.slot) GOV.MISS_CNT).raise (govPage x.slot) 0 (govCap
              x.slot)).modGov x.slot fun y => { y with misses := y.misses + 1 };
          if !u.govEn x.slot then u.govOff x.slot else if 16 ≤ (u.gov x.slot).misses then u.govFault x.slot false else u)))
  ∧ (∀ (s : State) (m : Master) (j : Fin 96), s.hw.takes m (addrOf GOV.SL_CFG_EN (govPage j) (j % 24)) = true → s.hw.govEn j = false →
        s.hw.govValidate j (s.hw.sl j GOV.SL_STS_ACTIVE_BANK) = none → ([s.hw.inUse, s.hw.afterCommits].any fun v => overLoad
        (s.hw.govLoad v (govUnitOf j) fun k => decide (k = j.val) || s.hw.govEn k)) = false → targetClash [s.hw.inUse,
        s.hw.afterCommits] (fun k => decide (k = j.val) || s.hw.govEn k) j = false → exec (.govSlotEn m j) s = .next (s.settled ((
            let b := s.hw.sl j GOV.SL_STS_ACTIVE_BANK;
            let w := s.hw.modGovU (govUnitOf j) fun u =>
                { u with queue := u.queue.map fun x => if x.slot = j.val then { x with own := some (s.hw.gov j) } else x };
            let u := ((w.slWr j GOV.SL_CFG_EN 1).slWr j GOV.SL_STS_FAULTED 0).setBit (govPage j) GOV.FAULTED (j % 24) false;
            let v := (u.govStart j (u.intInit j b)).govShowLoad (govUnitOf j);
            if v.is (govPage j) GOV.GV_STS_ENGINE_FAULT then v else v.slWr j GOV.SL_STS_RUNNING 1).fabricUse (pageBase (addrOf
        GOV.SL_CFG_EN (govPage j) (j % 24))))))
  ∧ (∀ (s : State) (m : Master) (j : Fin 96), s.hw.takes m (addrOf GOV.SL_CFG_EN (govPage j) (j % 24)) = true → s.hw.govEn j = true →
        exec (.govSlotDisable m j) s = .next (s.settled ((
            let u := (((s.hw.slWr j GOV.SL_CFG_EN 0).govShowLoad (govUnitOf j)).slWr j GOV.SL_STS_RUNNING 0).govUntake j;
            if ((u.govU (govUnitOf j)).queue.any fun x => decide (x.slot = j.val)) then u else u.govOff j).fabricUse (pageBase
        (addrOf GOV.SL_CFG_EN (govPage j) (j % 24))))))
  ∧ (∀ (s : State) (m : Master) (j : Fin 96), s.hw.takes m (addrOf GOV.SL_STS_SWITCH (govPage j) (j % 24)) = true → (s.hw.gov
        j).validating = false → s.hw.slIs j GOV.SL_STS_SW_PEND = false → exec (.govBankSwitch m j) s = .next (s.settled
        ((s.hw.modGov j fun x => { x with validating := true }).fabricUse (pageBase (addrOf GOV.SL_STS_SWITCH (govPage j) (j %
        24))))))
  ∧ (∀ (s : State) (j : Fin 96), (s.hw.gov j).validating = true → exec (.govValidateDone j) s = .next (s.settled (
          let u := s.hw.modGov j fun x => { x with validating := false };
          match u.govValidate j (1 - u.sl j GOV.SL_STS_ACTIVE_BANK) with
          | some r => u.govReject j r
          | none => if u.govEn j then (u.modGov j fun x => { x with pendAt := u.clk.cycles }).slWr j GOV.SL_STS_SW_PEND 1 else
              u.govFlip j)))
  ∧ (∀ (s : State) (g : Fin 4), exec (.govEngineFault g) s = .next (s.settled (s.hw.govEngine g false)))
  ∧ (∀ (s : State) (m : Master) (g : Fin 4), s.hw.takes m (addrOf GOV.GV_CTRL_STAT_CLR (pGOV g) 0) = true → exec (.gvStatClr m g) s =
        .next (s.settled ((((s.hw.wr (pGOV g) GOV.QWAIT_MAX 0).wr (pGOV g) GOV.MISS_CNT 0).wr (pGOV g) GOV.REG_CHG 0).fabricUse
        (pageBase (addrOf GOV.GV_CTRL_STAT_CLR (pGOV g) 0)))))

/-- High-voltage channels complete. A PWM period shows the channel and drives its output, a conversion that trips nothing is
shown, an open test is counted, tripped channels that are off are cleared, a checked set-point bank waits and is applied when no
page exposes, the reference ramps, EN is written, and a PWM fault is raised. (R315, R316, R317, R320, R321, R332) -/
def Obligations.HighVoltageCommandsComplete : Prop :=
  (∀ (s : State) (c : Fin 42), exec (.hvPeriodStart c) s = .next (s.settled (
          let b := s.hw.unitBoundary (hvPage c) (c % 14);
          let d := if b.hvUse c HVIO.HV_CFG_SRC = 1 then b.hv c HVIO.HV_DUTY_DUTY_MAN else (b.hvCh c).duty;
          let u := ((b.hvShow c).hvLoss c).govTrigger 1 c;
          if u.hvLive c then u.hvWr c HVIO.HV_OUT (min d (u.hvUse c HVIO.HV_DUTY_DUTY_MAX)) else u)))
  ∧ (∀ (s : State) (c : Fin 42) (vs is : BitVec 16), s.hw.blockAnswers (hvPage c) = true → exec (.hvConversion c vs is) s = .next
        (s.settled (
          let v : Int := if 2 ≤ (s.hw.hvCh c).openV then -32768 else vs.toInt;
          let i : Int := if 2 ≤ (s.hw.hvCh c).openI then -32768 else is.toInt;
          let a := (s.hw.hvWr c HVIO.HV_SENSE_VS (unsignedOf 16 v)).hvWr c HVIO.HV_SENSE_IS (unsignedOf 16 i);
          let b := a.modHv c fun x =>
              { x with overV := if decide ((a.hv c HVIO.HV_TRIP_V_TRIP : Int) ≤ v) then x.overV + 1 else 0, overI := if decide (a.hv c HVIO.HV_TRIP_I_TRIP ≤ i.natAbs) then x.overI + 1 else 0, full := if (fullScale v || fullScale i) then x.full + 1 else 0 };
          let k := b.hvCh c;
          match (if 2 ≤ k.full ∧ b.hvEn c then some 2 else if 2 ≤ k.overV then some 0 else if 2 ≤ k.overI then some 1 else none :
              Option Nat) with
          | none => b
          | some y => if b.hvTripped c then b.modHv c fun x => { x with tripAt := some b.clk.cycles } else b.hvTrip c y)))
  ∧ (∀ (s : State) (c : Fin 42) (current pass : Bool), s.hw.blockAnswers (hvPage c) = true → exec (.hvOpenTest c current pass) s =
        .next (s.settled (
          let u := s.hw.modHv c fun x => if current then { x with openI := if pass then 0 else x.openI + 1 } else
              { x with openV := if pass then 0 else x.openV + 1 };
          if current then (if 2 ≤ (u.hvCh c).openI then u.hvWr c HVIO.HV_SENSE_IS 0x8000 else u) else if 2 ≤ (u.hvCh c).openV then
              u.hvWr c HVIO.HV_SENSE_VS 0x8000 else u)))
  ∧ (∀ (s : State) (m : Master) (i : Fin 3) (mask : BitVec 14), s.hw.takes m (addrOf HVIO.HV_CLR (pHVIO i) 0) = true → exec (.hvClr m i
        mask) s = .next (s.settled ((forN 14 (fun k g => if bitAt mask.toNat k && !g.hvEn (14 * i.val + k) && decide ((g.hvCh (14
        * i.val + k)).tripAt ≠ some g.clk.cycles) then g.setBit (hvPage (14 * i.val + k)) HVIO.HV_STS_TRIPPED k false else g)
        s.hw).fabricUse (pageBase (addrOf HVIO.HV_CLR (pHVIO i) 0)))))
  ∧ (∀ (s : State) (m : Master), s.hw.takes m (addrOf HVIO.PT_BANK_SWITCH (pHVIO 0) 0) = true → s.hw.is (pHVIO 0)
        HVIO.PT_BANK_SWITCH_PEND = false → exec (.ptBankSwitch m) s = .next (s.settled ((
            match s.hw.ptCheck (1 - s.hw.rd (pHVIO 0) HVIO.PT_BANK_ACTIVE) with
            | some code => (s.hw.wr (pHVIO 0) HVIO.PT_BANK_REJECT code).raise (pHVIO 0) 4 (cap0 0)
            | none => (s.hw.wr (pHVIO 0) HVIO.PT_BANK_REJECT 0).wr (pHVIO 0) HVIO.PT_BANK_SWITCH_PEND 1).fabricUse (pageBase
        (addrOf HVIO.PT_BANK_SWITCH (pHVIO 0) 0)))))
  ∧ (∀ (s : State), s.hw.is (pHVIO 0) HVIO.PT_BANK_SWITCH_PEND = true → s.hw.anyExposing = false → exec .ptBankApply s = .next
        (s.settled ((s.hw.wr (pHVIO 0) HVIO.PT_BANK_ACTIVE (1 - s.hw.rd (pHVIO 0) HVIO.PT_BANK_ACTIVE)).wr (pHVIO 0)
        HVIO.PT_BANK_SWITCH_PEND 0)))
  ∧ (∀ (s : State) (c : Fin 42) (us : BitVec 32) (j : Nat) (pg : PageRec), s.hw.kernelRuns = true → s.hw.hvSlot c = some j →
        s.hw.hvPage? c = some pg → (decide (c.val < 40) && s.hw.exposingOn (hvStation c)) = false → exec (.hvRefRamp c us) s =
        .next (s.settled (
          let u := s.hw.rampRef j;
          let step : Int := u.rd (hvPage c) HVIO.HV_RAMP * us.toNat;
          u.setRef j (clampI (signed 32 (u.sl j GOV.SL_REF) - step) (signed 32 (u.sl j GOV.SL_REF) + step) (u.hvRef c pg)))))
  ∧ (∀ (s : State) (m : Master) (c : Fin 42) (v : Bool), s.hw.takes m (addrOf HVIO.HV_CFG_EN (hvPage c) (c % 14)) = true → exec
        (.hvEnWrite m c v) s = .next (s.settled ((((s.hw.hvWr c HVIO.HV_CFG_EN (b2n v)).hvShow c).hvLoss c).fabricUse (pageBase
        (addrOf HVIO.HV_CFG_EN (hvPage c) (c % 14))))))
  ∧ (∀ (s : State) (c : Fin 42), exec (.pwmFault c) s = .next (s.settled (s.hw.raise (hvPage c) 5 (cap0 c))))

/-- Zero-crossings, lamps and temperature inputs complete. A first zero-cross is noted and a regular one counted, a grant shows
the budget used, a current above twice the envelope locks its lamp, the end of a half-cycle is measured, lost mains sense is
raised, EN, LOCK_CLR and FUS_CLR act on their lamps, and a silent temperature input is bad. (R323, R325, R326, R328, R329, R330)
-/
def Obligations.LampCommandsComplete : Prop :=
  (∀ (s : State) (rising : Bool) (t : Stamp), s.hw.blockAnswers pLAMP = true → s.hw.mains.last = none → exec (.zeroCross rising t) s
        = .next (s.settled ({ s.hw with mains := { s.hw.mains with last := some t, rising := rising } }.later (.trigger 5 0))))
  ∧ (∀ (s : State) (rising : Bool) (t u : Stamp), s.hw.blockAnswers pLAMP = true → s.hw.mains.last = some u → 1024000000000 ≤ 130 * (t
        - u).toNat → 90 * (t - u).toNat ≤ 1024000000000 → exec (.zeroCross rising t) s = .next (s.settled (
          let a := ({ s.hw with mains := { s.hw.mains with last := some t, rising := rising } }.later (.trigger 5 0)).wr pLAMP
              LAMP.MAINS_HALF (min 16777215 ((t - u).toNat / 1024));
          let b : Hw := { a with mains := { a.mains with regular := a.mains.regular + 1 } };
          let c := forN 8 (fun k g => g.lcWake k) (if 10 ≤ b.mains.regular ∧ !b.is pLAMP LAMP.LP_STS_ZC_OK then (b.wr pLAMP
              LAMP.LP_STS_ZC_OK 1).persist pLAMP 6 false else b);
          if c.is pLAMP LAMP.LP_STS_ZC_OK then forN 8 (fun k g => g.lcHalf k rising) c else c)))
  ∧ (∀ (s : State) (rising : Bool) (t u : Stamp), s.hw.blockAnswers pLAMP = true → s.hw.mains.last = some u → 130 * (t - u).toNat <
        1024000000000 ∨ 1024000000000 < 90 * (t - u).toNat → exec (.zeroCross rising t) s = .next (s.settled (mainsSenseLost
        (({ s.hw with mains := { s.hw.mains with last := some t, rising := rising } }.later (.trigger 5 0)).wr pLAMP
        LAMP.MAINS_HALF (min 16777215 ((t - u).toNat / 1024))))))
  ∧ (∀ (s : State) (rising : Bool), s.hw.runs pLAMP = true → s.hw.is pLAMP LAMP.LP_STS_ZC_OK = true → exec (.lampGrant rising) s =
        .next (s.settled (forN 8 (fun k g => if bitAt g.pins.lamp k && (g.lamp k).fallAt.isNone && !g.lcStays k rising then
        g.lampPin k false else g) (s.hw.grantRound rising))))
  ∧ (∀ (s : State) (k : Fin 8) (peak : BitVec 17), s.hw.lcState k ≠ 5 → s.hw.blockAnswers pLAMP = true → 2 * s.hw.lampEnvelope k <
        peak.toNat → exec (.lampShort ⟨k, peak⟩) s = .next (s.settled (s.hw.lcLock k 0)))
  ∧ (∀ (s : State) (k : Fin 8) (peak rms : BitVec 32), s.hw.blockAnswers pLAMP = true → exec (.lampHalfCycleEnd k peak rms) s = .next
        (s.settled (
          let a := (s.hw.lcWr k LAMP.LC_MEAS_PEAK (min 65535 peak.toNat)).lcWr k LAMP.LC_MEAS_RMS (min 65535 rms.toNat);
          let pk := a.lc k LAMP.LC_ENV_RUN_PK;
          let l := a.lamp k;
          let on := l.conducts || bitAt a.pins.lamp k;
          let excess := if 5 * pk < 4 * peak.toNat ∧ !l.inrush then l.excess + 1 else 0;
          let stuck := if pk < 50 * rms.toNat ∧ !on then l.stuck + 1 else 0;
          let b := a.modLamp k fun x =>
              { x with excess := excess, stuck := stuck, decays := if on || decide (pk ≤ 50 * rms.toNat) then x.decays else false };
          let c := if bitAt b.pins.lamp k then b.modLamp k fun x => { x with lastOn := some b.mono } else b;
          let d := if stuck = 2 then c.raise pLAMP 2 (cap0 k) else c;
          if 2 ≤ excess ∧ d.lcState k ≠ 5 then (d.lcLock k 1).modLamp k fun x => { x with excess := 0 } else d)))
  ∧ (∀ (s : State), s.hw.is pLAMP LAMP.LP_STS_ZC_OK = true → exec .mainsSenseLost s = .next (s.settled (
          let u := (s.hw.wr pLAMP LAMP.LP_STS_ZC_OK 0).lampsOff;
          ({ u with mains := { u.mains with regular := 0 } }.persist pLAMP 6 true).raise pLAMP 6 (cap0 0))))
  ∧ (∀ (s : State) (m : Master) (k : Fin 8), s.hw.takes m (addrOf LAMP.LC_CFG_EN pLAMP k) = true → s.hw.lc k LAMP.LC_CFG_G0_EN ≠ 0 →
        s.hw.pins.estop1 = true → s.hw.pins.estop2 = true → bitAt s.hw.pins.heldLamp k = false ∨ isKernel m = true → exec
        (.lampEnWrite m k true) s = .next (s.settled
        ((({ s.hw with pins := { s.hw.pins with heldLamp := putBit s.hw.pins.heldLamp k false } }.lcWr k LAMP.LC_CFG_EN 1).lcWake
        k).fabricUse (pageBase (addrOf LAMP.LC_CFG_EN pLAMP k)))))
  ∧ (∀ (s : State) (m : Master) (k : Fin 8), s.hw.takes m (addrOf LAMP.LC_CFG_EN pLAMP k) = true → exec (.lampEnWrite m k false) s =
        .next (s.settled ((
            let u := s.hw.lcWr k LAMP.LC_CFG_EN 0;
            if u.lcState k = 4 ∨ u.lcState k = 5 then u else u.lcEnter k 0).fabricUse (pageBase (addrOf LAMP.LC_CFG_EN pLAMP k)))))
  ∧ (∀ (s : State) (m : Master) (mask : BitVec 8), s.hw.takes m (addrOf LAMP.LOCK_CLR pLAMP 0) = true → exec (.lockClr m mask) s =
        .next (s.settled ((forN 8 (fun k g => if bitAt mask.toNat k && decide (g.lcState k = 5) && decide (g.lc k LAMP.LC_CFG_EN =
        0) then g.lcEnter k 0 else g) s.hw).fabricUse (pageBase (addrOf LAMP.LOCK_CLR pLAMP 0)))))
  ∧ (∀ (s : State) (m : Master) (mask : BitVec 8), s.hw.takes m (addrOf LAMP.FUS_CLR pLAMP 0) = true → exec (.fusClr m mask) s = .next
        (s.settled ((forN 8 (fun k g => if bitAt mask.toNat k && decide (g.lcState k = 4) && (g.guards k).all g.tinGood then
        g.lcEnter k 0 else g) s.hw).fabricUse (pageBase (addrOf LAMP.FUS_CLR pLAMP 0)))))
  ∧ (∀ (s : State) (t : Fin 16), s.hw.isi pLAMP LAMP.TIN_MAP_EN t = true → s.hw.blockAnswers pLAMP = true → exec (.tinTimeout t) s =
        .next (s.settled (s.hw.tinBad t)))

/-- Leat cycles, frames, nodes and queues complete. A running trunk's cycle sends its beacon and two commands, HELLO brings a
node up or finds its version wrong, the uplink frames are taken from their node, a violation is recorded, a failed command, a
silent node and a line error are raised, and the command and report queues move. (R335, R337, R338, R339, R340, R350) -/
def Obligations.LeatCommandsComplete : Prop :=
  (∀ (s : State) (t : Fin 4) (time : Stamp), s.hw.is (pLEAT t) LEAT.LT_STS_RUNNING = true → exec (.leatCycle t time) s = .next
        (s.settled (
          let c := s.hw.rd (pLEAT t) LEAT.CYCLE;
          let u := s.hw.slotsPassed t c;
          let b := u.beacon t c time;
          let v := (if c % 32 = 0 then u.commitBoundary (pLEAT t) 0 else u);
          let w := ((v.leatOut t time 0 ⟨0x01, 0, 0, b⟩).downlink t time 6400).downlink t time 10400;
          ((w.modTrunk t fun x => { x with cycled := true }).wr (pLEAT t) LEAT.CYCLE ((c + 1) % 2 ^ 32)).showNodes t)))
  ∧ (∀ (s : State) (t : Fin 4) (n : BitVec 8) (j : Fin 8) (verMin verMax : BitVec 8) (vendor model firmware : BitVec 16), s.hw.is
        (pLEAT t) LEAT.LT_STS_RUNNING = true → (s.hw.node t n.toNat).st ≠ 0 → s.hw.slotOwner t j = some n.toNat → exec (.leatHello
        t ⟨n, j⟩ verMin verMax vendor ⟨model, firmware⟩) s = .next (s.settled (
          let u := (s.hw.slotHeard t j).modNode t n.toNat fun x =>
              { x with vendor := vendor.toNat, model := model.toNat, fw := firmware.toNat };
          if verMin.toNat ≤ 1 ∧ 1 ≤ verMax.toNat then (((u.modNode t n.toNat fun x =>
              { x with st := 2, ver := 1, seqRx := 0, seqTx := b2n x.out.isSome, repeats := 0, resend := b2n x.out.isSome, lapsed := false, missed := 0 }).report
              t ⟨n.toNat, 0x21, 0, verMin.toNat + 2 ^ 8 * verMax.toNat + 2 ^ 16 * vendor.toNat, model.toNat + 2 ^ 16 *
              firmware.toNat⟩).leatSend t 0x02 n.toNat 0 (toLE 8 1)).showNodes t else (((u.modNode t n.toNat fun x =>
              { x with st := 3, ver := 0 }).leatBad t n.toNat 0x01 0 0x21 false).raise (pLEAT t) 2 (leatCap n.toNat 0x01
              false)).showNodes t)))
  ∧ (∀ (s : State) (t : Fin 4) (n : BitVec 8) (j : Fin 8) (ack : BitVec 8) (lo hi : Word), s.hw.is (pLEAT t) LEAT.LT_STS_RUNNING = true
        → (s.hw.node t n.toNat).st = 2 → s.hw.slotOwner t j = some n.toNat → exec (.leatStatus t ⟨n, j⟩ ack lo hi) s = .next
        (s.settled (
          let g := (s.hw.slotHeard t j).leatAck t n.toNat ack.toNat;
          (g.report t ⟨n.toNat, 0x22, 0, lo.toNat, hi.toNat⟩).showNodes t)))
  ∧ (∀ (s : State) (t : Fin 4) (n : BitVec 8) (j : Fin 8) (seq ack : BitVec 8) (input : Fin 16) (level : Bool) (low : Word) (arrival :
        Stamp), s.hw.is (pLEAT t) LEAT.LT_STS_RUNNING = true → (s.hw.node t n.toNat).st = 2 → s.hw.slotOwner t j = some n.toNat →
        s.hw.injArmed (pLEAT t) 4 n.toNat = false → seq.toNat = (s.hw.node t n.toNat).seqRx % 255 + 1 → seq.toNat ≠ (s.hw.node t
        n.toNat).seqRx → exec (.leatEdge t ⟨n, j⟩ seq ack input level low arrival) s = .next (s.settled (
          let g := ((s.hw.slotHeard t j).leatAck t n.toNat ack.toNat).modNode t n.toNat fun x => { x with seqRx := seq.toNat };
          (if (g.cpsOf t n.toNat input).isEmpty then g.report t ⟨n.toNat, 0x23, seq.toNat, input + 16 * b2n level, low.toNat⟩ else (
              let web := (g.cpsOf t n.toNat input).filter fun i => decide (g.sh SHEET.CP_SRC_KIND i = 5);
              (((g.cpsOf t n.toNat input).filter fun i => !web.contains i) ++ web).foldl (fun u i => u.cpEdge i level (g.beltAt
                  (fullStamp arrival low)).1 (fullStamp arrival low)) (g.beltAt (fullStamp arrival low)).2)).showNodes t)))
  ∧ (∀ (s : State) (t : Fin 4) (n : BitVec 8) (j : Fin 8) (ack : BitVec 8) (idx : Fin 16) (fault : Bool) (v : BitVec 16) (low : Word),
        s.hw.is (pLEAT t) LEAT.LT_STS_RUNNING = true → (s.hw.node t n.toNat).st = 2 → s.hw.slotOwner t j = some n.toNat → exec
        (.leatValue t ⟨n, j⟩ ack idx fault v low) s = .next (s.settled (
          let g := (s.hw.slotHeard t j).leatAck t n.toNat ack.toNat;
          let ts := below 16 fun i => g.isi pLAMP LAMP.TIN_MAP_EN i && decide (g.rdi pLAMP LAMP.TIN_MAP_TRUNK i = t ∧ g.rdi pLAMP
              LAMP.TIN_MAP_NODE i = n.toNat ∧ g.rdi pLAMP LAMP.TIN_MAP_VALUE i = idx);
          (if ts.isEmpty then g.report t ⟨n.toNat, 0x24, 0, idx + 16 * b2n fault + 65536 * v.toNat, low.toNat⟩ else ts.foldl (fun
              u i => u.tinUpdate i v.toInt fault) g).showNodes t)))
  ∧ (∀ (s : State) (t : Fin 4) (n : BitVec 8) (j : Fin 8) (seq ack : BitVec 8) (lo hi : Word), s.hw.is (pLEAT t) LEAT.LT_STS_RUNNING =
        true → (s.hw.node t n.toNat).st = 2 → s.hw.slotOwner t j = some n.toNat → s.hw.injArmed (pLEAT t) 4 n.toNat = false →
        seq.toNat = (s.hw.node t n.toNat).seqRx % 255 + 1 → seq.toNat ≠ (s.hw.node t n.toNat).seqRx → exec (.leatReply t ⟨n, j⟩
        seq ack lo hi) s = .next (s.settled (
          let g := ((s.hw.slotHeard t j).leatAck t n.toNat ack.toNat).modNode t n.toNat fun x => { x with seqRx := seq.toNat };
          (g.report t ⟨n.toNat, 0x25, seq.toNat, lo.toNat, hi.toNat⟩).showNodes t)))
  ∧ (∀ (s : State) (t : Fin 4) (n : BitVec 8) (j : Fin 8) (ack reason seq ftype : BitVec 8), s.hw.is (pLEAT t) LEAT.LT_STS_RUNNING =
        true → (s.hw.node t n.toNat).st = 2 → s.hw.slotOwner t j = some n.toNat → exec (.leatViolationRx t ⟨n, j⟩ ack reason ⟨seq,
        ftype⟩) s = .next (s.settled (
          let g := (s.hw.slotHeard t j).leatAck t n.toNat ack.toNat;
          ((((((((g.inc (pLEAT t) LEAT.VIOL_RX).wr (pLEAT t) LEAT.LAST_VIOL_REASON reason.toNat).wr (pLEAT t) LEAT.LAST_VIOL_NODE
              n.toNat).wr (pLEAT t) LEAT.LAST_VIOL_DIR 1).wr (pLEAT t) LEAT.LAST_VIOL_SEQ seq.toNat).raise (pLEAT t) 1 (leatCap
              n.toNat reason.toNat false)).leatLog t n.toNat reason.toNat).report t ⟨n.toNat, 0x2E, 0, reason.toNat + 2 ^ 8 *
              seq.toNat + 2 ^ 16 * ftype.toNat, 0⟩).showNodes t)))
  ∧ (∀ (s : State) (t : Fin 4) (n reason seq ftype : BitVec 8), s.hw.is (pLEAT t) LEAT.LT_STS_RUNNING = true → exec (.leatBadFrame t n
        reason seq ftype) s = .next (s.settled (s.hw.leatBad t n.toNat reason.toNat seq.toNat ftype.toNat false)))
  ∧ (∀ (s : State) (t : Fin 4) (n : BitVec 8), (s.hw.node t n.toNat).out.isSome = true → (s.hw.node t n.toNat).lapsed = true → exec
        (.leatCmdFail t n) s = .next (s.settled (((s.hw.modNode t n.toNat fun x =>
        { x with out := none, repeats := 0, resend := 0, lapsed := false }).raise (pLEAT t) 4 (leatCap n.toNat 0 false)).showNodes
        t)))
  ∧ (∀ (s : State) (t : Fin 4) (n : BitVec 8), (s.hw.node t n.toNat).st = 2 → s.hw.use (pLEAT t) LEAT.LT_CFG_SILENCE_LIM ≤ (s.hw.node t
        n.toNat).missed → exec (.leatNodeSilent t n) s = .next (s.settled (((s.hw.modNode t n.toNat fun x =>
        { x with st := 4, resend := 0, lapsed := false }).raise (pLEAT t) 0 (leatCap n.toNat 0 false)).showNodes t)))
  ∧ (∀ (s : State) (t : Fin 4), s.hw.is (pLEAT t) LEAT.LT_STS_RUNNING = true → 64 < ((s.hw.trunk t).crcAt.filter fun x => decide
        ((s.hw.mono - x).toNat < 1024000000)).length → exec (.leatLineError t) s = .next (s.settled ((s.hw.raise (pLEAT t) 3
        (leatCap 0 0 false)).trunkJam)))
  ∧ (∀ (s : State) (m : Master) (t : Fin 4), s.hw.takes m (addrOf LEAT.CMD_PUSH (pLEAT t) 0) = true → (s.hw.trunk t).cmds.length < 32 →
        exec (.cmdPush m t) s = .next (s.settled (((s.hw.modTrunk t fun x =>
        { x with cmds := x.cmds ++ [⟨s.hw.rd (pLEAT t) LEAT.CMD_HDR_NODE, s.hw.rd (pLEAT t) LEAT.CMD_HDR_FTYPE, s.hw.rd (pLEAT t) LEAT.CMD_DATA_LO, s.hw.rd (pLEAT t) LEAT.CMD_DATA_HI⟩] }).showTrunk
        t).fabricUse (pageBase (addrOf LEAT.CMD_PUSH (pLEAT t) 0)))))
  ∧ (∀ (s : State) (m : Master) (t : Fin 4), s.hw.takes m (addrOf LEAT.RPT_POP (pLEAT t) 0) = true → exec (.rptPop m t) s = .next
        (s.settled (((s.hw.modTrunk t fun x => { x with reports := x.reports.drop 1 }).showTrunk t).fabricUse (pageBase (addrOf
        LEAT.RPT_POP (pLEAT t) 0)))))
  ∧ (∀ (s : State) (m : Master) (t : Fin 4) (v : Bool), s.hw.takes m (addrOf LEAT.LT_CTRL_EN (pLEAT t) 0) = true → exec (.ltEnWrite m t
        v) s = .next (s.settled ((((s.hw.wr (pLEAT t) LEAT.LT_CTRL_EN (b2n v)).trunkFollow t).commitOff (pLEAT t)).fabricUse
        (pageBase (addrOf LEAT.LT_CTRL_EN (pLEAT t) 0)))))

/-- Sheet slots, checkpoints and jams complete. A free slot is opened for a sheet while the path is clear, EN is written while
every class is good, a checkpoint missed and JAM_REQ declare a jam, and JAM_CLR frees every slot once the drives have stopped.
(R341, R342, R344, R347, R349) -/
def Obligations.SheetCommandsComplete : Prop :=
  (∀ (s : State) (m : Master) (n : Fin 64) (d : BitVec 20) (c : Fin 4) (purge : Bool), s.hw.takes m (addrOf SHEET.SH_ENTRY_DESC
        pSHEET n) = true → isKernel m = true → s.hw.jammed = false → s.hw.shState n = 0 → (
        match (s.hw.classCps c).head? with
        | some i => s.hw.latePassed n i
        | none => false) = false → exec (.sheetOpen m n d ⟨c, purge⟩) s = .next (s.settled ((
            let a := (((s.hw.modSheet n fun _ => SheetSlot.reset).shWr SHEET.SH_ENTRY_DESC n d.toNat).shWr SHEET.SH_ENTRY_CLASS n
                c).shWr SHEET.SH_ENTRY_PURGE n 0;
            let w := ((a.shWr SHEET.SH_ENTRY_STATE n 1).showNext n).showSheets;
            let b := (if purge then w.setPurge n else w);
            let e := b.modPage d.toNat fun g => if g.state = .admitted then { g with fed := true } else g;
            if e.sh SHEET.SH_STS_IN_FLIGHT 0 = 64 then e.raise pSHEET 7 (shCap 0 n) else e).fabricUse (pageBase (addrOf
        SHEET.SH_ENTRY_DESC pSHEET n)))))
  ∧ (∀ (s : State) (m : Master), s.hw.takes m (addrOf SHEET.SH_CTRL_EN pSHEET 0) = true → exec (.sheetEnWrite m false) s = .next
        (s.settled ((s.hw.wr pSHEET SHEET.SH_CTRL_EN 0).fabricUse (pageBase (addrOf SHEET.SH_CTRL_EN pSHEET 0)))))
  ∧ (∀ (s : State) (m : Master), s.hw.takes m (addrOf SHEET.SH_CTRL_EN pSHEET 0) = true → ((List.range 4).all s.hw.classOk) = true →
        exec (.sheetEnWrite m true) s = .next (s.settled ((s.hw.wr pSHEET SHEET.SH_CTRL_EN 1).fabricUse (pageBase (addrOf
        SHEET.SH_CTRL_EN pSHEET 0)))))
  ∧ (∀ (s : State) (n : Fin 64) (i : Fin 128), s.hw.reportOver n i false = true → s.hw.is pSHEET SHEET.SH_CTRL_EN = true → s.hw.runs
        pSHEET = true → s.hw.jammed = false → s.hw.shState n = 1 → (s.hw.classCps (s.hw.shClass n)).contains i.val = true →
        (s.hw.sheet n).lead.contains i.val = false → exec (.checkpointMissed n i false) s = .next (s.settled (s.hw.declareJam 1 i
        n)))
  ∧ (∀ (s : State) (n : Fin 64) (i : Fin 128), s.hw.reportOver n i true = true → s.hw.is pSHEET SHEET.SH_CTRL_EN = true → s.hw.runs
        pSHEET = true → s.hw.jammed = false → s.hw.shState n = 1 → (s.hw.classCps (s.hw.shClass n)).contains i.val = true →
        s.hw.isi pSHEET SHEET.CP_SRC_TRAIL_EN i = true → (s.hw.sheet n).lead.contains i.val = true → (s.hw.sheet n).trail.contains
        i.val = false → exec (.checkpointMissed n i true) s = .next (s.settled (s.hw.declareJam 3 i n)))
  ∧ (∀ (s : State) (m : Master), s.hw.takes m (addrOf SHEET.SH_CTRL_JAM_REQ pSHEET 0) = true → exec (.jamReq m) s = .next (s.settled
        ((s.hw.declareJam 5 0 0).fabricUse (pageBase (addrOf SHEET.SH_CTRL_JAM_REQ pSHEET 0)))))
  ∧ (∀ (s : State) (m : Master), s.hw.takes m (addrOf SHEET.SH_CTRL_JAM_CLR pSHEET 0) = true → s.hw.drivesStopped = true → exec
        (.jamClr m) s = .next (s.settled ((((forN 64 (fun n g => if g.shState n = 0 then g else g.freeSheet n) s.hw).wr pSHEET
        SHEET.SH_STS_JAMMED 0).later .gradeCheck).fabricUse (pageBase (addrOf SHEET.SH_CTRL_JAM_CLR pSHEET 0)))))

/-- Thermal samples, rates, steps and supervision complete. A sample is supervised, a sensor substituted too long is broken and
is judged anew on request, the rates of the zones are evaluated, the throttle steps up and clears, spread cold-plate readings
are raised, a cooled module restarts, the temperature corrections are made and judged, and a supervisor fault stops the press.
(R353, R354, R355, R357, R358, R359, R362, R363) -/
def Obligations.ThermalCommandsComplete : Prop :=
  (∀ (s : State) (raw : Vector (BitVec 16) 44) (bad : BitVec 44) (power : Vector (BitVec 32) 3), s.hw.boot.vaon = true → exec
        (.thermalSample raw bad power) s = .next (s.settled (s.hw.supervise raw.toList bad.toNat (power.toList.map BitVec.toNat))))
  ∧ (∀ (s : State) (i : Fin 44), 1000 ≤ tget (fun _ => 0) s.hw.thermal.subst i → s.hw.snsBroken i = false → exec (.sensorBroken i) s =
        .next (s.settled ((s.hw.setBit (snsPage i) THERMAL.BROKEN (snsIdx i) true).raise (snsPage i) 3 (thCap i (zoneOf i)))))
  ∧ (∀ (s : State), s.hw.boot.vaon = true → exec .thermalRateEval s = .next (s.settled (forN 11 Hw.rateZone s.hw)))
  ∧ (∀ (s : State), s.hw.anyThrottle = true → exec .thStepTimer s = .next (s.settled (s.hw.thUp)))
  ∧ (∀ (s : State), s.hw.kernelRuns = true → ((List.range 11).all fun z => decide (s.hw.zn z THERMAL.ZSTS_ZONE_VAL < s.hw.zn z
        THERMAL.ZLIM0_THROTTLE - (s.hw.rd pTHERMALA THERMAL.TH_CFG_TH_HYST : Int)) && decide (s.hw.rdi (zonePage z)
        THERMAL.ZSTS_RATE_OVER (zoneIdx z) = 0)) = true → exec .thClearTimer s = .next (s.settled (s.hw.thGrade (s.hw.rd pTHERMALA
        THERMAL.TH_GRADE - 1))))
  ∧ (∀ (s : State) (i j : Nat), i ∈ [32, 33, 34, 35] ∧ j ∈ [32, 33, 34, 35] → s.hw.snsBroken i = false ∧ s.hw.bit (snsPage i)
        THERMAL.UNCHECK (snsIdx i) = false → s.hw.snsBroken j = false ∧ s.hw.bit (snsPage j) THERMAL.UNCHECK (snsIdx j) = false →
        600 < signed 16 (s.hw.rdi (snsPage i) THERMAL.SNS_EFF (snsIdx i)) - signed 16 (s.hw.rdi (snsPage j) THERMAL.SNS_EFF
        (snsIdx j)) → exec .cpSpread s = .next (s.settled (s.hw.raise pTHERMALB 6 (thCap 32 8))))
  ∧ (∀ (s : State), s.hw.boot.vaon = true → s.hw.rd pTHERMALB THERMAL.SD_STS_STATE = 1 → s.hw.thermal.down = true → s.hw.allCool false
        = true → exec .thermalRestart s = .next (s.settled ((s.hw.counted fun g =>
        { g with thermal := { g.thermal with recovered := true, down := false } }.later (.again 5)).sealEndsLockout)))
  ∧ (∀ (s : State), s.hw.boot.vaon = true → exec .tempComp s = .next (s.settled (
          let u := forN (convCount + 1) Hw.compCorrect s.hw;
          let out := u.compOutside;
          let v : Hw := { u with thermal := { u.thermal with compOut := out } };
          let w := ((v.wr pTHERMALA THERMAL.COMP_STS_OSC_OK (b2n (!bitAt out 0))).wr pTHERMALA THERMAL.COMP_STS_REF_OK (b2n
              (decide (out < 2)))).persist pTHERMALA 5 (decide (out ≠ 0));
          forN 9 (fun k g => if bitAt out k && !bitAt u.thermal.compOut k then g.raise pTHERMALA 5 (thCap (g.compSource k) (zoneOf
              (g.compSource k))) else g) w)))
  ∧ (∀ (s : State) (m : Master) (mask : BitVec 32), s.hw.takes m (addrOf THERMAL.BROKEN pTHERMALB 0) = true → exec (.sensorRejudge m
        true mask) s = .next (s.settled ((forN 12 (fun k g => if bitAt mask.toNat k then
        { g.setBit pTHERMALB THERMAL.BROKEN k false with thermal := { (g.setBit pTHERMALB THERMAL.BROKEN k false).thermal with subst := tset (fun _ => 0) (g.setBit pTHERMALB THERMAL.BROKEN k false).thermal.subst (32 + k) 0 } }
        else g) s.hw).fabricUse (pageBase (addrOf THERMAL.BROKEN pTHERMALB 0)))))
  ∧ (∀ (s : State) (m : Master) (mask : BitVec 32), s.hw.takes m (addrOf THERMAL.BROKEN pTHERMALA 0) = true → exec (.sensorRejudge m
        false mask) s = .next (s.settled ((forN 32 (fun k g => if bitAt mask.toNat k then
        { g.setBit pTHERMALA THERMAL.BROKEN k false with thermal := { (g.setBit pTHERMALA THERMAL.BROKEN k false).thermal with subst := tset (fun _ => 0) (g.setBit pTHERMALA THERMAL.BROKEN k false).thermal.subst k 0 } }
        else g) s.hw).fabricUse (pageBase (addrOf THERMAL.BROKEN pTHERMALA 0)))))
  ∧ (∀ (s : State), exec .supervisorFault s = .next (s.settled (
          let u := s.hw.raise pTHERMALA 6 (cap0 0);
          if u.kernelRuns then { u.thGrade 7 with headrace := { (u.thGrade 7).headrace with stopAtGap := true } } else u)))

/-- Every operation of a Sluice sequence completes. EN turns its rail on and goes to the next step, DIS turns it off and waits,
WAIT and CHECK wait and go on, a check that times out, a jump and a halt go to their target, LOG writes its code, END ends the
sequence, and a halted START is tried again. (R366, R367, R371, R372) -/
def Obligations.SluiceStepsComplete : Prop :=
  (∀ (s : State), s.hw.sqAt 1 .ready = true → exec .sluiceEn s = .next (s.settled ((if s.hw.enRefused (stRail s.hw.sqStep) then s.hw
        else s.hw.railOn (stRail s.hw.sqStep)).sqNext)))
  ∧ (∀ (s : State), s.hw.sqAt 2 .ready = true → exec .sluiceDis s = .next (s.settled (if s.hw.disRefused (stRail s.hw.sqStep) ||
        (decide (12 ≤ stRail s.hw.sqStep ∧ stRail s.hw.sqStep < 18) && !s.hw.bankIdle (stRail s.hw.sqStep)) then s.hw.sqNext else
        (s.hw.railOff (stRail s.hw.sqStep)).sqWait .dis)))
  ∧ (∀ (s : State) (mv : BitVec 16) (timedOut confirmed : Bool) (us : BitVec 24) (r : Nat), s.hw.disRail = some r → r ≠ 34 → timedOut =
        false → mv.toNat < s.hw.offMv r → exec (.sluiceDisDone mv timedOut confirmed us) s = .next (s.settled ((s.hw.wri pSUPPLY
        SUPPLY.RAIL_V r mv.toNat).disOver r 0 us.toNat)))
  ∧ (∀ (s : State), s.hw.sqAt 3 .ready = true → exec .sluiceWait s = .next (s.settled (s.hw.sqWait .wait)))
  ∧ (∀ (s : State), s.hw.sqAt 3 .wait = true → exec .sluiceWaitDone s = .next (s.settled (s.hw.sqNext)))
  ∧ (∀ (s : State), s.hw.sqAt 4 .ready = true → exec .sluiceCheck s = .next (s.settled (s.hw.sqWait .check)))
  ∧ (∀ (s : State) (mv vIn vCap : BitVec 16), s.hw.sqAt 4 .check = true → s.hw.condHolds (stCond s.hw.sqStep) (stRail s.hw.sqStep)
        mv.toNat vIn.toNat vCap.toNat = true → exec (.sluiceCheckPass mv vIn vCap) s = .next (s.settled (
          let c := stCond s.hw.sqStep;
          let r := stRail s.hw.sqStep;
          let u := s.hw.showSupply r mv.toNat vIn.toNat vCap.toNat;
          (if c = 0 ∧ r ≠ 34 then u.setPg r true else if c = 2 ∨ c = 0 then u.mbusOn else u).sqNext)))
  ∧ (∀ (s : State), s.hw.sqAt 4 .check = true → exec .sluiceCheckTimeout s = .next (s.settled (
          let u := s.hw.sqLog 3 (s.hw.sqPc + 256 * stCond s.hw.sqStep + 65536 * stRail s.hw.sqStep);
          (if stCond s.hw.sqStep = 2 then u.raise pSUPPLY 8 (cap0 34) else u).sqTarget (stTarget s.hw.sqStep) causeTarget)))
  ∧ (∀ (s : State), s.hw.sqAt 5 .ready = true → exec .sluiceJump s = .next (s.settled (s.hw.sqTarget (stTarget s.hw.sqStep)
        causeTarget)))
  ∧ (∀ (s : State), s.hw.sqAt 6 .ready = true → exec .sluiceLog s = .next (s.settled ((s.hw.sqLog 9 (stCode s.hw.sqStep)).sqNext)))
  ∧ (∀ (s : State) (x : Seq), s.hw.sqAt 0 .ready = true → s.hw.sluice.seq = some x → exec .sluiceEnd s = .next (s.settled (
          let u := (((s.hw.sqLog 2 x.longest).modSq fun q => { q with seq := none }).wr pSLUICE SLUICE.SQ_STS_STATE 0);
          let v := u.raise pSLUICE 0 (u.sqCapNow false);
          if x.entry = 2 ∧ v.sluice.startAfter then (v.modSq fun q => { q with startAfter := false }).later (.restart
              (v.sluice.restart.getD 0)) else v)))
  ∧ (∀ (s : State), s.hw.sluice.retry = true → s.hw.is pSUPPLY SUPPLY.PH_STS_PFW = false → exec .sluiceHaltRetry s = .next (s.settled
        (s.hw.counted fun g => (g.modSq fun q => { q with startAfter := true, restart := some 0, retry := false }).sqStop
        causeRetry)))

/-- Rail faults, MBUS, mains, restarts and overloaded supplies complete. A fault of a rail that is on and good clears its
power-good and raises it, an internal one shuts the module down, a power-fail warning acts, mains that returns restarts the
module once, a stop is requested, a rail command is carried out, and MBUS, the mains range and the always-on domain report;
MBUS_MV falling below 4000 (40.00 V) sets UV and raises MBUS_UV, rising above 5600 sets OV, raises MBUS_OV and takes every
ENABLE off, the first failed supply phase is isolated and raised, and an overloaded encoder supply raises the channel's source.
(R16, R18, R26, R365, R370, R371, R373, R375, R381) -/
def Obligations.SupplyCommandsComplete : Prop :=
  (∀ (s : State) (r : Fin 12), r.val ≠ 0 → s.hw.railEn r = true → s.hw.railPg r = true → exec (.intRailFault r) s = .next (s.settled
        (((s.hw.setPg r false).raise pSUPPLY 4 (cap0 r)).coolingState.shutdownFor 6)))
  ∧ (∀ (s : State), s.hw.sluice.restart = some 6 → s.hw.rd pTHERMALB THERMAL.SD_STS_STATE = 1 → exec .railRestart s = .next (s.settled
        (s.hw.counted fun g => g.later (.again 6))))
  ∧ (∀ (s : State) (r : Fin 34), 12 ≤ r.val → s.hw.railEn r = true → s.hw.railPg r = true → exec (.extRailFault r) s = .next (s.settled (
          let u := ((s.hw.setPg r false).railPersist r).raise pSUPPLY (railSource r) (cap0 r);
          if 18 ≤ r.val ∧ r.val < 26 then u.setHeadFault (r - 18) true else u)))
  ∧ (∀ (s : State) (r : Fin 35) (mv vIn vCap : BitVec 16), 12 ≤ r.val → s.hw.railEn r = true → s.hw.condHolds 0 r mv.toNat vIn.toNat
        vCap.toNat = true → exec (.extRailPowerGood r mv vIn vCap) s = .next (s.settled (
          let u := s.hw.showSupply r mv.toNat vIn.toNat vCap.toNat;
          if r.val = 34 then u.mbusOn else
          let v := (u.setPg r true).railPersist r;
          if 18 ≤ r.val ∧ r.val < 26 then v.setHeadFault (r - 18) false else v)))
  ∧ (∀ (s : State) (vrms : BitVec 16) (noZeroCross : Bool), s.hw.boot.vaon = true → vrms.toNat < 750 ∨ noZeroCross = true → exec
        (.powerFailWarn vrms noZeroCross) s = .next (s.settled ((s.hw.wr pSUPPLY SUPPLY.MAINS_VRMS vrms.toNat).powerFail)))
  ∧ (∀ (s : State) (vrms freq : BitVec 16), s.hw.is pSUPPLY SUPPLY.PH_STS_PFW = true → mainsInRange vrms.toNat freq.toNat = true →
        s.hw.sluice.deadPhases.length ≤ 1 → exec (.mainsReturn vrms freq) s = .next (s.settled (
          let u := (s.hw.showMains vrms.toNat freq.toNat).wr pSUPPLY SUPPLY.PH_STS_PFW 0;
          if u.is pSLUICE SLUICE.SQ_STS_HELD ∨ u.rd pTHERMALB THERMAL.SD_STS_STATE ≠ 0 ∨ u.sluice.restart ≠ some 0 then u else if
              u.sluice.seq.isSome then u.modSq fun q => { q with startAfter := true } else u.later (.restart 0))))
  ∧ (∀ (s : State) (vrms : BitVec 16), s.hw.boot.vaon = true → exec (.mainsRange vrms) s = .next (s.settled (
          let u := (s.hw.wr pSUPPLY SUPPLY.MAINS_VRMS vrms.toNat).persist pSUPPLY 13 (decide (vrms.toNat < 850 ∨ 3050 <
              vrms.toNat));
          if vrms.toNat < 850 ∨ 3050 < vrms.toNat then u.raise pSUPPLY 13 (cap0 0) else u)))
  ∧ (∀ (s : State) (m : Master), s.hw.takes m (addrOf SLUICE.SQ_CTRL_STOP_REQ pSLUICE 0) = true → isKernel m = true → exec (.stopReq m)
        s = .next (s.settled ((s.hw.sqStop causeRequest).fabricUse (pageBase (addrOf SLUICE.SQ_CTRL_STOP_REQ pSLUICE 0)))))
  ∧ (∀ (s : State) (m : Master) (r : BitVec 6) (on : Bool), s.hw.takes m (addrOf SUPPLY.RAIL_CMD_GO pSUPPLY 0) = true → ((s.hw.wr
        pSUPPLY SUPPLY.RAIL_CMD_RAIL r.toNat).wr pSUPPLY SUPPLY.RAIL_CMD_ON (b2n on)).railCmdRefused r.toNat on = 0 → exec
        (.railCmdGo m r on) s = .next (s.settled ((
            let u := ((s.hw.wr pSUPPLY SUPPLY.RAIL_CMD_RAIL r.toNat).wr pSUPPLY SUPPLY.RAIL_CMD_ON (b2n on)).wr pSUPPLY
                SUPPLY.RAIL_CMD_STS_RESULT 0;
            if on then (u.rearmHven m r.toNat).railOn r.toNat else ((u.railOff r.toNat).modSq fun q =>
                { q with cmd := some r.toNat }).wr pSUPPLY SUPPLY.RAIL_CMD_STS_BUSY 1).fabricUse (pageBase (addrOf
        SUPPLY.RAIL_CMD_GO pSUPPLY 0)))))
  ∧ (∀ (s : State) (vCap : BitVec 16), vCap.toNat < 500 → s.hw.is pSUPPLY SUPPLY.MBUS_STS_DISCHARGED = false → exec (.mbusDischarged
        vCap) s = .next (s.settled (((s.hw.wr pSUPPLY SUPPLY.MBUS_V_CAP vCap.toNat).wr pSUPPLY SUPPLY.MBUS_STS_DISCHARGED 1).raise
        pSUPPLY 10 (cap0 34))))
  ∧ (∀ (s : State) (vCap : BitVec 16), 4200 < vCap.toNat → s.hw.is pSUPPLY SUPPLY.MBUS_STS_UV = true → exec (.mbusUvClear vCap) s =
        .next (s.settled ((((s.hw.wr pSUPPLY SUPPLY.MBUS_V_CAP vCap.toNat).wr pSUPPLY SUPPLY.MBUS_STS_UV 0).persist pSUPPLY 11
        false).allMbusOk)))
  ∧ (∀ (s : State) (vCap : BitVec 16), vCap.toNat < 5400 → s.hw.is pSUPPLY SUPPLY.MBUS_STS_OV = true → exec (.mbusOvClear vCap) s =
        .next (s.settled (((s.hw.wr pSUPPLY SUPPLY.MBUS_V_CAP vCap.toNat).wr pSUPPLY SUPPLY.MBUS_STS_OV 0).persist pSUPPLY 12
        false)))
  ∧ (∀ (s : State), exec .aonFault s = .next (s.settled (s.hw.raise pSUPPLY 14 (cap0 0))))
  ∧ (∀ (s : State) (vCap : BitVec 16), vCap.toNat < 4000 → s.hw.is pSUPPLY SUPPLY.MBUS_STS_UV = false → exec (.mbusUndervoltage vCap) s
        = .next (s.settled (
          let u := ((((((s.hw.wr pSUPPLY SUPPLY.MBUS_V_CAP vCap.toNat).wr pSUPPLY SUPPLY.MBUS_STS_UV 1).setPg 34 false).persist
              pSUPPLY 11 true).raise pSUPPLY 11 (cap0 34)).later (.spoilFlight 0x19)).allMbusLow;
          if u.kernelRuns then u.later (.jam 5) else u)))
  ∧ (∀ (s : State) (vCap : BitVec 16), 5600 < vCap.toNat → s.hw.is pSUPPLY SUPPLY.MBUS_STS_OV = false → exec (.mbusOvervoltage vCap) s
        = .next (s.settled (((((s.hw.wr pSUPPLY SUPPLY.MBUS_V_CAP vCap.toNat).wr pSUPPLY SUPPLY.MBUS_STS_OV 1).persist pSUPPLY 12
        true).raise pSUPPLY 12 (cap0 34)).allStageOff)))
  ∧ (∀ (s : State) (p : Fin 3), s.hw.sluice.deadPhases.contains p.val = false → exec (.supplyPhaseFail p) s = .next (s.settled (
          let u := ((((s.hw.modSq fun q => { q with deadPhases := p.val :: q.deadPhases }).setBit pSUPPLY SUPPLY.PH_STS_PH_OK p
              false).setBit pSUPPLY SUPPLY.PH_STS_PH_ISOL p true).persist pSUPPLY p true).raise pSUPPLY p (cap0 p);
          if u.sluice.deadPhases.length = 2 then u.powerFail else u)))
  ∧ (∀ (s : State) (c : Fin 20), exec (.encSupplyOverload c) s = .next (s.settled (((s.hw.encWr c FEEDBACK.CH_STS_SUPPLY_OVL
        1).encJudge c).raise (fbPage c) 2 (fbCap c))))

/-- The stored program, the log and deferred tests complete. A staged program that passes its checks is stored for the next
START, a record pushed by the kernel is queued, a unit of the ring is written and read back, an expired unit write fails, and a
deferred test runs in its gap or moves the next slot. (R368, R376, R377, R378, R392, R469) -/
def Obligations.LogCommandsComplete : Prop :=
  (∀ (s : State) (m : Master), s.hw.takes m (addrOf SLUICE.PROG_STORE pSLUICE 0) = true → s.hw.windowOpen = true → exec (.progStore
        m) s = .next (s.settled ((
            let u := s.hw.gated m.toNat 1 (addrOf SLUICE.PROG_STORE pSLUICE 0) true;
            let ws := (List.range 256).map u.stagedStep;
            let start := u.rd pSLUICE SLUICE.PROG_HDR_START_PC;
            let stop := u.rd pSLUICE SLUICE.PROG_HDR_STOP_PC;
            match progCheck start stop ws with
            | some (code, k) => ((u.wr pSLUICE SLUICE.PROG_RESULT_CHECK code).wr pSLUICE SLUICE.PROG_RESULT_STEP k).raise pSLUICE
                3 (sqCap k (stRail (ws.getD k 0)) false)
            | none =>
            let v := (u.wr pSLUICE SLUICE.PROG_RESULT_CHECK 0).wr pSLUICE SLUICE.PROG_RESULT_STEP 0;
            let gen := v.mram.selected.gen + 1;
            let g : Program := ⟨gen % 2 ^ 32, start, stop, ws, false, (pathLens 0 ws).getD stop 0⟩;
            { v with mram := v.mram.store g }.sqLog 8 (g.gen + 2 ^ 32 * (Config.programCrc g.gen start stop (ws.map
                BitVec.toNat)).toNat)).fabricUse (pageBase (addrOf SLUICE.PROG_STORE pSLUICE 0)))))
  ∧ (∀ (s : State) (m : Master), s.hw.takes m (addrOf SLUICE.LOG_PUSH pSLUICE 0) = true → isKernel m = true → exec (.logPush m) s =
        .next (s.settled ((s.hw.log ⟨s.hw.rdi pSLUICE SLUICE.LOG_IN 0 % 65536, s.hw.rdi pSLUICE SLUICE.LOG_IN 0 / 65536, s.hw.rdi
        pSLUICE SLUICE.LOG_IN 3 % 65536, s.hw.rdi pSLUICE SLUICE.LOG_IN 3 / 65536, s.hw.rdi pSLUICE SLUICE.LOG_IN 4 + 2 ^ 32 *
        s.hw.rdi pSLUICE SLUICE.LOG_IN 5⟩).fabricUse (pageBase (addrOf SLUICE.LOG_PUSH pSLUICE 0)))))
  ∧ (∀ (s : State) (readBack : Bool) (r : LogRec), s.hw.mram.hold = false → s.hw.boot.vaon = true → s.hw.nextRecord = some r →
        s.hw.injArmed pSLUICE 6 0 = false → readBack = true → s.hw.mram.dropped = 0 → exec (.logUnitWrite readBack) s = .next
        (s.settled (
          let u : Hw := { s.hw with mram := { s.hw.mram with queue := s.hw.mram.queue.tail } };
          let v := (u.wr pSLUICE SLUICE.LOG_QFREE (64 - u.mram.queue.length)).wr pSLUICE SLUICE.LOG_SEQ (nextSeq (s.hw.rd pSLUICE
              SLUICE.LOG_SEQ));
          v.putUnit (some ⟨s.hw.rd pSLUICE SLUICE.LOG_SEQ, v.clk.time, r⟩))))
  ∧ (∀ (s : State), s.hw.mram.hold = false → s.hw.boot.vaon = true → s.hw.nextRecord.isSome = true → exec .logUnitLeaseExpiry s = .next
        (s.settled ((s.hw.inc pFANTAIL FANTAIL.LEASE_EXP).unitFails false)))
  ∧ (∀ (s : State) (j : Job), (s.hw.jobs.find? fun j => j.deferred && s.hw.inGap (j.arg % 256) (j.arg / 256)) = some j → exec
        .deferredTestRun s = .next (s.settled ((s.hw.runsTest (j.arg % 256) (j.arg / 256)).finishJob j 0 0)))
  ∧ (∀ (s : State) (j : Job) (a : Slot), s.hw.jobs.find? Job.deferred = some j → s.hw.headrace.slot = some a → exec .deferTimeout s =
        .next (s.settled (s.hw.modHr fun r =>
        { r with slot := some { a with beltP := a.beltP + BitVec.ofNat 48 (s.hw.testPitch (j.arg % 256) a.sheetLen), ref := a.ref + BitVec.ofNat 48 (s.hw.testPitch (j.arg % 256) a.sheetLen) } })))

/-- DMA transfers and leases complete. GO starts a checked transfer or ends it with its error, host data is moved and an error
or a time-out ends the transfer, a transfer ends with what it moved, ABORT ends it, an expired row lease is counted, and an
AtomicOp whose lock expired is aborted. (R404, R405, R406, R468, R469) -/
def Obligations.DmaCommandsComplete : Prop :=
  (∀ (s : State) (m : Master) (k : Fin 64) (w : Word), s.hw.takes m (addrOf DMA.CTRL_GO (dmaPage k) (k.val % 16)) = true → s.hw.dmaOf
        k = none → exec (.dmaGo m k w) s = .next (s.settled ((
            let a := s.hw.dmaCtrl k w;
            let t := a.dmaTransfer k;
            let b := (a.dmWr k DMA.STATUS_DONE 0).dmWr k DMA.STATUS_ERR 0;
            let err := if w.getLsbD 2 ∨ !b.runs (dmaPage k) then 9 else b.dmaCheck k t;
            if err ≠ 0 then b.dmaEnd k t err else
            let c := (((b.setDma k (some t)).dmWr k DMA.STATUS_BUSY 1).dmWr k DMA.REMAIN t.count).setBit (dmaPage k)
                DMA.DMA_STS_BUSY (k.val % 16) true;
            if t.srcMpa then c else c.send (.hostRead k t.ctx t.src t.count)).fabricUse (pageBase (addrOf DMA.CTRL_GO (dmaPage k)
        (k.val % 16))))))
  ∧ (∀ (s : State) (k : Fin 64) (t : Transfer), s.hw.dmaOf k = some t → t.back = true → exec (.dmaHostCompletion k .error) s = .next
        (s.settled (s.hw.dmaEnd k t 6)))
  ∧ (∀ (s : State) (k : Fin 64) (t : Transfer), s.hw.dmaOf k = some t → t.back = true → exec (.dmaHostCompletion k .poisoned) s = .next
        (s.settled ((s.hw.dmaAer k).dmaEnd k t 6)))
  ∧ (∀ (s : State) (k : Fin 64) (bs : List Byte) (t : Transfer), s.hw.dmaOf k = some t → t.back = true → exec (.dmaHostCompletion k
        (.data bs)) s = .next (s.settled (s.hw.dmaEnd k t 0)))
  ∧ (∀ (s : State) (k : Fin 64) (t : Transfer), s.hw.dmaOf k = some t → t.back = false → t.srcMpa = false → exec (.dmaHostCompletion k
        .poisoned) s = .next (s.settled ((s.hw.dmaAer k).dmaFinish k t 6)))
  ∧ (∀ (s : State) (k : Fin 64) (t : Transfer), s.hw.dmaOf k = some t → t.back = false → t.srcMpa = false → exec (.dmaHostCompletion k
        .error) s = .next (s.settled (s.hw.dmaFinish k t 6)))
  ∧ (∀ (s : State) (k : Fin 64) (bs : List Byte) (t : Transfer), s.hw.dmaOf k = some t → t.back = false → t.srcMpa = false → exec
        (.dmaHostCompletion k (.data bs)) s = .next (s.settled (Hw.dmaMove k (fun o _ => .ok ((bs.drop (o - t.done)).take 64))
        (bs.length / 64) t s.hw)))
  ∧ (∀ (s : State) (k : Fin 64) (badUnit : Option (BitVec 26)) (t : Transfer), s.hw.dmaOf k = some t → t.back = false → t.srcMpa =
        false → t.count ≤ t.done → exec (.dmaDone k badUnit) s = .next (s.settled (s.hw.dmaFinish k t 0)))
  ∧ (∀ (s : State) (k : Fin 64) (t : Transfer), s.hw.dmaOf k = some t → t.back = false → t.srcMpa = true → exec (.dmaDone k none) s =
        .next (s.settled (
          let u := Hw.dmaMove k (fun o g => if !g.stacksGive (t.src + o) 64 then .error 8 else .ok (g.bytes (t.src + o) 64))
              (t.count / 64) t s.hw;
          match u.dmaOf k with
          | some x => u.dmaFinish k x 0
          | none => u)))
  ∧ (∀ (s : State) (m : Master) (k : Fin 64) (t : Transfer), s.hw.takes m (addrOf DMA.CTRL_ABORT (dmaPage k) (k.val % 16)) = true →
        s.hw.dmaOf k = some t → exec (.dmaAbort m k) s = .next (s.settled ((if t.count ≤ t.done ∧ !t.back then s.hw.dmaFinish k t
        0 else s.hw.dmaCut k t 9).fabricUse (pageBase (addrOf DMA.CTRL_ABORT (dmaPage k) (k.val % 16))))))
  ∧ (∀ (s : State) (k : Fin 64) (t : Transfer), s.hw.dmaOf k = some t → t.back = true → exec (.dmaHostTimeout k) s = .next (s.settled
        ((s.hw.dmaAer k).dmaEnd k t 7)))
  ∧ (∀ (s : State) (k : Fin 64) (t : Transfer), s.hw.dmaOf k = some t → t.back = false → t.srcMpa = false → t.done < t.count → exec
        (.dmaHostTimeout k) s = .next (s.settled ((s.hw.dmaAer k).dmaFinish k t 7)))
  ∧ (∀ (s : State), exec .rowLeaseExpiry s = .next (s.settled (s.hw.inc pFANTAIL FANTAIL.LEASE_EXP)))
  ∧ (∀ (s : State) (m : Master), exec (.atomicLockExpiry m) s = .next (s.settled ((s.hw.inc pFANTAIL FANTAIL.LEASE_EXP).send
        (.atomicDone m none))))

/-- Every mailbox service completes. A command that waits for the engine kernel and that its version, tag, opcode, context and
busy checks pass is taken, runs, and is answered; a long service is accepted first and its completion answers it; a word that is
no served command is answered with its status. (R422, R424, R426, R428) -/
def Obligations.MailboxServicesComplete : Prop :=
  (∀ (s : State) (n : Fin 32) (c : Call), s.hw.awaits n = true → s.hw.callOf n = some c → c.op = 0x01 → s.hw.judge n c = .go → exec
        (.hello n) s = .next (s.settled (
          let u := s.hw.mbTake kernelMaster n;
          let v := min (c.arg / 256) u.topVersion;
          if c.arg % 256 ≤ v ∧ 1 ≤ v then ((u.modBox n fun b => { b with ver := some v, quarantine := false }).mbWr n
              MAILBOX.MB_CFG_VERSION v).answer n c 0 v false else ((u.modBox n fun b =>
              { b with ver := none, quarantine := true }).mbWr n MAILBOX.MB_CFG_VERSION 0).answer n c 0x11 0 false)))
  ∧ (∀ (s : State) (n : Fin 32) (c : Call), s.hw.awaits n = true → s.hw.callOf n = some c → c.op = 0x02 → s.hw.judge n c = .go → exec
        (.ping n) s = .next (s.settled ((s.hw.mbTake kernelMaster n).final n c 0 c.arg)))
  ∧ (∀ (s : State) (n : Fin 32) (c : Call), s.hw.awaits n = true → s.hw.callOf n = some c → c.op = 0x10 → s.hw.judge n c = .go → exec
        (.status n) s = .next (s.settled (
          let u := s.hw.mbTake kernelMaster n;
          u.final n c 0 (u.modState + 16 * (u.runGrade % 8) + 128 * b2n u.jammed + 256 * u.ownSet))))
  ∧ (∀ (s : State) (n : Fin 32) (c : Call), s.hw.awaits n = true → s.hw.callOf n = some c → c.op = 0x11 → s.hw.judge n c = .go → exec
        (.pressUp n) s = .next (s.settled (((s.hw.mbTake kernelMaster n).accept n c 0 false).bringUp)))
  ∧ (∀ (s : State) (ok : Bool) (stations : BitVec 8) (detail : BitVec 16) (j : Job), s.hw.jobOf 0x11 = some j → exec (.pressUpDone ok
        stations detail) s = .next (s.settled (if ok then ((s.hw.modHr fun r =>
        { r with pressSet := stations.toNat, stopAtGap := false }).followPages).finishJob j 0 0 else s.hw.finishJob j 0x18
        detail.toNat)))
  ∧ (∀ (s : State) (n : Fin 32) (c : Call), s.hw.awaits n = true → s.hw.callOf n = some c → c.op = 0x12 → s.hw.judge n c = .go → exec
        (.pressStop n) s = .next (s.settled (((s.hw.mbTake kernelMaster n).modHr fun r => { r with stopAtGap := true }).accept n c
        0 false)))
  ∧ (∀ (s : State) (j : Job), s.hw.jobOf 0x12 = some j → s.hw.pressIdle = true → exec .pressStopDone s = .next (s.settled
        (s.hw.finishJob j 0 0)))
  ∧ (∀ (s : State) (n : Fin 32) (c : Call), s.hw.awaits n = true → s.hw.callOf n = some c → c.op = 0x13 → s.hw.judge n c = .go → exec
        (.moduleResetService n) s = .next (s.settled (
          let u := (s.hw.mbTake kernelMaster n).final n c 0 0;
          u.setJobs (u.jobs ++ [⟨0x13, n, c.tag, none, 0, false, false⟩]))))
  ∧ (∀ (s : State), (s.hw.jobOf 0x13).isSome = true → exec .resetServiceDelay s = .next (s.settled (s.hw.later (.moduleReset 4 0 0
        false))))
  ∧ (∀ (s : State) (n : Fin 32) (gapFits : Bool) (c : Call), s.hw.awaits n = true → s.hw.callOf n = some c → c.op = 0x20 → s.hw.judge n
        c = .go → c.arg % 256 ≠ 0 → c.arg % 256 ≤ 6 → exec (.runTest n gapFits) s = .next (s.settled (
          let u := s.hw.mbTake kernelMaster n;
          if gapFits && u.inGap (c.arg % 256) (c.arg / 256) then ((u.accept n c c.arg false).runsTest (c.arg % 256) (c.arg /
              256)).finishJob ⟨c.op, n, c.tag, c.block, c.arg, false, false⟩ 0 0 else u.accept n c c.arg true)))
  ∧ (∀ (s : State) (n : Fin 32) (c : Call) (b : Nat), s.hw.awaits n = true → s.hw.callOf n = some c → c.op = 0x30 → s.hw.judge n c =
        .go → (s.hw.mbTake kernelMaster n).windowOpen = true → c.block = some b → exec (.fwLoad n) s = .next (s.settled (
          let u := (s.hw.mbTake kernelMaster n).gated ((s.hw.mbTake kernelMaster n).mb n MAILBOX.MB_BIND_SENDER) 2 0 true;
          let mpa := ofLE (u.bytes (b + 8) 8);
          let len := ofLE (u.bytes (b + 16) 4);
          if len < 4096 ∨ 0x8000000 < len ∨ !u.mpaOk 0 mpa len then u.answer n c 0x13 0 false else if !u.headerOk mpa len then
              u.final n c 0x18 1 else
          let k := u.idleSlot;
          let v := k.2.setSlot k.1 emptySlot;
          { v with boot := { v.boot with loading := some (k.1, k.2.imageAt mpa) } }.accept n c 0 false)))
  ∧ (∀ (s : State) (readBackOk : Bool) (k : Nat) (img : ImageSlot) (j : Job), s.hw.boot.loading = some (k, img) → s.hw.jobOf 0x30 =
        some j → exec (.fwLoadDone readBackOk) s = .next (s.settled (
          let u : Hw := { s.hw with boot := { s.hw.boot with loading := none } };
          if readBackOk && img.authentic then
          let v := (u.setSlot k img).finishJob j 0 0;
          if v.romServes then v.later (.moduleReset 4 0 0 false) else v else u.finishJob j 0x18 2)))
  ∧ (∀ (s : State) (n : Fin 32) (c : Call) (b : Nat), s.hw.awaits n = true → s.hw.callOf n = some c → c.op = 0x31 → s.hw.judge n c =
        .go → (s.hw.mbTake kernelMaster n).windowOpen = true → c.block = some b → exec (.bindStore n) s = .next (s.settled (
          let u := (s.hw.mbTake kernelMaster n).gated ((s.hw.mbTake kernelMaster n).mb n MAILBOX.MB_BIND_SENDER) 3 0 true;
          let mpa := ofLE (u.bytes (b + 8) 8);
          if !u.mpaOk 0 mpa 256 then u.answer n c 0x13 0 false else
              { u with mram := { u.mram with bindings := bindTable (u.bytes mpa 256) } }.final n c 0 0)))
  ∧ (∀ (s : State) (n : Fin 32) (c : Call), s.hw.awaits n = true → s.hw.callOf n = some c → c.op = 0x40 → s.hw.judge n c = .go → exec
        (.logMark n) s = .next (s.settled (
          let u := s.hw.mbTake kernelMaster n;
          (u.log ⟨0x1000, 0, u.mb n MAILBOX.MB_BIND_SENDER, pageTag pMAILBOX, c.arg⟩).final n c 0 0)))
  ∧ (∀ (s : State) (n : Fin 32) (c : Call), s.hw.awaits n = true → s.hw.callOf n = some c → c.op = 0x41 → s.hw.judge n c = .go → exec
        (.deferList n) s = .next (s.settled (
          let u := s.hw.mbTake kernelMaster n;
          u.final n c 0 u.deferred)))
  ∧ (∀ (s : State) (n : Fin 32) (c : Call) (x : Nat), s.hw.awaits n = true → s.hw.callOf n = some c → s.hw.judge n c = .refuse x → exec
        (.badOpcodeCommand n) s = .next (s.settled ((s.hw.mbTake kernelMaster n).answer n c x 0 false)))
  ∧ (∀ (s : State) (n : Fin 32), s.hw.awaits n = true → s.hw.callOf n = none → exec (.badOpcodeCommand n) s = .next (s.settled
        (s.hw.badPointer n)))

/-- The engine kernel's own events and the words of its mailboxes complete. A pair that disagrees is taken out and the spare
takes its work, a checkpoint is timed and an armed injection fires in it, the kernel watchdog stops the Fantail and restarts the
module, and a slow task is warned of; a party's word is stored in an empty mailbox and taken by its receiver, and a word no one
has read expires. (R415, R417, R429, R430, R433) -/
def Obligations.KernelCommandsComplete : Prop :=
  (∀ (s : State) (p : Fin 4) (us10 : BitVec 16), s.hw.kernelRuns = true → s.hw.bit pKERNEL KERNEL.KN_STS_WORKING p = true → s.hw.is
        pKERNEL KERNEL.KN_STS_STANDBY_OK = true → exec (.pairMismatch p us10) s = .next (s.settled (
          let u := ((((s.hw.setBit pKERNEL KERNEL.KN_STS_WORKING p false).setBit pKERNEL KERNEL.KN_STS_FAILED p true).degrade
              .pairs).wr pKERNEL KERNEL.KN_STS_STANDBY_OK 0);
          (((u.setBit pKERNEL KERNEL.KN_STS_WORKING (s.hw.rd pKERNEL KERNEL.KN_STS_STANDBY) true).inc pKERNEL
              KERNEL.MIGRATIONS).wr pKERNEL KERNEL.LAST_MIGRATE us10.toNat).raise pKERNEL 0 (pairCap p false))))
  ∧ (∀ (s : State) (p : Fin 4) (us10 : BitVec 16), s.hw.kernelRuns = true → s.hw.bit pKERNEL KERNEL.KN_STS_WORKING p = true → s.hw.is
        pKERNEL KERNEL.KN_STS_STANDBY_OK = false → exec (.pairMismatch p us10) s = .next (s.settled (
          let u := ((((s.hw.setBit pKERNEL KERNEL.KN_STS_WORKING p false).setBit pKERNEL KERNEL.KN_STS_FAILED p true).degrade
              .pairs).wr pKERNEL KERNEL.KN_STS_STANDBY_OK 0);
          (u.raise pKERNEL 0 (pairCap p false)).raise pKERNEL 1 (pairCap p false))))
  ∧ (∀ (s : State) (p : Fin 4) (us10 : BitVec 16), s.hw.kernelRuns = true → exec (.taskCheckpoint ⟨p, us10⟩) s = .next (s.settled (
          let u := s.hw.wr pKERNEL KERNEL.CKPT_MAX (max (s.hw.rd pKERNEL KERNEL.CKPT_MAX) us10.toNat);
          let v := if 120 < us10.toNat then u.raise pKERNEL 2 (pairCap p false) else u;
          if v.injArmed pKERNEL 5 0 then (v.injFired pKERNEL).raise pKERNEL 0 (pairCap (v.rd pKERNEL KERNEL.KN_STS_STANDBY) true)
              else v)))
  ∧ (∀ (s : State), s.hw.kernelRuns = true → exec .kwdExpire s = .next (s.settled (
          let f := (
            match s.hw.boot.warned with
            | some p => (p, s.hw)
            | none => s.hw.taskPair);
          let u : Hw := { f.2 with boot := { f.2.boot with wdPair := f.1 } };
          (u.freezeFantail 2).later (.moduleReset 3 0 0 false))))
  ∧ (∀ (s : State) (p : Fin 4), s.hw.kernelRuns = true → exec (.watchdogWarn p) s = .next (s.settled
        ({ s.hw with boot := { s.hw.boot with warned := some p.val } }.raise pKERNEL 4 (pairCap p false))))
  ∧ (∀ (s : State) (m : Master) (n : Fin 32) (w : Word), s.hw.pageServed m pMAILBOX = true → s.hw.masterActs m = true →
        s.hw.blockAnswers pMAILBOX = true → s.hw.mayWrite m (addrOf MAILBOX.MB_DATA pMAILBOX n) = true → s.hw.mb n
        MAILBOX.MB_CFG_EN = 1 → isParty (s.hw.mb n MAILBOX.MB_BIND_SENDER) m = true → s.hw.mb n MAILBOX.MB_CFG_FULL = 0 → exec
        (.mbWrite m n w) s = .next (s.settled ((s.hw.mbStore m n w).fabricUse pMAILBOX)))
  ∧ (∀ (s : State) (m : Master) (n : Fin 32), s.hw.pageServed m pMAILBOX = true → s.hw.masterActs m = true → s.hw.blockAnswers pMAILBOX
        = true → s.hw.mb n MAILBOX.MB_CFG_EN = 1 → isParty (s.hw.mb n MAILBOX.MB_BIND_RECEIVER) m = true → s.hw.mb n
        MAILBOX.MB_CFG_FULL = 1 → exec (.mbRead m n) s = .next (s.settled ((((s.hw.send (.readValue m (addrOf MAILBOX.MB_DATA
        pMAILBOX n) (s.hw.mb n MAILBOX.MB_DATA))).mbTake m n).deliver n).fabricUse pMAILBOX)))
  ∧ (∀ (s : State) (n : Fin 32), s.hw.mb n MAILBOX.MB_CFG_FULL = 1 → s.hw.mb n MAILBOX.MB_CFG_EN = 1 → exec (.mbExpire n) s = .next
        (s.settled ((((((s.hw.mbSetFull n false).mbWr n MAILBOX.MB_CFG_EXPIRED 1).raise pMAILBOX 3 ⟨n, s.hw.mb n
        MAILBOX.MB_BIND_SENDER, 1, false⟩).mbIrq n (s.hw.mb n MAILBOX.MB_BIND_SENDER)).deliver n))))

/-- HELLO, ACCEPT, heartbeats, memory frames and time exchanges between modules complete. The side away from the Headstock
answers its neighbour's HELLO with ACCEPT, a HELLO from below is judged by the Headstock or passed up, an ACCEPT from up the
chain agrees a version, heartbeats are judged, passed up or passed down, a timer sends them and counts the missing, and ten
missed ones lose the neighbour or, at the Headstock, a module further on; a MEM_WRITE inside its window stores its bytes, a
MEM_READ is answered with them and a reply goes to the kernel; the time exchange sends its stamps, each the time of the next
alignment codeword, and its answer sets the offset and the delay and steers the local time. (R439, R441, R442, R443, R444, R445,
R448) -/
def Obligations.PeerMembershipAndTimeComplete : Prop :=
  (∀ (s : State) (verMin verMax : BitVec 8) (m : Fin 16) (digest : BitVec 64), s.hw.chainOn = true → s.hw.linkUp (.peer 1) = true →
        m.val = s.hw.neighbour 1 → exec (.peerHello 1 verMin verMax m digest) s = .next (s.settled (
          let u := (s.hw.wr (pPEER 1) PEER.PR_STS_FAR_MODULE m).wr (pPEER 1) PEER.PR_VER_AGREED 0;
          let v := if verMin.toNat ≤ 1 ∧ 1 ≤ verMax.toNat then 1 else 0;
          let w := (u.relSend (.peer 1) (u.ctrlFrame 0x71 (v + 256 * (1 - v)) [])).peerAgree 1 m v;
          if w.isHeadstock then w.judgeMember m (decide (v = 1)) digest.toNat else w.passUp (fromModule m 0x70 (helloParam
              verMin.toNat verMax.toNat m 1) (toLE 8 digest.toNat)))))
  ∧ (∀ (s : State) (verMin verMax : BitVec 8) (m : Fin 16) (digest : BitVec 64), s.hw.chainOn = true → s.hw.linkUp (.peer 1) = true →
        m.val ≠ s.hw.neighbour 1 → exec (.peerHello 1 verMin verMax m digest) s = .next (s.settled (
          let v := if verMin.toNat ≤ 1 ∧ 1 ≤ verMax.toNat then 1 else 0;
          if s.hw.isHeadstock then s.hw.judgeMember m (decide (v = 1)) digest.toNat else s.hw.passUp (fromModule m 0x70
              (helloParam verMin.toNat verMax.toNat m 1) (toLE 8 digest.toNat)))))
  ∧ (∀ (s : State) (verMin verMax : BitVec 8) (m : Fin 16) (digest : BitVec 64), s.hw.chainOn = true → s.hw.linkUp (.peer 0) = true →
        exec (.peerHello 0 verMin verMax m digest) s = .next (s.settled (if m.val = s.hw.neighbour 0 then ((s.hw.wr (pPEER 0)
        PEER.PR_STS_FAR_MODULE m).wr (pPEER 0) PEER.PR_VER_AGREED 0).setQuar 0 false else s.hw)))
  ∧ (∀ (s : State) (p : Fin 2) (m : Fin 16) (version : BitVec 8), s.hw.hears p = true → s.hw.facesUp p = true → version.toNat ≤ 1 →
        exec (.accept p m version) s = .next (s.settled (s.hw.peerAgree p m version.toNat)))
  ∧ (∀ (s : State) (p : Fin 2) (m : Fin 16) (grade : Fin 8) (exposing jammed : Bool) (digest : BitVec 64) (exchange : Option (BitVec
        32)) (members excluded refused : BitVec 16), s.hw.hears p = true → s.hw.isHeadstock = true → exec (.heartbeat p m grade
        exposing jammed digest exchange members excluded refused) s = .next (s.settled (
          let u := if m.val = s.hw.neighbour p then
              { s.hw with chain := { s.hw.chain with missed := tset (fun _ => 0) s.hw.chain.missed p 0 } } else s.hw;
          let v :=
              { u with chain := { u.chain with grade := tset (fun _ => 0) u.chain.grade m grade, quiet := tset (fun _ => 0) u.chain.quiet m 0 } }.judgeDigest
              m digest.toNat;
          (
            match exchange with
            | some o => v.judgeTime m o.toNat
            | none => v).later .gradeCheck)))
  ∧ (∀ (s : State) (m : Fin 16) (grade : Fin 8) (exposing jammed : Bool) (digest : BitVec 64) (exchange : Option (BitVec 32)) (members
        excluded refused : BitVec 16), s.hw.hears 1 = true → s.hw.isHeadstock = false → exec (.heartbeat 1 m grade exposing jammed
        digest exchange members excluded refused) s = .next (s.settled (
          let u := if m.val = s.hw.neighbour 1 then
              { s.hw with chain := { s.hw.chain with missed := tset (fun _ => 0) s.hw.chain.missed 1 0 } } else s.hw;
          { u with chain := { u.chain with grade := tset (fun _ => 0) u.chain.grade m grade, quiet := tset (fun _ => 0) u.chain.quiet m 0 } }.passUp
              (fromModule m 0x72 (heartbeatParam m grade exposing jammed) (toLE 8 digest.toNat)))))
  ∧ (∀ (s : State) (m : Fin 16) (grade : Fin 8) (exposing jammed : Bool) (digest : BitVec 64) (exchange : Option (BitVec 32)) (members
        excluded refused : BitVec 16), s.hw.hears 0 = true → s.hw.isHeadstock = false → m.val = 0 → exec (.heartbeat 0 m grade
        exposing jammed digest exchange members excluded refused) s = .next (s.settled (
          let u := if m.val = s.hw.neighbour 0 then
              { s.hw with chain := { s.hw.chain with missed := tset (fun _ => 0) s.hw.chain.missed 0 0 } } else s.hw;
          ({ u with chain := { u.chain with grade := tset (fun _ => 0) u.chain.grade m grade, quiet := tset (fun _ => 0) u.chain.quiet m 0 } }.showMasks
              0 members.toNat excluded.toNat refused.toNat).chainDown (fromModule m 0x72 (heartbeatParam m grade exposing jammed)
              (toLE 8 digest.toNat)))))
  ∧ (∀ (s : State), s.hw.chainOn = true → exec .heartbeatTimer s = .next (s.settled (
          let f := s.hw.ctrlFrame 0x72 (heartbeatParam s.hw.moduleNo (s.hw.reportGrade % 8) s.hw.anyExposing s.hw.jammed) (toLE 8
              s.hw.digest);
          let q := if s.hw.isHeadstock then forN 16 (fun m g =>
              { g with chain := { g.chain with quiet := tset (fun _ => 0) g.chain.quiet m (min 10 (tget (fun _ => 0) g.chain.quiet m + 1)) } })
              s.hw else s.hw;
          forN 2 (fun p g => if g.is (pPEER p) PEER.PR_CTRL_EN then
            let n := tget (fun _ => 0) g.chain.missed p;
            let u := if 0 < n then g.inc (pPEER p) PEER.HB_MISS else g;
            { u with chain := { u.chain with missed := tset (fun _ => 0) u.chain.missed p (n + 1) } }.relSend (.peer (Fin.ofNat 2
                p)) f else g) q)))
  ∧ (∀ (s : State) (p : Fin 2) (m : Fin 16), m.val = s.hw.neighbour p → 10 ≤ tget (fun _ => 0) s.hw.chain.missed p → exec
        (.heartbeatLoss p m) s = .next (s.settled (s.hw.peerLost p m)))
  ∧ (∀ (s : State) (p : Fin 2) (m : Fin 16), m.val ≠ s.hw.neighbour p → s.hw.chainOn = true → s.hw.isHeadstock = true → m ≠ 0 → 10 ≤
        tget (fun _ => 0) s.hw.chain.quiet m → exec (.heartbeatLoss p m) s = .next (s.settled (s.hw.loseFrom p m)))
  ∧ (∀ (s : State) (p : Fin 2) (off : BitVec 64) (bytes : List Byte), s.hw.hears p = true → bytes.length ≤ 256 → s.hw.inWin off.toNat
        bytes.length = true → exec (.memWrite p off bytes) s = .next (s.settled (s.hw.putBytes off.toNat bytes)))
  ∧ (∀ (s : State) (p : Fin 2) (off : BitVec 48) (len : BitVec 16), s.hw.hears p = true → len.toNat ≤ 256 → s.hw.inWin off.toNat
        len.toNat = true → exec (.memRead p off len) s = .next (s.settled (s.hw.relSend (.peer p) (plainFrame 3 0x82 (off.toNat +
        2 ^ 48 * len.toNat) (s.hw.bytes off.toNat len.toNat)))))
  ∧ (∀ (s : State) (p : Fin 2) (param : BitVec 64) (bytes : List Byte), s.hw.hears p = true → exec (.readReply p param bytes) s = .next
        (s.settled (s.hw.send (.toKernel (.peer p) (plainFrame 3 0x82 param.toNat bytes)))))
  ∧ (∀ (s : State) (u : Unit), s.hw.hears 1 = true → exec (.peerSyncTimer u) s = .next (s.settled (s.hw.timeFrame 1 0x60
        (s.hw.nextAlign 1))))
  ∧ (∀ (s : State) (p : Fin 2) (t1 t2 : Stamp) (u : Unit), s.hw.hears p = true → s.hw.facesUp p = true → exec (.peerSync p t1 t2 u) s =
        .next (s.settled ({ s.hw with chain := { s.hw.chain with sync := some (t1, t2, s.hw.nextAlign p) } }.timeFrame p 0x61
        (s.hw.nextAlign p))))
  ∧ (∀ (s : State) (t4 : Stamp), s.hw.hears 1 = true → exec (.delayReq 1 t4) s = .next (s.settled (s.hw.timeFrame 1 0x62 t4)))
  ∧ (∀ (s : State) (p : Fin 2) (t4 t1 t2 t3 : Stamp), s.hw.hears p = true → s.hw.facesUp p = true → s.hw.chain.sync = some (t1, t2, t3)
        → exec (.delayResp p t4) s = .next (s.settled (
          let r := exchangeOf t1 t2 t3 t4 (signed 16 (s.hw.use pPEERA PEER.ASYM));
          let u := (s.hw.wr pPEERA PEER.OFFSET (unsignedOf 32 r.1)).wr pPEERA PEER.DELAY (unsignedOf 24 r.2);
          let late := decide (u.rd pPEERA PEER.TIME_TOL < r.1.natAbs);
          let v := { u with chain := { u.chain with sync := none, late := late } }.persist pPEERA 4 late;
          let w := if late && !u.chain.late then v.raise pPEERA 4 (peerCap (v.neighbour 0) 0 5) else v;
          if w.rd pTIME TIME.TIME_CTRL_SRC = 0 then w.joinTime r.1 else
          let z := w.servo r.1;
          if z.rd pPEERA PEER.TIME_FAIL < r.1.natAbs then z.chainBreak else z)))

/-- Slots, pages, grades and jams between modules complete. The Headstock offers a slot and hears the answers, a module answers
an offer, joins or skips the slot on its GO, and a dropped, spoiled or released page, a grade change and a jam take effect and
travel on. (R446, R447, R449) -/
def Obligations.PeerPagesComplete : Prop :=
  (∀ (s : State) (due : Stamp) (a : Slot), s.hw.headrace.slot = some a → s.hw.chainOn = true → s.hw.isHeadstock = true → exec
        (.slotOfferTimer due) s = .next (s.settled (
          let u : Hw := { s.hw with chain := { s.hw.chain with offered := some s.hw.chain.nextSlot, readies := [] } };
          u.chainDown (u.ctrlFrame 0x74 (s.hw.chain.nextSlot + 2 ^ 32 * (u.runGrade % 8)) (toLE 8 a.beltP.toNat ++ toLE 8
              due.toNat)))))
  ∧ (∀ (s : State) (p : Fin 2) (n : BitVec 32) (grade : Fin 8) (pHead pOwn : Coord) (due : Stamp) (g : PageRec), s.hw.hears p = true →
        s.hw.facesUp p = true → (s.hw.chainDown (fromModule 0 0x74 (n.toNat + 2 ^ 32 * grade) (toLE 8 pHead.toNat ++ toLE 8
        due.toNat))).candidate = some g → exec (.slotOffer p n grade pHead pOwn due) s = .next (s.settled (
          let u := s.hw.chainDown (fromModule 0 0x74 (n.toNat + 2 ^ 32 * grade) (toLE 8 pHead.toNat ++ toLE 8 due.toNat));
          let f := u.admitsNone;
          let why := (if f.1 = 0 then f.2.admitFails g pOwn (max (f.2.ownGrade g) grade) else f.1);
          let v : Hw := { f.2 with chain := { f.2.chain with held := if why = 0 then some (n.toNat, g.desc, pOwn) else none } };
          v.chainUp (v.ctrlFrame 0x75 (n.toNat + 2 ^ 32 * b2n (decide (why = 0)) + 2 ^ 40 * why) (toLE 4 g.jobId)))))
  ∧ (∀ (s : State) (m : Fin 16) (n : BitVec 32) (ok : Bool) (reason : BitVec 8) (job : BitVec 32), s.hw.hears 1 = true →
        s.hw.isHeadstock = true → s.hw.chain.offered = some n.toNat → exec (.slotReady 1 m n ok reason job) s = .next (s.settled
        ({ s.hw with chain := { s.hw.chain with readies := ⟨m, ok, job.toNat⟩ :: s.hw.chain.readies.filter fun r => decide (r.module ≠ m.val) } })))
  ∧ (∀ (s : State) (m : Fin 16) (n : BitVec 32) (ok : Bool) (reason : BitVec 8) (job : BitVec 32), s.hw.hears 1 = true →
        s.hw.isHeadstock = false → exec (.slotReady 1 m n ok reason job) s = .next (s.settled (s.hw.passUp (fromModule m 0x75
        (n.toNat + 2 ^ 32 * b2n ok + 2 ^ 40 * reason.toNat) (toLE 4 job.toNat)))))
  ∧ (∀ (s : State) (p : Fin 2) (n : BitVec 32) (go : Bool), s.hw.hears p = true → s.hw.facesUp p = true → exec (.slotGo p n go) s =
        .next (s.settled (
          let u := s.hw.chainDown (fromModule 0 0x76 (n.toNat + 2 ^ 32 * b2n go) []);
          let v : Hw := { u with chain := { u.chain with held := none, nextSlot := (n.toNat + 1) % 4294967296 } };
          match u.chain.held with
          | some (k, d, b) => if go && v.heldFor n.toNat d k && !v.headrace.stopAtGap then v.joinSlot k d b else v.skipSlot 0
          | none => v.skipSlot 0)))
  ∧ (∀ (s : State) (p : Fin 2) (m : Fin 16) (n : BitVec 32), s.hw.hears p = true → exec (.slotDrop p m n) s = .next (s.settled (
          let u := s.hw.passOn p (fromModule m 0x77 n.toNat []);
          match u.pageOfSlot n.toNat with
          | some g => u.returnPage g.desc
          | none => u)))
  ∧ (∀ (s : State) (m : Fin 16) (n : BitVec 32) (reason : BitVec 8), s.hw.hears 0 = true → s.hw.isHeadstock = false → m.val ≠
        s.hw.moduleNo → exec (.peerPageSpoil 0 m n reason) s = .next (s.settled ((s.hw.chainDown (fromModule m 0x78 (n.toNat + 2 ^
        32 * reason.toNat) [])).spoilOfSlot n.toNat)))
  ∧ (∀ (s : State) (m : Fin 16) (n : BitVec 32) (reason : BitVec 8), s.hw.hears 0 = true → s.hw.isHeadstock = false → m.val =
        s.hw.moduleNo → exec (.peerPageSpoil 0 m n reason) s = .next (s.settled (s.hw.chainDown (fromModule m 0x78 (n.toNat + 2 ^
        32 * reason.toNat) []))))
  ∧ (∀ (s : State) (m : Fin 16) (n : BitVec 32) (reason : BitVec 8), s.hw.hears 1 = true → s.hw.isHeadstock = false → exec
        (.peerPageSpoil 1 m n reason) s = .next (s.settled (s.hw.passUp (fromModule m 0x78 (n.toNat + 2 ^ 32 * reason.toNat) []))))
  ∧ (∀ (s : State) (p : Fin 2) (m : Fin 16) (n : BitVec 32) (reason : BitVec 8), s.hw.hears p = true → s.hw.isHeadstock = true →
        s.hw.spoilKnown n.toNat = false → exec (.peerPageSpoil p m n reason) s = .next (s.settled (
          let u := ((s.hw.noteSpoil n.toNat reason.toNat).chainDown (fromModule m 0x78 (n.toNat + 2 ^ 32 * reason.toNat)
              [])).spoilOfSlot n.toNat;
          if reprints reason.toNat then u else u.releaseOfSlot n.toNat)))
  ∧ (∀ (s : State) (p : Fin 2) (m : Fin 16) (n : BitVec 32) (reason : BitVec 8), s.hw.hears p = true → s.hw.isHeadstock = true →
        s.hw.spoilKnown n.toNat = true → exec (.peerPageSpoil p m n reason) s = .next (s.settled (if reprints reason.toNat then
        s.hw else s.hw.releaseOfSlot n.toNat)))
  ∧ (∀ (s : State) (p : Fin 2) (n : BitVec 32), s.hw.hears p = true → s.hw.facesUp p = true → exec (.release p n) s = .next (s.settled (
          let u := s.hw.chainDown (fromModule 0 0x79 n.toNat []);
          match u.pageOfSlot n.toNat with
          | some g => u.releasePage g.desc 0x22
          | none => u)))
  ∧ (∀ (s : State) (p : Fin 2) (g : Fin 8) (last : BitVec 32), s.hw.hears p = true → s.hw.facesUp p = true → exec (.grade p g last) s =
        .next (s.settled (
          let b := ((s.hw.chainDown (fromModule 0 0x7A (g.val + 2 ^ 32 * last.toNat) [])).wr pHEADRACE HEADRACE.HR_STS_PEND_GRADE
              g).wr pHEADRACE HEADRACE.HR_STS_PEND_VALID 1;
          let u : Hw := { b with chain := { b.chain with gradeAfter := some last.toNat } };
          if u.pressIdle && u.slotPassed then u.gradeApply else u)))
  ∧ (∀ (s : State) (p : Fin 2) (m : Fin 16) (cause : Fin 8), s.hw.hears p = true → m.val ≠ s.hw.moduleNo → exec (.peerJam p m cause) s
        = .next (s.settled ((s.hw.passOn p (fromModule m 0x7B cause [])).jamHere 5 0 0)))
  ∧ (∀ (s : State), s.hw.chainOn = true → s.hw.isHeadstock = false → s.hw.rd pTIME TIME.TIME_CTRL_SRC ≠ 0 → exec .timeExchangeLost s =
        .next (s.settled ({ s.hw with chain := { s.hw.chain with sync := none } }.chainBreak)))

/-- The commands on every page's face complete. FE_REARM clears the first-error capture, an offered injection is armed and any
other refused, EVT_MASK is written and what it lets through is sent, EN, FREEZE, BLOCK_RESET and LOCK act, and COMMIT waits for
or takes its boundary. (R452, R455, R458, R477, R480, R481) -/
def Obligations.FaceCommandsComplete : Prop :=
  (∀ (s : State) (m : Master) (page : PageNo), s.hw.takes m (addrOf FACE.FE_INFO_VALID (4096 * page.val) 0) = true → (clsOf (4096 *
        page.val)).isNone = false → exec (.feRearm m page) s = .next (s.settled ((s.hw.rearm (4096 * page.val)).fabricUse
        (pageBase (addrOf FACE.FE_INFO_VALID (4096 * page.val) 0)))))
  ∧ (∀ (s : State) (m : Master) (page : PageNo) (checker : BitVec 4) (target : BitVec 8) (c : Cls), s.hw.takes m (addrOf
        FACE.FLT_INJ_ARM (4096 * page.val) 0) = true → clsOf (4096 * page.val) = some c → exec (.fltInjArm m page checker target)
        s = .next (s.settled ((
            let p := 4096 * page.val;
            if s.hw.injOffered c checker.toNat target.toNat then (((s.hw.wr p FACE.FLT_INJ_CHECKER checker.toNat).wr p
                FACE.FLT_INJ_TARGET target.toNat).wr p FACE.FLT_INJ_ARM 1).wr p FACE.FLT_INJ_PENDING 1 else s.hw.wr p
                FACE.FLT_INJ_REFUSED 1).fabricUse (pageBase (addrOf FACE.FLT_INJ_ARM (4096 * page.val) 0)))))
  ∧ (∀ (s : State) (m : Master) (page : PageNo) (mask : BitVec 16) (c : Cls), s.hw.takes m (addrOf FACE.EVT_MASK (4096 * page.val) 0) =
        true → clsOf (4096 * page.val) = some c → exec (.evtMaskWrite m page mask) s = .next (s.settled ((
            let p := 4096 * page.val;
            forN (nsrc c) (fun k g => if bitAt (s.hw.rd p FACE.EVT_MASK) k && !bitAt mask.toNat k && g.bit p FACE.EVT_PEND k then
                g.sendEvent p k else g) (s.hw.wr p FACE.EVT_MASK (mask.toNat % 2 ^ nsrc c))).fabricUse (pageBase (addrOf
        FACE.EVT_MASK (4096 * page.val) 0)))))
  ∧ (∀ (s : State) (m : Master) (page : PageNo) (v : Bool) (c : Cls), s.hw.takes m (addrOf FACE.PAGE_CTRL_EN (4096 * page.val) 0) =
        true → clsOf (4096 * page.val) = some c → fixedEn c = false → s.hw.is (4096 * page.val) FACE.PAGE_CTRL_EN ≠ v → exec
        (.pageEnWrite m page v) s = .next (s.settled ((
            let p := 4096 * page.val;
            let u := (s.hw.wr p FACE.PAGE_CTRL_EN (b2n v)).wr p FACE.PAGE_STS_RUNNING (b2n (v && !s.hw.is p
                FACE.PAGE_STS_IN_RESET));
            if v then u.pageEnable p else (u.pageDisable p).commitOff p).fabricUse (pageBase (addrOf FACE.PAGE_CTRL_EN (4096 *
        page.val) 0)))))
  ∧ (∀ (s : State) (m : Master) (page : PageNo) (v : Bool) (c : Cls), s.hw.takes m (addrOf FACE.PAGE_CTRL_EN (4096 * page.val) 0) =
        true → clsOf (4096 * page.val) = some c → fixedEn c = true → exec (.pageEnWrite m page v) s = .next (s.settled
        ((s.hw).fabricUse (pageBase (addrOf FACE.PAGE_CTRL_EN (4096 * page.val) 0)))))
  ∧ (∀ (s : State) (m : Master) (page : PageNo) (v : Bool), s.hw.takes m (addrOf FACE.PAGE_CTRL_FREEZE (4096 * page.val) 0) = true →
        (clsOf (4096 * page.val)).isNone = false → exec (.freezeWrite m page v) s = .next (s.settled ((
            let p := 4096 * page.val;
            let u := s.hw.wr p FACE.PAGE_CTRL_FREEZE (b2n v);
            if v && !s.hw.is p FACE.PAGE_CTRL_FREEZE then u.holdView p else if v then u else u.wr p FACE.PAGE_STS_FROZEN
                0).fabricUse (pageBase (addrOf FACE.PAGE_CTRL_FREEZE (4096 * page.val) 0)))))
  ∧ (∀ (s : State) (m : Master) (page : PageNo), s.hw.takes m (addrOf FACE.PAGE_CTRL_BLOCK_RESET (4096 * page.val) 0) = true → (clsOf
        (4096 * page.val)).isNone = false → exec (.blockReset m page) s = .next (s.settled ((s.hw.blockReset (4096 *
        page.val)).fabricUse (pageBase (addrOf FACE.PAGE_CTRL_BLOCK_RESET (4096 * page.val) 0)))))
  ∧ (∀ (s : State) (page : PageNo), s.hw.is (4096 * page.val) FACE.PAGE_STS_IN_RESET = true → exec (.blockResetEnd page) s = .next
        (s.settled (
          let p := 4096 * page.val;
          let u := (s.hw.wr p FACE.PAGE_STS_IN_RESET 0).wr p FACE.PAGE_STS_HUNG 0;
          let v := u.wr p FACE.PAGE_STS_RUNNING (u.rd p FACE.PAGE_CTRL_EN);
          let w := (
            match clsOf p with
            | some .leat => v.trunkFollow (unitOf p)
            | some .ivina => v.lanesFollow (.head (stationOf p))
            | some .peerA => v.lanesFollow (.peer 0)
            | some .peerB => v.lanesFollow (.peer 1)
            | some .scanclk => v.sclkGo (unitOf p)
            | some .mailbox => forN 32 (fun n g => g.deliver n) v
            | some .feedback
            | some .feedback2 => (fbChannels (unitOf p)).foldl (fun g c => g.encJudge c) v
            | _ => v);
          if w.is p FACE.PAGE_CTRL_FREEZE then w.holdView p else w)))
  ∧ (∀ (s : State) (m : Master) (page : PageNo), s.hw.takes m (addrOf FACE.PAGE_CTRL_COMMIT (4096 * page.val) 0) = true → s.hw.is (4096
        * page.val) FACE.PAGE_STS_IN_RESET = false → clsOf (4096 * page.val) ≠ some .gov → exec (.commit m page) s = .next
        (s.settled ((s.hw.masterCommit (4096 * page.val)).fabricUse (pageBase (addrOf FACE.PAGE_CTRL_COMMIT (4096 * page.val)
        0)))))
  ∧ (∀ (s : State) (m : Master) (page : PageNo), s.hw.takes m (addrOf FACE.PAGE_CTRL_COMMIT (4096 * page.val) 0) = true → s.hw.is (4096
        * page.val) FACE.PAGE_STS_IN_RESET = false → clsOf (4096 * page.val) = some .gov → s.hw.govCommitRefused (pageInstance
        (4096 * page.val)) = none → exec (.commit m page) s = .next (s.settled ((s.hw.masterCommit (4096 * page.val)).fabricUse
        (pageBase (addrOf FACE.PAGE_CTRL_COMMIT (4096 * page.val) 0)))))
  ∧ (∀ (s : State) (page : PageNo) (u : Fin 64), s.hw.boundaryNow (4096 * page.val) = true → exec (.commitApply page u) s = .next
        (s.settled (s.hw.commitBoundary (4096 * page.val) u)))
  ∧ (∀ (s : State) (m : Master) (page : PageNo), s.hw.takes m (addrOf FACE.PAGE_CTRL_LOCK (4096 * page.val) 0) = true → (clsOf (4096 *
        page.val)).isNone = false → exec (.pageLock m page) s = .next (s.settled ((s.hw.lockPage (4096 * page.val)).fabricUse
        (pageBase (addrOf FACE.PAGE_CTRL_LOCK (4096 * page.val) 0)))))

/-- The Fantail's commands and the page fabric's checks complete. RESUME starts the output when nothing stops it, clearing EN
stops it, FT_FREQ takes a legal frequency, a late access is completed for its master, a block that hangs is named, the ledger
and the fabric report, and SURF_STS bits are cleared. (R54, R461, R462, R463, R465, R466, R468) -/
def Obligations.FantailCommandsComplete : Prop :=
  (∀ (s : State) (m : Master), s.hw.takes m (addrOf FANTAIL.FT_CTRL_EN pFANTAIL 0) = true → isKernel m = true → s.hw.is pFANTAIL
        FANTAIL.FT_CTRL_EN = true → s.hw.is pFANTAIL FANTAIL.FT_STS_TOGGLING = false → s.hw.ready = true → s.hw.mram.hold = false
        → s.hw.fanClear = true → exec (.fantailResume m) s = .next (s.settled ((s.hw.fanStart).fabricUse (pageBase (addrOf
        FANTAIL.FT_CTRL_EN pFANTAIL 0)))))
  ∧ (∀ (s : State) (m : Master) (v : Bool), s.hw.takes m (addrOf FANTAIL.FT_CTRL_EN pFANTAIL 0) = true → isKernel m = true → exec
        (.fantailEnWrite m v) s = .next (s.settled ((
            let u := s.hw.wr pFANTAIL FANTAIL.FT_CTRL_EN (b2n v);
            if v then u else u.freezeFantail 5).fabricUse (pageBase (addrOf FANTAIL.FT_CTRL_EN pFANTAIL 0)))))
  ∧ (∀ (s : State) (m : Master) (v : BitVec 14), s.hw.takes m (addrOf FANTAIL.FT_FREQ pFANTAIL 0) = true → 100 ≤ v.toNat → v.toNat ≤
        10000 → exec (.ftFreqWrite m v) s = .next (s.settled ((s.hw.wr pFANTAIL FANTAIL.FT_FREQ v.toNat).fabricUse (pageBase
        (addrOf FANTAIL.FT_FREQ pFANTAIL 0)))))
  ∧ (∀ (s : State) (m : Master) (a : BitVec 20) (write : Bool), (clsOf (pageBase a.toNat)).isNone = false → 0x80 ≤ pageOff a.toNat →
        s.hw.pageServed m (pageBase a.toNat) = true → s.hw.is (pageBase a.toNat) FACE.PAGE_STS_IN_RESET = false → exec
        (.fabricTimeout m a write) s = .next (s.settled ((if write then s.hw else s.hw.send (.readValue m a.toNat
        0xFFFFFFFF)).raise pFANTAIL 2 ⟨a.toNat, m.toNat, b2n write, false⟩)))
  ∧ (∀ (s : State) (page : PageNo) (c : Cls), clsOf (4096 * page.val) = some c → alwaysOn c = false → s.hw.is (4096 * page.val)
        FACE.PAGE_STS_IN_RESET = false → s.hw.boot.inReset = false → exec (.blockWatchdog page) s = .next (s.settled
        (((s.hw.strand (4096 * page.val)).wr (4096 * page.val) FACE.PAGE_STS_HUNG 1).raise pFANTAIL 2 (cap0 (4096 * page.val)))))
  ∧ (∀ (s : State), exec (.ledgerCheck true) s = .next (s.settled (s.hw.showLedger)))
  ∧ (∀ (s : State), s.hw.boot.inReset = false → exec (.ledgerCheck false) s = .next (s.settled (s.hw.raise pFANTAIL 1 (cap0 0))))
  ∧ (∀ (s : State) (page : PageNo), (clsOf (4096 * page.val)).isNone = false → s.hw.boot.inReset = false → exec (.fabricParityError
        page) s = .next (s.settled (s.hw.raise pFANTAIL 1 (cap0 (4096 * page.val)))))
  ∧ (∀ (s : State) (m : Master) (stn : StationNo) (mask : BitVec 4), s.hw.takes m (addrOf TIME.SURF_STS_STALE pTIME stn) = true → exec
        (.surfStsClear m stn mask) s = .next (s.settled ((
            let u := [TIME.SURF_STS_STALE, TIME.SURF_STS_REVERSE, TIME.SURF_STS_TOF_LATE, TIME.SURF_STS_TOF_EARLY].zipIdx.foldl
                (fun g f => if bitAt mask.toNat f.2 then g.wri pTIME f.1 stn 0 else g) s.hw;
            (if bitAt mask.toNat 1 then u.modSurf stn fun x => { x with back := 0 } else u).surfJudge stn).fabricUse (pageBase
        (addrOf TIME.SURF_STS_STALE pTIME stn)))))
end

