-- ==== Sys2Proof/Laws/Tables.lean ====
section
/-! SUPPORT. Tables in canonical form: a read after a write, and that a write keeps the form. -/

namespace Sys2Proof.Machine

variable {α : Type}

theorem tget_tput_same (d : Nat → α) (t : Tab α) (k : Nat) (v : α) : tget d (tput t k v) k = v := by
  induction t with
  | nil => simp [tput, tget]
  | cons e t ih =>
    obtain ⟨k', v'⟩ := e
    unfold tput
    split
    · simp [tget]
    · split <;> simp_all [tget]

theorem tget_tput_other (d : Nat → α) (t : Tab α) {k j : Nat} (v : α) (h : j ≠ k) : tget d (tput t k v) j = tget d t j := by
  induction t with
  | nil => simp [tput, tget, h]
  | cons e t ih =>
    obtain ⟨k', v'⟩ := e
    unfold tput
    split
    · simp_all [tget]
    · split <;> simp_all [tget]

theorem tget_tdel_same (d : Nat → α) (t : Tab α) (k : Nat) : tget d (tdel t k) k = d k := by
  induction t with
  | nil => simp [tdel, tget]
  | cons e t ih =>
    obtain ⟨k', v'⟩ := e
    by_cases h : k' = k
    · subst h; simpa [tdel] using ih
    · have h' : k ≠ k' := fun x => h x.symm
      simp_all [tdel, tget]

theorem tget_tdel_other (d : Nat → α) (t : Tab α) {k j : Nat} (h : j ≠ k) : tget d (tdel t k) j = tget d t j := by
  induction t with
  | nil => simp [tdel, tget]
  | cons e t ih =>
    obtain ⟨k', v'⟩ := e
    by_cases hk : k' = k
    · subst hk; simp_all [tdel, tget]
    · by_cases hj : j = k' <;> simp_all [tdel, tget]

variable [DecidableEq α]

/-- A read at the key written gives the value written. -/
@[simp] theorem tget_tset_same (d : Nat → α) (t : Tab α) (k : Nat) (v : α) : tget d (tset d t k v) k = v := by
  unfold tset
  split
  · next h => rw [tget_tdel_same, h]
  · exact tget_tput_same d t k v

/-- A read at any other key gives what it gave. -/
theorem tget_tset_other (d : Nat → α) (t : Tab α) {k j : Nat} (v : α) (h : j ≠ k) : tget d (tset d t k v) j = tget d t j := by
  unfold tset
  split
  · exact tget_tdel_other d t h
  · exact tget_tput_other d t v h

theorem mem_tput {t : Tab α} {k : Nat} {v : α} {e : Nat × α} (h : e ∈ tput t k v) : e = (k, v) ∨ e ∈ t := by
  induction t with
  | nil => simpa [tput] using h
  | cons x t ih =>
    obtain ⟨k', v'⟩ := x
    unfold tput at h
    split at h
    · simp at h; tauto
    · split at h
      · simpa using h
      · simp at h
        rcases h with h | h
        · exact .inr (by simp [h])
        · rcases ih h with h | h <;> simp [h]

theorem twf_cons {d : Nat → α} {k : Nat} {v : α} {t : Tab α} :
    twf d ((k, v) :: t) = true ↔ v ≠ d k ∧ (∀ e ∈ t, k < e.1) ∧ twf d t = true := by
  simp [twf, and_assoc]

theorem twf_tput {d : Nat → α} {t : Tab α} {k : Nat} {v : α} (hv : v ≠ d k) (h : twf d t = true) : twf d (tput t k v) = true := by
  induction t with
  | nil => simp [tput, twf, hv]
  | cons x t ih =>
    obtain ⟨k', v'⟩ := x
    obtain ⟨h1, h2, h3⟩ := twf_cons.1 h
    unfold tput
    split
    · next e => subst e; exact twf_cons.2 ⟨hv, h2, h3⟩
    · next ne =>
      split
      · next lt => exact twf_cons.2 ⟨hv, by intro e he; simp at he; rcases he with rfl | he; exacts [lt, lt.trans (h2 e he)], h⟩
      · next nlt =>
        refine twf_cons.2 ⟨h1, ?_, ih h3⟩
        intro e he
        rcases mem_tput he with rfl | he
        · show k' < k; omega
        · exact h2 e he

theorem twf_filter {d : Nat → α} (p : Nat × α → Bool) {t : Tab α} (h : twf d t = true) : twf d (t.filter p) = true := by
  induction t with
  | nil => simpa using h
  | cons x t ih =>
    obtain ⟨k', v'⟩ := x
    obtain ⟨h1, h2, h3⟩ := twf_cons.1 h
    rw [List.filter_cons]
    split
    · exact twf_cons.2 ⟨h1, fun e he => h2 e (List.mem_filter.1 he).1, ih h3⟩
    · exact ih h3

/-- A write keeps the canonical form. -/
theorem twf_tset {d : Nat → α} {t : Tab α} {k : Nat} {v : α} (h : twf d t = true) : twf d (tset d t k v) = true := by
  unfold tset
  split
  · exact twf_filter _ h
  · next hv => exact twf_tput hv h

end Sys2Proof.Machine
end

