-- ==== Sys2Proof/Laws/Registers.lean ====
section
/-! SUPPORT. Register fields: what a read gives after a write of the same field, of another field of the word, and of another word. -/

namespace Sys2Proof.Machine

/-! ### Bits of a word -/

theorem maskOf_bit {hi lo i : Nat} (_ : hi < 32) (hl : lo ≤ hi) (hi' : i < 32) :
    (maskOf hi lo).getLsbD i = decide (lo ≤ i ∧ i ≤ hi) := by
  simp only [maskOf, BitVec.getLsbD_ofNat, Nat.testBit_shiftLeft, Nat.testBit_two_pow_sub_one, hi', decide_true, Bool.true_and]
  by_cases a : lo ≤ i <;> by_cases b : i ≤ hi <;> simp [a, b] <;> omega

theorem putBits_bit {w : Word} {hi lo v i : Nat} (h : hi < 32) (hl : lo ≤ hi) (hi' : i < 32) :
    (putBits w hi lo v).getLsbD i = if lo ≤ i ∧ i ≤ hi then v.testBit (i - lo) else w.getLsbD i := by
  simp only [putBits, BitVec.getLsbD_or, BitVec.getLsbD_and, BitVec.getLsbD_not, maskOf_bit h hl hi', hi', BitVec.getLsbD_ofNat,
    Nat.testBit_shiftLeft]
  by_cases a : lo ≤ i <;> by_cases b : i ≤ hi <;> simp [a, b]

theorem testBit_bitsOf (w : Word) (hi lo i : Nat) :
    (bitsOf w hi lo).testBit i = (decide (i < hi + 1 - lo) && w.getLsbD (lo + i)) := by
  simp [bitsOf, Nat.testBit_mod_two_pow, BitVec.getLsbD, Nat.testBit_shiftRight]

/-- A field reads the value written, modulo its width. -/
theorem bitsOf_putBits_same (w : Word) {hi lo : Nat} (v : Nat) (h : hi < 32) (hl : lo ≤ hi) :
    bitsOf (putBits w hi lo v) hi lo = v % 2 ^ (hi + 1 - lo) := by
  apply Nat.eq_of_testBit_eq
  intro i
  rw [testBit_bitsOf, Nat.testBit_mod_two_pow]
  by_cases hi' : i < hi + 1 - lo
  · rw [putBits_bit h hl (by omega), if_pos (by omega)]; simp [hi']
  · simp [hi']

/-- A field of the same word that shares no bit is left alone. -/
theorem bitsOf_putBits_other (w : Word) {hi lo hi' lo' : Nat} (v : Nat) (h : hi < 32) (hl : lo ≤ hi) (h' : hi' < 32)
    (d : hi' < lo ∨ hi < lo') : bitsOf (putBits w hi lo v) hi' lo' = bitsOf w hi' lo' := by
  apply Nat.eq_of_testBit_eq
  intro i
  rw [testBit_bitsOf, testBit_bitsOf]
  by_cases hi2 : i < hi' + 1 - lo'
  · rw [putBits_bit h hl (by omega), if_neg (by omega)]
  · simp [hi2]

/-! ### Words -/

@[simp] theorem word_setWord_same (h : Hw) (a : Nat) (v : Word) : (h.setWord a v).word a = v := by simp [Hw.word, Hw.setWord]

theorem word_setWord_other (h : Hw) {a b : Nat} (v : Word) (n : b ≠ a) : (h.setWord a v).word b = h.word b := by
  simp [Hw.word, Hw.setWord, tget_tset_other _ _ _ n]

/-! ### Fields -/

/-- Two fields of pages that share no bit: other words, or other bits of one word. -/
def apart (p : Nat) (f : Field) (i : Nat) (q : Nat) (g : Field) (j : Nat) : Prop :=
  addrOf g q j ≠ addrOf f p i ∨ g.hi < f.lo ∨ f.hi < g.lo

theorem rdi_wri_same (h : Hw) (p : Nat) (f : Field) (i v : Nat) (hf : f.hi < 32 := by decide) (hl : f.lo ≤ f.hi := by decide) :
    (h.wri p f i v).rdi p f i = v % 2 ^ (f.hi + 1 - f.lo) := by
  simp [Hw.rdi, Hw.wri, bitsOf_putBits_same _ _ hf hl]

theorem rdi_wri_other (h : Hw) (p : Nat) (f : Field) (i v : Nat) (q : Nat) (g : Field) (j : Nat)
    (hf : f.hi < 32) (hl : f.lo ≤ f.hi) (hg : g.hi < 32) (d : apart p f i q g j) : (h.wri p f i v).rdi q g j = h.rdi q g j := by
  unfold Hw.rdi Hw.wri
  by_cases e : addrOf g q j = addrOf f p i
  · rw [e, word_setWord_same, bitsOf_putBits_other _ _ hf hl hg (d.resolve_left (fun n => n e))]
  · rw [word_setWord_other _ _ e]

theorem rd_wr_same (h : Hw) (p : Nat) (f : Field) (v : Nat) (hf : f.hi < 32 := by decide) (hl : f.lo ≤ f.hi := by decide) :
    (h.wr p f v).rd p f = v % 2 ^ (f.hi + 1 - f.lo) := rdi_wri_same h p f 0 v hf hl

theorem rd_eq_rdi (h : Hw) (p : Nat) (f : Field) : h.rd p f = h.rdi p f 0 := rfl

/-- A word that a field write does not address is left alone. -/
theorem word_wri_other (h : Hw) (p : Nat) (f : Field) (i v : Nat) {a : Nat} (n : a ≠ addrOf f p i) : (h.wri p f i v).word a = h.word a :=
  word_setWord_other _ _ n

end Sys2Proof.Machine
end

