-- ==== Sys2Proof/Laws/State.lean ====
section
/-! SUPPORT. What each elementary update leaves alone: one lemma for each field of the hardware and each update, true by definition. -/

namespace Sys2Proof.Machine

variable (h : Hw)

/-! ### The state -/

@[simp] theorem withHw_hw (s : State) (g : Hw) : (s.withHw g).hw = g := rfl
@[simp] theorem withHw_pending (s : State) (g : Hw) : (s.withHw g).pending = s.pending := rfl
@[simp] theorem withHw_withHw (s : State) (g k : Hw) : (s.withHw g).withHw k = s.withHw k := rfl

/-! ### Updates that write registers only -/

@[simp] theorem setWord_used (a : Nat) (v : Word) : (h.setWord a v).used = h.used := by delta Hw.setWord; rfl
@[simp] theorem setWord_frozen (a : Nat) (v : Word) : (h.setWord a v).frozen = h.frozen := by delta Hw.setWord; rfl
@[simp] theorem setWord_latches (a : Nat) (v : Word) : (h.setWord a v).latches = h.latches := by delta Hw.setWord; rfl
@[simp] theorem setWord_waitCommit (a : Nat) (v : Word) : (h.setWord a v).waitCommit = h.waitCommit := by delta Hw.setWord; rfl
@[simp] theorem setWord_commitAt (a : Nat) (v : Word) : (h.setWord a v).commitAt = h.commitAt := by delta Hw.setWord; rfl
@[simp] theorem setWord_shadowWas (a : Nat) (v : Word) : (h.setWord a v).shadowWas = h.shadowWas := by delta Hw.setWord; rfl
@[simp] theorem setWord_mem (a : Nat) (v : Word) : (h.setWord a v).mem = h.mem := by delta Hw.setWord; rfl
@[simp] theorem setWord_w1 (a : Nat) (v : Word) : (h.setWord a v).w1 = h.w1 := by delta Hw.setWord; rfl
@[simp] theorem setWord_clk (a : Nat) (v : Word) : (h.setWord a v).clk = h.clk := by delta Hw.setWord; rfl
@[simp] theorem setWord_boot (a : Nat) (v : Word) : (h.setWord a v).boot = h.boot := by delta Hw.setWord; rfl
@[simp] theorem setWord_pins (a : Nat) (v : Word) : (h.setWord a v).pins = h.pins := by delta Hw.setWord; rfl
@[simp] theorem setWord_mram (a : Nat) (v : Word) : (h.setWord a v).mram = h.mram := by delta Hw.setWord; rfl
@[simp] theorem setWord_headrace (a : Nat) (v : Word) : (h.setWord a v).headrace = h.headrace := by delta Hw.setWord; rfl
@[simp] theorem setWord_codec (a : Nat) (v : Word) : (h.setWord a v).codec = h.codec := by delta Hw.setWord; rfl
@[simp] theorem setWord_stations (a : Nat) (v : Word) : (h.setWord a v).stations = h.stations := by delta Hw.setWord; rfl
@[simp] theorem setWord_peers (a : Nat) (v : Word) : (h.setWord a v).peers = h.peers := by delta Hw.setWord; rfl
@[simp] theorem setWord_chain (a : Nat) (v : Word) : (h.setWord a v).chain = h.chain := by delta Hw.setWord; rfl
@[simp] theorem setWord_surf (a : Nat) (v : Word) : (h.setWord a v).surf = h.surf := by delta Hw.setWord; rfl
@[simp] theorem setWord_belt (a : Nat) (v : Word) : (h.setWord a v).belt = h.belt := by delta Hw.setWord; rfl
@[simp] theorem setWord_tofCalc (a : Nat) (v : Word) : (h.setWord a v).tofCalc = h.tofCalc := by delta Hw.setWord; rfl
@[simp] theorem setWord_dma (a : Nat) (v : Word) : (h.setWord a v).dma = h.dma := by delta Hw.setWord; rfl
@[simp] theorem setWord_ctxResetAt (a : Nat) (v : Word) : (h.setWord a v).ctxResetAt = h.ctxResetAt := by delta Hw.setWord; rfl
@[simp] theorem setWord_vecShown (a : Nat) (v : Word) : (h.setWord a v).vecShown = h.vecShown := by delta Hw.setWord; rfl
@[simp] theorem setWord_msixFns (a : Nat) (v : Word) : (h.setWord a v).msixFns = h.msixFns := by delta Hw.setWord; rfl
@[simp] theorem setWord_boxes (a : Nat) (v : Word) : (h.setWord a v).boxes = h.boxes := by delta Hw.setWord; rfl
@[simp] theorem setWord_jobs (a : Nat) (v : Word) : (h.setWord a v).jobs = h.jobs := by delta Hw.setWord; rfl
@[simp] theorem setWord_sluice (a : Nat) (v : Word) : (h.setWord a v).sluice = h.sluice := by delta Hw.setWord; rfl
@[simp] theorem setWord_encs (a : Nat) (v : Word) : (h.setWord a v).encs = h.encs := by delta Hw.setWord; rfl
@[simp] theorem setWord_divs (a : Nat) (v : Word) : (h.setWord a v).divs = h.divs := by delta Hw.setWord; rfl
@[simp] theorem setWord_axes (a : Nat) (v : Word) : (h.setWord a v).axes = h.axes := by delta Hw.setWord; rfl
@[simp] theorem setWord_bridges (a : Nat) (v : Word) : (h.setWord a v).bridges = h.bridges := by delta Hw.setWord; rfl
@[simp] theorem setWord_banks (a : Nat) (v : Word) : (h.setWord a v).banks = h.banks := by delta Hw.setWord; rfl
@[simp] theorem setWord_steppers (a : Nat) (v : Word) : (h.setWord a v).steppers = h.steppers := by delta Hw.setWord; rfl
@[simp] theorem setWord_motion (a : Nat) (v : Word) : (h.setWord a v).motion = h.motion := by delta Hw.setWord; rfl
@[simp] theorem setWord_govSlots (a : Nat) (v : Word) : (h.setWord a v).govSlots = h.govSlots := by delta Hw.setWord; rfl
@[simp] theorem setWord_govUnits (a : Nat) (v : Word) : (h.setWord a v).govUnits = h.govUnits := by delta Hw.setWord; rfl
@[simp] theorem setWord_hvs (a : Nat) (v : Word) : (h.setWord a v).hvs = h.hvs := by delta Hw.setWord; rfl
@[simp] theorem setWord_lamps (a : Nat) (v : Word) : (h.setWord a v).lamps = h.lamps := by delta Hw.setWord; rfl
@[simp] theorem setWord_tins (a : Nat) (v : Word) : (h.setWord a v).tins = h.tins := by delta Hw.setWord; rfl
@[simp] theorem setWord_mains (a : Nat) (v : Word) : (h.setWord a v).mains = h.mains := by delta Hw.setWord; rfl
@[simp] theorem setWord_thermal (a : Nat) (v : Word) : (h.setWord a v).thermal = h.thermal := by delta Hw.setWord; rfl
@[simp] theorem setWord_trunks (a : Nat) (v : Word) : (h.setWord a v).trunks = h.trunks := by delta Hw.setWord; rfl
@[simp] theorem setWord_sheets (a : Nat) (v : Word) : (h.setWord a v).sheets = h.sheets := by delta Hw.setWord; rfl
@[simp] theorem setWord_beltHist (a : Nat) (v : Word) : (h.setWord a v).beltHist = h.beltHist := by delta Hw.setWord; rfl
@[simp] theorem setWord_jamAt (a : Nat) (v : Word) : (h.setWord a v).jamAt = h.jamAt := by delta Hw.setWord; rfl
@[simp] theorem setWord_jamEdges (a : Nat) (v : Word) : (h.setWord a v).jamEdges = h.jamEdges := by delta Hw.setWord; rfl
@[simp] theorem setWord_refRamps (a : Nat) (v : Word) : (h.setWord a v).refRamps = h.refRamps := by delta Hw.setWord; rfl
@[simp] theorem setWord_ledger (a : Nat) (v : Word) : (h.setWord a v).ledger = h.ledger := by delta Hw.setWord; rfl
@[simp] theorem setWord_raised (a : Nat) (v : Word) : (h.setWord a v).raised = h.raised := by delta Hw.setWord; rfl
@[simp] theorem setWord_raisedAt (a : Nat) (v : Word) : (h.setWord a v).raisedAt = h.raisedAt := by delta Hw.setWord; rfl
@[simp] theorem setWord_capAt (a : Nat) (v : Word) : (h.setWord a v).capAt = h.capAt := by delta Hw.setWord; rfl
@[simp] theorem setWord_sent (a : Nat) (v : Word) : (h.setWord a v).sent = h.sent := by delta Hw.setWord; rfl
@[simp] theorem setWord_due (a : Nat) (v : Word) : (h.setWord a v).due = h.due := by delta Hw.setWord; rfl
@[simp] theorem setWord_fanIn (a : Nat) (v : Word) : (h.setWord a v).fanIn = h.fanIn := by delta Hw.setWord; rfl
@[simp] theorem setWord_fresh (a : Nat) (v : Word) : (h.setWord a v).fresh = h.fresh := by delta Hw.setWord; rfl

@[simp] theorem wri_used (p : Nat) (f : Field) (i v : Nat) : (h.wri p f i v).used = h.used := by delta Hw.wri Hw.setWord; rfl
@[simp] theorem wri_frozen (p : Nat) (f : Field) (i v : Nat) : (h.wri p f i v).frozen = h.frozen := by delta Hw.wri Hw.setWord; rfl
@[simp] theorem wri_latches (p : Nat) (f : Field) (i v : Nat) : (h.wri p f i v).latches = h.latches := by delta Hw.wri Hw.setWord; rfl
@[simp] theorem wri_waitCommit (p : Nat) (f : Field) (i v : Nat) : (h.wri p f i v).waitCommit = h.waitCommit := by delta Hw.wri Hw.setWord; rfl
@[simp] theorem wri_commitAt (p : Nat) (f : Field) (i v : Nat) : (h.wri p f i v).commitAt = h.commitAt := by delta Hw.wri Hw.setWord; rfl
@[simp] theorem wri_shadowWas (p : Nat) (f : Field) (i v : Nat) : (h.wri p f i v).shadowWas = h.shadowWas := by delta Hw.wri Hw.setWord; rfl
@[simp] theorem wri_mem (p : Nat) (f : Field) (i v : Nat) : (h.wri p f i v).mem = h.mem := by delta Hw.wri Hw.setWord; rfl
@[simp] theorem wri_w1 (p : Nat) (f : Field) (i v : Nat) : (h.wri p f i v).w1 = h.w1 := by delta Hw.wri Hw.setWord; rfl
@[simp] theorem wri_clk (p : Nat) (f : Field) (i v : Nat) : (h.wri p f i v).clk = h.clk := by delta Hw.wri Hw.setWord; rfl
@[simp] theorem wri_boot (p : Nat) (f : Field) (i v : Nat) : (h.wri p f i v).boot = h.boot := by delta Hw.wri Hw.setWord; rfl
@[simp] theorem wri_pins (p : Nat) (f : Field) (i v : Nat) : (h.wri p f i v).pins = h.pins := by delta Hw.wri Hw.setWord; rfl
@[simp] theorem wri_mram (p : Nat) (f : Field) (i v : Nat) : (h.wri p f i v).mram = h.mram := by delta Hw.wri Hw.setWord; rfl
@[simp] theorem wri_headrace (p : Nat) (f : Field) (i v : Nat) : (h.wri p f i v).headrace = h.headrace := by delta Hw.wri Hw.setWord; rfl
@[simp] theorem wri_codec (p : Nat) (f : Field) (i v : Nat) : (h.wri p f i v).codec = h.codec := by delta Hw.wri Hw.setWord; rfl
@[simp] theorem wri_stations (p : Nat) (f : Field) (i v : Nat) : (h.wri p f i v).stations = h.stations := by delta Hw.wri Hw.setWord; rfl
@[simp] theorem wri_peers (p : Nat) (f : Field) (i v : Nat) : (h.wri p f i v).peers = h.peers := by delta Hw.wri Hw.setWord; rfl
@[simp] theorem wri_chain (p : Nat) (f : Field) (i v : Nat) : (h.wri p f i v).chain = h.chain := by delta Hw.wri Hw.setWord; rfl
@[simp] theorem wri_surf (p : Nat) (f : Field) (i v : Nat) : (h.wri p f i v).surf = h.surf := by delta Hw.wri Hw.setWord; rfl
@[simp] theorem wri_belt (p : Nat) (f : Field) (i v : Nat) : (h.wri p f i v).belt = h.belt := by delta Hw.wri Hw.setWord; rfl
@[simp] theorem wri_tofCalc (p : Nat) (f : Field) (i v : Nat) : (h.wri p f i v).tofCalc = h.tofCalc := by delta Hw.wri Hw.setWord; rfl
@[simp] theorem wri_dma (p : Nat) (f : Field) (i v : Nat) : (h.wri p f i v).dma = h.dma := by delta Hw.wri Hw.setWord; rfl
@[simp] theorem wri_ctxResetAt (p : Nat) (f : Field) (i v : Nat) : (h.wri p f i v).ctxResetAt = h.ctxResetAt := by delta Hw.wri Hw.setWord; rfl
@[simp] theorem wri_vecShown (p : Nat) (f : Field) (i v : Nat) : (h.wri p f i v).vecShown = h.vecShown := by delta Hw.wri Hw.setWord; rfl
@[simp] theorem wri_msixFns (p : Nat) (f : Field) (i v : Nat) : (h.wri p f i v).msixFns = h.msixFns := by delta Hw.wri Hw.setWord; rfl
@[simp] theorem wri_boxes (p : Nat) (f : Field) (i v : Nat) : (h.wri p f i v).boxes = h.boxes := by delta Hw.wri Hw.setWord; rfl
@[simp] theorem wri_jobs (p : Nat) (f : Field) (i v : Nat) : (h.wri p f i v).jobs = h.jobs := by delta Hw.wri Hw.setWord; rfl
@[simp] theorem wri_sluice (p : Nat) (f : Field) (i v : Nat) : (h.wri p f i v).sluice = h.sluice := by delta Hw.wri Hw.setWord; rfl
@[simp] theorem wri_encs (p : Nat) (f : Field) (i v : Nat) : (h.wri p f i v).encs = h.encs := by delta Hw.wri Hw.setWord; rfl
@[simp] theorem wri_divs (p : Nat) (f : Field) (i v : Nat) : (h.wri p f i v).divs = h.divs := by delta Hw.wri Hw.setWord; rfl
@[simp] theorem wri_axes (p : Nat) (f : Field) (i v : Nat) : (h.wri p f i v).axes = h.axes := by delta Hw.wri Hw.setWord; rfl
@[simp] theorem wri_bridges (p : Nat) (f : Field) (i v : Nat) : (h.wri p f i v).bridges = h.bridges := by delta Hw.wri Hw.setWord; rfl
@[simp] theorem wri_banks (p : Nat) (f : Field) (i v : Nat) : (h.wri p f i v).banks = h.banks := by delta Hw.wri Hw.setWord; rfl
@[simp] theorem wri_steppers (p : Nat) (f : Field) (i v : Nat) : (h.wri p f i v).steppers = h.steppers := by delta Hw.wri Hw.setWord; rfl
@[simp] theorem wri_motion (p : Nat) (f : Field) (i v : Nat) : (h.wri p f i v).motion = h.motion := by delta Hw.wri Hw.setWord; rfl
@[simp] theorem wri_govSlots (p : Nat) (f : Field) (i v : Nat) : (h.wri p f i v).govSlots = h.govSlots := by delta Hw.wri Hw.setWord; rfl
@[simp] theorem wri_govUnits (p : Nat) (f : Field) (i v : Nat) : (h.wri p f i v).govUnits = h.govUnits := by delta Hw.wri Hw.setWord; rfl
@[simp] theorem wri_hvs (p : Nat) (f : Field) (i v : Nat) : (h.wri p f i v).hvs = h.hvs := by delta Hw.wri Hw.setWord; rfl
@[simp] theorem wri_lamps (p : Nat) (f : Field) (i v : Nat) : (h.wri p f i v).lamps = h.lamps := by delta Hw.wri Hw.setWord; rfl
@[simp] theorem wri_tins (p : Nat) (f : Field) (i v : Nat) : (h.wri p f i v).tins = h.tins := by delta Hw.wri Hw.setWord; rfl
@[simp] theorem wri_mains (p : Nat) (f : Field) (i v : Nat) : (h.wri p f i v).mains = h.mains := by delta Hw.wri Hw.setWord; rfl
@[simp] theorem wri_thermal (p : Nat) (f : Field) (i v : Nat) : (h.wri p f i v).thermal = h.thermal := by delta Hw.wri Hw.setWord; rfl
@[simp] theorem wri_trunks (p : Nat) (f : Field) (i v : Nat) : (h.wri p f i v).trunks = h.trunks := by delta Hw.wri Hw.setWord; rfl
@[simp] theorem wri_sheets (p : Nat) (f : Field) (i v : Nat) : (h.wri p f i v).sheets = h.sheets := by delta Hw.wri Hw.setWord; rfl
@[simp] theorem wri_beltHist (p : Nat) (f : Field) (i v : Nat) : (h.wri p f i v).beltHist = h.beltHist := by delta Hw.wri Hw.setWord; rfl
@[simp] theorem wri_jamAt (p : Nat) (f : Field) (i v : Nat) : (h.wri p f i v).jamAt = h.jamAt := by delta Hw.wri Hw.setWord; rfl
@[simp] theorem wri_jamEdges (p : Nat) (f : Field) (i v : Nat) : (h.wri p f i v).jamEdges = h.jamEdges := by delta Hw.wri Hw.setWord; rfl
@[simp] theorem wri_refRamps (p : Nat) (f : Field) (i v : Nat) : (h.wri p f i v).refRamps = h.refRamps := by delta Hw.wri Hw.setWord; rfl
@[simp] theorem wri_ledger (p : Nat) (f : Field) (i v : Nat) : (h.wri p f i v).ledger = h.ledger := by delta Hw.wri Hw.setWord; rfl
@[simp] theorem wri_raised (p : Nat) (f : Field) (i v : Nat) : (h.wri p f i v).raised = h.raised := by delta Hw.wri Hw.setWord; rfl
@[simp] theorem wri_raisedAt (p : Nat) (f : Field) (i v : Nat) : (h.wri p f i v).raisedAt = h.raisedAt := by delta Hw.wri Hw.setWord; rfl
@[simp] theorem wri_capAt (p : Nat) (f : Field) (i v : Nat) : (h.wri p f i v).capAt = h.capAt := by delta Hw.wri Hw.setWord; rfl
@[simp] theorem wri_sent (p : Nat) (f : Field) (i v : Nat) : (h.wri p f i v).sent = h.sent := by delta Hw.wri Hw.setWord; rfl
@[simp] theorem wri_due (p : Nat) (f : Field) (i v : Nat) : (h.wri p f i v).due = h.due := by delta Hw.wri Hw.setWord; rfl
@[simp] theorem wri_fanIn (p : Nat) (f : Field) (i v : Nat) : (h.wri p f i v).fanIn = h.fanIn := by delta Hw.wri Hw.setWord; rfl
@[simp] theorem wri_fresh (p : Nat) (f : Field) (i v : Nat) : (h.wri p f i v).fresh = h.fresh := by delta Hw.wri Hw.setWord; rfl

@[simp] theorem wr_used (p : Nat) (f : Field) (v : Nat) : (h.wr p f v).used = h.used := by delta Hw.wr Hw.wri Hw.setWord; rfl
@[simp] theorem wr_frozen (p : Nat) (f : Field) (v : Nat) : (h.wr p f v).frozen = h.frozen := by delta Hw.wr Hw.wri Hw.setWord; rfl
@[simp] theorem wr_latches (p : Nat) (f : Field) (v : Nat) : (h.wr p f v).latches = h.latches := by delta Hw.wr Hw.wri Hw.setWord; rfl
@[simp] theorem wr_waitCommit (p : Nat) (f : Field) (v : Nat) : (h.wr p f v).waitCommit = h.waitCommit := by delta Hw.wr Hw.wri Hw.setWord; rfl
@[simp] theorem wr_commitAt (p : Nat) (f : Field) (v : Nat) : (h.wr p f v).commitAt = h.commitAt := by delta Hw.wr Hw.wri Hw.setWord; rfl
@[simp] theorem wr_shadowWas (p : Nat) (f : Field) (v : Nat) : (h.wr p f v).shadowWas = h.shadowWas := by delta Hw.wr Hw.wri Hw.setWord; rfl
@[simp] theorem wr_mem (p : Nat) (f : Field) (v : Nat) : (h.wr p f v).mem = h.mem := by delta Hw.wr Hw.wri Hw.setWord; rfl
@[simp] theorem wr_w1 (p : Nat) (f : Field) (v : Nat) : (h.wr p f v).w1 = h.w1 := by delta Hw.wr Hw.wri Hw.setWord; rfl
@[simp] theorem wr_clk (p : Nat) (f : Field) (v : Nat) : (h.wr p f v).clk = h.clk := by delta Hw.wr Hw.wri Hw.setWord; rfl
@[simp] theorem wr_boot (p : Nat) (f : Field) (v : Nat) : (h.wr p f v).boot = h.boot := by delta Hw.wr Hw.wri Hw.setWord; rfl
@[simp] theorem wr_pins (p : Nat) (f : Field) (v : Nat) : (h.wr p f v).pins = h.pins := by delta Hw.wr Hw.wri Hw.setWord; rfl
@[simp] theorem wr_mram (p : Nat) (f : Field) (v : Nat) : (h.wr p f v).mram = h.mram := by delta Hw.wr Hw.wri Hw.setWord; rfl
@[simp] theorem wr_headrace (p : Nat) (f : Field) (v : Nat) : (h.wr p f v).headrace = h.headrace := by delta Hw.wr Hw.wri Hw.setWord; rfl
@[simp] theorem wr_codec (p : Nat) (f : Field) (v : Nat) : (h.wr p f v).codec = h.codec := by delta Hw.wr Hw.wri Hw.setWord; rfl
@[simp] theorem wr_stations (p : Nat) (f : Field) (v : Nat) : (h.wr p f v).stations = h.stations := by delta Hw.wr Hw.wri Hw.setWord; rfl
@[simp] theorem wr_peers (p : Nat) (f : Field) (v : Nat) : (h.wr p f v).peers = h.peers := by delta Hw.wr Hw.wri Hw.setWord; rfl
@[simp] theorem wr_chain (p : Nat) (f : Field) (v : Nat) : (h.wr p f v).chain = h.chain := by delta Hw.wr Hw.wri Hw.setWord; rfl
@[simp] theorem wr_surf (p : Nat) (f : Field) (v : Nat) : (h.wr p f v).surf = h.surf := by delta Hw.wr Hw.wri Hw.setWord; rfl
@[simp] theorem wr_belt (p : Nat) (f : Field) (v : Nat) : (h.wr p f v).belt = h.belt := by delta Hw.wr Hw.wri Hw.setWord; rfl
@[simp] theorem wr_tofCalc (p : Nat) (f : Field) (v : Nat) : (h.wr p f v).tofCalc = h.tofCalc := by delta Hw.wr Hw.wri Hw.setWord; rfl
@[simp] theorem wr_dma (p : Nat) (f : Field) (v : Nat) : (h.wr p f v).dma = h.dma := by delta Hw.wr Hw.wri Hw.setWord; rfl
@[simp] theorem wr_ctxResetAt (p : Nat) (f : Field) (v : Nat) : (h.wr p f v).ctxResetAt = h.ctxResetAt := by delta Hw.wr Hw.wri Hw.setWord; rfl
@[simp] theorem wr_vecShown (p : Nat) (f : Field) (v : Nat) : (h.wr p f v).vecShown = h.vecShown := by delta Hw.wr Hw.wri Hw.setWord; rfl
@[simp] theorem wr_msixFns (p : Nat) (f : Field) (v : Nat) : (h.wr p f v).msixFns = h.msixFns := by delta Hw.wr Hw.wri Hw.setWord; rfl
@[simp] theorem wr_boxes (p : Nat) (f : Field) (v : Nat) : (h.wr p f v).boxes = h.boxes := by delta Hw.wr Hw.wri Hw.setWord; rfl
@[simp] theorem wr_jobs (p : Nat) (f : Field) (v : Nat) : (h.wr p f v).jobs = h.jobs := by delta Hw.wr Hw.wri Hw.setWord; rfl
@[simp] theorem wr_sluice (p : Nat) (f : Field) (v : Nat) : (h.wr p f v).sluice = h.sluice := by delta Hw.wr Hw.wri Hw.setWord; rfl
@[simp] theorem wr_encs (p : Nat) (f : Field) (v : Nat) : (h.wr p f v).encs = h.encs := by delta Hw.wr Hw.wri Hw.setWord; rfl
@[simp] theorem wr_divs (p : Nat) (f : Field) (v : Nat) : (h.wr p f v).divs = h.divs := by delta Hw.wr Hw.wri Hw.setWord; rfl
@[simp] theorem wr_axes (p : Nat) (f : Field) (v : Nat) : (h.wr p f v).axes = h.axes := by delta Hw.wr Hw.wri Hw.setWord; rfl
@[simp] theorem wr_bridges (p : Nat) (f : Field) (v : Nat) : (h.wr p f v).bridges = h.bridges := by delta Hw.wr Hw.wri Hw.setWord; rfl
@[simp] theorem wr_banks (p : Nat) (f : Field) (v : Nat) : (h.wr p f v).banks = h.banks := by delta Hw.wr Hw.wri Hw.setWord; rfl
@[simp] theorem wr_steppers (p : Nat) (f : Field) (v : Nat) : (h.wr p f v).steppers = h.steppers := by delta Hw.wr Hw.wri Hw.setWord; rfl
@[simp] theorem wr_motion (p : Nat) (f : Field) (v : Nat) : (h.wr p f v).motion = h.motion := by delta Hw.wr Hw.wri Hw.setWord; rfl
@[simp] theorem wr_govSlots (p : Nat) (f : Field) (v : Nat) : (h.wr p f v).govSlots = h.govSlots := by delta Hw.wr Hw.wri Hw.setWord; rfl
@[simp] theorem wr_govUnits (p : Nat) (f : Field) (v : Nat) : (h.wr p f v).govUnits = h.govUnits := by delta Hw.wr Hw.wri Hw.setWord; rfl
@[simp] theorem wr_hvs (p : Nat) (f : Field) (v : Nat) : (h.wr p f v).hvs = h.hvs := by delta Hw.wr Hw.wri Hw.setWord; rfl
@[simp] theorem wr_lamps (p : Nat) (f : Field) (v : Nat) : (h.wr p f v).lamps = h.lamps := by delta Hw.wr Hw.wri Hw.setWord; rfl
@[simp] theorem wr_tins (p : Nat) (f : Field) (v : Nat) : (h.wr p f v).tins = h.tins := by delta Hw.wr Hw.wri Hw.setWord; rfl
@[simp] theorem wr_mains (p : Nat) (f : Field) (v : Nat) : (h.wr p f v).mains = h.mains := by delta Hw.wr Hw.wri Hw.setWord; rfl
@[simp] theorem wr_thermal (p : Nat) (f : Field) (v : Nat) : (h.wr p f v).thermal = h.thermal := by delta Hw.wr Hw.wri Hw.setWord; rfl
@[simp] theorem wr_trunks (p : Nat) (f : Field) (v : Nat) : (h.wr p f v).trunks = h.trunks := by delta Hw.wr Hw.wri Hw.setWord; rfl
@[simp] theorem wr_sheets (p : Nat) (f : Field) (v : Nat) : (h.wr p f v).sheets = h.sheets := by delta Hw.wr Hw.wri Hw.setWord; rfl
@[simp] theorem wr_beltHist (p : Nat) (f : Field) (v : Nat) : (h.wr p f v).beltHist = h.beltHist := by delta Hw.wr Hw.wri Hw.setWord; rfl
@[simp] theorem wr_jamAt (p : Nat) (f : Field) (v : Nat) : (h.wr p f v).jamAt = h.jamAt := by delta Hw.wr Hw.wri Hw.setWord; rfl
@[simp] theorem wr_jamEdges (p : Nat) (f : Field) (v : Nat) : (h.wr p f v).jamEdges = h.jamEdges := by delta Hw.wr Hw.wri Hw.setWord; rfl
@[simp] theorem wr_refRamps (p : Nat) (f : Field) (v : Nat) : (h.wr p f v).refRamps = h.refRamps := by delta Hw.wr Hw.wri Hw.setWord; rfl
@[simp] theorem wr_ledger (p : Nat) (f : Field) (v : Nat) : (h.wr p f v).ledger = h.ledger := by delta Hw.wr Hw.wri Hw.setWord; rfl
@[simp] theorem wr_raised (p : Nat) (f : Field) (v : Nat) : (h.wr p f v).raised = h.raised := by delta Hw.wr Hw.wri Hw.setWord; rfl
@[simp] theorem wr_raisedAt (p : Nat) (f : Field) (v : Nat) : (h.wr p f v).raisedAt = h.raisedAt := by delta Hw.wr Hw.wri Hw.setWord; rfl
@[simp] theorem wr_capAt (p : Nat) (f : Field) (v : Nat) : (h.wr p f v).capAt = h.capAt := by delta Hw.wr Hw.wri Hw.setWord; rfl
@[simp] theorem wr_sent (p : Nat) (f : Field) (v : Nat) : (h.wr p f v).sent = h.sent := by delta Hw.wr Hw.wri Hw.setWord; rfl
@[simp] theorem wr_due (p : Nat) (f : Field) (v : Nat) : (h.wr p f v).due = h.due := by delta Hw.wr Hw.wri Hw.setWord; rfl
@[simp] theorem wr_fanIn (p : Nat) (f : Field) (v : Nat) : (h.wr p f v).fanIn = h.fanIn := by delta Hw.wr Hw.wri Hw.setWord; rfl
@[simp] theorem wr_fresh (p : Nat) (f : Field) (v : Nat) : (h.wr p f v).fresh = h.fresh := by delta Hw.wr Hw.wri Hw.setWord; rfl

@[simp] theorem wr2_used (p : Nat) (lo hi : Field) (i v : Nat) : (h.wr2 p lo hi i v).used = h.used := by delta Hw.wr2 Hw.wri Hw.setWord; rfl
@[simp] theorem wr2_frozen (p : Nat) (lo hi : Field) (i v : Nat) : (h.wr2 p lo hi i v).frozen = h.frozen := by delta Hw.wr2 Hw.wri Hw.setWord; rfl
@[simp] theorem wr2_latches (p : Nat) (lo hi : Field) (i v : Nat) : (h.wr2 p lo hi i v).latches = h.latches := by delta Hw.wr2 Hw.wri Hw.setWord; rfl
@[simp] theorem wr2_waitCommit (p : Nat) (lo hi : Field) (i v : Nat) : (h.wr2 p lo hi i v).waitCommit = h.waitCommit := by delta Hw.wr2 Hw.wri Hw.setWord; rfl
@[simp] theorem wr2_commitAt (p : Nat) (lo hi : Field) (i v : Nat) : (h.wr2 p lo hi i v).commitAt = h.commitAt := by delta Hw.wr2 Hw.wri Hw.setWord; rfl
@[simp] theorem wr2_shadowWas (p : Nat) (lo hi : Field) (i v : Nat) : (h.wr2 p lo hi i v).shadowWas = h.shadowWas := by delta Hw.wr2 Hw.wri Hw.setWord; rfl
@[simp] theorem wr2_mem (p : Nat) (lo hi : Field) (i v : Nat) : (h.wr2 p lo hi i v).mem = h.mem := by delta Hw.wr2 Hw.wri Hw.setWord; rfl
@[simp] theorem wr2_w1 (p : Nat) (lo hi : Field) (i v : Nat) : (h.wr2 p lo hi i v).w1 = h.w1 := by delta Hw.wr2 Hw.wri Hw.setWord; rfl
@[simp] theorem wr2_clk (p : Nat) (lo hi : Field) (i v : Nat) : (h.wr2 p lo hi i v).clk = h.clk := by delta Hw.wr2 Hw.wri Hw.setWord; rfl
@[simp] theorem wr2_boot (p : Nat) (lo hi : Field) (i v : Nat) : (h.wr2 p lo hi i v).boot = h.boot := by delta Hw.wr2 Hw.wri Hw.setWord; rfl
@[simp] theorem wr2_pins (p : Nat) (lo hi : Field) (i v : Nat) : (h.wr2 p lo hi i v).pins = h.pins := by delta Hw.wr2 Hw.wri Hw.setWord; rfl
@[simp] theorem wr2_mram (p : Nat) (lo hi : Field) (i v : Nat) : (h.wr2 p lo hi i v).mram = h.mram := by delta Hw.wr2 Hw.wri Hw.setWord; rfl
@[simp] theorem wr2_headrace (p : Nat) (lo hi : Field) (i v : Nat) : (h.wr2 p lo hi i v).headrace = h.headrace := by delta Hw.wr2 Hw.wri Hw.setWord; rfl
@[simp] theorem wr2_codec (p : Nat) (lo hi : Field) (i v : Nat) : (h.wr2 p lo hi i v).codec = h.codec := by delta Hw.wr2 Hw.wri Hw.setWord; rfl
@[simp] theorem wr2_stations (p : Nat) (lo hi : Field) (i v : Nat) : (h.wr2 p lo hi i v).stations = h.stations := by delta Hw.wr2 Hw.wri Hw.setWord; rfl
@[simp] theorem wr2_peers (p : Nat) (lo hi : Field) (i v : Nat) : (h.wr2 p lo hi i v).peers = h.peers := by delta Hw.wr2 Hw.wri Hw.setWord; rfl
@[simp] theorem wr2_chain (p : Nat) (lo hi : Field) (i v : Nat) : (h.wr2 p lo hi i v).chain = h.chain := by delta Hw.wr2 Hw.wri Hw.setWord; rfl
@[simp] theorem wr2_surf (p : Nat) (lo hi : Field) (i v : Nat) : (h.wr2 p lo hi i v).surf = h.surf := by delta Hw.wr2 Hw.wri Hw.setWord; rfl
@[simp] theorem wr2_belt (p : Nat) (lo hi : Field) (i v : Nat) : (h.wr2 p lo hi i v).belt = h.belt := by delta Hw.wr2 Hw.wri Hw.setWord; rfl
@[simp] theorem wr2_tofCalc (p : Nat) (lo hi : Field) (i v : Nat) : (h.wr2 p lo hi i v).tofCalc = h.tofCalc := by delta Hw.wr2 Hw.wri Hw.setWord; rfl
@[simp] theorem wr2_dma (p : Nat) (lo hi : Field) (i v : Nat) : (h.wr2 p lo hi i v).dma = h.dma := by delta Hw.wr2 Hw.wri Hw.setWord; rfl
@[simp] theorem wr2_ctxResetAt (p : Nat) (lo hi : Field) (i v : Nat) : (h.wr2 p lo hi i v).ctxResetAt = h.ctxResetAt := by delta Hw.wr2 Hw.wri Hw.setWord; rfl
@[simp] theorem wr2_vecShown (p : Nat) (lo hi : Field) (i v : Nat) : (h.wr2 p lo hi i v).vecShown = h.vecShown := by delta Hw.wr2 Hw.wri Hw.setWord; rfl
@[simp] theorem wr2_msixFns (p : Nat) (lo hi : Field) (i v : Nat) : (h.wr2 p lo hi i v).msixFns = h.msixFns := by delta Hw.wr2 Hw.wri Hw.setWord; rfl
@[simp] theorem wr2_boxes (p : Nat) (lo hi : Field) (i v : Nat) : (h.wr2 p lo hi i v).boxes = h.boxes := by delta Hw.wr2 Hw.wri Hw.setWord; rfl
@[simp] theorem wr2_jobs (p : Nat) (lo hi : Field) (i v : Nat) : (h.wr2 p lo hi i v).jobs = h.jobs := by delta Hw.wr2 Hw.wri Hw.setWord; rfl
@[simp] theorem wr2_sluice (p : Nat) (lo hi : Field) (i v : Nat) : (h.wr2 p lo hi i v).sluice = h.sluice := by delta Hw.wr2 Hw.wri Hw.setWord; rfl
@[simp] theorem wr2_encs (p : Nat) (lo hi : Field) (i v : Nat) : (h.wr2 p lo hi i v).encs = h.encs := by delta Hw.wr2 Hw.wri Hw.setWord; rfl
@[simp] theorem wr2_divs (p : Nat) (lo hi : Field) (i v : Nat) : (h.wr2 p lo hi i v).divs = h.divs := by delta Hw.wr2 Hw.wri Hw.setWord; rfl
@[simp] theorem wr2_axes (p : Nat) (lo hi : Field) (i v : Nat) : (h.wr2 p lo hi i v).axes = h.axes := by delta Hw.wr2 Hw.wri Hw.setWord; rfl
@[simp] theorem wr2_bridges (p : Nat) (lo hi : Field) (i v : Nat) : (h.wr2 p lo hi i v).bridges = h.bridges := by delta Hw.wr2 Hw.wri Hw.setWord; rfl
@[simp] theorem wr2_banks (p : Nat) (lo hi : Field) (i v : Nat) : (h.wr2 p lo hi i v).banks = h.banks := by delta Hw.wr2 Hw.wri Hw.setWord; rfl
@[simp] theorem wr2_steppers (p : Nat) (lo hi : Field) (i v : Nat) : (h.wr2 p lo hi i v).steppers = h.steppers := by delta Hw.wr2 Hw.wri Hw.setWord; rfl
@[simp] theorem wr2_motion (p : Nat) (lo hi : Field) (i v : Nat) : (h.wr2 p lo hi i v).motion = h.motion := by delta Hw.wr2 Hw.wri Hw.setWord; rfl
@[simp] theorem wr2_govSlots (p : Nat) (lo hi : Field) (i v : Nat) : (h.wr2 p lo hi i v).govSlots = h.govSlots := by delta Hw.wr2 Hw.wri Hw.setWord; rfl
@[simp] theorem wr2_govUnits (p : Nat) (lo hi : Field) (i v : Nat) : (h.wr2 p lo hi i v).govUnits = h.govUnits := by delta Hw.wr2 Hw.wri Hw.setWord; rfl
@[simp] theorem wr2_hvs (p : Nat) (lo hi : Field) (i v : Nat) : (h.wr2 p lo hi i v).hvs = h.hvs := by delta Hw.wr2 Hw.wri Hw.setWord; rfl
@[simp] theorem wr2_lamps (p : Nat) (lo hi : Field) (i v : Nat) : (h.wr2 p lo hi i v).lamps = h.lamps := by delta Hw.wr2 Hw.wri Hw.setWord; rfl
@[simp] theorem wr2_tins (p : Nat) (lo hi : Field) (i v : Nat) : (h.wr2 p lo hi i v).tins = h.tins := by delta Hw.wr2 Hw.wri Hw.setWord; rfl
@[simp] theorem wr2_mains (p : Nat) (lo hi : Field) (i v : Nat) : (h.wr2 p lo hi i v).mains = h.mains := by delta Hw.wr2 Hw.wri Hw.setWord; rfl
@[simp] theorem wr2_thermal (p : Nat) (lo hi : Field) (i v : Nat) : (h.wr2 p lo hi i v).thermal = h.thermal := by delta Hw.wr2 Hw.wri Hw.setWord; rfl
@[simp] theorem wr2_trunks (p : Nat) (lo hi : Field) (i v : Nat) : (h.wr2 p lo hi i v).trunks = h.trunks := by delta Hw.wr2 Hw.wri Hw.setWord; rfl
@[simp] theorem wr2_sheets (p : Nat) (lo hi : Field) (i v : Nat) : (h.wr2 p lo hi i v).sheets = h.sheets := by delta Hw.wr2 Hw.wri Hw.setWord; rfl
@[simp] theorem wr2_beltHist (p : Nat) (lo hi : Field) (i v : Nat) : (h.wr2 p lo hi i v).beltHist = h.beltHist := by delta Hw.wr2 Hw.wri Hw.setWord; rfl
@[simp] theorem wr2_jamAt (p : Nat) (lo hi : Field) (i v : Nat) : (h.wr2 p lo hi i v).jamAt = h.jamAt := by delta Hw.wr2 Hw.wri Hw.setWord; rfl
@[simp] theorem wr2_jamEdges (p : Nat) (lo hi : Field) (i v : Nat) : (h.wr2 p lo hi i v).jamEdges = h.jamEdges := by delta Hw.wr2 Hw.wri Hw.setWord; rfl
@[simp] theorem wr2_refRamps (p : Nat) (lo hi : Field) (i v : Nat) : (h.wr2 p lo hi i v).refRamps = h.refRamps := by delta Hw.wr2 Hw.wri Hw.setWord; rfl
@[simp] theorem wr2_ledger (p : Nat) (lo hi : Field) (i v : Nat) : (h.wr2 p lo hi i v).ledger = h.ledger := by delta Hw.wr2 Hw.wri Hw.setWord; rfl
@[simp] theorem wr2_raised (p : Nat) (lo hi : Field) (i v : Nat) : (h.wr2 p lo hi i v).raised = h.raised := by delta Hw.wr2 Hw.wri Hw.setWord; rfl
@[simp] theorem wr2_raisedAt (p : Nat) (lo hi : Field) (i v : Nat) : (h.wr2 p lo hi i v).raisedAt = h.raisedAt := by delta Hw.wr2 Hw.wri Hw.setWord; rfl
@[simp] theorem wr2_capAt (p : Nat) (lo hi : Field) (i v : Nat) : (h.wr2 p lo hi i v).capAt = h.capAt := by delta Hw.wr2 Hw.wri Hw.setWord; rfl
@[simp] theorem wr2_sent (p : Nat) (lo hi : Field) (i v : Nat) : (h.wr2 p lo hi i v).sent = h.sent := by delta Hw.wr2 Hw.wri Hw.setWord; rfl
@[simp] theorem wr2_due (p : Nat) (lo hi : Field) (i v : Nat) : (h.wr2 p lo hi i v).due = h.due := by delta Hw.wr2 Hw.wri Hw.setWord; rfl
@[simp] theorem wr2_fanIn (p : Nat) (lo hi : Field) (i v : Nat) : (h.wr2 p lo hi i v).fanIn = h.fanIn := by delta Hw.wr2 Hw.wri Hw.setWord; rfl
@[simp] theorem wr2_fresh (p : Nat) (lo hi : Field) (i v : Nat) : (h.wr2 p lo hi i v).fresh = h.fresh := by delta Hw.wr2 Hw.wri Hw.setWord; rfl

@[simp] theorem incBy_used (p : Nat) (f : Field) (i n : Nat) : (h.incBy p f i n).used = h.used := by delta Hw.incBy Hw.wri Hw.setWord; rfl
@[simp] theorem incBy_frozen (p : Nat) (f : Field) (i n : Nat) : (h.incBy p f i n).frozen = h.frozen := by delta Hw.incBy Hw.wri Hw.setWord; rfl
@[simp] theorem incBy_latches (p : Nat) (f : Field) (i n : Nat) : (h.incBy p f i n).latches = h.latches := by delta Hw.incBy Hw.wri Hw.setWord; rfl
@[simp] theorem incBy_waitCommit (p : Nat) (f : Field) (i n : Nat) : (h.incBy p f i n).waitCommit = h.waitCommit := by delta Hw.incBy Hw.wri Hw.setWord; rfl
@[simp] theorem incBy_commitAt (p : Nat) (f : Field) (i n : Nat) : (h.incBy p f i n).commitAt = h.commitAt := by delta Hw.incBy Hw.wri Hw.setWord; rfl
@[simp] theorem incBy_shadowWas (p : Nat) (f : Field) (i n : Nat) : (h.incBy p f i n).shadowWas = h.shadowWas := by delta Hw.incBy Hw.wri Hw.setWord; rfl
@[simp] theorem incBy_mem (p : Nat) (f : Field) (i n : Nat) : (h.incBy p f i n).mem = h.mem := by delta Hw.incBy Hw.wri Hw.setWord; rfl
@[simp] theorem incBy_w1 (p : Nat) (f : Field) (i n : Nat) : (h.incBy p f i n).w1 = h.w1 := by delta Hw.incBy Hw.wri Hw.setWord; rfl
@[simp] theorem incBy_clk (p : Nat) (f : Field) (i n : Nat) : (h.incBy p f i n).clk = h.clk := by delta Hw.incBy Hw.wri Hw.setWord; rfl
@[simp] theorem incBy_boot (p : Nat) (f : Field) (i n : Nat) : (h.incBy p f i n).boot = h.boot := by delta Hw.incBy Hw.wri Hw.setWord; rfl
@[simp] theorem incBy_pins (p : Nat) (f : Field) (i n : Nat) : (h.incBy p f i n).pins = h.pins := by delta Hw.incBy Hw.wri Hw.setWord; rfl
@[simp] theorem incBy_mram (p : Nat) (f : Field) (i n : Nat) : (h.incBy p f i n).mram = h.mram := by delta Hw.incBy Hw.wri Hw.setWord; rfl
@[simp] theorem incBy_headrace (p : Nat) (f : Field) (i n : Nat) : (h.incBy p f i n).headrace = h.headrace := by delta Hw.incBy Hw.wri Hw.setWord; rfl
@[simp] theorem incBy_codec (p : Nat) (f : Field) (i n : Nat) : (h.incBy p f i n).codec = h.codec := by delta Hw.incBy Hw.wri Hw.setWord; rfl
@[simp] theorem incBy_stations (p : Nat) (f : Field) (i n : Nat) : (h.incBy p f i n).stations = h.stations := by delta Hw.incBy Hw.wri Hw.setWord; rfl
@[simp] theorem incBy_peers (p : Nat) (f : Field) (i n : Nat) : (h.incBy p f i n).peers = h.peers := by delta Hw.incBy Hw.wri Hw.setWord; rfl
@[simp] theorem incBy_chain (p : Nat) (f : Field) (i n : Nat) : (h.incBy p f i n).chain = h.chain := by delta Hw.incBy Hw.wri Hw.setWord; rfl
@[simp] theorem incBy_surf (p : Nat) (f : Field) (i n : Nat) : (h.incBy p f i n).surf = h.surf := by delta Hw.incBy Hw.wri Hw.setWord; rfl
@[simp] theorem incBy_belt (p : Nat) (f : Field) (i n : Nat) : (h.incBy p f i n).belt = h.belt := by delta Hw.incBy Hw.wri Hw.setWord; rfl
@[simp] theorem incBy_tofCalc (p : Nat) (f : Field) (i n : Nat) : (h.incBy p f i n).tofCalc = h.tofCalc := by delta Hw.incBy Hw.wri Hw.setWord; rfl
@[simp] theorem incBy_dma (p : Nat) (f : Field) (i n : Nat) : (h.incBy p f i n).dma = h.dma := by delta Hw.incBy Hw.wri Hw.setWord; rfl
@[simp] theorem incBy_ctxResetAt (p : Nat) (f : Field) (i n : Nat) : (h.incBy p f i n).ctxResetAt = h.ctxResetAt := by delta Hw.incBy Hw.wri Hw.setWord; rfl
@[simp] theorem incBy_vecShown (p : Nat) (f : Field) (i n : Nat) : (h.incBy p f i n).vecShown = h.vecShown := by delta Hw.incBy Hw.wri Hw.setWord; rfl
@[simp] theorem incBy_msixFns (p : Nat) (f : Field) (i n : Nat) : (h.incBy p f i n).msixFns = h.msixFns := by delta Hw.incBy Hw.wri Hw.setWord; rfl
@[simp] theorem incBy_boxes (p : Nat) (f : Field) (i n : Nat) : (h.incBy p f i n).boxes = h.boxes := by delta Hw.incBy Hw.wri Hw.setWord; rfl
@[simp] theorem incBy_jobs (p : Nat) (f : Field) (i n : Nat) : (h.incBy p f i n).jobs = h.jobs := by delta Hw.incBy Hw.wri Hw.setWord; rfl
@[simp] theorem incBy_sluice (p : Nat) (f : Field) (i n : Nat) : (h.incBy p f i n).sluice = h.sluice := by delta Hw.incBy Hw.wri Hw.setWord; rfl
@[simp] theorem incBy_encs (p : Nat) (f : Field) (i n : Nat) : (h.incBy p f i n).encs = h.encs := by delta Hw.incBy Hw.wri Hw.setWord; rfl
@[simp] theorem incBy_divs (p : Nat) (f : Field) (i n : Nat) : (h.incBy p f i n).divs = h.divs := by delta Hw.incBy Hw.wri Hw.setWord; rfl
@[simp] theorem incBy_axes (p : Nat) (f : Field) (i n : Nat) : (h.incBy p f i n).axes = h.axes := by delta Hw.incBy Hw.wri Hw.setWord; rfl
@[simp] theorem incBy_bridges (p : Nat) (f : Field) (i n : Nat) : (h.incBy p f i n).bridges = h.bridges := by delta Hw.incBy Hw.wri Hw.setWord; rfl
@[simp] theorem incBy_banks (p : Nat) (f : Field) (i n : Nat) : (h.incBy p f i n).banks = h.banks := by delta Hw.incBy Hw.wri Hw.setWord; rfl
@[simp] theorem incBy_steppers (p : Nat) (f : Field) (i n : Nat) : (h.incBy p f i n).steppers = h.steppers := by delta Hw.incBy Hw.wri Hw.setWord; rfl
@[simp] theorem incBy_motion (p : Nat) (f : Field) (i n : Nat) : (h.incBy p f i n).motion = h.motion := by delta Hw.incBy Hw.wri Hw.setWord; rfl
@[simp] theorem incBy_govSlots (p : Nat) (f : Field) (i n : Nat) : (h.incBy p f i n).govSlots = h.govSlots := by delta Hw.incBy Hw.wri Hw.setWord; rfl
@[simp] theorem incBy_govUnits (p : Nat) (f : Field) (i n : Nat) : (h.incBy p f i n).govUnits = h.govUnits := by delta Hw.incBy Hw.wri Hw.setWord; rfl
@[simp] theorem incBy_hvs (p : Nat) (f : Field) (i n : Nat) : (h.incBy p f i n).hvs = h.hvs := by delta Hw.incBy Hw.wri Hw.setWord; rfl
@[simp] theorem incBy_lamps (p : Nat) (f : Field) (i n : Nat) : (h.incBy p f i n).lamps = h.lamps := by delta Hw.incBy Hw.wri Hw.setWord; rfl
@[simp] theorem incBy_tins (p : Nat) (f : Field) (i n : Nat) : (h.incBy p f i n).tins = h.tins := by delta Hw.incBy Hw.wri Hw.setWord; rfl
@[simp] theorem incBy_mains (p : Nat) (f : Field) (i n : Nat) : (h.incBy p f i n).mains = h.mains := by delta Hw.incBy Hw.wri Hw.setWord; rfl
@[simp] theorem incBy_thermal (p : Nat) (f : Field) (i n : Nat) : (h.incBy p f i n).thermal = h.thermal := by delta Hw.incBy Hw.wri Hw.setWord; rfl
@[simp] theorem incBy_trunks (p : Nat) (f : Field) (i n : Nat) : (h.incBy p f i n).trunks = h.trunks := by delta Hw.incBy Hw.wri Hw.setWord; rfl
@[simp] theorem incBy_sheets (p : Nat) (f : Field) (i n : Nat) : (h.incBy p f i n).sheets = h.sheets := by delta Hw.incBy Hw.wri Hw.setWord; rfl
@[simp] theorem incBy_beltHist (p : Nat) (f : Field) (i n : Nat) : (h.incBy p f i n).beltHist = h.beltHist := by delta Hw.incBy Hw.wri Hw.setWord; rfl
@[simp] theorem incBy_jamAt (p : Nat) (f : Field) (i n : Nat) : (h.incBy p f i n).jamAt = h.jamAt := by delta Hw.incBy Hw.wri Hw.setWord; rfl
@[simp] theorem incBy_jamEdges (p : Nat) (f : Field) (i n : Nat) : (h.incBy p f i n).jamEdges = h.jamEdges := by delta Hw.incBy Hw.wri Hw.setWord; rfl
@[simp] theorem incBy_refRamps (p : Nat) (f : Field) (i n : Nat) : (h.incBy p f i n).refRamps = h.refRamps := by delta Hw.incBy Hw.wri Hw.setWord; rfl
@[simp] theorem incBy_ledger (p : Nat) (f : Field) (i n : Nat) : (h.incBy p f i n).ledger = h.ledger := by delta Hw.incBy Hw.wri Hw.setWord; rfl
@[simp] theorem incBy_raised (p : Nat) (f : Field) (i n : Nat) : (h.incBy p f i n).raised = h.raised := by delta Hw.incBy Hw.wri Hw.setWord; rfl
@[simp] theorem incBy_raisedAt (p : Nat) (f : Field) (i n : Nat) : (h.incBy p f i n).raisedAt = h.raisedAt := by delta Hw.incBy Hw.wri Hw.setWord; rfl
@[simp] theorem incBy_capAt (p : Nat) (f : Field) (i n : Nat) : (h.incBy p f i n).capAt = h.capAt := by delta Hw.incBy Hw.wri Hw.setWord; rfl
@[simp] theorem incBy_sent (p : Nat) (f : Field) (i n : Nat) : (h.incBy p f i n).sent = h.sent := by delta Hw.incBy Hw.wri Hw.setWord; rfl
@[simp] theorem incBy_due (p : Nat) (f : Field) (i n : Nat) : (h.incBy p f i n).due = h.due := by delta Hw.incBy Hw.wri Hw.setWord; rfl
@[simp] theorem incBy_fanIn (p : Nat) (f : Field) (i n : Nat) : (h.incBy p f i n).fanIn = h.fanIn := by delta Hw.incBy Hw.wri Hw.setWord; rfl
@[simp] theorem incBy_fresh (p : Nat) (f : Field) (i n : Nat) : (h.incBy p f i n).fresh = h.fresh := by delta Hw.incBy Hw.wri Hw.setWord; rfl

@[simp] theorem inc_used (p : Nat) (f : Field) : (h.inc p f).used = h.used := by delta Hw.inc Hw.incBy Hw.wri Hw.setWord; rfl
@[simp] theorem inc_frozen (p : Nat) (f : Field) : (h.inc p f).frozen = h.frozen := by delta Hw.inc Hw.incBy Hw.wri Hw.setWord; rfl
@[simp] theorem inc_latches (p : Nat) (f : Field) : (h.inc p f).latches = h.latches := by delta Hw.inc Hw.incBy Hw.wri Hw.setWord; rfl
@[simp] theorem inc_waitCommit (p : Nat) (f : Field) : (h.inc p f).waitCommit = h.waitCommit := by delta Hw.inc Hw.incBy Hw.wri Hw.setWord; rfl
@[simp] theorem inc_commitAt (p : Nat) (f : Field) : (h.inc p f).commitAt = h.commitAt := by delta Hw.inc Hw.incBy Hw.wri Hw.setWord; rfl
@[simp] theorem inc_shadowWas (p : Nat) (f : Field) : (h.inc p f).shadowWas = h.shadowWas := by delta Hw.inc Hw.incBy Hw.wri Hw.setWord; rfl
@[simp] theorem inc_mem (p : Nat) (f : Field) : (h.inc p f).mem = h.mem := by delta Hw.inc Hw.incBy Hw.wri Hw.setWord; rfl
@[simp] theorem inc_w1 (p : Nat) (f : Field) : (h.inc p f).w1 = h.w1 := by delta Hw.inc Hw.incBy Hw.wri Hw.setWord; rfl
@[simp] theorem inc_clk (p : Nat) (f : Field) : (h.inc p f).clk = h.clk := by delta Hw.inc Hw.incBy Hw.wri Hw.setWord; rfl
@[simp] theorem inc_boot (p : Nat) (f : Field) : (h.inc p f).boot = h.boot := by delta Hw.inc Hw.incBy Hw.wri Hw.setWord; rfl
@[simp] theorem inc_pins (p : Nat) (f : Field) : (h.inc p f).pins = h.pins := by delta Hw.inc Hw.incBy Hw.wri Hw.setWord; rfl
@[simp] theorem inc_mram (p : Nat) (f : Field) : (h.inc p f).mram = h.mram := by delta Hw.inc Hw.incBy Hw.wri Hw.setWord; rfl
@[simp] theorem inc_headrace (p : Nat) (f : Field) : (h.inc p f).headrace = h.headrace := by delta Hw.inc Hw.incBy Hw.wri Hw.setWord; rfl
@[simp] theorem inc_codec (p : Nat) (f : Field) : (h.inc p f).codec = h.codec := by delta Hw.inc Hw.incBy Hw.wri Hw.setWord; rfl
@[simp] theorem inc_stations (p : Nat) (f : Field) : (h.inc p f).stations = h.stations := by delta Hw.inc Hw.incBy Hw.wri Hw.setWord; rfl
@[simp] theorem inc_peers (p : Nat) (f : Field) : (h.inc p f).peers = h.peers := by delta Hw.inc Hw.incBy Hw.wri Hw.setWord; rfl
@[simp] theorem inc_chain (p : Nat) (f : Field) : (h.inc p f).chain = h.chain := by delta Hw.inc Hw.incBy Hw.wri Hw.setWord; rfl
@[simp] theorem inc_surf (p : Nat) (f : Field) : (h.inc p f).surf = h.surf := by delta Hw.inc Hw.incBy Hw.wri Hw.setWord; rfl
@[simp] theorem inc_belt (p : Nat) (f : Field) : (h.inc p f).belt = h.belt := by delta Hw.inc Hw.incBy Hw.wri Hw.setWord; rfl
@[simp] theorem inc_tofCalc (p : Nat) (f : Field) : (h.inc p f).tofCalc = h.tofCalc := by delta Hw.inc Hw.incBy Hw.wri Hw.setWord; rfl
@[simp] theorem inc_dma (p : Nat) (f : Field) : (h.inc p f).dma = h.dma := by delta Hw.inc Hw.incBy Hw.wri Hw.setWord; rfl
@[simp] theorem inc_ctxResetAt (p : Nat) (f : Field) : (h.inc p f).ctxResetAt = h.ctxResetAt := by delta Hw.inc Hw.incBy Hw.wri Hw.setWord; rfl
@[simp] theorem inc_vecShown (p : Nat) (f : Field) : (h.inc p f).vecShown = h.vecShown := by delta Hw.inc Hw.incBy Hw.wri Hw.setWord; rfl
@[simp] theorem inc_msixFns (p : Nat) (f : Field) : (h.inc p f).msixFns = h.msixFns := by delta Hw.inc Hw.incBy Hw.wri Hw.setWord; rfl
@[simp] theorem inc_boxes (p : Nat) (f : Field) : (h.inc p f).boxes = h.boxes := by delta Hw.inc Hw.incBy Hw.wri Hw.setWord; rfl
@[simp] theorem inc_jobs (p : Nat) (f : Field) : (h.inc p f).jobs = h.jobs := by delta Hw.inc Hw.incBy Hw.wri Hw.setWord; rfl
@[simp] theorem inc_sluice (p : Nat) (f : Field) : (h.inc p f).sluice = h.sluice := by delta Hw.inc Hw.incBy Hw.wri Hw.setWord; rfl
@[simp] theorem inc_encs (p : Nat) (f : Field) : (h.inc p f).encs = h.encs := by delta Hw.inc Hw.incBy Hw.wri Hw.setWord; rfl
@[simp] theorem inc_divs (p : Nat) (f : Field) : (h.inc p f).divs = h.divs := by delta Hw.inc Hw.incBy Hw.wri Hw.setWord; rfl
@[simp] theorem inc_axes (p : Nat) (f : Field) : (h.inc p f).axes = h.axes := by delta Hw.inc Hw.incBy Hw.wri Hw.setWord; rfl
@[simp] theorem inc_bridges (p : Nat) (f : Field) : (h.inc p f).bridges = h.bridges := by delta Hw.inc Hw.incBy Hw.wri Hw.setWord; rfl
@[simp] theorem inc_banks (p : Nat) (f : Field) : (h.inc p f).banks = h.banks := by delta Hw.inc Hw.incBy Hw.wri Hw.setWord; rfl
@[simp] theorem inc_steppers (p : Nat) (f : Field) : (h.inc p f).steppers = h.steppers := by delta Hw.inc Hw.incBy Hw.wri Hw.setWord; rfl
@[simp] theorem inc_motion (p : Nat) (f : Field) : (h.inc p f).motion = h.motion := by delta Hw.inc Hw.incBy Hw.wri Hw.setWord; rfl
@[simp] theorem inc_govSlots (p : Nat) (f : Field) : (h.inc p f).govSlots = h.govSlots := by delta Hw.inc Hw.incBy Hw.wri Hw.setWord; rfl
@[simp] theorem inc_govUnits (p : Nat) (f : Field) : (h.inc p f).govUnits = h.govUnits := by delta Hw.inc Hw.incBy Hw.wri Hw.setWord; rfl
@[simp] theorem inc_hvs (p : Nat) (f : Field) : (h.inc p f).hvs = h.hvs := by delta Hw.inc Hw.incBy Hw.wri Hw.setWord; rfl
@[simp] theorem inc_lamps (p : Nat) (f : Field) : (h.inc p f).lamps = h.lamps := by delta Hw.inc Hw.incBy Hw.wri Hw.setWord; rfl
@[simp] theorem inc_tins (p : Nat) (f : Field) : (h.inc p f).tins = h.tins := by delta Hw.inc Hw.incBy Hw.wri Hw.setWord; rfl
@[simp] theorem inc_mains (p : Nat) (f : Field) : (h.inc p f).mains = h.mains := by delta Hw.inc Hw.incBy Hw.wri Hw.setWord; rfl
@[simp] theorem inc_thermal (p : Nat) (f : Field) : (h.inc p f).thermal = h.thermal := by delta Hw.inc Hw.incBy Hw.wri Hw.setWord; rfl
@[simp] theorem inc_trunks (p : Nat) (f : Field) : (h.inc p f).trunks = h.trunks := by delta Hw.inc Hw.incBy Hw.wri Hw.setWord; rfl
@[simp] theorem inc_sheets (p : Nat) (f : Field) : (h.inc p f).sheets = h.sheets := by delta Hw.inc Hw.incBy Hw.wri Hw.setWord; rfl
@[simp] theorem inc_beltHist (p : Nat) (f : Field) : (h.inc p f).beltHist = h.beltHist := by delta Hw.inc Hw.incBy Hw.wri Hw.setWord; rfl
@[simp] theorem inc_jamAt (p : Nat) (f : Field) : (h.inc p f).jamAt = h.jamAt := by delta Hw.inc Hw.incBy Hw.wri Hw.setWord; rfl
@[simp] theorem inc_jamEdges (p : Nat) (f : Field) : (h.inc p f).jamEdges = h.jamEdges := by delta Hw.inc Hw.incBy Hw.wri Hw.setWord; rfl
@[simp] theorem inc_refRamps (p : Nat) (f : Field) : (h.inc p f).refRamps = h.refRamps := by delta Hw.inc Hw.incBy Hw.wri Hw.setWord; rfl
@[simp] theorem inc_ledger (p : Nat) (f : Field) : (h.inc p f).ledger = h.ledger := by delta Hw.inc Hw.incBy Hw.wri Hw.setWord; rfl
@[simp] theorem inc_raised (p : Nat) (f : Field) : (h.inc p f).raised = h.raised := by delta Hw.inc Hw.incBy Hw.wri Hw.setWord; rfl
@[simp] theorem inc_raisedAt (p : Nat) (f : Field) : (h.inc p f).raisedAt = h.raisedAt := by delta Hw.inc Hw.incBy Hw.wri Hw.setWord; rfl
@[simp] theorem inc_capAt (p : Nat) (f : Field) : (h.inc p f).capAt = h.capAt := by delta Hw.inc Hw.incBy Hw.wri Hw.setWord; rfl
@[simp] theorem inc_sent (p : Nat) (f : Field) : (h.inc p f).sent = h.sent := by delta Hw.inc Hw.incBy Hw.wri Hw.setWord; rfl
@[simp] theorem inc_due (p : Nat) (f : Field) : (h.inc p f).due = h.due := by delta Hw.inc Hw.incBy Hw.wri Hw.setWord; rfl
@[simp] theorem inc_fanIn (p : Nat) (f : Field) : (h.inc p f).fanIn = h.fanIn := by delta Hw.inc Hw.incBy Hw.wri Hw.setWord; rfl
@[simp] theorem inc_fresh (p : Nat) (f : Field) : (h.inc p f).fresh = h.fresh := by delta Hw.inc Hw.incBy Hw.wri Hw.setWord; rfl

@[simp] theorem inci_used (p : Nat) (f : Field) (i : Nat) : (h.inci p f i).used = h.used := by delta Hw.inci Hw.incBy Hw.wri Hw.setWord; rfl
@[simp] theorem inci_frozen (p : Nat) (f : Field) (i : Nat) : (h.inci p f i).frozen = h.frozen := by delta Hw.inci Hw.incBy Hw.wri Hw.setWord; rfl
@[simp] theorem inci_latches (p : Nat) (f : Field) (i : Nat) : (h.inci p f i).latches = h.latches := by delta Hw.inci Hw.incBy Hw.wri Hw.setWord; rfl
@[simp] theorem inci_waitCommit (p : Nat) (f : Field) (i : Nat) : (h.inci p f i).waitCommit = h.waitCommit := by delta Hw.inci Hw.incBy Hw.wri Hw.setWord; rfl
@[simp] theorem inci_commitAt (p : Nat) (f : Field) (i : Nat) : (h.inci p f i).commitAt = h.commitAt := by delta Hw.inci Hw.incBy Hw.wri Hw.setWord; rfl
@[simp] theorem inci_shadowWas (p : Nat) (f : Field) (i : Nat) : (h.inci p f i).shadowWas = h.shadowWas := by delta Hw.inci Hw.incBy Hw.wri Hw.setWord; rfl
@[simp] theorem inci_mem (p : Nat) (f : Field) (i : Nat) : (h.inci p f i).mem = h.mem := by delta Hw.inci Hw.incBy Hw.wri Hw.setWord; rfl
@[simp] theorem inci_w1 (p : Nat) (f : Field) (i : Nat) : (h.inci p f i).w1 = h.w1 := by delta Hw.inci Hw.incBy Hw.wri Hw.setWord; rfl
@[simp] theorem inci_clk (p : Nat) (f : Field) (i : Nat) : (h.inci p f i).clk = h.clk := by delta Hw.inci Hw.incBy Hw.wri Hw.setWord; rfl
@[simp] theorem inci_boot (p : Nat) (f : Field) (i : Nat) : (h.inci p f i).boot = h.boot := by delta Hw.inci Hw.incBy Hw.wri Hw.setWord; rfl
@[simp] theorem inci_pins (p : Nat) (f : Field) (i : Nat) : (h.inci p f i).pins = h.pins := by delta Hw.inci Hw.incBy Hw.wri Hw.setWord; rfl
@[simp] theorem inci_mram (p : Nat) (f : Field) (i : Nat) : (h.inci p f i).mram = h.mram := by delta Hw.inci Hw.incBy Hw.wri Hw.setWord; rfl
@[simp] theorem inci_headrace (p : Nat) (f : Field) (i : Nat) : (h.inci p f i).headrace = h.headrace := by delta Hw.inci Hw.incBy Hw.wri Hw.setWord; rfl
@[simp] theorem inci_codec (p : Nat) (f : Field) (i : Nat) : (h.inci p f i).codec = h.codec := by delta Hw.inci Hw.incBy Hw.wri Hw.setWord; rfl
@[simp] theorem inci_stations (p : Nat) (f : Field) (i : Nat) : (h.inci p f i).stations = h.stations := by delta Hw.inci Hw.incBy Hw.wri Hw.setWord; rfl
@[simp] theorem inci_peers (p : Nat) (f : Field) (i : Nat) : (h.inci p f i).peers = h.peers := by delta Hw.inci Hw.incBy Hw.wri Hw.setWord; rfl
@[simp] theorem inci_chain (p : Nat) (f : Field) (i : Nat) : (h.inci p f i).chain = h.chain := by delta Hw.inci Hw.incBy Hw.wri Hw.setWord; rfl
@[simp] theorem inci_surf (p : Nat) (f : Field) (i : Nat) : (h.inci p f i).surf = h.surf := by delta Hw.inci Hw.incBy Hw.wri Hw.setWord; rfl
@[simp] theorem inci_belt (p : Nat) (f : Field) (i : Nat) : (h.inci p f i).belt = h.belt := by delta Hw.inci Hw.incBy Hw.wri Hw.setWord; rfl
@[simp] theorem inci_tofCalc (p : Nat) (f : Field) (i : Nat) : (h.inci p f i).tofCalc = h.tofCalc := by delta Hw.inci Hw.incBy Hw.wri Hw.setWord; rfl
@[simp] theorem inci_dma (p : Nat) (f : Field) (i : Nat) : (h.inci p f i).dma = h.dma := by delta Hw.inci Hw.incBy Hw.wri Hw.setWord; rfl
@[simp] theorem inci_ctxResetAt (p : Nat) (f : Field) (i : Nat) : (h.inci p f i).ctxResetAt = h.ctxResetAt := by delta Hw.inci Hw.incBy Hw.wri Hw.setWord; rfl
@[simp] theorem inci_vecShown (p : Nat) (f : Field) (i : Nat) : (h.inci p f i).vecShown = h.vecShown := by delta Hw.inci Hw.incBy Hw.wri Hw.setWord; rfl
@[simp] theorem inci_msixFns (p : Nat) (f : Field) (i : Nat) : (h.inci p f i).msixFns = h.msixFns := by delta Hw.inci Hw.incBy Hw.wri Hw.setWord; rfl
@[simp] theorem inci_boxes (p : Nat) (f : Field) (i : Nat) : (h.inci p f i).boxes = h.boxes := by delta Hw.inci Hw.incBy Hw.wri Hw.setWord; rfl
@[simp] theorem inci_jobs (p : Nat) (f : Field) (i : Nat) : (h.inci p f i).jobs = h.jobs := by delta Hw.inci Hw.incBy Hw.wri Hw.setWord; rfl
@[simp] theorem inci_sluice (p : Nat) (f : Field) (i : Nat) : (h.inci p f i).sluice = h.sluice := by delta Hw.inci Hw.incBy Hw.wri Hw.setWord; rfl
@[simp] theorem inci_encs (p : Nat) (f : Field) (i : Nat) : (h.inci p f i).encs = h.encs := by delta Hw.inci Hw.incBy Hw.wri Hw.setWord; rfl
@[simp] theorem inci_divs (p : Nat) (f : Field) (i : Nat) : (h.inci p f i).divs = h.divs := by delta Hw.inci Hw.incBy Hw.wri Hw.setWord; rfl
@[simp] theorem inci_axes (p : Nat) (f : Field) (i : Nat) : (h.inci p f i).axes = h.axes := by delta Hw.inci Hw.incBy Hw.wri Hw.setWord; rfl
@[simp] theorem inci_bridges (p : Nat) (f : Field) (i : Nat) : (h.inci p f i).bridges = h.bridges := by delta Hw.inci Hw.incBy Hw.wri Hw.setWord; rfl
@[simp] theorem inci_banks (p : Nat) (f : Field) (i : Nat) : (h.inci p f i).banks = h.banks := by delta Hw.inci Hw.incBy Hw.wri Hw.setWord; rfl
@[simp] theorem inci_steppers (p : Nat) (f : Field) (i : Nat) : (h.inci p f i).steppers = h.steppers := by delta Hw.inci Hw.incBy Hw.wri Hw.setWord; rfl
@[simp] theorem inci_motion (p : Nat) (f : Field) (i : Nat) : (h.inci p f i).motion = h.motion := by delta Hw.inci Hw.incBy Hw.wri Hw.setWord; rfl
@[simp] theorem inci_govSlots (p : Nat) (f : Field) (i : Nat) : (h.inci p f i).govSlots = h.govSlots := by delta Hw.inci Hw.incBy Hw.wri Hw.setWord; rfl
@[simp] theorem inci_govUnits (p : Nat) (f : Field) (i : Nat) : (h.inci p f i).govUnits = h.govUnits := by delta Hw.inci Hw.incBy Hw.wri Hw.setWord; rfl
@[simp] theorem inci_hvs (p : Nat) (f : Field) (i : Nat) : (h.inci p f i).hvs = h.hvs := by delta Hw.inci Hw.incBy Hw.wri Hw.setWord; rfl
@[simp] theorem inci_lamps (p : Nat) (f : Field) (i : Nat) : (h.inci p f i).lamps = h.lamps := by delta Hw.inci Hw.incBy Hw.wri Hw.setWord; rfl
@[simp] theorem inci_tins (p : Nat) (f : Field) (i : Nat) : (h.inci p f i).tins = h.tins := by delta Hw.inci Hw.incBy Hw.wri Hw.setWord; rfl
@[simp] theorem inci_mains (p : Nat) (f : Field) (i : Nat) : (h.inci p f i).mains = h.mains := by delta Hw.inci Hw.incBy Hw.wri Hw.setWord; rfl
@[simp] theorem inci_thermal (p : Nat) (f : Field) (i : Nat) : (h.inci p f i).thermal = h.thermal := by delta Hw.inci Hw.incBy Hw.wri Hw.setWord; rfl
@[simp] theorem inci_trunks (p : Nat) (f : Field) (i : Nat) : (h.inci p f i).trunks = h.trunks := by delta Hw.inci Hw.incBy Hw.wri Hw.setWord; rfl
@[simp] theorem inci_sheets (p : Nat) (f : Field) (i : Nat) : (h.inci p f i).sheets = h.sheets := by delta Hw.inci Hw.incBy Hw.wri Hw.setWord; rfl
@[simp] theorem inci_beltHist (p : Nat) (f : Field) (i : Nat) : (h.inci p f i).beltHist = h.beltHist := by delta Hw.inci Hw.incBy Hw.wri Hw.setWord; rfl
@[simp] theorem inci_jamAt (p : Nat) (f : Field) (i : Nat) : (h.inci p f i).jamAt = h.jamAt := by delta Hw.inci Hw.incBy Hw.wri Hw.setWord; rfl
@[simp] theorem inci_jamEdges (p : Nat) (f : Field) (i : Nat) : (h.inci p f i).jamEdges = h.jamEdges := by delta Hw.inci Hw.incBy Hw.wri Hw.setWord; rfl
@[simp] theorem inci_refRamps (p : Nat) (f : Field) (i : Nat) : (h.inci p f i).refRamps = h.refRamps := by delta Hw.inci Hw.incBy Hw.wri Hw.setWord; rfl
@[simp] theorem inci_ledger (p : Nat) (f : Field) (i : Nat) : (h.inci p f i).ledger = h.ledger := by delta Hw.inci Hw.incBy Hw.wri Hw.setWord; rfl
@[simp] theorem inci_raised (p : Nat) (f : Field) (i : Nat) : (h.inci p f i).raised = h.raised := by delta Hw.inci Hw.incBy Hw.wri Hw.setWord; rfl
@[simp] theorem inci_raisedAt (p : Nat) (f : Field) (i : Nat) : (h.inci p f i).raisedAt = h.raisedAt := by delta Hw.inci Hw.incBy Hw.wri Hw.setWord; rfl
@[simp] theorem inci_capAt (p : Nat) (f : Field) (i : Nat) : (h.inci p f i).capAt = h.capAt := by delta Hw.inci Hw.incBy Hw.wri Hw.setWord; rfl
@[simp] theorem inci_sent (p : Nat) (f : Field) (i : Nat) : (h.inci p f i).sent = h.sent := by delta Hw.inci Hw.incBy Hw.wri Hw.setWord; rfl
@[simp] theorem inci_due (p : Nat) (f : Field) (i : Nat) : (h.inci p f i).due = h.due := by delta Hw.inci Hw.incBy Hw.wri Hw.setWord; rfl
@[simp] theorem inci_fanIn (p : Nat) (f : Field) (i : Nat) : (h.inci p f i).fanIn = h.fanIn := by delta Hw.inci Hw.incBy Hw.wri Hw.setWord; rfl
@[simp] theorem inci_fresh (p : Nat) (f : Field) (i : Nat) : (h.inci p f i).fresh = h.fresh := by delta Hw.inci Hw.incBy Hw.wri Hw.setWord; rfl

@[simp] theorem setBit_used (p : Nat) (f : Field) (b : Nat) (v : Bool) : (h.setBit p f b v).used = h.used := by delta Hw.setBit Hw.wr Hw.wri Hw.setWord; rfl
@[simp] theorem setBit_frozen (p : Nat) (f : Field) (b : Nat) (v : Bool) : (h.setBit p f b v).frozen = h.frozen := by delta Hw.setBit Hw.wr Hw.wri Hw.setWord; rfl
@[simp] theorem setBit_latches (p : Nat) (f : Field) (b : Nat) (v : Bool) : (h.setBit p f b v).latches = h.latches := by delta Hw.setBit Hw.wr Hw.wri Hw.setWord; rfl
@[simp] theorem setBit_waitCommit (p : Nat) (f : Field) (b : Nat) (v : Bool) : (h.setBit p f b v).waitCommit = h.waitCommit := by delta Hw.setBit Hw.wr Hw.wri Hw.setWord; rfl
@[simp] theorem setBit_commitAt (p : Nat) (f : Field) (b : Nat) (v : Bool) : (h.setBit p f b v).commitAt = h.commitAt := by delta Hw.setBit Hw.wr Hw.wri Hw.setWord; rfl
@[simp] theorem setBit_shadowWas (p : Nat) (f : Field) (b : Nat) (v : Bool) : (h.setBit p f b v).shadowWas = h.shadowWas := by delta Hw.setBit Hw.wr Hw.wri Hw.setWord; rfl
@[simp] theorem setBit_mem (p : Nat) (f : Field) (b : Nat) (v : Bool) : (h.setBit p f b v).mem = h.mem := by delta Hw.setBit Hw.wr Hw.wri Hw.setWord; rfl
@[simp] theorem setBit_w1 (p : Nat) (f : Field) (b : Nat) (v : Bool) : (h.setBit p f b v).w1 = h.w1 := by delta Hw.setBit Hw.wr Hw.wri Hw.setWord; rfl
@[simp] theorem setBit_clk (p : Nat) (f : Field) (b : Nat) (v : Bool) : (h.setBit p f b v).clk = h.clk := by delta Hw.setBit Hw.wr Hw.wri Hw.setWord; rfl
@[simp] theorem setBit_boot (p : Nat) (f : Field) (b : Nat) (v : Bool) : (h.setBit p f b v).boot = h.boot := by delta Hw.setBit Hw.wr Hw.wri Hw.setWord; rfl
@[simp] theorem setBit_pins (p : Nat) (f : Field) (b : Nat) (v : Bool) : (h.setBit p f b v).pins = h.pins := by delta Hw.setBit Hw.wr Hw.wri Hw.setWord; rfl
@[simp] theorem setBit_mram (p : Nat) (f : Field) (b : Nat) (v : Bool) : (h.setBit p f b v).mram = h.mram := by delta Hw.setBit Hw.wr Hw.wri Hw.setWord; rfl
@[simp] theorem setBit_headrace (p : Nat) (f : Field) (b : Nat) (v : Bool) : (h.setBit p f b v).headrace = h.headrace := by delta Hw.setBit Hw.wr Hw.wri Hw.setWord; rfl
@[simp] theorem setBit_codec (p : Nat) (f : Field) (b : Nat) (v : Bool) : (h.setBit p f b v).codec = h.codec := by delta Hw.setBit Hw.wr Hw.wri Hw.setWord; rfl
@[simp] theorem setBit_stations (p : Nat) (f : Field) (b : Nat) (v : Bool) : (h.setBit p f b v).stations = h.stations := by delta Hw.setBit Hw.wr Hw.wri Hw.setWord; rfl
@[simp] theorem setBit_peers (p : Nat) (f : Field) (b : Nat) (v : Bool) : (h.setBit p f b v).peers = h.peers := by delta Hw.setBit Hw.wr Hw.wri Hw.setWord; rfl
@[simp] theorem setBit_chain (p : Nat) (f : Field) (b : Nat) (v : Bool) : (h.setBit p f b v).chain = h.chain := by delta Hw.setBit Hw.wr Hw.wri Hw.setWord; rfl
@[simp] theorem setBit_surf (p : Nat) (f : Field) (b : Nat) (v : Bool) : (h.setBit p f b v).surf = h.surf := by delta Hw.setBit Hw.wr Hw.wri Hw.setWord; rfl
@[simp] theorem setBit_belt (p : Nat) (f : Field) (b : Nat) (v : Bool) : (h.setBit p f b v).belt = h.belt := by delta Hw.setBit Hw.wr Hw.wri Hw.setWord; rfl
@[simp] theorem setBit_tofCalc (p : Nat) (f : Field) (b : Nat) (v : Bool) : (h.setBit p f b v).tofCalc = h.tofCalc := by delta Hw.setBit Hw.wr Hw.wri Hw.setWord; rfl
@[simp] theorem setBit_dma (p : Nat) (f : Field) (b : Nat) (v : Bool) : (h.setBit p f b v).dma = h.dma := by delta Hw.setBit Hw.wr Hw.wri Hw.setWord; rfl
@[simp] theorem setBit_ctxResetAt (p : Nat) (f : Field) (b : Nat) (v : Bool) : (h.setBit p f b v).ctxResetAt = h.ctxResetAt := by delta Hw.setBit Hw.wr Hw.wri Hw.setWord; rfl
@[simp] theorem setBit_vecShown (p : Nat) (f : Field) (b : Nat) (v : Bool) : (h.setBit p f b v).vecShown = h.vecShown := by delta Hw.setBit Hw.wr Hw.wri Hw.setWord; rfl
@[simp] theorem setBit_msixFns (p : Nat) (f : Field) (b : Nat) (v : Bool) : (h.setBit p f b v).msixFns = h.msixFns := by delta Hw.setBit Hw.wr Hw.wri Hw.setWord; rfl
@[simp] theorem setBit_boxes (p : Nat) (f : Field) (b : Nat) (v : Bool) : (h.setBit p f b v).boxes = h.boxes := by delta Hw.setBit Hw.wr Hw.wri Hw.setWord; rfl
@[simp] theorem setBit_jobs (p : Nat) (f : Field) (b : Nat) (v : Bool) : (h.setBit p f b v).jobs = h.jobs := by delta Hw.setBit Hw.wr Hw.wri Hw.setWord; rfl
@[simp] theorem setBit_sluice (p : Nat) (f : Field) (b : Nat) (v : Bool) : (h.setBit p f b v).sluice = h.sluice := by delta Hw.setBit Hw.wr Hw.wri Hw.setWord; rfl
@[simp] theorem setBit_encs (p : Nat) (f : Field) (b : Nat) (v : Bool) : (h.setBit p f b v).encs = h.encs := by delta Hw.setBit Hw.wr Hw.wri Hw.setWord; rfl
@[simp] theorem setBit_divs (p : Nat) (f : Field) (b : Nat) (v : Bool) : (h.setBit p f b v).divs = h.divs := by delta Hw.setBit Hw.wr Hw.wri Hw.setWord; rfl
@[simp] theorem setBit_axes (p : Nat) (f : Field) (b : Nat) (v : Bool) : (h.setBit p f b v).axes = h.axes := by delta Hw.setBit Hw.wr Hw.wri Hw.setWord; rfl
@[simp] theorem setBit_bridges (p : Nat) (f : Field) (b : Nat) (v : Bool) : (h.setBit p f b v).bridges = h.bridges := by delta Hw.setBit Hw.wr Hw.wri Hw.setWord; rfl
@[simp] theorem setBit_banks (p : Nat) (f : Field) (b : Nat) (v : Bool) : (h.setBit p f b v).banks = h.banks := by delta Hw.setBit Hw.wr Hw.wri Hw.setWord; rfl
@[simp] theorem setBit_steppers (p : Nat) (f : Field) (b : Nat) (v : Bool) : (h.setBit p f b v).steppers = h.steppers := by delta Hw.setBit Hw.wr Hw.wri Hw.setWord; rfl
@[simp] theorem setBit_motion (p : Nat) (f : Field) (b : Nat) (v : Bool) : (h.setBit p f b v).motion = h.motion := by delta Hw.setBit Hw.wr Hw.wri Hw.setWord; rfl
@[simp] theorem setBit_govSlots (p : Nat) (f : Field) (b : Nat) (v : Bool) : (h.setBit p f b v).govSlots = h.govSlots := by delta Hw.setBit Hw.wr Hw.wri Hw.setWord; rfl
@[simp] theorem setBit_govUnits (p : Nat) (f : Field) (b : Nat) (v : Bool) : (h.setBit p f b v).govUnits = h.govUnits := by delta Hw.setBit Hw.wr Hw.wri Hw.setWord; rfl
@[simp] theorem setBit_hvs (p : Nat) (f : Field) (b : Nat) (v : Bool) : (h.setBit p f b v).hvs = h.hvs := by delta Hw.setBit Hw.wr Hw.wri Hw.setWord; rfl
@[simp] theorem setBit_lamps (p : Nat) (f : Field) (b : Nat) (v : Bool) : (h.setBit p f b v).lamps = h.lamps := by delta Hw.setBit Hw.wr Hw.wri Hw.setWord; rfl
@[simp] theorem setBit_tins (p : Nat) (f : Field) (b : Nat) (v : Bool) : (h.setBit p f b v).tins = h.tins := by delta Hw.setBit Hw.wr Hw.wri Hw.setWord; rfl
@[simp] theorem setBit_mains (p : Nat) (f : Field) (b : Nat) (v : Bool) : (h.setBit p f b v).mains = h.mains := by delta Hw.setBit Hw.wr Hw.wri Hw.setWord; rfl
@[simp] theorem setBit_thermal (p : Nat) (f : Field) (b : Nat) (v : Bool) : (h.setBit p f b v).thermal = h.thermal := by delta Hw.setBit Hw.wr Hw.wri Hw.setWord; rfl
@[simp] theorem setBit_trunks (p : Nat) (f : Field) (b : Nat) (v : Bool) : (h.setBit p f b v).trunks = h.trunks := by delta Hw.setBit Hw.wr Hw.wri Hw.setWord; rfl
@[simp] theorem setBit_sheets (p : Nat) (f : Field) (b : Nat) (v : Bool) : (h.setBit p f b v).sheets = h.sheets := by delta Hw.setBit Hw.wr Hw.wri Hw.setWord; rfl
@[simp] theorem setBit_beltHist (p : Nat) (f : Field) (b : Nat) (v : Bool) : (h.setBit p f b v).beltHist = h.beltHist := by delta Hw.setBit Hw.wr Hw.wri Hw.setWord; rfl
@[simp] theorem setBit_jamAt (p : Nat) (f : Field) (b : Nat) (v : Bool) : (h.setBit p f b v).jamAt = h.jamAt := by delta Hw.setBit Hw.wr Hw.wri Hw.setWord; rfl
@[simp] theorem setBit_jamEdges (p : Nat) (f : Field) (b : Nat) (v : Bool) : (h.setBit p f b v).jamEdges = h.jamEdges := by delta Hw.setBit Hw.wr Hw.wri Hw.setWord; rfl
@[simp] theorem setBit_refRamps (p : Nat) (f : Field) (b : Nat) (v : Bool) : (h.setBit p f b v).refRamps = h.refRamps := by delta Hw.setBit Hw.wr Hw.wri Hw.setWord; rfl
@[simp] theorem setBit_ledger (p : Nat) (f : Field) (b : Nat) (v : Bool) : (h.setBit p f b v).ledger = h.ledger := by delta Hw.setBit Hw.wr Hw.wri Hw.setWord; rfl
@[simp] theorem setBit_raised (p : Nat) (f : Field) (b : Nat) (v : Bool) : (h.setBit p f b v).raised = h.raised := by delta Hw.setBit Hw.wr Hw.wri Hw.setWord; rfl
@[simp] theorem setBit_raisedAt (p : Nat) (f : Field) (b : Nat) (v : Bool) : (h.setBit p f b v).raisedAt = h.raisedAt := by delta Hw.setBit Hw.wr Hw.wri Hw.setWord; rfl
@[simp] theorem setBit_capAt (p : Nat) (f : Field) (b : Nat) (v : Bool) : (h.setBit p f b v).capAt = h.capAt := by delta Hw.setBit Hw.wr Hw.wri Hw.setWord; rfl
@[simp] theorem setBit_sent (p : Nat) (f : Field) (b : Nat) (v : Bool) : (h.setBit p f b v).sent = h.sent := by delta Hw.setBit Hw.wr Hw.wri Hw.setWord; rfl
@[simp] theorem setBit_due (p : Nat) (f : Field) (b : Nat) (v : Bool) : (h.setBit p f b v).due = h.due := by delta Hw.setBit Hw.wr Hw.wri Hw.setWord; rfl
@[simp] theorem setBit_fanIn (p : Nat) (f : Field) (b : Nat) (v : Bool) : (h.setBit p f b v).fanIn = h.fanIn := by delta Hw.setBit Hw.wr Hw.wri Hw.setWord; rfl
@[simp] theorem setBit_fresh (p : Nat) (f : Field) (b : Nat) (v : Bool) : (h.setBit p f b v).fresh = h.fresh := by delta Hw.setBit Hw.wr Hw.wri Hw.setWord; rfl

@[simp] theorem persist_used (p i : Nat) (v : Bool) : (h.persist p i v).used = h.used := by delta Hw.persist Hw.setBit Hw.wr Hw.wri Hw.setWord; rfl
@[simp] theorem persist_frozen (p i : Nat) (v : Bool) : (h.persist p i v).frozen = h.frozen := by delta Hw.persist Hw.setBit Hw.wr Hw.wri Hw.setWord; rfl
@[simp] theorem persist_latches (p i : Nat) (v : Bool) : (h.persist p i v).latches = h.latches := by delta Hw.persist Hw.setBit Hw.wr Hw.wri Hw.setWord; rfl
@[simp] theorem persist_waitCommit (p i : Nat) (v : Bool) : (h.persist p i v).waitCommit = h.waitCommit := by delta Hw.persist Hw.setBit Hw.wr Hw.wri Hw.setWord; rfl
@[simp] theorem persist_commitAt (p i : Nat) (v : Bool) : (h.persist p i v).commitAt = h.commitAt := by delta Hw.persist Hw.setBit Hw.wr Hw.wri Hw.setWord; rfl
@[simp] theorem persist_shadowWas (p i : Nat) (v : Bool) : (h.persist p i v).shadowWas = h.shadowWas := by delta Hw.persist Hw.setBit Hw.wr Hw.wri Hw.setWord; rfl
@[simp] theorem persist_mem (p i : Nat) (v : Bool) : (h.persist p i v).mem = h.mem := by delta Hw.persist Hw.setBit Hw.wr Hw.wri Hw.setWord; rfl
@[simp] theorem persist_w1 (p i : Nat) (v : Bool) : (h.persist p i v).w1 = h.w1 := by delta Hw.persist Hw.setBit Hw.wr Hw.wri Hw.setWord; rfl
@[simp] theorem persist_clk (p i : Nat) (v : Bool) : (h.persist p i v).clk = h.clk := by delta Hw.persist Hw.setBit Hw.wr Hw.wri Hw.setWord; rfl
@[simp] theorem persist_boot (p i : Nat) (v : Bool) : (h.persist p i v).boot = h.boot := by delta Hw.persist Hw.setBit Hw.wr Hw.wri Hw.setWord; rfl
@[simp] theorem persist_pins (p i : Nat) (v : Bool) : (h.persist p i v).pins = h.pins := by delta Hw.persist Hw.setBit Hw.wr Hw.wri Hw.setWord; rfl
@[simp] theorem persist_mram (p i : Nat) (v : Bool) : (h.persist p i v).mram = h.mram := by delta Hw.persist Hw.setBit Hw.wr Hw.wri Hw.setWord; rfl
@[simp] theorem persist_headrace (p i : Nat) (v : Bool) : (h.persist p i v).headrace = h.headrace := by delta Hw.persist Hw.setBit Hw.wr Hw.wri Hw.setWord; rfl
@[simp] theorem persist_codec (p i : Nat) (v : Bool) : (h.persist p i v).codec = h.codec := by delta Hw.persist Hw.setBit Hw.wr Hw.wri Hw.setWord; rfl
@[simp] theorem persist_stations (p i : Nat) (v : Bool) : (h.persist p i v).stations = h.stations := by delta Hw.persist Hw.setBit Hw.wr Hw.wri Hw.setWord; rfl
@[simp] theorem persist_peers (p i : Nat) (v : Bool) : (h.persist p i v).peers = h.peers := by delta Hw.persist Hw.setBit Hw.wr Hw.wri Hw.setWord; rfl
@[simp] theorem persist_chain (p i : Nat) (v : Bool) : (h.persist p i v).chain = h.chain := by delta Hw.persist Hw.setBit Hw.wr Hw.wri Hw.setWord; rfl
@[simp] theorem persist_surf (p i : Nat) (v : Bool) : (h.persist p i v).surf = h.surf := by delta Hw.persist Hw.setBit Hw.wr Hw.wri Hw.setWord; rfl
@[simp] theorem persist_belt (p i : Nat) (v : Bool) : (h.persist p i v).belt = h.belt := by delta Hw.persist Hw.setBit Hw.wr Hw.wri Hw.setWord; rfl
@[simp] theorem persist_tofCalc (p i : Nat) (v : Bool) : (h.persist p i v).tofCalc = h.tofCalc := by delta Hw.persist Hw.setBit Hw.wr Hw.wri Hw.setWord; rfl
@[simp] theorem persist_dma (p i : Nat) (v : Bool) : (h.persist p i v).dma = h.dma := by delta Hw.persist Hw.setBit Hw.wr Hw.wri Hw.setWord; rfl
@[simp] theorem persist_ctxResetAt (p i : Nat) (v : Bool) : (h.persist p i v).ctxResetAt = h.ctxResetAt := by delta Hw.persist Hw.setBit Hw.wr Hw.wri Hw.setWord; rfl
@[simp] theorem persist_vecShown (p i : Nat) (v : Bool) : (h.persist p i v).vecShown = h.vecShown := by delta Hw.persist Hw.setBit Hw.wr Hw.wri Hw.setWord; rfl
@[simp] theorem persist_msixFns (p i : Nat) (v : Bool) : (h.persist p i v).msixFns = h.msixFns := by delta Hw.persist Hw.setBit Hw.wr Hw.wri Hw.setWord; rfl
@[simp] theorem persist_boxes (p i : Nat) (v : Bool) : (h.persist p i v).boxes = h.boxes := by delta Hw.persist Hw.setBit Hw.wr Hw.wri Hw.setWord; rfl
@[simp] theorem persist_jobs (p i : Nat) (v : Bool) : (h.persist p i v).jobs = h.jobs := by delta Hw.persist Hw.setBit Hw.wr Hw.wri Hw.setWord; rfl
@[simp] theorem persist_sluice (p i : Nat) (v : Bool) : (h.persist p i v).sluice = h.sluice := by delta Hw.persist Hw.setBit Hw.wr Hw.wri Hw.setWord; rfl
@[simp] theorem persist_encs (p i : Nat) (v : Bool) : (h.persist p i v).encs = h.encs := by delta Hw.persist Hw.setBit Hw.wr Hw.wri Hw.setWord; rfl
@[simp] theorem persist_divs (p i : Nat) (v : Bool) : (h.persist p i v).divs = h.divs := by delta Hw.persist Hw.setBit Hw.wr Hw.wri Hw.setWord; rfl
@[simp] theorem persist_axes (p i : Nat) (v : Bool) : (h.persist p i v).axes = h.axes := by delta Hw.persist Hw.setBit Hw.wr Hw.wri Hw.setWord; rfl
@[simp] theorem persist_bridges (p i : Nat) (v : Bool) : (h.persist p i v).bridges = h.bridges := by delta Hw.persist Hw.setBit Hw.wr Hw.wri Hw.setWord; rfl
@[simp] theorem persist_banks (p i : Nat) (v : Bool) : (h.persist p i v).banks = h.banks := by delta Hw.persist Hw.setBit Hw.wr Hw.wri Hw.setWord; rfl
@[simp] theorem persist_steppers (p i : Nat) (v : Bool) : (h.persist p i v).steppers = h.steppers := by delta Hw.persist Hw.setBit Hw.wr Hw.wri Hw.setWord; rfl
@[simp] theorem persist_motion (p i : Nat) (v : Bool) : (h.persist p i v).motion = h.motion := by delta Hw.persist Hw.setBit Hw.wr Hw.wri Hw.setWord; rfl
@[simp] theorem persist_govSlots (p i : Nat) (v : Bool) : (h.persist p i v).govSlots = h.govSlots := by delta Hw.persist Hw.setBit Hw.wr Hw.wri Hw.setWord; rfl
@[simp] theorem persist_govUnits (p i : Nat) (v : Bool) : (h.persist p i v).govUnits = h.govUnits := by delta Hw.persist Hw.setBit Hw.wr Hw.wri Hw.setWord; rfl
@[simp] theorem persist_hvs (p i : Nat) (v : Bool) : (h.persist p i v).hvs = h.hvs := by delta Hw.persist Hw.setBit Hw.wr Hw.wri Hw.setWord; rfl
@[simp] theorem persist_lamps (p i : Nat) (v : Bool) : (h.persist p i v).lamps = h.lamps := by delta Hw.persist Hw.setBit Hw.wr Hw.wri Hw.setWord; rfl
@[simp] theorem persist_tins (p i : Nat) (v : Bool) : (h.persist p i v).tins = h.tins := by delta Hw.persist Hw.setBit Hw.wr Hw.wri Hw.setWord; rfl
@[simp] theorem persist_mains (p i : Nat) (v : Bool) : (h.persist p i v).mains = h.mains := by delta Hw.persist Hw.setBit Hw.wr Hw.wri Hw.setWord; rfl
@[simp] theorem persist_thermal (p i : Nat) (v : Bool) : (h.persist p i v).thermal = h.thermal := by delta Hw.persist Hw.setBit Hw.wr Hw.wri Hw.setWord; rfl
@[simp] theorem persist_trunks (p i : Nat) (v : Bool) : (h.persist p i v).trunks = h.trunks := by delta Hw.persist Hw.setBit Hw.wr Hw.wri Hw.setWord; rfl
@[simp] theorem persist_sheets (p i : Nat) (v : Bool) : (h.persist p i v).sheets = h.sheets := by delta Hw.persist Hw.setBit Hw.wr Hw.wri Hw.setWord; rfl
@[simp] theorem persist_beltHist (p i : Nat) (v : Bool) : (h.persist p i v).beltHist = h.beltHist := by delta Hw.persist Hw.setBit Hw.wr Hw.wri Hw.setWord; rfl
@[simp] theorem persist_jamAt (p i : Nat) (v : Bool) : (h.persist p i v).jamAt = h.jamAt := by delta Hw.persist Hw.setBit Hw.wr Hw.wri Hw.setWord; rfl
@[simp] theorem persist_jamEdges (p i : Nat) (v : Bool) : (h.persist p i v).jamEdges = h.jamEdges := by delta Hw.persist Hw.setBit Hw.wr Hw.wri Hw.setWord; rfl
@[simp] theorem persist_refRamps (p i : Nat) (v : Bool) : (h.persist p i v).refRamps = h.refRamps := by delta Hw.persist Hw.setBit Hw.wr Hw.wri Hw.setWord; rfl
@[simp] theorem persist_ledger (p i : Nat) (v : Bool) : (h.persist p i v).ledger = h.ledger := by delta Hw.persist Hw.setBit Hw.wr Hw.wri Hw.setWord; rfl
@[simp] theorem persist_raised (p i : Nat) (v : Bool) : (h.persist p i v).raised = h.raised := by delta Hw.persist Hw.setBit Hw.wr Hw.wri Hw.setWord; rfl
@[simp] theorem persist_raisedAt (p i : Nat) (v : Bool) : (h.persist p i v).raisedAt = h.raisedAt := by delta Hw.persist Hw.setBit Hw.wr Hw.wri Hw.setWord; rfl
@[simp] theorem persist_capAt (p i : Nat) (v : Bool) : (h.persist p i v).capAt = h.capAt := by delta Hw.persist Hw.setBit Hw.wr Hw.wri Hw.setWord; rfl
@[simp] theorem persist_sent (p i : Nat) (v : Bool) : (h.persist p i v).sent = h.sent := by delta Hw.persist Hw.setBit Hw.wr Hw.wri Hw.setWord; rfl
@[simp] theorem persist_due (p i : Nat) (v : Bool) : (h.persist p i v).due = h.due := by delta Hw.persist Hw.setBit Hw.wr Hw.wri Hw.setWord; rfl
@[simp] theorem persist_fanIn (p i : Nat) (v : Bool) : (h.persist p i v).fanIn = h.fanIn := by delta Hw.persist Hw.setBit Hw.wr Hw.wri Hw.setWord; rfl
@[simp] theorem persist_fresh (p i : Nat) (v : Bool) : (h.persist p i v).fresh = h.fresh := by delta Hw.persist Hw.setBit Hw.wr Hw.wri Hw.setWord; rfl

/-! ### send -/

@[simp] theorem send_regs (x : Sent) : (h.send x).regs = h.regs := by delta Hw.send; rfl
@[simp] theorem send_used (x : Sent) : (h.send x).used = h.used := by delta Hw.send; rfl
@[simp] theorem send_frozen (x : Sent) : (h.send x).frozen = h.frozen := by delta Hw.send; rfl
@[simp] theorem send_latches (x : Sent) : (h.send x).latches = h.latches := by delta Hw.send; rfl
@[simp] theorem send_waitCommit (x : Sent) : (h.send x).waitCommit = h.waitCommit := by delta Hw.send; rfl
@[simp] theorem send_commitAt (x : Sent) : (h.send x).commitAt = h.commitAt := by delta Hw.send; rfl
@[simp] theorem send_shadowWas (x : Sent) : (h.send x).shadowWas = h.shadowWas := by delta Hw.send; rfl
@[simp] theorem send_mem (x : Sent) : (h.send x).mem = h.mem := by delta Hw.send; rfl
@[simp] theorem send_w1 (x : Sent) : (h.send x).w1 = h.w1 := by delta Hw.send; rfl
@[simp] theorem send_clk (x : Sent) : (h.send x).clk = h.clk := by delta Hw.send; rfl
@[simp] theorem send_boot (x : Sent) : (h.send x).boot = h.boot := by delta Hw.send; rfl
@[simp] theorem send_pins (x : Sent) : (h.send x).pins = h.pins := by delta Hw.send; rfl
@[simp] theorem send_mram (x : Sent) : (h.send x).mram = h.mram := by delta Hw.send; rfl
@[simp] theorem send_headrace (x : Sent) : (h.send x).headrace = h.headrace := by delta Hw.send; rfl
@[simp] theorem send_codec (x : Sent) : (h.send x).codec = h.codec := by delta Hw.send; rfl
@[simp] theorem send_stations (x : Sent) : (h.send x).stations = h.stations := by delta Hw.send; rfl
@[simp] theorem send_peers (x : Sent) : (h.send x).peers = h.peers := by delta Hw.send; rfl
@[simp] theorem send_chain (x : Sent) : (h.send x).chain = h.chain := by delta Hw.send; rfl
@[simp] theorem send_surf (x : Sent) : (h.send x).surf = h.surf := by delta Hw.send; rfl
@[simp] theorem send_belt (x : Sent) : (h.send x).belt = h.belt := by delta Hw.send; rfl
@[simp] theorem send_tofCalc (x : Sent) : (h.send x).tofCalc = h.tofCalc := by delta Hw.send; rfl
@[simp] theorem send_dma (x : Sent) : (h.send x).dma = h.dma := by delta Hw.send; rfl
@[simp] theorem send_ctxResetAt (x : Sent) : (h.send x).ctxResetAt = h.ctxResetAt := by delta Hw.send; rfl
@[simp] theorem send_vecShown (x : Sent) : (h.send x).vecShown = h.vecShown := by delta Hw.send; rfl
@[simp] theorem send_msixFns (x : Sent) : (h.send x).msixFns = h.msixFns := by delta Hw.send; rfl
@[simp] theorem send_boxes (x : Sent) : (h.send x).boxes = h.boxes := by delta Hw.send; rfl
@[simp] theorem send_jobs (x : Sent) : (h.send x).jobs = h.jobs := by delta Hw.send; rfl
@[simp] theorem send_sluice (x : Sent) : (h.send x).sluice = h.sluice := by delta Hw.send; rfl
@[simp] theorem send_encs (x : Sent) : (h.send x).encs = h.encs := by delta Hw.send; rfl
@[simp] theorem send_divs (x : Sent) : (h.send x).divs = h.divs := by delta Hw.send; rfl
@[simp] theorem send_axes (x : Sent) : (h.send x).axes = h.axes := by delta Hw.send; rfl
@[simp] theorem send_bridges (x : Sent) : (h.send x).bridges = h.bridges := by delta Hw.send; rfl
@[simp] theorem send_banks (x : Sent) : (h.send x).banks = h.banks := by delta Hw.send; rfl
@[simp] theorem send_steppers (x : Sent) : (h.send x).steppers = h.steppers := by delta Hw.send; rfl
@[simp] theorem send_motion (x : Sent) : (h.send x).motion = h.motion := by delta Hw.send; rfl
@[simp] theorem send_govSlots (x : Sent) : (h.send x).govSlots = h.govSlots := by delta Hw.send; rfl
@[simp] theorem send_govUnits (x : Sent) : (h.send x).govUnits = h.govUnits := by delta Hw.send; rfl
@[simp] theorem send_hvs (x : Sent) : (h.send x).hvs = h.hvs := by delta Hw.send; rfl
@[simp] theorem send_lamps (x : Sent) : (h.send x).lamps = h.lamps := by delta Hw.send; rfl
@[simp] theorem send_tins (x : Sent) : (h.send x).tins = h.tins := by delta Hw.send; rfl
@[simp] theorem send_mains (x : Sent) : (h.send x).mains = h.mains := by delta Hw.send; rfl
@[simp] theorem send_thermal (x : Sent) : (h.send x).thermal = h.thermal := by delta Hw.send; rfl
@[simp] theorem send_trunks (x : Sent) : (h.send x).trunks = h.trunks := by delta Hw.send; rfl
@[simp] theorem send_sheets (x : Sent) : (h.send x).sheets = h.sheets := by delta Hw.send; rfl
@[simp] theorem send_beltHist (x : Sent) : (h.send x).beltHist = h.beltHist := by delta Hw.send; rfl
@[simp] theorem send_jamAt (x : Sent) : (h.send x).jamAt = h.jamAt := by delta Hw.send; rfl
@[simp] theorem send_jamEdges (x : Sent) : (h.send x).jamEdges = h.jamEdges := by delta Hw.send; rfl
@[simp] theorem send_refRamps (x : Sent) : (h.send x).refRamps = h.refRamps := by delta Hw.send; rfl
@[simp] theorem send_ledger (x : Sent) : (h.send x).ledger = h.ledger := by delta Hw.send; rfl
@[simp] theorem send_raised (x : Sent) : (h.send x).raised = h.raised := by delta Hw.send; rfl
@[simp] theorem send_raisedAt (x : Sent) : (h.send x).raisedAt = h.raisedAt := by delta Hw.send; rfl
@[simp] theorem send_capAt (x : Sent) : (h.send x).capAt = h.capAt := by delta Hw.send; rfl
@[simp] theorem send_due (x : Sent) : (h.send x).due = h.due := by delta Hw.send; rfl
@[simp] theorem send_fanIn (x : Sent) : (h.send x).fanIn = h.fanIn := by delta Hw.send; rfl
@[simp] theorem send_fresh (x : Sent) : (h.send x).fresh = h.fresh := by delta Hw.send; rfl

/-! ### later -/

@[simp] theorem later_regs (d : Due) : (h.later d).regs = h.regs := by delta Hw.later; rfl
@[simp] theorem later_used (d : Due) : (h.later d).used = h.used := by delta Hw.later; rfl
@[simp] theorem later_frozen (d : Due) : (h.later d).frozen = h.frozen := by delta Hw.later; rfl
@[simp] theorem later_latches (d : Due) : (h.later d).latches = h.latches := by delta Hw.later; rfl
@[simp] theorem later_waitCommit (d : Due) : (h.later d).waitCommit = h.waitCommit := by delta Hw.later; rfl
@[simp] theorem later_commitAt (d : Due) : (h.later d).commitAt = h.commitAt := by delta Hw.later; rfl
@[simp] theorem later_shadowWas (d : Due) : (h.later d).shadowWas = h.shadowWas := by delta Hw.later; rfl
@[simp] theorem later_mem (d : Due) : (h.later d).mem = h.mem := by delta Hw.later; rfl
@[simp] theorem later_w1 (d : Due) : (h.later d).w1 = h.w1 := by delta Hw.later; rfl
@[simp] theorem later_clk (d : Due) : (h.later d).clk = h.clk := by delta Hw.later; rfl
@[simp] theorem later_boot (d : Due) : (h.later d).boot = h.boot := by delta Hw.later; rfl
@[simp] theorem later_pins (d : Due) : (h.later d).pins = h.pins := by delta Hw.later; rfl
@[simp] theorem later_mram (d : Due) : (h.later d).mram = h.mram := by delta Hw.later; rfl
@[simp] theorem later_headrace (d : Due) : (h.later d).headrace = h.headrace := by delta Hw.later; rfl
@[simp] theorem later_codec (d : Due) : (h.later d).codec = h.codec := by delta Hw.later; rfl
@[simp] theorem later_stations (d : Due) : (h.later d).stations = h.stations := by delta Hw.later; rfl
@[simp] theorem later_peers (d : Due) : (h.later d).peers = h.peers := by delta Hw.later; rfl
@[simp] theorem later_chain (d : Due) : (h.later d).chain = h.chain := by delta Hw.later; rfl
@[simp] theorem later_surf (d : Due) : (h.later d).surf = h.surf := by delta Hw.later; rfl
@[simp] theorem later_belt (d : Due) : (h.later d).belt = h.belt := by delta Hw.later; rfl
@[simp] theorem later_tofCalc (d : Due) : (h.later d).tofCalc = h.tofCalc := by delta Hw.later; rfl
@[simp] theorem later_dma (d : Due) : (h.later d).dma = h.dma := by delta Hw.later; rfl
@[simp] theorem later_ctxResetAt (d : Due) : (h.later d).ctxResetAt = h.ctxResetAt := by delta Hw.later; rfl
@[simp] theorem later_vecShown (d : Due) : (h.later d).vecShown = h.vecShown := by delta Hw.later; rfl
@[simp] theorem later_msixFns (d : Due) : (h.later d).msixFns = h.msixFns := by delta Hw.later; rfl
@[simp] theorem later_boxes (d : Due) : (h.later d).boxes = h.boxes := by delta Hw.later; rfl
@[simp] theorem later_jobs (d : Due) : (h.later d).jobs = h.jobs := by delta Hw.later; rfl
@[simp] theorem later_sluice (d : Due) : (h.later d).sluice = h.sluice := by delta Hw.later; rfl
@[simp] theorem later_encs (d : Due) : (h.later d).encs = h.encs := by delta Hw.later; rfl
@[simp] theorem later_divs (d : Due) : (h.later d).divs = h.divs := by delta Hw.later; rfl
@[simp] theorem later_axes (d : Due) : (h.later d).axes = h.axes := by delta Hw.later; rfl
@[simp] theorem later_bridges (d : Due) : (h.later d).bridges = h.bridges := by delta Hw.later; rfl
@[simp] theorem later_banks (d : Due) : (h.later d).banks = h.banks := by delta Hw.later; rfl
@[simp] theorem later_steppers (d : Due) : (h.later d).steppers = h.steppers := by delta Hw.later; rfl
@[simp] theorem later_motion (d : Due) : (h.later d).motion = h.motion := by delta Hw.later; rfl
@[simp] theorem later_govSlots (d : Due) : (h.later d).govSlots = h.govSlots := by delta Hw.later; rfl
@[simp] theorem later_govUnits (d : Due) : (h.later d).govUnits = h.govUnits := by delta Hw.later; rfl
@[simp] theorem later_hvs (d : Due) : (h.later d).hvs = h.hvs := by delta Hw.later; rfl
@[simp] theorem later_lamps (d : Due) : (h.later d).lamps = h.lamps := by delta Hw.later; rfl
@[simp] theorem later_tins (d : Due) : (h.later d).tins = h.tins := by delta Hw.later; rfl
@[simp] theorem later_mains (d : Due) : (h.later d).mains = h.mains := by delta Hw.later; rfl
@[simp] theorem later_thermal (d : Due) : (h.later d).thermal = h.thermal := by delta Hw.later; rfl
@[simp] theorem later_trunks (d : Due) : (h.later d).trunks = h.trunks := by delta Hw.later; rfl
@[simp] theorem later_sheets (d : Due) : (h.later d).sheets = h.sheets := by delta Hw.later; rfl
@[simp] theorem later_beltHist (d : Due) : (h.later d).beltHist = h.beltHist := by delta Hw.later; rfl
@[simp] theorem later_jamAt (d : Due) : (h.later d).jamAt = h.jamAt := by delta Hw.later; rfl
@[simp] theorem later_jamEdges (d : Due) : (h.later d).jamEdges = h.jamEdges := by delta Hw.later; rfl
@[simp] theorem later_refRamps (d : Due) : (h.later d).refRamps = h.refRamps := by delta Hw.later; rfl
@[simp] theorem later_ledger (d : Due) : (h.later d).ledger = h.ledger := by delta Hw.later; rfl
@[simp] theorem later_raised (d : Due) : (h.later d).raised = h.raised := by delta Hw.later; rfl
@[simp] theorem later_raisedAt (d : Due) : (h.later d).raisedAt = h.raisedAt := by delta Hw.later; rfl
@[simp] theorem later_capAt (d : Due) : (h.later d).capAt = h.capAt := by delta Hw.later; rfl
@[simp] theorem later_sent (d : Due) : (h.later d).sent = h.sent := by delta Hw.later; rfl
@[simp] theorem later_fanIn (d : Due) : (h.later d).fanIn = h.fanIn := by delta Hw.later; rfl
@[simp] theorem later_fresh (d : Due) : (h.later d).fresh = h.fresh := by delta Hw.later; rfl

/-! ### latch -/

@[simp] theorem latch_regs (m : Master) (a : Nat) (v : Word) : (h.latch m a v).regs = h.regs := by delta Hw.latch; rfl
@[simp] theorem latch_used (m : Master) (a : Nat) (v : Word) : (h.latch m a v).used = h.used := by delta Hw.latch; rfl
@[simp] theorem latch_frozen (m : Master) (a : Nat) (v : Word) : (h.latch m a v).frozen = h.frozen := by delta Hw.latch; rfl
@[simp] theorem latch_waitCommit (m : Master) (a : Nat) (v : Word) : (h.latch m a v).waitCommit = h.waitCommit := by delta Hw.latch; rfl
@[simp] theorem latch_commitAt (m : Master) (a : Nat) (v : Word) : (h.latch m a v).commitAt = h.commitAt := by delta Hw.latch; rfl
@[simp] theorem latch_shadowWas (m : Master) (a : Nat) (v : Word) : (h.latch m a v).shadowWas = h.shadowWas := by delta Hw.latch; rfl
@[simp] theorem latch_mem (m : Master) (a : Nat) (v : Word) : (h.latch m a v).mem = h.mem := by delta Hw.latch; rfl
@[simp] theorem latch_w1 (m : Master) (a : Nat) (v : Word) : (h.latch m a v).w1 = h.w1 := by delta Hw.latch; rfl
@[simp] theorem latch_clk (m : Master) (a : Nat) (v : Word) : (h.latch m a v).clk = h.clk := by delta Hw.latch; rfl
@[simp] theorem latch_boot (m : Master) (a : Nat) (v : Word) : (h.latch m a v).boot = h.boot := by delta Hw.latch; rfl
@[simp] theorem latch_pins (m : Master) (a : Nat) (v : Word) : (h.latch m a v).pins = h.pins := by delta Hw.latch; rfl
@[simp] theorem latch_mram (m : Master) (a : Nat) (v : Word) : (h.latch m a v).mram = h.mram := by delta Hw.latch; rfl
@[simp] theorem latch_headrace (m : Master) (a : Nat) (v : Word) : (h.latch m a v).headrace = h.headrace := by delta Hw.latch; rfl
@[simp] theorem latch_codec (m : Master) (a : Nat) (v : Word) : (h.latch m a v).codec = h.codec := by delta Hw.latch; rfl
@[simp] theorem latch_stations (m : Master) (a : Nat) (v : Word) : (h.latch m a v).stations = h.stations := by delta Hw.latch; rfl
@[simp] theorem latch_peers (m : Master) (a : Nat) (v : Word) : (h.latch m a v).peers = h.peers := by delta Hw.latch; rfl
@[simp] theorem latch_chain (m : Master) (a : Nat) (v : Word) : (h.latch m a v).chain = h.chain := by delta Hw.latch; rfl
@[simp] theorem latch_surf (m : Master) (a : Nat) (v : Word) : (h.latch m a v).surf = h.surf := by delta Hw.latch; rfl
@[simp] theorem latch_belt (m : Master) (a : Nat) (v : Word) : (h.latch m a v).belt = h.belt := by delta Hw.latch; rfl
@[simp] theorem latch_tofCalc (m : Master) (a : Nat) (v : Word) : (h.latch m a v).tofCalc = h.tofCalc := by delta Hw.latch; rfl
@[simp] theorem latch_dma (m : Master) (a : Nat) (v : Word) : (h.latch m a v).dma = h.dma := by delta Hw.latch; rfl
@[simp] theorem latch_ctxResetAt (m : Master) (a : Nat) (v : Word) : (h.latch m a v).ctxResetAt = h.ctxResetAt := by delta Hw.latch; rfl
@[simp] theorem latch_vecShown (m : Master) (a : Nat) (v : Word) : (h.latch m a v).vecShown = h.vecShown := by delta Hw.latch; rfl
@[simp] theorem latch_msixFns (m : Master) (a : Nat) (v : Word) : (h.latch m a v).msixFns = h.msixFns := by delta Hw.latch; rfl
@[simp] theorem latch_boxes (m : Master) (a : Nat) (v : Word) : (h.latch m a v).boxes = h.boxes := by delta Hw.latch; rfl
@[simp] theorem latch_jobs (m : Master) (a : Nat) (v : Word) : (h.latch m a v).jobs = h.jobs := by delta Hw.latch; rfl
@[simp] theorem latch_sluice (m : Master) (a : Nat) (v : Word) : (h.latch m a v).sluice = h.sluice := by delta Hw.latch; rfl
@[simp] theorem latch_encs (m : Master) (a : Nat) (v : Word) : (h.latch m a v).encs = h.encs := by delta Hw.latch; rfl
@[simp] theorem latch_divs (m : Master) (a : Nat) (v : Word) : (h.latch m a v).divs = h.divs := by delta Hw.latch; rfl
@[simp] theorem latch_axes (m : Master) (a : Nat) (v : Word) : (h.latch m a v).axes = h.axes := by delta Hw.latch; rfl
@[simp] theorem latch_bridges (m : Master) (a : Nat) (v : Word) : (h.latch m a v).bridges = h.bridges := by delta Hw.latch; rfl
@[simp] theorem latch_banks (m : Master) (a : Nat) (v : Word) : (h.latch m a v).banks = h.banks := by delta Hw.latch; rfl
@[simp] theorem latch_steppers (m : Master) (a : Nat) (v : Word) : (h.latch m a v).steppers = h.steppers := by delta Hw.latch; rfl
@[simp] theorem latch_motion (m : Master) (a : Nat) (v : Word) : (h.latch m a v).motion = h.motion := by delta Hw.latch; rfl
@[simp] theorem latch_govSlots (m : Master) (a : Nat) (v : Word) : (h.latch m a v).govSlots = h.govSlots := by delta Hw.latch; rfl
@[simp] theorem latch_govUnits (m : Master) (a : Nat) (v : Word) : (h.latch m a v).govUnits = h.govUnits := by delta Hw.latch; rfl
@[simp] theorem latch_hvs (m : Master) (a : Nat) (v : Word) : (h.latch m a v).hvs = h.hvs := by delta Hw.latch; rfl
@[simp] theorem latch_lamps (m : Master) (a : Nat) (v : Word) : (h.latch m a v).lamps = h.lamps := by delta Hw.latch; rfl
@[simp] theorem latch_tins (m : Master) (a : Nat) (v : Word) : (h.latch m a v).tins = h.tins := by delta Hw.latch; rfl
@[simp] theorem latch_mains (m : Master) (a : Nat) (v : Word) : (h.latch m a v).mains = h.mains := by delta Hw.latch; rfl
@[simp] theorem latch_thermal (m : Master) (a : Nat) (v : Word) : (h.latch m a v).thermal = h.thermal := by delta Hw.latch; rfl
@[simp] theorem latch_trunks (m : Master) (a : Nat) (v : Word) : (h.latch m a v).trunks = h.trunks := by delta Hw.latch; rfl
@[simp] theorem latch_sheets (m : Master) (a : Nat) (v : Word) : (h.latch m a v).sheets = h.sheets := by delta Hw.latch; rfl
@[simp] theorem latch_beltHist (m : Master) (a : Nat) (v : Word) : (h.latch m a v).beltHist = h.beltHist := by delta Hw.latch; rfl
@[simp] theorem latch_jamAt (m : Master) (a : Nat) (v : Word) : (h.latch m a v).jamAt = h.jamAt := by delta Hw.latch; rfl
@[simp] theorem latch_jamEdges (m : Master) (a : Nat) (v : Word) : (h.latch m a v).jamEdges = h.jamEdges := by delta Hw.latch; rfl
@[simp] theorem latch_refRamps (m : Master) (a : Nat) (v : Word) : (h.latch m a v).refRamps = h.refRamps := by delta Hw.latch; rfl
@[simp] theorem latch_ledger (m : Master) (a : Nat) (v : Word) : (h.latch m a v).ledger = h.ledger := by delta Hw.latch; rfl
@[simp] theorem latch_raised (m : Master) (a : Nat) (v : Word) : (h.latch m a v).raised = h.raised := by delta Hw.latch; rfl
@[simp] theorem latch_raisedAt (m : Master) (a : Nat) (v : Word) : (h.latch m a v).raisedAt = h.raisedAt := by delta Hw.latch; rfl
@[simp] theorem latch_capAt (m : Master) (a : Nat) (v : Word) : (h.latch m a v).capAt = h.capAt := by delta Hw.latch; rfl
@[simp] theorem latch_sent (m : Master) (a : Nat) (v : Word) : (h.latch m a v).sent = h.sent := by delta Hw.latch; rfl
@[simp] theorem latch_due (m : Master) (a : Nat) (v : Word) : (h.latch m a v).due = h.due := by delta Hw.latch; rfl
@[simp] theorem latch_fanIn (m : Master) (a : Nat) (v : Word) : (h.latch m a v).fanIn = h.fanIn := by delta Hw.latch; rfl
@[simp] theorem latch_fresh (m : Master) (a : Nat) (v : Word) : (h.latch m a v).fresh = h.fresh := by delta Hw.latch; rfl

/-! ### putByte -/

@[simp] theorem putByte_regs (a : Nat) (b : Byte) : (h.putByte a b).regs = h.regs := by delta Hw.putByte; rfl
@[simp] theorem putByte_used (a : Nat) (b : Byte) : (h.putByte a b).used = h.used := by delta Hw.putByte; rfl
@[simp] theorem putByte_frozen (a : Nat) (b : Byte) : (h.putByte a b).frozen = h.frozen := by delta Hw.putByte; rfl
@[simp] theorem putByte_latches (a : Nat) (b : Byte) : (h.putByte a b).latches = h.latches := by delta Hw.putByte; rfl
@[simp] theorem putByte_waitCommit (a : Nat) (b : Byte) : (h.putByte a b).waitCommit = h.waitCommit := by delta Hw.putByte; rfl
@[simp] theorem putByte_commitAt (a : Nat) (b : Byte) : (h.putByte a b).commitAt = h.commitAt := by delta Hw.putByte; rfl
@[simp] theorem putByte_shadowWas (a : Nat) (b : Byte) : (h.putByte a b).shadowWas = h.shadowWas := by delta Hw.putByte; rfl
@[simp] theorem putByte_w1 (a : Nat) (b : Byte) : (h.putByte a b).w1 = h.w1 := by delta Hw.putByte; rfl
@[simp] theorem putByte_clk (a : Nat) (b : Byte) : (h.putByte a b).clk = h.clk := by delta Hw.putByte; rfl
@[simp] theorem putByte_boot (a : Nat) (b : Byte) : (h.putByte a b).boot = h.boot := by delta Hw.putByte; rfl
@[simp] theorem putByte_pins (a : Nat) (b : Byte) : (h.putByte a b).pins = h.pins := by delta Hw.putByte; rfl
@[simp] theorem putByte_mram (a : Nat) (b : Byte) : (h.putByte a b).mram = h.mram := by delta Hw.putByte; rfl
@[simp] theorem putByte_headrace (a : Nat) (b : Byte) : (h.putByte a b).headrace = h.headrace := by delta Hw.putByte; rfl
@[simp] theorem putByte_codec (a : Nat) (b : Byte) : (h.putByte a b).codec = h.codec := by delta Hw.putByte; rfl
@[simp] theorem putByte_stations (a : Nat) (b : Byte) : (h.putByte a b).stations = h.stations := by delta Hw.putByte; rfl
@[simp] theorem putByte_peers (a : Nat) (b : Byte) : (h.putByte a b).peers = h.peers := by delta Hw.putByte; rfl
@[simp] theorem putByte_chain (a : Nat) (b : Byte) : (h.putByte a b).chain = h.chain := by delta Hw.putByte; rfl
@[simp] theorem putByte_surf (a : Nat) (b : Byte) : (h.putByte a b).surf = h.surf := by delta Hw.putByte; rfl
@[simp] theorem putByte_belt (a : Nat) (b : Byte) : (h.putByte a b).belt = h.belt := by delta Hw.putByte; rfl
@[simp] theorem putByte_tofCalc (a : Nat) (b : Byte) : (h.putByte a b).tofCalc = h.tofCalc := by delta Hw.putByte; rfl
@[simp] theorem putByte_dma (a : Nat) (b : Byte) : (h.putByte a b).dma = h.dma := by delta Hw.putByte; rfl
@[simp] theorem putByte_ctxResetAt (a : Nat) (b : Byte) : (h.putByte a b).ctxResetAt = h.ctxResetAt := by delta Hw.putByte; rfl
@[simp] theorem putByte_vecShown (a : Nat) (b : Byte) : (h.putByte a b).vecShown = h.vecShown := by delta Hw.putByte; rfl
@[simp] theorem putByte_msixFns (a : Nat) (b : Byte) : (h.putByte a b).msixFns = h.msixFns := by delta Hw.putByte; rfl
@[simp] theorem putByte_boxes (a : Nat) (b : Byte) : (h.putByte a b).boxes = h.boxes := by delta Hw.putByte; rfl
@[simp] theorem putByte_jobs (a : Nat) (b : Byte) : (h.putByte a b).jobs = h.jobs := by delta Hw.putByte; rfl
@[simp] theorem putByte_sluice (a : Nat) (b : Byte) : (h.putByte a b).sluice = h.sluice := by delta Hw.putByte; rfl
@[simp] theorem putByte_encs (a : Nat) (b : Byte) : (h.putByte a b).encs = h.encs := by delta Hw.putByte; rfl
@[simp] theorem putByte_divs (a : Nat) (b : Byte) : (h.putByte a b).divs = h.divs := by delta Hw.putByte; rfl
@[simp] theorem putByte_axes (a : Nat) (b : Byte) : (h.putByte a b).axes = h.axes := by delta Hw.putByte; rfl
@[simp] theorem putByte_bridges (a : Nat) (b : Byte) : (h.putByte a b).bridges = h.bridges := by delta Hw.putByte; rfl
@[simp] theorem putByte_banks (a : Nat) (b : Byte) : (h.putByte a b).banks = h.banks := by delta Hw.putByte; rfl
@[simp] theorem putByte_steppers (a : Nat) (b : Byte) : (h.putByte a b).steppers = h.steppers := by delta Hw.putByte; rfl
@[simp] theorem putByte_motion (a : Nat) (b : Byte) : (h.putByte a b).motion = h.motion := by delta Hw.putByte; rfl
@[simp] theorem putByte_govSlots (a : Nat) (b : Byte) : (h.putByte a b).govSlots = h.govSlots := by delta Hw.putByte; rfl
@[simp] theorem putByte_govUnits (a : Nat) (b : Byte) : (h.putByte a b).govUnits = h.govUnits := by delta Hw.putByte; rfl
@[simp] theorem putByte_hvs (a : Nat) (b : Byte) : (h.putByte a b).hvs = h.hvs := by delta Hw.putByte; rfl
@[simp] theorem putByte_lamps (a : Nat) (b : Byte) : (h.putByte a b).lamps = h.lamps := by delta Hw.putByte; rfl
@[simp] theorem putByte_tins (a : Nat) (b : Byte) : (h.putByte a b).tins = h.tins := by delta Hw.putByte; rfl
@[simp] theorem putByte_mains (a : Nat) (b : Byte) : (h.putByte a b).mains = h.mains := by delta Hw.putByte; rfl
@[simp] theorem putByte_thermal (a : Nat) (b : Byte) : (h.putByte a b).thermal = h.thermal := by delta Hw.putByte; rfl
@[simp] theorem putByte_trunks (a : Nat) (b : Byte) : (h.putByte a b).trunks = h.trunks := by delta Hw.putByte; rfl
@[simp] theorem putByte_sheets (a : Nat) (b : Byte) : (h.putByte a b).sheets = h.sheets := by delta Hw.putByte; rfl
@[simp] theorem putByte_beltHist (a : Nat) (b : Byte) : (h.putByte a b).beltHist = h.beltHist := by delta Hw.putByte; rfl
@[simp] theorem putByte_jamAt (a : Nat) (b : Byte) : (h.putByte a b).jamAt = h.jamAt := by delta Hw.putByte; rfl
@[simp] theorem putByte_jamEdges (a : Nat) (b : Byte) : (h.putByte a b).jamEdges = h.jamEdges := by delta Hw.putByte; rfl
@[simp] theorem putByte_refRamps (a : Nat) (b : Byte) : (h.putByte a b).refRamps = h.refRamps := by delta Hw.putByte; rfl
@[simp] theorem putByte_ledger (a : Nat) (b : Byte) : (h.putByte a b).ledger = h.ledger := by delta Hw.putByte; rfl
@[simp] theorem putByte_raised (a : Nat) (b : Byte) : (h.putByte a b).raised = h.raised := by delta Hw.putByte; rfl
@[simp] theorem putByte_raisedAt (a : Nat) (b : Byte) : (h.putByte a b).raisedAt = h.raisedAt := by delta Hw.putByte; rfl
@[simp] theorem putByte_capAt (a : Nat) (b : Byte) : (h.putByte a b).capAt = h.capAt := by delta Hw.putByte; rfl
@[simp] theorem putByte_sent (a : Nat) (b : Byte) : (h.putByte a b).sent = h.sent := by delta Hw.putByte; rfl
@[simp] theorem putByte_due (a : Nat) (b : Byte) : (h.putByte a b).due = h.due := by delta Hw.putByte; rfl
@[simp] theorem putByte_fanIn (a : Nat) (b : Byte) : (h.putByte a b).fanIn = h.fanIn := by delta Hw.putByte; rfl
@[simp] theorem putByte_fresh (a : Nat) (b : Byte) : (h.putByte a b).fresh = h.fresh := by delta Hw.putByte; rfl

/-! ### putTable -/

@[simp] theorem putTable_regs (a : Nat) (b : Byte) : (h.putTable a b).regs = h.regs := by delta Hw.putTable; rfl
@[simp] theorem putTable_used (a : Nat) (b : Byte) : (h.putTable a b).used = h.used := by delta Hw.putTable; rfl
@[simp] theorem putTable_frozen (a : Nat) (b : Byte) : (h.putTable a b).frozen = h.frozen := by delta Hw.putTable; rfl
@[simp] theorem putTable_latches (a : Nat) (b : Byte) : (h.putTable a b).latches = h.latches := by delta Hw.putTable; rfl
@[simp] theorem putTable_waitCommit (a : Nat) (b : Byte) : (h.putTable a b).waitCommit = h.waitCommit := by delta Hw.putTable; rfl
@[simp] theorem putTable_commitAt (a : Nat) (b : Byte) : (h.putTable a b).commitAt = h.commitAt := by delta Hw.putTable; rfl
@[simp] theorem putTable_shadowWas (a : Nat) (b : Byte) : (h.putTable a b).shadowWas = h.shadowWas := by delta Hw.putTable; rfl
@[simp] theorem putTable_mem (a : Nat) (b : Byte) : (h.putTable a b).mem = h.mem := by delta Hw.putTable; rfl
@[simp] theorem putTable_clk (a : Nat) (b : Byte) : (h.putTable a b).clk = h.clk := by delta Hw.putTable; rfl
@[simp] theorem putTable_boot (a : Nat) (b : Byte) : (h.putTable a b).boot = h.boot := by delta Hw.putTable; rfl
@[simp] theorem putTable_pins (a : Nat) (b : Byte) : (h.putTable a b).pins = h.pins := by delta Hw.putTable; rfl
@[simp] theorem putTable_mram (a : Nat) (b : Byte) : (h.putTable a b).mram = h.mram := by delta Hw.putTable; rfl
@[simp] theorem putTable_headrace (a : Nat) (b : Byte) : (h.putTable a b).headrace = h.headrace := by delta Hw.putTable; rfl
@[simp] theorem putTable_codec (a : Nat) (b : Byte) : (h.putTable a b).codec = h.codec := by delta Hw.putTable; rfl
@[simp] theorem putTable_stations (a : Nat) (b : Byte) : (h.putTable a b).stations = h.stations := by delta Hw.putTable; rfl
@[simp] theorem putTable_peers (a : Nat) (b : Byte) : (h.putTable a b).peers = h.peers := by delta Hw.putTable; rfl
@[simp] theorem putTable_chain (a : Nat) (b : Byte) : (h.putTable a b).chain = h.chain := by delta Hw.putTable; rfl
@[simp] theorem putTable_surf (a : Nat) (b : Byte) : (h.putTable a b).surf = h.surf := by delta Hw.putTable; rfl
@[simp] theorem putTable_belt (a : Nat) (b : Byte) : (h.putTable a b).belt = h.belt := by delta Hw.putTable; rfl
@[simp] theorem putTable_tofCalc (a : Nat) (b : Byte) : (h.putTable a b).tofCalc = h.tofCalc := by delta Hw.putTable; rfl
@[simp] theorem putTable_dma (a : Nat) (b : Byte) : (h.putTable a b).dma = h.dma := by delta Hw.putTable; rfl
@[simp] theorem putTable_ctxResetAt (a : Nat) (b : Byte) : (h.putTable a b).ctxResetAt = h.ctxResetAt := by delta Hw.putTable; rfl
@[simp] theorem putTable_vecShown (a : Nat) (b : Byte) : (h.putTable a b).vecShown = h.vecShown := by delta Hw.putTable; rfl
@[simp] theorem putTable_msixFns (a : Nat) (b : Byte) : (h.putTable a b).msixFns = h.msixFns := by delta Hw.putTable; rfl
@[simp] theorem putTable_boxes (a : Nat) (b : Byte) : (h.putTable a b).boxes = h.boxes := by delta Hw.putTable; rfl
@[simp] theorem putTable_jobs (a : Nat) (b : Byte) : (h.putTable a b).jobs = h.jobs := by delta Hw.putTable; rfl
@[simp] theorem putTable_sluice (a : Nat) (b : Byte) : (h.putTable a b).sluice = h.sluice := by delta Hw.putTable; rfl
@[simp] theorem putTable_encs (a : Nat) (b : Byte) : (h.putTable a b).encs = h.encs := by delta Hw.putTable; rfl
@[simp] theorem putTable_divs (a : Nat) (b : Byte) : (h.putTable a b).divs = h.divs := by delta Hw.putTable; rfl
@[simp] theorem putTable_axes (a : Nat) (b : Byte) : (h.putTable a b).axes = h.axes := by delta Hw.putTable; rfl
@[simp] theorem putTable_bridges (a : Nat) (b : Byte) : (h.putTable a b).bridges = h.bridges := by delta Hw.putTable; rfl
@[simp] theorem putTable_banks (a : Nat) (b : Byte) : (h.putTable a b).banks = h.banks := by delta Hw.putTable; rfl
@[simp] theorem putTable_steppers (a : Nat) (b : Byte) : (h.putTable a b).steppers = h.steppers := by delta Hw.putTable; rfl
@[simp] theorem putTable_motion (a : Nat) (b : Byte) : (h.putTable a b).motion = h.motion := by delta Hw.putTable; rfl
@[simp] theorem putTable_govSlots (a : Nat) (b : Byte) : (h.putTable a b).govSlots = h.govSlots := by delta Hw.putTable; rfl
@[simp] theorem putTable_govUnits (a : Nat) (b : Byte) : (h.putTable a b).govUnits = h.govUnits := by delta Hw.putTable; rfl
@[simp] theorem putTable_hvs (a : Nat) (b : Byte) : (h.putTable a b).hvs = h.hvs := by delta Hw.putTable; rfl
@[simp] theorem putTable_lamps (a : Nat) (b : Byte) : (h.putTable a b).lamps = h.lamps := by delta Hw.putTable; rfl
@[simp] theorem putTable_tins (a : Nat) (b : Byte) : (h.putTable a b).tins = h.tins := by delta Hw.putTable; rfl
@[simp] theorem putTable_mains (a : Nat) (b : Byte) : (h.putTable a b).mains = h.mains := by delta Hw.putTable; rfl
@[simp] theorem putTable_thermal (a : Nat) (b : Byte) : (h.putTable a b).thermal = h.thermal := by delta Hw.putTable; rfl
@[simp] theorem putTable_trunks (a : Nat) (b : Byte) : (h.putTable a b).trunks = h.trunks := by delta Hw.putTable; rfl
@[simp] theorem putTable_sheets (a : Nat) (b : Byte) : (h.putTable a b).sheets = h.sheets := by delta Hw.putTable; rfl
@[simp] theorem putTable_beltHist (a : Nat) (b : Byte) : (h.putTable a b).beltHist = h.beltHist := by delta Hw.putTable; rfl
@[simp] theorem putTable_jamAt (a : Nat) (b : Byte) : (h.putTable a b).jamAt = h.jamAt := by delta Hw.putTable; rfl
@[simp] theorem putTable_jamEdges (a : Nat) (b : Byte) : (h.putTable a b).jamEdges = h.jamEdges := by delta Hw.putTable; rfl
@[simp] theorem putTable_refRamps (a : Nat) (b : Byte) : (h.putTable a b).refRamps = h.refRamps := by delta Hw.putTable; rfl
@[simp] theorem putTable_ledger (a : Nat) (b : Byte) : (h.putTable a b).ledger = h.ledger := by delta Hw.putTable; rfl
@[simp] theorem putTable_raised (a : Nat) (b : Byte) : (h.putTable a b).raised = h.raised := by delta Hw.putTable; rfl
@[simp] theorem putTable_raisedAt (a : Nat) (b : Byte) : (h.putTable a b).raisedAt = h.raisedAt := by delta Hw.putTable; rfl
@[simp] theorem putTable_capAt (a : Nat) (b : Byte) : (h.putTable a b).capAt = h.capAt := by delta Hw.putTable; rfl
@[simp] theorem putTable_sent (a : Nat) (b : Byte) : (h.putTable a b).sent = h.sent := by delta Hw.putTable; rfl
@[simp] theorem putTable_due (a : Nat) (b : Byte) : (h.putTable a b).due = h.due := by delta Hw.putTable; rfl
@[simp] theorem putTable_fanIn (a : Nat) (b : Byte) : (h.putTable a b).fanIn = h.fanIn := by delta Hw.putTable; rfl
@[simp] theorem putTable_fresh (a : Nat) (b : Byte) : (h.putTable a b).fresh = h.fresh := by delta Hw.putTable; rfl

/-! ### modStn -/

@[simp] theorem modStn_regs (s : Nat) (f : Station → Station) : (h.modStn s f).regs = h.regs := by delta Hw.modStn; rfl
@[simp] theorem modStn_used (s : Nat) (f : Station → Station) : (h.modStn s f).used = h.used := by delta Hw.modStn; rfl
@[simp] theorem modStn_frozen (s : Nat) (f : Station → Station) : (h.modStn s f).frozen = h.frozen := by delta Hw.modStn; rfl
@[simp] theorem modStn_latches (s : Nat) (f : Station → Station) : (h.modStn s f).latches = h.latches := by delta Hw.modStn; rfl
@[simp] theorem modStn_waitCommit (s : Nat) (f : Station → Station) : (h.modStn s f).waitCommit = h.waitCommit := by delta Hw.modStn; rfl
@[simp] theorem modStn_commitAt (s : Nat) (f : Station → Station) : (h.modStn s f).commitAt = h.commitAt := by delta Hw.modStn; rfl
@[simp] theorem modStn_shadowWas (s : Nat) (f : Station → Station) : (h.modStn s f).shadowWas = h.shadowWas := by delta Hw.modStn; rfl
@[simp] theorem modStn_mem (s : Nat) (f : Station → Station) : (h.modStn s f).mem = h.mem := by delta Hw.modStn; rfl
@[simp] theorem modStn_w1 (s : Nat) (f : Station → Station) : (h.modStn s f).w1 = h.w1 := by delta Hw.modStn; rfl
@[simp] theorem modStn_clk (s : Nat) (f : Station → Station) : (h.modStn s f).clk = h.clk := by delta Hw.modStn; rfl
@[simp] theorem modStn_boot (s : Nat) (f : Station → Station) : (h.modStn s f).boot = h.boot := by delta Hw.modStn; rfl
@[simp] theorem modStn_pins (s : Nat) (f : Station → Station) : (h.modStn s f).pins = h.pins := by delta Hw.modStn; rfl
@[simp] theorem modStn_mram (s : Nat) (f : Station → Station) : (h.modStn s f).mram = h.mram := by delta Hw.modStn; rfl
@[simp] theorem modStn_headrace (s : Nat) (f : Station → Station) : (h.modStn s f).headrace = h.headrace := by delta Hw.modStn; rfl
@[simp] theorem modStn_codec (s : Nat) (f : Station → Station) : (h.modStn s f).codec = h.codec := by delta Hw.modStn; rfl
@[simp] theorem modStn_peers (s : Nat) (f : Station → Station) : (h.modStn s f).peers = h.peers := by delta Hw.modStn; rfl
@[simp] theorem modStn_chain (s : Nat) (f : Station → Station) : (h.modStn s f).chain = h.chain := by delta Hw.modStn; rfl
@[simp] theorem modStn_surf (s : Nat) (f : Station → Station) : (h.modStn s f).surf = h.surf := by delta Hw.modStn; rfl
@[simp] theorem modStn_belt (s : Nat) (f : Station → Station) : (h.modStn s f).belt = h.belt := by delta Hw.modStn; rfl
@[simp] theorem modStn_tofCalc (s : Nat) (f : Station → Station) : (h.modStn s f).tofCalc = h.tofCalc := by delta Hw.modStn; rfl
@[simp] theorem modStn_dma (s : Nat) (f : Station → Station) : (h.modStn s f).dma = h.dma := by delta Hw.modStn; rfl
@[simp] theorem modStn_ctxResetAt (s : Nat) (f : Station → Station) : (h.modStn s f).ctxResetAt = h.ctxResetAt := by delta Hw.modStn; rfl
@[simp] theorem modStn_vecShown (s : Nat) (f : Station → Station) : (h.modStn s f).vecShown = h.vecShown := by delta Hw.modStn; rfl
@[simp] theorem modStn_msixFns (s : Nat) (f : Station → Station) : (h.modStn s f).msixFns = h.msixFns := by delta Hw.modStn; rfl
@[simp] theorem modStn_boxes (s : Nat) (f : Station → Station) : (h.modStn s f).boxes = h.boxes := by delta Hw.modStn; rfl
@[simp] theorem modStn_jobs (s : Nat) (f : Station → Station) : (h.modStn s f).jobs = h.jobs := by delta Hw.modStn; rfl
@[simp] theorem modStn_sluice (s : Nat) (f : Station → Station) : (h.modStn s f).sluice = h.sluice := by delta Hw.modStn; rfl
@[simp] theorem modStn_encs (s : Nat) (f : Station → Station) : (h.modStn s f).encs = h.encs := by delta Hw.modStn; rfl
@[simp] theorem modStn_divs (s : Nat) (f : Station → Station) : (h.modStn s f).divs = h.divs := by delta Hw.modStn; rfl
@[simp] theorem modStn_axes (s : Nat) (f : Station → Station) : (h.modStn s f).axes = h.axes := by delta Hw.modStn; rfl
@[simp] theorem modStn_bridges (s : Nat) (f : Station → Station) : (h.modStn s f).bridges = h.bridges := by delta Hw.modStn; rfl
@[simp] theorem modStn_banks (s : Nat) (f : Station → Station) : (h.modStn s f).banks = h.banks := by delta Hw.modStn; rfl
@[simp] theorem modStn_steppers (s : Nat) (f : Station → Station) : (h.modStn s f).steppers = h.steppers := by delta Hw.modStn; rfl
@[simp] theorem modStn_motion (s : Nat) (f : Station → Station) : (h.modStn s f).motion = h.motion := by delta Hw.modStn; rfl
@[simp] theorem modStn_govSlots (s : Nat) (f : Station → Station) : (h.modStn s f).govSlots = h.govSlots := by delta Hw.modStn; rfl
@[simp] theorem modStn_govUnits (s : Nat) (f : Station → Station) : (h.modStn s f).govUnits = h.govUnits := by delta Hw.modStn; rfl
@[simp] theorem modStn_hvs (s : Nat) (f : Station → Station) : (h.modStn s f).hvs = h.hvs := by delta Hw.modStn; rfl
@[simp] theorem modStn_lamps (s : Nat) (f : Station → Station) : (h.modStn s f).lamps = h.lamps := by delta Hw.modStn; rfl
@[simp] theorem modStn_tins (s : Nat) (f : Station → Station) : (h.modStn s f).tins = h.tins := by delta Hw.modStn; rfl
@[simp] theorem modStn_mains (s : Nat) (f : Station → Station) : (h.modStn s f).mains = h.mains := by delta Hw.modStn; rfl
@[simp] theorem modStn_thermal (s : Nat) (f : Station → Station) : (h.modStn s f).thermal = h.thermal := by delta Hw.modStn; rfl
@[simp] theorem modStn_trunks (s : Nat) (f : Station → Station) : (h.modStn s f).trunks = h.trunks := by delta Hw.modStn; rfl
@[simp] theorem modStn_sheets (s : Nat) (f : Station → Station) : (h.modStn s f).sheets = h.sheets := by delta Hw.modStn; rfl
@[simp] theorem modStn_beltHist (s : Nat) (f : Station → Station) : (h.modStn s f).beltHist = h.beltHist := by delta Hw.modStn; rfl
@[simp] theorem modStn_jamAt (s : Nat) (f : Station → Station) : (h.modStn s f).jamAt = h.jamAt := by delta Hw.modStn; rfl
@[simp] theorem modStn_jamEdges (s : Nat) (f : Station → Station) : (h.modStn s f).jamEdges = h.jamEdges := by delta Hw.modStn; rfl
@[simp] theorem modStn_refRamps (s : Nat) (f : Station → Station) : (h.modStn s f).refRamps = h.refRamps := by delta Hw.modStn; rfl
@[simp] theorem modStn_ledger (s : Nat) (f : Station → Station) : (h.modStn s f).ledger = h.ledger := by delta Hw.modStn; rfl
@[simp] theorem modStn_raised (s : Nat) (f : Station → Station) : (h.modStn s f).raised = h.raised := by delta Hw.modStn; rfl
@[simp] theorem modStn_raisedAt (s : Nat) (f : Station → Station) : (h.modStn s f).raisedAt = h.raisedAt := by delta Hw.modStn; rfl
@[simp] theorem modStn_capAt (s : Nat) (f : Station → Station) : (h.modStn s f).capAt = h.capAt := by delta Hw.modStn; rfl
@[simp] theorem modStn_sent (s : Nat) (f : Station → Station) : (h.modStn s f).sent = h.sent := by delta Hw.modStn; rfl
@[simp] theorem modStn_due (s : Nat) (f : Station → Station) : (h.modStn s f).due = h.due := by delta Hw.modStn; rfl
@[simp] theorem modStn_fanIn (s : Nat) (f : Station → Station) : (h.modStn s f).fanIn = h.fanIn := by delta Hw.modStn; rfl
@[simp] theorem modStn_fresh (s : Nat) (f : Station → Station) : (h.modStn s f).fresh = h.fresh := by delta Hw.modStn; rfl

/-! ### setTime -/

@[simp] theorem setTime_regs (t : Stamp) : (h.setTime t).regs = h.regs := by delta Hw.setTime; rfl
@[simp] theorem setTime_used (t : Stamp) : (h.setTime t).used = h.used := by delta Hw.setTime; rfl
@[simp] theorem setTime_frozen (t : Stamp) : (h.setTime t).frozen = h.frozen := by delta Hw.setTime; rfl
@[simp] theorem setTime_latches (t : Stamp) : (h.setTime t).latches = h.latches := by delta Hw.setTime; rfl
@[simp] theorem setTime_waitCommit (t : Stamp) : (h.setTime t).waitCommit = h.waitCommit := by delta Hw.setTime; rfl
@[simp] theorem setTime_commitAt (t : Stamp) : (h.setTime t).commitAt = h.commitAt := by delta Hw.setTime; rfl
@[simp] theorem setTime_shadowWas (t : Stamp) : (h.setTime t).shadowWas = h.shadowWas := by delta Hw.setTime; rfl
@[simp] theorem setTime_mem (t : Stamp) : (h.setTime t).mem = h.mem := by delta Hw.setTime; rfl
@[simp] theorem setTime_w1 (t : Stamp) : (h.setTime t).w1 = h.w1 := by delta Hw.setTime; rfl
@[simp] theorem setTime_boot (t : Stamp) : (h.setTime t).boot = h.boot := by delta Hw.setTime; rfl
@[simp] theorem setTime_pins (t : Stamp) : (h.setTime t).pins = h.pins := by delta Hw.setTime; rfl
@[simp] theorem setTime_mram (t : Stamp) : (h.setTime t).mram = h.mram := by delta Hw.setTime; rfl
@[simp] theorem setTime_headrace (t : Stamp) : (h.setTime t).headrace = h.headrace := by delta Hw.setTime; rfl
@[simp] theorem setTime_codec (t : Stamp) : (h.setTime t).codec = h.codec := by delta Hw.setTime; rfl
@[simp] theorem setTime_stations (t : Stamp) : (h.setTime t).stations = h.stations := by delta Hw.setTime; rfl
@[simp] theorem setTime_peers (t : Stamp) : (h.setTime t).peers = h.peers := by delta Hw.setTime; rfl
@[simp] theorem setTime_chain (t : Stamp) : (h.setTime t).chain = h.chain := by delta Hw.setTime; rfl
@[simp] theorem setTime_surf (t : Stamp) : (h.setTime t).surf = h.surf := by delta Hw.setTime; rfl
@[simp] theorem setTime_belt (t : Stamp) : (h.setTime t).belt = h.belt := by delta Hw.setTime; rfl
@[simp] theorem setTime_tofCalc (t : Stamp) : (h.setTime t).tofCalc = h.tofCalc := by delta Hw.setTime; rfl
@[simp] theorem setTime_dma (t : Stamp) : (h.setTime t).dma = h.dma := by delta Hw.setTime; rfl
@[simp] theorem setTime_ctxResetAt (t : Stamp) : (h.setTime t).ctxResetAt = h.ctxResetAt := by delta Hw.setTime; rfl
@[simp] theorem setTime_vecShown (t : Stamp) : (h.setTime t).vecShown = h.vecShown := by delta Hw.setTime; rfl
@[simp] theorem setTime_msixFns (t : Stamp) : (h.setTime t).msixFns = h.msixFns := by delta Hw.setTime; rfl
@[simp] theorem setTime_boxes (t : Stamp) : (h.setTime t).boxes = h.boxes := by delta Hw.setTime; rfl
@[simp] theorem setTime_jobs (t : Stamp) : (h.setTime t).jobs = h.jobs := by delta Hw.setTime; rfl
@[simp] theorem setTime_sluice (t : Stamp) : (h.setTime t).sluice = h.sluice := by delta Hw.setTime; rfl
@[simp] theorem setTime_encs (t : Stamp) : (h.setTime t).encs = h.encs := by delta Hw.setTime; rfl
@[simp] theorem setTime_divs (t : Stamp) : (h.setTime t).divs = h.divs := by delta Hw.setTime; rfl
@[simp] theorem setTime_axes (t : Stamp) : (h.setTime t).axes = h.axes := by delta Hw.setTime; rfl
@[simp] theorem setTime_bridges (t : Stamp) : (h.setTime t).bridges = h.bridges := by delta Hw.setTime; rfl
@[simp] theorem setTime_banks (t : Stamp) : (h.setTime t).banks = h.banks := by delta Hw.setTime; rfl
@[simp] theorem setTime_steppers (t : Stamp) : (h.setTime t).steppers = h.steppers := by delta Hw.setTime; rfl
@[simp] theorem setTime_motion (t : Stamp) : (h.setTime t).motion = h.motion := by delta Hw.setTime; rfl
@[simp] theorem setTime_govSlots (t : Stamp) : (h.setTime t).govSlots = h.govSlots := by delta Hw.setTime; rfl
@[simp] theorem setTime_govUnits (t : Stamp) : (h.setTime t).govUnits = h.govUnits := by delta Hw.setTime; rfl
@[simp] theorem setTime_hvs (t : Stamp) : (h.setTime t).hvs = h.hvs := by delta Hw.setTime; rfl
@[simp] theorem setTime_lamps (t : Stamp) : (h.setTime t).lamps = h.lamps := by delta Hw.setTime; rfl
@[simp] theorem setTime_tins (t : Stamp) : (h.setTime t).tins = h.tins := by delta Hw.setTime; rfl
@[simp] theorem setTime_mains (t : Stamp) : (h.setTime t).mains = h.mains := by delta Hw.setTime; rfl
@[simp] theorem setTime_thermal (t : Stamp) : (h.setTime t).thermal = h.thermal := by delta Hw.setTime; rfl
@[simp] theorem setTime_trunks (t : Stamp) : (h.setTime t).trunks = h.trunks := by delta Hw.setTime; rfl
@[simp] theorem setTime_sheets (t : Stamp) : (h.setTime t).sheets = h.sheets := by delta Hw.setTime; rfl
@[simp] theorem setTime_beltHist (t : Stamp) : (h.setTime t).beltHist = h.beltHist := by delta Hw.setTime; rfl
@[simp] theorem setTime_jamAt (t : Stamp) : (h.setTime t).jamAt = h.jamAt := by delta Hw.setTime; rfl
@[simp] theorem setTime_jamEdges (t : Stamp) : (h.setTime t).jamEdges = h.jamEdges := by delta Hw.setTime; rfl
@[simp] theorem setTime_refRamps (t : Stamp) : (h.setTime t).refRamps = h.refRamps := by delta Hw.setTime; rfl
@[simp] theorem setTime_ledger (t : Stamp) : (h.setTime t).ledger = h.ledger := by delta Hw.setTime; rfl
@[simp] theorem setTime_raised (t : Stamp) : (h.setTime t).raised = h.raised := by delta Hw.setTime; rfl
@[simp] theorem setTime_raisedAt (t : Stamp) : (h.setTime t).raisedAt = h.raisedAt := by delta Hw.setTime; rfl
@[simp] theorem setTime_capAt (t : Stamp) : (h.setTime t).capAt = h.capAt := by delta Hw.setTime; rfl
@[simp] theorem setTime_sent (t : Stamp) : (h.setTime t).sent = h.sent := by delta Hw.setTime; rfl
@[simp] theorem setTime_due (t : Stamp) : (h.setTime t).due = h.due := by delta Hw.setTime; rfl
@[simp] theorem setTime_fanIn (t : Stamp) : (h.setTime t).fanIn = h.fanIn := by delta Hw.setTime; rfl
@[simp] theorem setTime_fresh (t : Stamp) : (h.setTime t).fresh = h.fresh := by delta Hw.setTime; rfl

@[simp] theorem send_sent (x : Sent) : (h.send x).sent = x :: h.sent := rfl
@[simp] theorem later_due (d : Due) : (h.later d).due = h.due ++ [d] := rfl

end Sys2Proof.Machine
end

