-- ==== Sys2Proof/Laws/Shared.lean ====
section
/-! SUPPORT. What each shared operation can do, said once: the end of a meaning, a register write, a raise, the end of a step, and
writes of the Millpond. -/

namespace Sys2Proof.Machine

/-! ### The end of a meaning and of a step -/

/-- A meaning that ends with `finish` answers the settled state. -/
theorem finish_eq (s : State) (h : Hw) : finish s h = .next (s.settled h) := rfl

@[simp] theorem settled_hw (s : State) (h : Hw) : (s.settled h).hw = h.settle := rfl
@[simp] theorem settled_pending (s : State) (h : Hw) : (s.settled h).pending = s.pending := rfl

/-- With no follow-up left, the end of a step only drives the LEN outputs. -/
theorem settle_quiet {h : Hw} (q : h.due = []) : h.settle = h.driveLen := by
  have e : h.settleN 4096 = h := by
    show Hw.settleN (4095 + 1) h = h
    unfold Hw.settleN
    rw [q]; rfl
  unfold Hw.settle
  rw [e, ← q]

/-! ### A loop that keeps a property -/

theorem forN_keeps {α : Type} (P : α → Prop) (n : Nat) (f : Nat → α → α) (a : α) (h : P a) (step : ∀ i b, P b → P (f i b)) :
    P (forN n f a) := by
  unfold forN
  induction List.range n generalizing a with
  | nil => exact h
  | cons i l ih => exact ih (f i a) (step i a h)

/-! ### A register write (R398, R465) -/

/-- A write that is taken has its effect; then the fabric transaction is accounted for. -/
theorem writeTo_takes {h : Hw} {m : Master} {a : Nat} (t : h.takes m a = true) (f : Hw → Hw) :
    h.writeTo m a f = (f h).fabricUse (pageBase a) := by
  simp only [Hw.takes, Bool.and_eq_true, Bool.or_eq_true, decide_eq_true_eq] at t
  obtain ⟨⟨⟨t1, t2⟩, t3⟩, t4⟩ := t
  unfold Hw.writeTo
  rw [if_neg (by simp [t1, t2]), if_neg (by simp [t3]), if_neg]
  rcases t4 with t4 | t4
  · simp; omega
  · simp [t4]

/-- The same of a write of a DMA channel's register (R398, R407). -/
theorem dmaWrite_takes {h : Hw} {m : Master} {k a : Nat} (t : h.takes m a = true) (f : Hw → Hw) :
    h.dmaWrite m k a f = (f h).fabricUse (pageBase a) := by
  unfold Hw.dmaWrite
  rw [if_neg (by simp only [Hw.takes, Bool.and_eq_true] at t; simp [t.1.2])]
  exact writeTo_takes t f

/-! ### What changes nothing but registers, messages and follow-ups -/

namespace Says

variable {h g : Hw}

theorem refl (h : Hw) : Says h h := ⟨h.regs, h.sent, h.due, h.raised, h.raisedAt, h.capAt, h.msixFns, rfl⟩
theorem trans {k : Hw} (e : Says h g) (e' : Says g k) : Says h k := by
  obtain ⟨r, x, d, rs, t, c, m, rfl⟩ := e; obtain ⟨r', x', d', rs', t', c', m', rfl⟩ := e'
  exact ⟨r', x', d', rs', t', c', m', rfl⟩
theorem setWord (e : Says h g) (a : Nat) (v : Word) : Says h (g.setWord a v) :=
  e.trans ⟨_, g.sent, g.due, g.raised, g.raisedAt, g.capAt, g.msixFns, rfl⟩
theorem wri (e : Says h g) (p : Nat) (f : Field) (i v : Nat) : Says h (g.wri p f i v) := e.setWord _ _
theorem wr (e : Says h g) (p : Nat) (f : Field) (v : Nat) : Says h (g.wr p f v) := e.wri _ _ _ _
theorem wr2 (e : Says h g) (p : Nat) (f k : Field) (i v : Nat) : Says h (g.wr2 p f k i v) := (e.wri _ _ _ _).wri _ _ _ _
theorem inc (e : Says h g) (p : Nat) (f : Field) : Says h (g.inc p f) := e.wri _ _ _ _
theorem setBit (e : Says h g) (p : Nat) (f : Field) (b : Nat) (v : Bool) : Says h (g.setBit p f b v) := e.wr _ _ _
theorem send (e : Says h g) (y : Sent) : Says h (g.send y) :=
  e.trans ⟨g.regs, _, g.due, g.raised, g.raisedAt, g.capAt, g.msixFns, rfl⟩
theorem later (e : Says h g) (y : Due) : Says h (g.later y) :=
  e.trans ⟨g.regs, g.sent, _, g.raised, g.raisedAt, g.capAt, g.msixFns, rfl⟩
theorem raised (e : Says h g) (rs : List Raised) (t : Stamp) : Says h { g with raised := rs, raisedAt := t } :=
  e.trans ⟨g.regs, g.sent, g.due, rs, t, g.capAt, g.msixFns, rfl⟩
theorem capAt (e : Says h g) (c : Tab (Option Stamp)) : Says h { g with capAt := c } :=
  e.trans ⟨g.regs, g.sent, g.due, g.raised, g.raisedAt, c, g.msixFns, rfl⟩
theorem msixFns (e : Says h g) (m : Tab MsixFn) : Says h { g with msixFns := m } :=
  e.trans ⟨g.regs, g.sent, g.due, g.raised, g.raisedAt, g.capAt, m, rfl⟩
theorem ite {c : Prop} [Decidable c] {a b : Hw} (x : Says h a) (y : Says h b) : Says h (if c then a else b) := by
  split
  · exact x
  · exact y

end Says

/-! ### A raise (R452–R456) -/

theorem says_capture (h : Hw) (p i : Nat) (c : Cap) : Says h (h.capture p i c) :=
  (((((((((Says.refl h).wr2 _ _ _ _ _).wr _ _ _).wr _ _ _).wr _ _ _).wr _ _ _).wr _ _ _).wr2 _ _ _ _ _)).capAt _

theorem says_record (h : Hw) (p i : Nat) (c : Cap) : Says h (h.record p i c) := by
  unfold Hw.record
  extract_lets takes count g k
  have e : Says h k := ((Says.refl h).raised _ _).setBit _ _ _ _
  exact (Says.ite (e.trans (says_capture _ _ _ _)) e).wr _ _ _

theorem says_stopFantail (h : Hw) (k p i : Nat) : Says h (h.stopFantail k p i) := by
  have e := (((Says.refl h).wr pFANTAIL FANTAIL.FT_STS_TOGGLING 0).wr pFANTAIL FANTAIL.FT_STS_CAUSE k).inc pFANTAIL FANTAIL.FT_STOPS
  exact Says.ite ((e.wr _ _ _).wr _ _ _) e

theorem says_msixOut (h : Hw) (c v : Nat) : Says h (h.msixOut c v) := Says.ite ((Says.refl h).send _) ((Says.refl h).msixFns _)

/-- A raise changes registers, what the module has sent or holds back, and what is left for the end of the step, and nothing else. -/
theorem says_raiseN (n p i : Nat) (c : Cap) (h : Hw) : Says h (Hw.raiseN n p i c h) := by
  induction n generalizing p i c h with
  | zero => exact Says.refl h
  | succ n ih =>
    have trap : ∀ {g : Hw} (k : Nat), Says h g →
        Says h (if bitAt k 1 then (if g.kernelRuns then g.send (.trap p i) else g.inc p FACE.FE_COUNT) else g) :=
      fun _ e => Says.ite (Says.ite (e.send _) (e.inc _ _)) e
    unfold Hw.raiseN
    extract_lets code h1 sends g x v h2 h3 k
    have e1 : Says h h1 := says_record h p i c
    have eg : Says h g := e1.setBit _ _ _ _
    have e2 : Says h h2 :=
      Says.ite (Says.ite (Says.ite (eg.send _) (Says.ite (eg.trans (says_msixOut _ _ _)) ((eg.inc _ _).trans (ih _ _ _ _)))) eg) e1
    have e3 : Says h h3 := Says.ite ((e2.trans (says_stopFantail _ _ _ _)).trans (ih _ _ _ _)) e2
    refine Says.ite (Says.ite ((trap _ e3).later _) (trap _ e3)) ?_
    have e4 := trap code e3
    unfold Hw.react
    exact Says.ite (Says.ite (e4.later _) (e4.later _)) e4

theorem says_raise (h : Hw) (p i : Nat) (c : Cap) : Says h (h.raise p i c) := says_raiseN 6 p i c h

/-- A refusal, an unsupported request and the account of a fabric transaction change no more than a raise does, but for the log. -/
theorem says_refuse (h : Hw) (m : Master) (o : Nat) (w1 wr : Bool) : Says h (h.refuse m o w1 wr) :=
  ((Says.refl h).inc _ _).trans (says_raise _ _ _ _)

/-! ### The Millpond (R59) -/

theorem byte_putByte_same (h : Hw) (a : Nat) (b : Byte) : (h.putByte a b).byte a = b := by simp [Hw.byte, Hw.putByte]

theorem byte_putByte_other (h : Hw) {a x : Nat} (b : Byte) (n : x ≠ a) : (h.putByte a b).byte x = h.byte x := by
  simp [Hw.byte, Hw.putByte, tget_tset_other _ _ _ n]

/-- The canonical form of memory is the canonical form of a table. -/
theorem memory_wf_eq (m : List Host.Cell) : Memory.wf m = twf (fun _ => (0 : Byte)) m := by
  induction m with
  | nil => rfl
  | cons e m ih => obtain ⟨a, b⟩ := e; simp [Memory.wf, twf, ih]

/-- Writing a byte keeps memory canonical. -/
theorem memory_wf_putByte {h : Hw} (w : Memory.wf h.mem = true) (a : Nat) (b : Byte) : Memory.wf (h.putByte a b).mem = true := by
  rw [memory_wf_eq] at *; exact twf_tset w

/-- Writing bytes keeps memory canonical. -/
theorem memory_wf_putBytes {h : Hw} (w : Memory.wf h.mem = true) (a : Nat) (bs : List Byte) : Memory.wf (h.putBytes a bs).mem = true := by
  induction bs generalizing h a with
  | nil => exact w
  | cons b bs ih => exact ih (memory_wf_putByte w a b) (a + 1)

/-- Reset memory is canonical. -/
theorem memory_wf_reset : Memory.wf State.reset.hw.mem = true := rfl

/-- Writing bytes changes memory only. -/
theorem putBytes_shape (h : Hw) (a : Nat) (bs : List Byte) : ∃ m, h.putBytes a bs = { h with mem := m } := by
  induction bs generalizing h a with
  | nil => exact ⟨h.mem, rfl⟩
  | cons b bs ih => obtain ⟨m, e⟩ := ih (h.putByte a b) (a + 1); exact ⟨m, by rw [Hw.putBytes, e]; rfl⟩

end Sys2Proof.Machine
end

