-- ==== Sys2Proof/Tests/Slice0.lean ====
section
/-! SUPPORT. The smoke test of well-formedness, small tests on values the spec prints, and for every statement with hypotheses a
witness that meets them. -/

namespace Sys2Proof.Tests
set_option maxRecDepth 100000
set_option Elab.async false
set_option linter.unusedVariables false
open Sys2Proof Sys2Proof.Machine

/-! ### Well-formedness -/

def aTs : TsRec := ⟨1, 0, 0, 1, 1, 1, 0, 0, 2, 4, 100, 0, 0, 0, 0, 0⟩
def aFrame : Frame := ⟨0, 0, 0, 0, 0, 0, []⟩

theorem test_wf_accepts : (Instr.ivinaTs1 (.peer 0) 1 0).wf = true ∧ (Instr.memWrite 0 0 [1, 2, 3, 4]).wf = true
    ∧ (Instr.atomicOp 0 0 false (.swap 5)).wf = true ∧ Instr.ready.wf = true := by decide
theorem test_wf_lane : (Instr.ivinaTs1 (.peer 0) 2 0).wf = false ∧ (Instr.laneSignalLoss (.peer 1) 2).wf = false := by decide
theorem test_wf_ts : aTs.fits = true ∧ { aTs with tsType := 256 }.fits = false ∧ { aTs with serial := 2 ^ 64 }.fits = false := by decide
theorem test_wf_frame : (Instr.regReply 0 { aFrame with ch := 8 }).wf = false
    ∧ (Instr.regReply 0 { aFrame with param := 2 ^ 64 }).wf = false := by decide
theorem test_wf_atomic : (Instr.atomicOp 0 0 false (.swap (2 ^ 32))).wf = false
    ∧ (Instr.atomicOp 0 0 true (.cas (2 ^ 32) (2 ^ 64))).wf = false := by decide
theorem test_wf_body (bytes : List Byte) (h : bytes.length = 2 ^ 18) : (Instr.memWrite 0 0 bytes).wf = false := by
  show decide (bytes.length < 2 ^ 18) = false
  rw [h]; rfl

/-! ### Values the spec prints -/

/-- 04: the check value of the CRC-32C parameters over the bytes of 123456789. -/
theorem test_crc32c : crc32c ((List.range 9).map fun i => BitVec.ofNat 8 (0x31 + i)) = 0xE3069283 := by decide +kernel

/-- 02, worked example: rho times h, and SURF_TOF of station 3. -/
theorem test_tof : rhoTimes 1073763299 671244 = 671257 ∧ 12500000 + rhoTimes 1073763299 671244 - 665197 = (12506060 : Int) := by decide

/-- 04, worked example: the code bits of the four predictors at K 0 in row 1, and the 46 bits of its tag field. -/
def exRow0 : List Sample := List.replicate 256 ⟨400, 0⟩
def exRow1 : List Sample :=
  List.replicate 100 ⟨400, 0⟩ ++ [⟨403, 5⟩, ⟨410, 5⟩, ⟨410, 5⟩, ⟨396, 5⟩] ++ List.replicate 152 ⟨400, 0⟩
theorem test_codec_preds : ([0, 1, 2, 3].map fun p => (putPred p 0 none none (exRow0.map Sample.tone) (exRow1.map Sample.tone)).length)
    = [309, 319, 309, 326] := by decide +kernel
theorem test_codec_tags : (putTags 1 (exRow0.map Sample.tag) (exRow1.map Sample.tag)).length = 46
    ∧ putTags 1 (List.replicate 256 0) (exRow0.map Sample.tag) = [true] := by decide +kernel
/-- The bytes the example prints: row 0 is FLAT with TSAME, row 1 begins with MODE 10, P and K 0 and its tag field. -/
theorem test_codec_bytes : packMsb 9 (([false, true] ++ putMsb 10 400 ++ [true] ++ [true, false] ++ putMsb 2 0 ++ putMsb 4 0
    ++ putTags 1 (exRow0.map Sample.tag) (exRow1.map Sample.tag)).take 40) = [0x59, 0x0C, 0x00, 0x00, 0xC8] := by decide +kernel

/-- 05, worked example: the warp of pixel 40,000 of line 10,001, and its rendering by set 3 in each edge mode. -/
def put16 (r : Region) (o : Nat) (v : Int) : Region := fun a =>
  if a = o then BitVec.ofInt 8 v else if a = o + 1 then BitVec.ofInt 8 (v / 256) else r a
def exWarp : Region :=
  let base : Region := fun a => if a = 0 then 1 else if a = 1 then 1 else defaultWarp a
  put16 (put16 (put16 (put16 base (0x40 + 4 * 39) 300) (0x42 + 4 * 39) (-1200)) (0x40 + 4 * 40) 316) (0x42 + 4 * 40) (-1180)
def exRend (mode : Nat) : Region :=
  let o := 3 * 0x9000
  let f (r : Region) (a : Nat) (v : Byte) : Region := fun x => if x = o + a then v else r x
  let r : Region := f (f (f (f (fun _ => 0) 2 15) 3 (BitVec.ofNat 8 mode)) 0x4D 55) 0x4E 59
  put16 (put16 (put16 (put16 (put16 (put16 (put16 r (o + 4) 24) (o + 6) 24) (o + 8) 7) (o + 0xE) 256) (o + 0x800 + 2 * 869) 3552)
    (o + 0x800 + 2 * 900) 3700) (o + 0x1340) 1900
def exSample (_row col : Nat) : Sample := if col ≤ 11613 then ⟨200, 1⟩ else ⟨900, 1⟩
def exCtx : RenderCtx := { width := 23622, length := 47244, xOff := 16774, rsetMap := 0x30, outside := 0 }
theorem test_warp : uOf exWarp 16774 40000 10001 = 2973165 ∧ vOf exWarp 40000 10001 10 = 1278885 := by decide +kernel
theorem test_resample : resample exWarp exSample 23622 47244 2973165 1278885 = 869 := by decide +kernel
theorem test_render_modes : ((List.range 4).map fun m => (renderPixel exCtx exWarp (exRend m) exSample 10 10001 40000).code)
    = [55, 55, 55, 59] := by decide +kernel

/-- 06, worked example: the facet after n = 10,000 at a = 1512, and the two facets after it at a = 1542. -/
def exPlanner : Planner := { Planner.reset with e := 10024, sp0 := 10001, sp1 := 10024, nNext := 10000, qNext := 640020, dual := true, started := true }
def exIn (q a : Int) : PlanIn := { q := q, a := a, len := 94488, retHold := 32, before := 0, max16 := 4095, force := false, prefilled := true }
def planned (q a : Int) (p : Planner) : Option (Int × Int × Nat × Int × Planner) :=
  match planFacet (exIn q a) p with
  | .ok o => some (o.n, o.k, o.lines, o.phi, o.pl)
  | .error _ => none
theorem test_plan : (planned 640020 1512 exPlanner).map (fun x => (x.1, x.2.1, x.2.2.1, x.2.2.2.1)) = some (10000, 24, 24, 8) := by decide +kernel
theorem test_plan_fast :
    let a := planned 640020 1542 exPlanner
    let b := a.bind fun x => planned 641562 1542 x.2.2.2.2
    let c := b.bind fun x => planned 643104 1542 x.2.2.2.2
    a.map (fun x => (x.1, x.2.1, x.2.2.1, x.2.2.2.1)) = some (10000, 24, 24, 23)
      ∧ b.map (fun x => (x.1, x.2.1, x.2.2.1, x.2.2.2.1)) = some (10024, 25, 24, 26)
      ∧ c.map (fun x => (x.1, x.2.1, x.2.2.1, x.2.2.2.1, x.2.2.2.2.dual)) = some (10049, 24, 24, -32, false) := by decide +kernel

/-- 08, worked example: the powers of steps 9 and 5, and the encoding of the pulses. -/
def exEmit : Region := put16 (put16 (put16 (put16 (put16 (put16 (fun _ => 0) (0x40 + 10) 300) (0x40 + 18) 600) (0x60 + 60) 17203)
  (0x800 + 196 * 30 + 100) 31785) 0x240 0x4A84) 0x242 0x289A
theorem test_power : drivePower exEmit 30 50 9 = 611 ∧ drivePower exEmit 30 50 5 = 306 := by decide +kernel
theorem test_pulse : [emPulse exEmit 40 0, emPulse exEmit 40 1].map (fun p => (pulseStart p, pulseWidth p, pulseStep p))
    = [(4, 20, 9), (26, 4, 5)] := by decide +kernel

/-- 09, worked example: PARAM of the frame of line 10,024, and the word of four level codes. -/
theorem test_line_frame : (lineFrame 0x123 10024 []).param = 0x272800123 ∧ packCodes [55, 55, 59, 63] = [0xF7, 0xBD, 0xFF] := by decide +kernel

/-- 11, worked example: window opening at T = 25,000 ns moves only U, 750 ns earlier. -/
theorem test_windows :
    let p := (openWindows [31000, 30000, 19000] 50000 2000).1
    (p.maxPh, p.midPh, p.minPh, p.lead, p.trail) = (0, 1, 2, [8000, 10000, 15500], [39000, 40000, 34500]) := by decide +kernel

/-- 14, worked example: sample n of the CHARGE loop in region 1, and the integrator after a clamp at 30,000. -/
def le4 (v : Int) : List Byte := [0, 8, 16, 24].map fun k => BitVec.ofInt 8 (v / 2 ^ k)
def exBank (outMax : Int) : List (Nat × List Byte) :=
  [(1, [6]), (4, le4 410), (8, le4 8192), (0x18, le4 outMax), (0x70, [2, 0, 0xFF]), (0x74, le4 6710886), (0x78, le4 (-5033165)),
    (0x84, le4 (-2516582)), (0x90, le4 3355443), (0x94, le4 4194304)]
def exGov (outMax : Int) : Hw :=
  let t := (exBank outMax).foldl (fun h x => (List.range x.2.length).foldl (fun h i => h.putTable (govBase 10 0 + x.1 + i) (x.2.getD i 0)) h) Hw.reset
  let t := (t.slWr 10 GOV.SL_CFG_ORDER 1).slWr 10 GOV.SL_CFG_INT_EN 1
  let a := addrOf GOV.SL_CFG_ORDER (govPage 10) 10
  (t.setBoth a (t.word a)).modGov 10 fun g => { g with e := [300], u := [900], i := 30000, w := 0 }
def exSampleGov : GovSample := ⟨10, 14136, 14336, 0, 0, 0, false, 0, 0, none⟩
theorem test_gov_region : (exGov 52428).govRegion exSampleGov = 1 := by decide +kernel
theorem test_gov_eval : let c := (exGov 52428).govCompute exSampleGov 1
    c.1 = 30230 ∧ c.2.1 = 30230 ∧ c.2.2.u.head? = some 190 ∧ c.2.2.i = 30040 ∧ c.2.2.w = 0 := by decide +kernel
theorem test_gov_antiwindup : let c := (exGov 30000).govCompute exSampleGov 1
    let h := (exGov 30000).modGov 10 fun _ => c.2.2
    c.2.1 = 30000 ∧ c.2.2.w = -230 ∧ (h.govCompute exSampleGov 1).2.2.i = 30022 := by decide +kernel

/-- 17, worked example: die sensor 13 disagrees with every valid neighbour and takes the highest plus 4.00 °C. -/
def exReading : Reading :=
  { raw := (List.range 44).map fun i => if i = 13 then 7120 else if i = 5 then 8410 else if i = 21 then 8530 else if i = 12 then 8370 else 8600
    bad := 0, model := [0, 0, 0], un := [] }
theorem test_sensor : Hw.reset.effective exReading 13 = (9000, true) := by decide +kernel

/-- 18, worked example: DIS VHEAD_4 with ARG 1000. -/
theorem test_sluice_step : (1000 * 2 ^ 32 + 22 * 2 ^ 4 + 2 : Nat) = 0x000003E800000162 := by decide

/-- 24, worked example: ST[4].EMIT lies at W0 0xA_4000, its PAGE_ID reads 0x2404_0000, and bank 1 of its table lies at W1 0x4_4000. -/
theorem test_emit_page : pEMIT 4 = 0xA4000 ∧ regReset 0xA4000 = 0x24040000 ∧ emitBase 4 1 = 0x44000 := by decide +kernel

/-! ### Steps -/

theorem test_step_runs : step { State.reset with pending := [.sealClose, .sealOpen] } = exec .sealClose { State.reset with pending := [.sealOpen] } := rfl
theorem test_step_idle : step State.reset = .next (idle State.reset) := rfl
theorem test_unmapped : clsOf (pageBase 0x3F000) = none ∧ clsOf (pageBase 0x50000) = none ∧ clsOf (pageBase 0xC0000) = none := by decide +kernel
theorem test_word_spells_nothing : decodeTableWord 0 0 = none := rfl

/-! ### Small states -/

/-- A state with some hardware and nothing waiting. -/
def wOf (h : Hw) : State := ⟨h, []⟩

/-- The hardware once the module is READY: powered, out of reset, its blocks running. -/
def upHw : Hw := { Hw.reset with boot := { Boot.reset with vaon := true, tested := true } }.wr pIDENT IDENT.MOD_STS_STATE 2

def up : State := wOf upHw
/-- READY, with one change. -/
def with_ (f : Hw → Hw) : State := wOf (f upHw)

/-- Every rail on and good. -/
def rails (h : Hw) : Hw :=
  (((h.wr pSUPPLY SUPPLY.RAIL_EN_LO 0xFFFFFFFF).wr pSUPPLY SUPPLY.RAIL_PG_LO 0xFFFFFFFF).wr pSUPPLY SUPPLY.RAIL_EN_HI 7).wr
    pSUPPLY SUPPLY.RAIL_PG_HI 7

def booting : State := wOf (rails (upHw.wr pIDENT IDENT.MOD_STS_STATE 0))
def noImage : State := wOf { rails (upHw.wr pIDENT IDENT.MOD_STS_STATE 0) with
  boot := { upHw.boot with slotA := emptySlot, slotB := emptySlot } }
def testing : State := with_ fun h => h.wr pIDENT IDENT.MOD_STS_STATE 1
def tested : State := with_ fun h => (h.wr pIDENT IDENT.MOD_STS_STATE 1).wr pSUPPLY SUPPLY.MBUS_V_CAP 4800
def resetLow : State := wOf { upHw with boot := { upHw.boot with resetNLow := true } }
def oneLoop : State := wOf { upHw with pins := { Pins.reset with ilk2 := true } }
def estopsShut : State := wOf { (upHw.wr (pGATE 0) GATE.GD_STS_BANK_OFF 0).wr (pGATE 3) GATE.GD_STS_BANK_OFF 0 with
  pins := { Pins.reset with estop1 := true, estop2 := true } }
def sealed : State := wOf { upHw with pins := { Pins.reset with sealClosed := true } }
def pressed : State := wOf { upHw with pins := { Pins.reset with buttonEnds := some 0 } }
def viewed : State := with_ fun h => h.wri pHOST HOST.COM_LIMIT 0 1
def counted : State := wOf (upHw.modEnc 0 fun e => { e with hist := [(7, true)] })

/-- A page of one row and one column on station 0. -/
def aPage : PageRec :=
  { desc := 1, ctx := 0, pageId := 0, jobId := 0, mask := 1, grade := 0, media := 0, reprintMax := 0, autoReprint := false, web := false
    widthIn := 64, lengthIn := 64, xOff := 0, sheetLen := 210000, tofUm := 0, planes := [], state := .exposing, attempt := 0, reason := 0
    beltP := 0, fed := false, stn := [] }
def withPage (h : Hw) (g : PageRec) : Hw := h.modHr fun r => { r with pages := [g] }
def ready1 : PageRec := { aPage with state := .admitted, desc := 1 }
def resident1 : PageRec := { aPage with state := .resident }
def aSlot : Slot := ⟨0, 0, 210000, 0, 64, 1, ⟨0, [], 0, 0⟩⟩

def exposing : State := wOf (withPage upHw aPage)
def driven : State := with_ fun h =>
  ((h.setBoth (addrOf TIME.SURF_CFG_ENC_CH pTIME 0) 0).wr (pFEEDBACK 0) FEEDBACK.CH_STS_STOPPED 0).wr (pAXIS 8) AXIS.AX_STS_STATE 7
def tofBusy : State := with_ fun h => h.wr pTIME TIME.TOF_CTRL_BUSY 1
def submitted : State := with_ fun h => h.modHr fun r => { r with queue := [.submit 0 1] }
def planeWaits : State := wOf ((withPage upHw aPage).modHr fun r => { r with queue := [.planeReady 0 1 0] })
def planeUnder : State := wOf ((withPage upHw aPage).modHr fun r => { r with verifying := some (0, 1, 0) })
def withdrawWaits : State := wOf ((withPage upHw resident1).modHr fun r => { r with queue := [.withdraw 0 1] })
def slotReadyState : State := wOf ((withPage upHw resident1).modHr fun r => { r with slot := some aSlot })
def gradePending : State := with_ fun h => h.wr pHEADRACE HEADRACE.HR_STS_PEND_VALID 1
def gradeAndBank : State := with_ fun h => (h.wr pHEADRACE HEADRACE.HR_STS_PEND_VALID 1).wr pHEADRACE HEADRACE.GT_BANK_SWITCH_PEND 1
def bankPending : State := with_ fun h => h.wr pHEADRACE HEADRACE.GT_BANK_SWITCH_PEND 1
def forecasting : State := with_ fun h => h.wr pHEADRACE HEADRACE.HR_CTRL_FORECAST_EN 1
def calm : State := wOf ((forecasting.hw.wr pHEADRACE HEADRACE.HR_STS_FC_GRADE 1).modHr fun r => { r with marginSince := some 0 })
def rendering : State := wOf ((withPage upHw { aPage with lengthIn := 256 }).modMill 0 fun m => { m with cur := some 1, complete := 2, released := 1 })
def aReq : LineReq := ⟨0, 0, 100⟩
def filled : PageRec := { aPage with stn := [{ OnStation.reset with prefilled := true }] }
def lineWaits : State := wOf ((withPage upHw filled).modMill 0 fun m => { m with cur := some 1, complete := 1, reqs := [aReq] })
theorem clampTap_small (n : Nat) (x : Int) (h : n = 64) : clampTap n x / 64 < 1 := by
  subst h; unfold clampTap clampI; omega
/-- The rows of a line of the small page lie in its first band, whatever the warp. -/
theorem line_rows_small (r : LineReq) :
    (lineWaits.hw.lineRows ((0 : StationNo) : Nat) filled r).2 / 64 < (lineWaits.hw.mill ((0 : StationNo) : Nat)).complete := by
  have c : (lineWaits.hw.mill ((0 : StationNo) : Nat)).complete = 1 := by decide +kernel
  have l : filled.lengthIn = 64 := by decide +kernel
  rw [c]
  unfold Hw.lineRows
  dsimp only
  exact clampTap_small _ _ l
theorem lineMemAt_clean (s : Nat) (g : PageRec) : lineMemAt s g .clean = none := rfl
def jobWaits : State := wOf { upHw.wr pCODEC CODEC_ENC.ENC_CTRL_ENC_EN 1 with codec := { Codec.reset with queue := [(1, kernelMaster)] } }
def aJob : EncJob := ⟨1, kernelMaster, [], 0, 0, 0, 0, 0, false⟩
def encoding : State := wOf (upHw.setEncoder 0 (some aJob))
def checking : State := wOf (upHw.modStn 0 fun t =>
  { t with screenSw := .validating, warpSw := .validating, emit := { t.emit with sw := .validating } })
def facetNine : State := wOf (upHw.modFac 0 fun f => { f with num := some 9, eosSeen := true })
/-- Eleven BD_SOS edges 1000 ns apart, newest first. -/
def edges : List Stamp := (List.range 11).map fun k => BitVec.ofNat 64 (1024000 * (20 - k))
def spinning : State := with_ fun h =>
  ((h.wr (pSWATH 0) SWATH.SW_CTRL_EN 1).wr (pSCANCLK 0) SCANCLK.SC_STS_LOCKED 1).modFac 0 fun f =>
    { f with num := some 0, sos := edges, eos := edges.map some }
/-- SCLK_0 may start: EN 1, the PLL locked to a pair with DIV_ACT0 of 16 and PIX0_SCLK 1. -/
def readyToStart : State := with_ fun h =>
  let u := (h.wr (pSCANCLK 0) SCANCLK.SC_CTRL_EN 1).wr (pSCANCLK 0) SCANCLK.SC_STS_PLL_LOCK 1
  (u.wr (pSCANCLK 0) SCANCLK.DIV_ACT0 0x10000000).wr (pSCANCLK 0) SCANCLK.DIV_ACT1 0x100
def sclkRuns : State := with_ fun h => h.wr (pSCANCLK 0) SCANCLK.SC_STS_RUNNING 1
def eosCame : State := wOf (spinning.hw.modFac 0 fun f => { f with eosSeen := true })
def relocking : State := wOf (upHw.modFac 0 fun f => { f with relock := true })

/-- Link l up, with lane 0 in a state. -/
def linked (l : LinkId) (x : Lane) (h : Hw) : Hw :=
  let u := h.modLane l 0 fun _ => x
  match l with
  | .head s => u.wr (pIVINA s) IVINA.IV_STS_LINK_UP 1
  | .peer p => u.wr (LinkId.peer p).page PEER.PR_STS_LINK_UP 1
def laneIn (st : LaneState) : State := wOf (linked (.head 0) { Lane.reset with st := st, aligns := 8 } upHw)
def headHw : Hw := linked (.head 0) { Lane.reset with st := .active } upHw
def headOn : State := wOf headHw
def headTests : State := wOf (headHw.modEmit 0 fun e => { e with testing := true })
def downloading : State := wOf (headHw.modEmit 0 fun e => { e with sw := .downloading })
def clearing : State := wOf (headHw.modEmit 0 fun e => { e with deadClr := true })
def frameOut : State := wOf (headHw.modChan (.head 0) 3 fun c => { c with unacked := [⟨0, 0, 0, 0, 0, 0, []⟩], credits := 1 })
def firstAlign : AlignRec := ⟨0, 0, 1, 7, 0⟩
def firstFields : BitVec 54 := BitVec.ofNat 54 (2 ^ 16 + 7 * 2 ^ 48)
def peerOn : State := wOf (linked (.peer 0) { Lane.reset with st := .active } upHw)
def lenReady : State := wOf { upHw with
  clk := ⟨102400000000, 0, 0, 100000000⟩, pins := { Pins.reset with ilk1 := true, ilk2 := true, estop1 := true, estop2 := true } }

def encoderOn : State := with_ fun h => (h.wr (pFEEDBACK 0) FEEDBACK.CH_CFG_EN 1).wr (pFEEDBACK 0) FEEDBACK.CH_CFG_LOSS_EN 1
/-- A frame of n position bits, all 0, with neither error nor warning. -/
def goodPosition : List Bool := List.replicate 32 false
def goodCrc : BitVec 6 := 58
def bissOn : State := with_ fun h => (h.wr (pFEEDBACK 0) FEEDBACK.CH_CFG_EN 1).wr (pFEEDBACK 0) FEEDBACK.CH_CFG_MODE 3
def dividing : State := wOf ((upHw.wr (pFEEDBACK 2) FEEDBACK.DIV_CFG_EN 1).modDiv 0 fun d => { d with backlog := [true] })
def axisIn (n st : Nat) : State := with_ fun h => h.wr (pAXIS n) AXIS.AX_STS_STATE st
def axisSilent : State := wOf { (axisIn 0 7).hw with clk := { upHw.clk with cycles := 10 ^ 12 } }
def axisHeld : State := with_ fun h => h.wr (pAXIS 0) FACE.PAGE_STS_RUNNING 0
/-- Polygon axis 0 in RUN, with both windows of the period before open. -/
def axisSampled : State := wOf ((axisIn 0 7).hw.modAx 0 fun a => { a with plan := some ⟨0, 1, 2, [0, 0, 0], [0, 0, 0], true, true⟩ })
/-- Polygon axis 0 in RUN within 0.04 % of its speed, its scan clock locked and its speed slot linked to slot 0. -/
def engaging : State := with_ fun h =>
  let u := (h.wr (pAXIS 0) AXIS.AX_STS_STATE 7).wr (pSCANCLK 0) SCANCLK.SC_STS_LOCKED 1
  let v := (u.wr (pAXIS 0) AXIS.SPEED_EST (16 * u.polyRpm u.runGrade)).wr (pAXIS 0) AXIS.AX_CFG_GOV_SLOT 1
  (v.slWr 1 GOV.SL_LINK_REF_SLOT 0).slWr 1 GOV.SL_LINK_REF_ADD 1
def booted : State := with_ fun h => h.wr (pGATE 0) GATE.BOOT_OK 1
def bankBack : State := with_ fun h => (h.wr (pGATE 0) GATE.GD_STS_VGD_OK 1).wr (pGATE 0) GATE.GD_STS_BANK_OFF 1
def gated : State := with_ fun h => h.wr (pGATE 0) GATE.GD_STS_VGD_OK 1
def stepIn (st : Nat) : State := with_ fun h => h.wr (pSTEP 0) STEP.STEP_STS_STATE st
def motionOff : State := with_ fun h => h.wr pMOTION FACE.PAGE_STS_RUNNING 0
def grouped : State := with_ fun h => h.wr pMOTION MOTION.GRP_CFG_EN 1
def groupMoves : State := wOf (grouped.hw.wr pMOTION MOTION.GRP_STS_MOVING 1)
def rdvOn : State := with_ fun h => h.wr pMOTION MOTION.RDV_STS_STATE 1
def aSample : GovSample := ⟨0, 0, 0, 0, 0, 0, false, 0, 0, none⟩
def evaluatingLate : State := wOf { upHw.modGovU 0 fun g => { g with queue := [aSample] } with clk := { upHw.clk with time := 10 ^ 12 } }
def evaluating : State := wOf (upHw.modGovU 0 fun g => { g with queue := [aSample] })
/-- Slot 0 with a coefficient bank that no check fails: version 1 and a highest limit of 1. -/
def slotGood : State := wOf ((upHw.putTable (govBase 0 0) 1).putTable (govBase 0 0 + 0x18) 1)
def slotOn : State := with_ fun h => h.slWr 0 GOV.SL_CFG_EN 1
def slotValidating : State := wOf (upHw.modGov 0 fun s => { s with validating := true })
def setPending : State := with_ fun h => h.wr (pHVIO 0) HVIO.PT_BANK_SWITCH_PEND 1
/-- Slot 0 drives HV channel 0, and a page that prints on its station is ADMITTED. -/
def ramping : State := wOf ((withPage upHw ready1).setBoth (addrOf GOV.SL_LINK_TGT (govPage 0) 0) 1)
def mainsGood : State := with_ fun h => h.wr pLAMP LAMP.LP_STS_ZC_OK 1
def crossed : State := wOf { upHw with mains := { Mains.reset with last := some 0 } }
def guarded : State := wOf { upHw.wr pLAMP LAMP.LC_CFG_G0_EN 1 with pins := estopsShut.hw.pins }
def tinMapped : State := with_ fun h => h.wr pLAMP LAMP.TIN_MAP_EN 1
/-- Trunk 0 running, with node 1 ACTIVE and the owner of the first slot of the cycle before cycle 0. -/
def trunkOn : State := wOf (((upHw.wr (pLEAT 0) LEAT.LT_STS_RUNNING 1).setBoth (addrOf LEAT.SLOT_TAB_ENTRY0 (pLEAT 0) 124) 0x101).modNode 0 1
  fun n => { n with st := 2 })
def silentNode : State := wOf (trunkOn.hw.modNode 0 0 fun n => { n with st := 2, missed := 1000 })
def noisyTrunk : State := wOf (trunkOn.hw.modTrunk 0 fun x => { x with crcAt := List.replicate 65 0 })
def commanded : State := wOf (trunkOn.hw.modNode 0 0 fun n => { n with st := 2, out := some ⟨0, 0, 0, 0⟩, lapsed := true })
/-- Sheet slot 0 under way, checkpoint 0 enabled for every class, and the belt long past it. -/
def sheetHw : Hw :=
  let u := (upHw.wr pSHEET SHEET.SH_CTRL_EN 1).wr pSHEET SHEET.SH_ENTRY_STATE 1
  { (u.wr pSHEET SHEET.CP_SRC_EN 1).wr pSHEET SHEET.CP_SRC_CLASS 0xF with
    clk := { u.clk with time := 1000000000000000 }, beltHist := [(0, 1000000)] }
def sheetIn : State := wOf sheetHw
def sheetTrail : State := wOf ((sheetHw.wr pSHEET SHEET.CP_SRC_TRAIL_EN 1).modSheet 0 fun s => { s with lead := [0] })
def sensorGone : State := wOf { upHw with thermal := { Thermal.reset with subst := [(0, 1000)] } }
def throttled : State := with_ fun h => h.wr pTHERMALA THERMAL.ZSTS_THROTTLE 1
def spread : State := with_ fun h => h.wr (snsPage 32) THERMAL.SNS_EFF 700
def cooled : State := wOf { upHw.wr pTHERMALB THERMAL.SD_STS_STATE 1 with thermal := { Thermal.reset with down := true } }

/-- The Sluice at a step with word x, waiting for w. -/
def inStep (x : Nat) (w : SqWait) : State := wOf { upHw with
  mram := { upHw.mram with program := ⟨0, 0, 0, [BitVec.ofNat 64 x], false, 1⟩ }
  sluice := { Sluice.reset with seq := some ⟨1, w, 0⟩ } }
def atStep (x : Nat) : State := inStep x .ready
def disRuns : State := wOf { upHw with sluice := { Sluice.reset with cmd := some 12 } }
def retrying : State := wOf { upHw with sluice := { Sluice.reset with retry := true } }
def railsGood : State := wOf (rails upHw)
def railDown : State := wOf { upHw.wr pTHERMALB THERMAL.SD_STS_STATE 1 with sluice := { Sluice.reset with restart := some 6 } }
def powerLost : State := with_ fun h => h.wr pSUPPLY SUPPLY.PH_STS_PFW 1
def mbusLow : State := with_ fun h => h.wr pSUPPLY SUPPLY.MBUS_STS_UV 1
def mbusHigh : State := with_ fun h => h.wr pSUPPLY SUPPLY.MBUS_STS_OV 1
def aRecord : LogRec := ⟨1, 0, 0, 0, 0⟩
def queued : State := wOf { upHw with mram := { upHw.mram with queue := [aRecord] } }
def aTest : Job := ⟨0x20, 0, 0, none, 1, true, false⟩
def testWaits : State := wOf { upHw with jobs := [aTest] }
def testSlot : State := wOf ({ upHw with jobs := [aTest] }.modHr fun r => { r with slot := some aSlot })
def fromHost : Transfer := { src := 0, dst := 0, count := 64, srcMpa := false, dstMpa := true, ctx := 0, barrier := false, done := 0, held := [], goAt := 0, back := false }
def toHost : Transfer := { fromHost with srcMpa := true, dstMpa := false }
def moving (t : Transfer) : State := wOf { upHw with dma := [(0, some t)] }

/-- Mailbox 0 from host context 0 to the engine kernel, enabled; version 2 agreed in calls. -/
def boxHw : Hw := ((upHw.wr pMAILBOX MAILBOX.MB_CFG_EN 1).wr pMAILBOX MAILBOX.MB_BIND_SENDER 0).wr pMAILBOX MAILBOX.MB_BIND_RECEIVER 0x0100
def boxOn : State := wOf (boxHw.wr pMAILBOX MAILBOX.MB_BIND_SENDER 0x0100)
def boxFull : State := wOf (boxHw.wr pMAILBOX MAILBOX.MB_CFG_FULL 1)
def calling (w : Nat) : State := wOf ((boxFull.hw.wr pMAILBOX MAILBOX.MB_DATA w).modBox 0 fun b => { b with ver := some 2 })
def blockCall (w : Nat) : State := wOf { (calling w).hw.wri pHOST HOST.COM_LIMIT 0 1 with pins := sealed.hw.pins }
def pointing (a : Nat) : State := wOf ((boxFull.hw.wr pMAILBOX MAILBOX.MB_CFG_FORM 1).wr pMAILBOX MAILBOX.MB_DATA a)
def working (op : Nat) : State := wOf { upHw with jobs := [⟨op, 0, 0, none, 0, false, false⟩] }
def loadingNow : State := wOf { (working 0x30).hw with boot := { upHw.boot with loading := some (0, emptySlot) } }
def spareGone : State := with_ fun h => h.wr pKERNEL KERNEL.KN_STS_STANDBY_OK 0

/-- A module of the chain with both peer ports up. -/
def chainHw (role : Nat) : Hw :=
  let u := (upHw.wr pPEERA PEER.CHAIN_CFG_CHAIN_EN 1).wr pPEERA PEER.CHAIN_CFG_ROLE role
  ((u.wr pPEERA PEER.CHAIN_CFG_MODULE role).wr pPEERA PEER.PR_STS_LINK_UP 1).wr pPEERB PEER.PR_STS_LINK_UP 1
def chained (role : Nat) : State := wOf (chainHw role)
def silentPeer : State := wOf { chainHw 0 with chain := { Chain.reset with missed := [(1, 10)] } }
def silentFar : State := wOf { chainHw 0 with chain := { Chain.reset with quiet := [(2, 10)] } }
def chainSlot : State := wOf ((chainHw 0).modHr fun r => { r with slot := some aSlot })
def chainPage : State := wOf (withPage (chainHw 1) resident1)
def spoilHeard : State := wOf { chainHw 0 with chain := { Chain.reset with spoils := [(0, 0x10)] } }
def chainOffered : State := wOf { chainHw 0 with chain := { Chain.reset with offered := some 0 } }
def chainRun : State := wOf { withPage (chainHw 1) ready1 with chain := { Chain.reset with slots := [(0, 1)] } }
def chainTimed : State := wOf ((chainHw 1).wr pTIME TIME.TIME_CTRL_SRC 1)
def chainSync : State := wOf { chainHw 1 with chain := { Chain.reset with sync := some (0, 0, 0) } }
def windowed : State := wOf (((chainHw 1).wr pPEERA PEER.MEM_WIN_BASE 0).wr pPEERA PEER.MEM_WIN_LIMIT 1)
def blockHeld : State := with_ fun h => h.wr 0 FACE.PAGE_STS_IN_RESET 1
def fanStopped : State := with_ fun h => (h.wr pFANTAIL FANTAIL.FT_CTRL_EN 1).wr pFANTAIL FANTAIL.FT_STS_TOGGLING 0
def tsOf (ty : Nat) : TsRec := ⟨ty, 0, 0, 1, 1, 1, 0, 0, 2, 4, 100, 0, 0, 0, 0, 0⟩
def bankLive : State := with_ fun h => h.wr (pGATE 0) GATE.GD_STS_BANK_OFF 0
/-- Checkpoint 0 ends the delivering classes, checkpoint 1 the purging ones. -/
def checkpoints : State := with_ fun h =>
  let u := ((h.wri pSHEET SHEET.CP_SRC_EN 0 1).wri pSHEET SHEET.CP_SRC_CLASS 0 5).wri pSHEET SHEET.CP_SRC_KIND 0 3
  ((u.wri pSHEET SHEET.CP_SRC_EN 1 1).wri pSHEET SHEET.CP_SRC_CLASS 1 10).wri pSHEET SHEET.CP_SRC_KIND 1 4

/-! ### Witnesses -/

/-- A powered module with a slew of a second's worth of nanoseconds to go. -/
def slewing (v : Int) : Hw := { upHw with clk := { upHw.clk with slew := v } }
/-- Hypotheses of Obligations.TickAdvancesPressTime met. -/
theorem witness_tick : (up.hw.boot.vaon = true ∧ up.hw.clk.frac < 2 ^ 32)
    ∧ ((slewing (1024 * 85899)).boot.vaon = true ∧ (slewing (1024 * 85899)).clk.frac < 2 ^ 32 ∧ 1024 * 85899 ≤ (slewing (1024 * 85899)).clk.slew)
    ∧ ((slewing (-(1024 * 85899))).boot.vaon = true ∧ (slewing (-(1024 * 85899))).clk.slew ≤ -(1024 * 85899)) := by decide +kernel

/-- The head of station 7 has every condition for its lasers. -/
def lenHw : Hw :=
  { (((upHw.wr (pIVINA 7) IVINA.IV_CTRL_LEN_EN 1).wr (pIVINA 7) IVINA.IV_STS_LINK_UP 1).wr (pIVINA 7) IVINA.IV_STS_HEAD_READY 1) with
    pins := { Pins.reset with ilk1 := true, ilk2 := true, estop1 := true, estop2 := true, lenPermit := 128 } }.settle
theorem lenHw_safe : lenHw.Safe := by unfold Hw.Safe; decide +kernel
/-- Hypotheses of Obligations.StepKeepsSafe met: a safe state with a laser on that idles, and one whose front command opens an interlock loop. -/
theorem witness_step_keeps_safe : (∃ s t, s.hw.Safe ∧ step s = .next t) ∧ (∃ s t, s.hw.Safe ∧ s.pending ≠ [] ∧ step s = .next t) :=
  ⟨⟨wOf lenHw, idle (wOf lenHw), lenHw_safe, rfl⟩,
    ⟨⟨lenHw, [.interlockOpen 0]⟩, _, lenHw_safe, by decide, rfl⟩⟩
/-- Hypotheses of Obligations.LaserEnableOnlyWhileAllHold met. -/
theorem witness_laser_enable : ∃ s t k, s.hw.Safe ∧ step s = .next t ∧ k < 8 ∧ bitAt t.hw.pins.len k = true :=
  ⟨wOf lenHw, idle (wOf lenHw), 7, lenHw_safe, rfl, by decide, by decide +kernel⟩

/-- Hypotheses of Obligations.QuietEndOfStepFrame met. -/
theorem witness_quiet_frame : ∃ h : Hw, h.due = [] ∧ ∀ k, k < 8 → pIDENT ≠ addrOf IVINA.IV_STS_LEN (pIVINA k) 0 :=
  ⟨upHw, by decide +kernel, by decide +kernel⟩
/-- Hypotheses of Obligations.RaiseFrame met. -/
theorem witness_raise_frame : ∃ p a : Nat, p % 4096 = 0 ∧ pageBase a ≠ p ∧ pageBase a ≠ pHOST ∧ pageBase a ≠ pFANTAIL :=
  ⟨pTIME, pIDENT, by decide +kernel⟩
def captured : Hw := upHw.wr pTIME FACE.FE_INFO_VALID 1
/-- Source 5 of TIME raised in this clock. -/
def justRaised : Hw := upHw.record pTIME 5 (cap0 0)
/-- Hypotheses of Obligations.FirstErrorCapture met: no capture, one of an earlier clock, and one of this clock after or before which the
raised source comes; and a re-arm with and without a raise in its clock. -/
theorem witness_first_error : (∃ (h : Hw) (p i : Nat), i < 16 ∧ h.rd p FACE.FE_INFO_VALID = 0)
    ∧ (∃ (h : Hw) (p i : Nat), i < 16 ∧ h.rd p FACE.FE_INFO_VALID = 1 ∧ tget (fun _ => none) h.capAt p ≠ some h.mono)
    ∧ (∃ (h : Hw) (p i : Nat), i < 16 ∧ h.rd p FACE.FE_INFO_VALID = 1 ∧ captureRank p (h.rd p FACE.FE_INFO_SOURCE) ≤ captureRank p i)
    ∧ (∃ (h : Hw) (p i : Nat), i < 16 ∧ h.rd p FACE.FE_INFO_VALID = 1 ∧ tget (fun _ => none) h.capAt p = some h.mono
        ∧ captureRank p i < captureRank p (h.rd p FACE.FE_INFO_SOURCE))
    ∧ (∃ (h : Hw) (p i : Nat), h.reaction p i = 0)
    ∧ (∃ (s : State) (m : Master) (page : PageNo), s.hw.takes m (addrOf FACE.FE_INFO_VALID (4096 * page.val) 0) = true
        ∧ (clsOf (4096 * page.val)).isSome = true ∧ s.hw.raisedOn (4096 * page.val) = [])
    ∧ (∃ (s : State) (m : Master) (page : PageNo), s.hw.takes m (addrOf FACE.FE_INFO_VALID (4096 * page.val) 0) = true
        ∧ (clsOf (4096 * page.val)).isSome = true ∧ s.hw.raisedOn (4096 * page.val) ≠ []) :=
  ⟨⟨upHw, pTIME, 15, by decide +kernel⟩, ⟨captured, pTIME, 0, by decide +kernel⟩, ⟨justRaised, pTIME, 5, by decide +kernel⟩,
    ⟨justRaised, pTIME, 4, by decide +kernel⟩, ⟨upHw.wr pTIME FACE.FLT_REACT_LO 0, pTIME, 0, by decide +kernel⟩,
    ⟨wOf captured, kernelMaster, Fin.ofNat _ (pTIME / 4096), by decide +kernel⟩,
    ⟨wOf justRaised, kernelMaster, Fin.ofNat _ (pTIME / 4096), by decide +kernel⟩⟩

/-- Hypotheses of Obligations.PageMapOfW0 met. -/
theorem witness_page_map : 0 < 0x100000 ∧ [0x3EFFF, 0x3F000, 0x3FFFF, 0x40000, 0x4FFFF, 0x50000, 0x7FFFF, 0x80000, 0xBFFFF, 0xC0000, 0xFFFFF].map
      (fun a => (clsOf (pageBase a)).isNone) = [false, true, true, false, false, true, true, false, false, true, true] := by decide +kernel

/-- Hypotheses of Obligations.RefusedWriteChangesNothing met: context 3 may not write TIME; its page is served, the context acts. -/
theorem witness_refused_write : ∃ (s : State) (m : Master) (x : W0Access), s.hw.mayWrite m x.addr.toNat = false
    ∧ s.hw.pageServed m (pageBase x.addr.toNat) = true ∧ s.hw.masterActs m = true ∧ clsOf (pageBase x.addr.toNat) = some .time
    ∧ w0Takes x.addr.toNat x.bytes.toNat = true :=
  ⟨up, 3, ⟨BitVec.ofNat 20 (pTIME + 0x80), 4⟩, by decide +kernel⟩

/-- Hypotheses of Obligations.MillpondWritesFrame met: a view write of four bytes at the start of the commons of context 0, and MEM_WRITEs at both ends of the peer window. -/
theorem witness_view_write : ∃ (s : State) (c : Fin 16) (off : BitVec 25) (bytes : List Byte), s.hw.due = []
    ∧ s.hw.masterActs (ctxMaster c) = true ∧ s.hw.w1Served = true ∧ w1Access (w1TableEnd + off.toNat) bytes.length = true
    ∧ inRange (s.hw.viewMpa c (w1TableEnd + off.toNat)) bytes.length (s.hw.commonsRange c) = true :=
  ⟨viewed, 0, 0, [1, 2, 3, 4], by decide +kernel⟩
/-- Hypotheses of Obligations.MillpondWritesFrame met. -/
theorem witness_mem_write : (∃ (s : State) (p : Fin 2) (off : BitVec 64) (bytes : List Byte), s.hw.due = [] ∧ s.hw.hears p = true
      ∧ bytes.length ≤ 256 ∧ s.hw.inWin off.toNat bytes.length = true)
    ∧ (∃ (s : State) (p : Fin 2) (off : BitVec 64) (bytes : List Byte), s.hw.due = [] ∧ s.hw.hears p = true
      ∧ bytes.length = 256 ∧ off.toNat + 256 = 65536 ∧ s.hw.inWin off.toNat bytes.length = true) :=
  ⟨⟨windowed, 0, 0, [1, 2, 3, 4], by decide +kernel⟩, ⟨windowed, 1, BitVec.ofNat 64 65280, List.replicate 256 7, by decide +kernel⟩⟩

/-- Hypotheses of Obligations.ModuleResetKeepsAndClears met. -/
theorem witness_module_reset : ∃ (s : State) (ns : BitVec 32), s.hw.boot.vaon = true ∧ 5500 ≤ ns.toNat :=
  ⟨up, 5500, by decide +kernel⟩

/-- 16,384 samples of one value. -/
def flat (x : Sample) : List Sample := List.replicate 16384 x
/-- Hypotheses of Obligations.RawBilletRoundTrip and Obligations.CodedBilletRoundTrip met. -/
theorem witness_billet : ∃ (xs : List Sample) (n j : Nat), xs.length = 16384 ∧ (∀ x ∈ xs, x.tone < 1024 ∧ x.tag < 16) ∧ n < 16384 ∧ j < 14 := by
  refine ⟨flat ⟨1023, 15⟩, 16383, 13, by simp [flat], ?_, by decide, by decide⟩
  intro x hx
  rw [List.eq_of_mem_replicate hx]
  decide

/-- Hypotheses of Obligations.MailboxHoldsTheWord met. -/
theorem witness_mailbox : ∃ n k : Fin 32, k ≠ n := ⟨0, 31, by decide⟩

/-- Hypotheses of Obligations.EmptyQueueTicks met. -/
theorem witness_empty_queue : ∃ a : Nat, pageBase a ≠ pFANTAIL ∧ ∀ k, k < 8 → a ≠ addrOf IVINA.REBUILT (pIVINA k) 0 := ⟨pTIME, by decide +kernel⟩
/-- Hypotheses of Obligations.LinkRecordsRoundTrip met, each field at its highest value. -/
theorem witness_link_records : (∃ t : TsRec, t.fits = true)
    ∧ (∃ a : AlignRec, a.laneId < 256 ∧ a.station < 256 ∧ a.seq < 2 ^ 32 ∧ a.rxOk < 8 ∧ a.retrain < 8) :=
  ⟨⟨⟨255, 255, 255, 255, 255, 255, 255, 255, 65535, 65535, 65535, 255, 65535, 65535, 2 ^ 64 - 1, 2 ^ 32 - 1⟩, by decide⟩,
    ⟨⟨255, 255, 2 ^ 32 - 1, 7, 7⟩, by decide⟩⟩
/-- Hypotheses of Obligations.StripeParity met. -/
theorem witness_stripe : ∃ (cells : List (List Byte)) (j i k : Nat), cells.length = 5 ∧ (∀ c ∈ cells, c.length = 128) ∧ j < 5 ∧ i < 128 ∧ k < 8 :=
  ⟨List.replicate 5 (List.replicate 128 255), 4, 127, 7, by decide⟩
/-- A leg of bank 0 that its modulator drives: not held, its bootstrap charged. -/
def drivenLeg : Hw := { (upHw.wr (pGATE 0) GATE.GD_STS_BANK_OFF 0).wr (pGATE 0) GATE.BOOT_OK 1 with
  pins := estopsShut.hw.pins }.modBridge 0 0 fun r => { r with drive := .on }
/-- Hypotheses of every clause of Obligations.LegSwitches met. -/
theorem witness_leg_switches : (drivenLeg.bridge 0 0).drive = .on ∧ drivenLeg.stageHeld 0 0 = false
    ∧ ((drivenLeg.bridge 0 0).trips.any fun k => decide (k.leg = 0)) = false
    ∧ 1024 * drivenLeg.rd (pGATE 0) GATE.DEAD_DEAD_NS ≤ 10000000 - max ((drivenLeg.bridge 0 0).enable true 10000000).2 ((drivenLeg.bridge 0 0).lastEdge 0 10000000)
    ∧ drivenLeg.bit (pGATE 0) GATE.BOOT_OK 0 = true
    ∧ upHw.stageHeld 0 0 = true ∧ (upHw.bridge 0 0).drive = .off ∧ upHw.bit (pGATE 0) GATE.BOOT_OK 0 = false
    ∧ ((upHw.modBridge 0 0 fun r => { r with trips := [⟨0, 0, 0⟩] }).bridge 0 0).trips.any (fun k => decide (k.leg = 0)) = true
    ∧ 0 - max ((drivenLeg.bridge 0 0).enable true 0).2 ((drivenLeg.bridge 0 0).lastEdge 0 0) < 1024 * drivenLeg.rd (pGATE 0) GATE.DEAD_DEAD_NS := by
  decide +kernel
/-- A scan clock of four pixels a cycle that has run since stamp 0, with its marker in cycle 4095. -/
def runningSclk : Sclk :=
  { ref := 0, first := 0, was := 4 * 2 ^ 62, cycles := [], w0 := 16 * 2 ^ 24, post := 4, mag := 0, marker := some 4095, tail := 0, start := 0
    stop := none }
/-- Hypotheses of Obligations.ScanClockCorrection met. -/
theorem witness_scan_clock : (∃ (n : Int) (k : Nat), 0 < k ∧ n.natAbs ≤ 128 * k)
    ∧ (∃ (c : Sclk) (t : Stamp) (phase mag : Int), 0 < c.period
        ∧ ((c.refTo t).nextEdge (8192 * (c.refTo t).den)).2.1 ≤ (c.refTo t).target t phase
        ∧ ∃ lead : Nat, (c.anchored t phase mag 0).1.marker = some ((lead + 0 : Nat) : Int) ∧ (c.anchored t phase mag 0).2.natAbs ≤ 128 * lead)
    ∧ (∃ (c : Sclk) (k : Int) (i : Nat), i < 4 ∧ c.marker = some k) :=
  ⟨⟨-512, 4, by decide⟩, ⟨runningSclk, 1000, 0, 0, by decide +kernel, by decide +kernel, 5, by decide +kernel⟩, ⟨runningSclk, 4095, 3, by decide, rfl⟩⟩
/-- Hypotheses of Obligations.StoredProgramSurvives met. -/
theorem witness_stored_program : ∃ (m : Mram) (g p : Program), g.gen = m.selected.gen + 1 ∧ (m.copyA = some p ∨ m.copyB = some p) ∧ p = m.selected :=
  ⟨{ Mram.reset with copyA := some ⟨3, 0, 0, [], false, 1⟩ }, ⟨4, 0, 0, [], false, 1⟩, ⟨3, 0, 0, [], false, 1⟩, by decide +kernel⟩

/-- The hypotheses of every clause of Obligations.StartUpCommandsComplete that has some are met. -/
theorem witness_start_up_commands_complete :
    (∃ (s : State) (vrms : BitVec 16) (freq : BitVec 16), mainsInRange vrms.toNat freq.toNat = true)
    ∧ (∃ (s : State) (k : Nat), s.hw.romRuns = true ∧ pickSlot s.hw.boot.slotA.valid s.hw.boot.slotB.valid s.hw.boot.slotA
      s.hw.boot.slotB = some k)
    ∧ (∃ (s : State), s.hw.romRuns = true ∧ pickSlot s.hw.boot.slotA.valid s.hw.boot.slotB.valid s.hw.boot.slotA
      s.hw.boot.slotB = none)
    ∧ (∃ (s : State), s.hw.modState = 1 ∧ s.hw.boot.inReset = false)
    ∧ (∃ (s : State) (f : CoveredFault) (fs : List CoveredFault), s.hw.modState = 1 ∧ s.hw.boot.inReset = false)
    ∧ (∃ (s : State) (u : BitVec 8), s.hw.modState = 1 ∧ s.hw.boot.inReset = false)
    ∧ (∃ (s : State), s.hw.modState = 1 ∧ s.hw.boot.inReset = false ∧ s.hw.boot.tested = true ∧ 4000 ≤
      s.hw.enterReady.tellReset.rd pSUPPLY SUPPLY.MBUS_V_CAP)
    ∧ (∃ (s : State) (lowNs : BitVec 32), s.hw.boot.vaon = true ∧ 5500 ≤ lowNs.toNat)
    ∧ (∃ (s : State), s.hw.boot.resetNLow = true) :=
  ⟨⟨up, 2300, 5000, by decide +kernel⟩,
    ⟨booting, 0, by decide +kernel⟩,
    ⟨noImage, by decide +kernel⟩,
    ⟨testing, by decide +kernel⟩,
    ⟨testing, .phase 0, [], by decide +kernel⟩,
    ⟨testing, 5, by decide +kernel⟩,
    ⟨tested, by decide +kernel⟩,
    ⟨up, 5500, by decide +kernel⟩,
    ⟨resetLow, by decide +kernel⟩⟩

/-- The hypotheses of every clause of Obligations.SafetyInputsComplete that has some are met. -/
theorem witness_safety_inputs_complete :
    (∃ (s : State), s.hw.pins.ilk1 = false ∧ s.hw.pins.ilk2 = true)
    ∧ (∃ (s : State), s.hw.pins.ilk1 = false)
    ∧ (∃ (s : State) (i : Fin 4) (closed : Bool), s.hw.kernelRuns = true)
    ∧ (∃ (s : State) (ms : BitVec 16), s.hw.boot.vaon = true ∧ 50 ≤ ms.toNat ∧ s.hw.windowOpen = true)
    ∧ (∃ (s : State), s.hw.boot.vaon = true ∧ s.hw.windowOpen = false)
    ∧ (∃ (s : State), s.hw.boot.vaon = true ∧ s.hw.pins.sealClosed = true ∧ s.hw.pins.buttonEnds = none)
    ∧ (∃ (s : State), s.hw.buttonRuns = false ∧ s.hw.pins.buttonEnds.isSome = true ∧ s.hw.pins.sealClosed = false)
    ∧ (∃ (s : State) (m : Master), s.hw.takes m (addrOf PRESENCE.PR_CTRL_CLOSE pPRESENCE 0) = true ∧
      s.hw.pins.buttonEnds.isSome = true ∧ s.hw.pins.sealClosed = false) :=
  ⟨⟨oneLoop, by decide +kernel⟩,
    ⟨up, by decide +kernel⟩,
    ⟨up, 0, false, by decide +kernel⟩,
    ⟨sealed, 50, by decide +kernel⟩,
    ⟨up, by decide +kernel⟩,
    ⟨sealed, by decide +kernel⟩,
    ⟨pressed, by decide +kernel⟩,
    ⟨pressed, kernelMaster, by decide +kernel⟩⟩

/-- The hypotheses of every clause of Obligations.HostContextsComplete that has some are met. -/
theorem witness_host_contexts_complete :
    (∃ (s : State) (speed : BitVec 4) (width : BitVec 5) (flit : Bool), s.hw.boot.vaon = true ∧ 6 ≤ speed.toNat ∧ 16 ≤
      width.toNat) :=
  ⟨up, 6, 16, false, by decide +kernel⟩

/-- The hypotheses of every clause of Obligations.HostAccessComplete that has some are met. -/
theorem witness_host_access_complete :
    (∃ (s : State) (m : Master) (a : BitVec 20) (n : BitVec 10) (w : Word) (c : Cls), clsOf (pageBase a.toNat) = some c ∧ c ≠
      .dma ∧ w0Takes a.toNat n.toNat = true ∧ pageOff a.toNat < 0x80 ∧ s.hw.takes m a.toNat = true)
    ∧ (∃ (s : State) (m : Master) (a : BitVec 20) (n : BitVec 10) (w : Word) (c : Cls), clsOf (pageBase a.toNat) = some c ∧ c
      ≠ .dma ∧ w0Takes a.toNat n.toNat = true ∧ 0x80 ≤ pageOff a.toNat ∧ s.hw.takes m a.toNat = true)
    ∧ (∃ (s : State) (m : Master) (a : BitVec 20) (n : BitVec 10) (w : Word), clsOf (pageBase a.toNat) = some .dma ∧ w0Takes
      a.toNat n.toNat = true ∧ 0x100 ≤ pageOff a.toNat ∧ s.hw.takes m a.toNat = true)
    ∧ (∃ (s : State) (m : Master) (a : BitVec 20), clsOf (pageBase a.toNat) = none ∧ s.hw.pageServed m pHOST = true ∧
      s.hw.masterActs m = true)
    ∧ (∃ (s : State) (m : Master) (a : BitVec 20), clsOf (pageBase a.toNat) = none ∧ s.hw.pageServed m pHOST = true ∧
      s.hw.masterActs m = true)
    ∧ (∃ (s : State) (c : Fin 16) (off : BitVec 26) (n : BitVec 10) (uncorr : Bool), s.hw.masterActs (ctxMaster c) = true ∧
      s.hw.w1Served = true ∧ w1Access off.toNat n.toNat = true ∧ w1TableEnd ≤ off.toNat ∧ inRange (s.hw.viewMpa c
      off.toNat) n.toNat (s.hw.commonsRange c) = true ∧ uncorr = false ∧ s.hw.stacksGive (s.hw.viewMpa c off.toNat)
      n.toNat = true)
    ∧ (∃ (s : State) (c : Fin 16) (off : BitVec 25) (bytes : List Byte), s.hw.masterActs (ctxMaster c) = true ∧ s.hw.w1Served
      = true ∧ w1Access (w1TableEnd + off.toNat) bytes.length = true ∧ inRange (s.hw.viewMpa c (w1TableEnd + off.toNat))
      bytes.length (s.hw.commonsRange c) = true)
    ∧ (∃ (s : State) (c : Fin 16) (off : BitVec 25) (k : AtomicKind) (v : Nat), s.hw.masterActs (ctxMaster c) = true ∧
      s.hw.w1Served = true ∧ inRange (s.hw.viewMpa c (w1TableEnd + off.toNat)) 4 (s.hw.commonsRange c) = true ∧
      (w1TableEnd + off.toNat) % 4 = 0 ∧ k.result 4 (ofLE (s.hw.bytes (s.hw.viewMpa c (w1TableEnd + off.toNat)) 4)) = some
      v)
    ∧ (∃ (s : State) (m : Master) (off : BitVec 25) (bytes : List Byte), s.hw.masterActs m = true ∧ s.hw.ready = true ∧
      w1Access off.toNat bytes.length = true ∧ isTrusted m = true ∧ (∀ i, i < bytes.length → ∃ b, bankOf (off.toNat + i) =
      some b ∧ s.hw.bankWritable b = true))
    ∧ (∃ (s : State) (m : Master) (a : BitVec 20) (n : BitVec 10) (k : Cls), clsOf (pageBase a.toNat) = some k ∧ loRegs k
      (pageOff a.toNat) = true ∧ w0Takes a.toNat n.toNat = true)
    ∧ (∃ (s : State) (m : Master) (c : Fin 20), s.hw.pageServed m (fbPage c.val) = true ∧ s.hw.masterActs m = true ∧
      s.hw.blockAnswers (fbPage c.val) = true ∧ s.hw.is (fbPage c.val) FACE.PAGE_STS_FROZEN = false) :=
  ⟨⟨up, kernelMaster, 0x400C, 4, 0, .fantail, by decide +kernel⟩,
    ⟨up, kernelMaster, 0x4080, 4, 0, .fantail, by decide +kernel⟩,
    ⟨up, kernelMaster, 0x10100, 4, 0, by decide +kernel⟩,
    ⟨up, kernelMaster, 0xFF000, by decide +kernel⟩,
    ⟨up, kernelMaster, 0xFF000, by decide +kernel⟩,
    ⟨viewed, 0, 0x2000000, 4, false, by decide +kernel⟩,
    ⟨viewed, 0, 0, [1, 2, 3, 4], by decide +kernel⟩,
    ⟨viewed, 0, 0, .fetchAdd 5, 5, by decide +kernel⟩,
    ⟨up, kernelMaster, 0x100, [1, 2, 3, 4], by decide +kernel⟩,
    ⟨up, kernelMaster, 0x3088, 4, .time, by decide +kernel⟩,
    ⟨counted, kernelMaster, 0, by decide +kernel⟩⟩

/-- The hypotheses of every clause of Obligations.TimeCommandsComplete that has some are met. -/
theorem witness_time_commands_complete :
    (∃ (s : State) (m : Master), s.hw.takes m (addrOf TIME.TIME_CTRL_SET pTIME 0) = true ∧ s.hw.anyExposing = false ∧ s.hw.rd
      pTIME TIME.TIME_CTRL_SRC = 0)
    ∧ (∃ (s : State) (m : Master), s.hw.takes m (addrOf TIME.TIME_CTRL_SET pTIME 0) = true ∧ s.hw.anyExposing = true)
    ∧ (∃ (s : State) (m : Master) (v : Word), s.hw.takes m (addrOf TIME.SLEW_REQ pTIME 0) = true ∧ s.hw.rd pTIME
      TIME.TIME_CTRL_SRC = 0)
    ∧ (∃ (s : State), s.hw.clk.slew = 0)
    ∧ (∃ (s : State) (stn : StationNo), s.hw.driveRuns stn = true)
    ∧ (∃ (s : State) (m : Master) (mask : BitVec 8) (t0 : Stamp), s.hw.takes m (addrOf TIME.TOF_CTRL_GO pTIME 0) = true ∧
      s.hw.is pTIME TIME.TOF_CTRL_BUSY = false)
    ∧ (∃ (s : State), s.hw.is pTIME TIME.TOF_CTRL_BUSY = true)
    ∧ (∃ (s : State) (stn : StationNo) (d : BitVec 20) (g : PageRec), s.hw.page? d.toNat = some g ∧ g.uses stn = true ∧ (g.on
      stn).tof.isNone = true) :=
  ⟨⟨up, kernelMaster, by decide +kernel⟩,
    ⟨exposing, kernelMaster, by decide +kernel⟩,
    ⟨up, kernelMaster, 0, by decide +kernel⟩,
    ⟨up, by decide +kernel⟩,
    ⟨driven, 0, by decide +kernel⟩,
    ⟨up, kernelMaster, 0, 0, by decide +kernel⟩,
    ⟨tofBusy, by decide +kernel⟩,
    ⟨exposing, 0, 1, aPage, by decide +kernel⟩⟩

/-- The hypotheses of every clause of Obligations.PageCommandsComplete that has some are met. -/
theorem witness_page_commands_complete :
    (∃ (s : State) (m : Master) (idx : BitVec 20), s.hw.takes m (addrOf HEADRACE.SUBMIT pHEADRACE 0) = true)
    ∧ (∃ (s : State) (m : Master) (idx : BitVec 20) (stn : StationNo), s.hw.takes m (addrOf HEADRACE.PLANE_READY_INDEX
      pHEADRACE 0) = true)
    ∧ (∃ (s : State) (m : Master) (idx : BitVec 20), s.hw.takes m (addrOf HEADRACE.WITHDRAW pHEADRACE 0) = true)
    ∧ (∃ (s : State) (readOk : Bool) (m : Master) (idx : Nat) (rest : List HrCmd), s.hw.headrace.queue = .submit m idx :: rest
      ∧ s.hw.hrFree = true)
    ∧ (∃ (s : State) (m : Master) (idx : Nat) (k : Nat) (rest : List HrCmd) (g : PageRec), s.hw.headrace.queue = .planeReady m
      idx k :: rest ∧ s.hw.hrFree = true ∧ s.hw.takeCmd.pageFor m idx = some g ∧ g.uses k = true ∧ (g.plane k).verified =
      false)
    ∧ (∃ (s : State) (readOk : Bool) (m : Master) (idx : Nat) (k : Nat) (g : PageRec), s.hw.headrace.verifying = some (m, idx,
      k) ∧ (s.hw.modHr fun r => { r with verifying := none }).pageFor m idx = some g)
    ∧ (∃ (s : State) (m : Master) (idx : Nat) (rest : List HrCmd) (g : PageRec), s.hw.headrace.queue = .withdraw m idx :: rest
      ∧ s.hw.hrFree = true ∧ s.hw.takeCmd.pageFor m idx = some g ∧ g.state.inFlight = false)
    ∧ (∃ (s : State) (i : Fin 4), s.hw.bit pHEADRACE HEADRACE.HR_STS_STACK_OK i = true) :=
  ⟨⟨up, kernelMaster, 0, by decide +kernel⟩,
    ⟨up, kernelMaster, 0, 0, by decide +kernel⟩,
    ⟨up, kernelMaster, 0, by decide +kernel⟩,
    ⟨submitted, true, 0, 1, [], by decide +kernel⟩,
    ⟨planeWaits, 0, 1, 0, [], aPage, by decide +kernel⟩,
    ⟨planeUnder, false, 0, 1, 0, aPage, by decide +kernel⟩,
    ⟨withdrawWaits, 0, 1, [], { aPage with state := .resident }, by decide +kernel⟩,
    ⟨up, 0, by decide +kernel⟩⟩

/-- The hypotheses of every clause of Obligations.ScheduleCommandsComplete that has some are met. -/
theorem witness_schedule_commands_complete :
    (∃ (s : State) (a : Slot) (g : PageRec), s.hw.headrace.slot = some a ∧ s.hw.candidate = some g ∧ s.hw.headrace.stopAtGap =
      false ∧ s.hw.kernelRuns = true ∧ s.hw.decides = true)
    ∧ (∃ (s : State), s.hw.anyExposing = false)
    ∧ (∃ (s : State), s.hw.is pHEADRACE HEADRACE.HR_STS_PEND_VALID = true ∧ s.hw.allExposed = true ∧ s.hw.slotPassed = true ∧
      s.hw.is pHEADRACE HEADRACE.GT_BANK_SWITCH_PEND = false)
    ∧ (∃ (s : State), s.hw.is pHEADRACE HEADRACE.HR_STS_PEND_VALID = true ∧ s.hw.allExposed = true ∧ s.hw.slotPassed = true ∧
      s.hw.is pHEADRACE HEADRACE.GT_BANK_SWITCH_PEND = true)
    ∧ (∃ (s : State) (m : Master), s.hw.takes m (addrOf HEADRACE.GT_BANK_SWITCH pHEADRACE 0) = true ∧ s.hw.is pHEADRACE
      HEADRACE.GT_BANK_SWITCH_PEND = false)
    ∧ (∃ (s : State), s.hw.is pHEADRACE HEADRACE.GT_BANK_SWITCH_PEND = true ∧ s.hw.anyExposing = false ∧ s.hw.gtChanges =
      false)
    ∧ (∃ (s : State) (u : Unit), s.hw.is pHEADRACE HEADRACE.HR_CTRL_FORECAST_EN = true ∧ s.hw.kernelRuns = true)
    ∧ (∃ (s : State), s.hw.is pHEADRACE HEADRACE.HR_CTRL_FORECAST_EN = true ∧ s.hw.kernelRuns = true ∧ 0 < s.hw.rd pHEADRACE
      HEADRACE.HR_STS_FC_GRADE ∧ s.hw.headrace.marginSince.isSome = true ∧ s.hw.headrace.fcMoved = false)
    ∧ (∃ (s : State) (m : Master), s.hw.takes m (addrOf HEADRACE.HR_CTRL_FORECAST_EN pHEADRACE 0) = true)
    ∧ (∃ (s : State) (m : Master) (c : Fin 16) (log2 : BitVec 4) (en : Bool), s.hw.takes m (addrOf HEADRACE.RING_CFG_EN
      pHEADRACE c) = true ∧ s.hw.isi pHEADRACE HEADRACE.RING_CFG_EN c = false) :=
  ⟨⟨slotReadyState, aSlot, resident1, by decide +kernel⟩,
    ⟨up, by decide +kernel⟩,
    ⟨gradePending, by decide +kernel⟩,
    ⟨gradeAndBank, by decide +kernel⟩,
    ⟨up, kernelMaster, by decide +kernel⟩,
    ⟨bankPending, by decide +kernel⟩,
    ⟨forecasting, (), by decide +kernel⟩,
    ⟨calm, by decide +kernel⟩,
    ⟨up, kernelMaster, by decide +kernel⟩,
    ⟨up, kernelMaster, 0, 0, false, by decide +kernel⟩⟩

/-- The hypotheses of every clause of Obligations.CodecCommandsComplete that has some are met. -/
theorem witness_codec_commands_complete :
    (∃ (s : State) (stn : StationNo) (g : PageRec), s.hw.millPage stn = some g ∧ (s.hw.mill stn).filling = none ∧ (s.hw.mill
      stn).complete < g.bands ∧ 2 ≤ (s.hw.mill stn).complete ∧ (s.hw.mill stn).complete < (s.hw.mill stn).released + 2 ∧
      s.hw.runs (pDECODE stn) = true)
    ∧ (∃ (s : State) (stn : StationNo) (g : PageRec), (s.hw.mill stn).cur = none ∧ s.hw.nextPrefill stn = some g ∧ s.hw.runs
      (pDECODE stn) = true ∧ s.hw.runs (pPIPE stn) = true)
    ∧ (∃ (s : State) (m : Master) (idx : BitVec 21), s.hw.takes m (addrOf CODEC_ENC.JOB_SUBMIT pCODEC 0) = true ∧
      s.hw.codec.queue.length < 64)
    ∧ (∃ (s : State) (e : Fin 4) (idx : Nat) (m : Master) (rest : List (Nat × Master)), s.hw.codec.queue = (idx, m) :: rest ∧
      s.hw.encoder e = none ∧ s.hw.bit pCODEC CODEC_ENC.ENC_CTRL_ENC_EN e = true ∧ s.hw.bit pCODEC
      CODEC_ENC.ENC_STS_FAULTED e = false ∧ s.hw.runs pCODEC = true)
    ∧ (∃ (s : State) (e : Fin 4) (readOk : Bool) (j : EncJob), s.hw.encoder e = some j ∧ readOk = true ∧ s.hw.jobReads j =
      true)
    ∧ (∃ (s : State) (e : Fin 4) (j : EncJob), s.hw.encoder e = some j) :=
  ⟨⟨rendering, 0, { aPage with lengthIn := 256 }, by decide +kernel⟩,
    ⟨exposing, 0, aPage, by decide +kernel⟩,
    ⟨up, kernelMaster, 0, by decide +kernel⟩,
    ⟨jobWaits, 0, 1, kernelMaster, [], by decide +kernel⟩,
    ⟨encoding, 0, true, aJob, by decide +kernel⟩,
    ⟨encoding, 0, aJob, by decide +kernel⟩⟩

/-- The hypotheses of every clause of Obligations.RenderingCommandsComplete that has some are met. -/
theorem witness_rendering_commands_complete :
    (∃ (s : State) (stn : StationNo) (t : Stamp) (reads : List Stamp) (corrected : BitVec 16) (mem : LineMem) (r : LineReq)
      (rest : List LineReq) (g : PageRec), (s.hw.mill stn).reqs = r :: rest ∧ s.hw.millPage stn = some g ∧ (g.on
      stn).prefilled = true ∧ (s.hw.lineRows stn g r).2 / 64 < (s.hw.mill stn).complete ∧ lineMemAt stn g mem = none ∧
      t.toNat ≤ r.deadline.toNat)
    ∧ (∃ (s : State) (stn : StationNo) (t : Stamp) (reads : List Stamp) (corrected : BitVec 16) (mem : LineMem) (r : LineReq)
      (rest : List LineReq) (g : PageRec), (s.hw.mill stn).reqs = r :: rest ∧ s.hw.millPage stn = some g ∧ (g.on
      stn).prefilled = true ∧ (s.hw.lineRows stn g r).2 / 64 < (s.hw.mill stn).complete ∧ lineMemAt stn g mem = none ∧
      r.deadline.toNat < t.toNat)
    ∧ (∃ (s : State) (stn : StationNo) (t : Stamp) (reads : List Stamp) (corrected : BitVec 16) (mem : LineMem) (r : LineReq)
      (rest : List LineReq) (g : PageRec) (a : Nat), (s.hw.mill stn).reqs = r :: rest ∧ s.hw.millPage stn = some g ∧ (g.on
      stn).prefilled = true ∧ (s.hw.lineRows stn g r).2 / 64 < (s.hw.mill stn).complete ∧ lineMemAt stn g mem = some a)
    ∧ (∃ (s : State) (m : Master) (stn : StationNo), s.hw.takes m (addrOf WARP.WBANK_SWITCH (pWARP stn) 0) = true ∧ (s.hw.stn
      stn).warpSw = .idle)
    ∧ (∃ (s : State) (m : Master) (stn : StationNo), s.hw.takes m (addrOf WARP.WBANK_CANCEL (pWARP stn) 0) = true)
    ∧ (∃ (s : State) (m : Master) (stn : StationNo), s.hw.takes m (addrOf SCREEN.SBANK_SWITCH (pSCREEN stn) 0) = true ∧
      (s.hw.stn stn).screenSw = .idle)
    ∧ (∃ (s : State) (m : Master) (stn : StationNo), s.hw.takes m (addrOf SCREEN.SBANK_CANCEL (pSCREEN stn) 0) = true)
    ∧ (∃ (s : State) (stn : StationNo) (uncorr : Option (BitVec 20)), (s.hw.stn stn).screenSw = .validating)
    ∧ (∃ (s : State) (stn : StationNo) (uncorr : Option (BitVec 20)), (s.hw.stn stn).warpSw = .validating) :=
  ⟨⟨lineWaits, 0, 0, [], 0, .clean, aReq, [], filled, ⟨by decide +kernel, by decide +kernel, by decide +kernel, line_rows_small _, lineMemAt_clean _ _, by decide +kernel⟩⟩,
    ⟨lineWaits, 0, 0x8000000000000000, [], 0, .clean, aReq, [], filled, ⟨by decide +kernel, by decide +kernel, by decide +kernel, line_rows_small _, lineMemAt_clean _ _, by decide +kernel⟩⟩,
    ⟨lineWaits, 0, 0, [], 0, .store 4096, aReq, [], filled, 4096, ⟨by decide +kernel, by decide +kernel, by decide +kernel, line_rows_small _, rfl⟩⟩,
    ⟨up, kernelMaster, 0, by decide +kernel⟩,
    ⟨up, kernelMaster, 0, by decide +kernel⟩,
    ⟨up, kernelMaster, 0, by decide +kernel⟩,
    ⟨up, kernelMaster, 0, by decide +kernel⟩,
    ⟨checking, 0, none, by decide +kernel⟩,
    ⟨checking, 0, none, by decide +kernel⟩⟩

/-- The hypotheses of every clause of Obligations.ScanClockCommandsComplete that has some are met. -/
theorem witness_scan_clock_commands_complete :
    (∃ (s : State) (stn : StationNo), (s.hw.stn stn).facets.num = some 9 ∧ (s.hw.stn stn).facets.eosSeen = true)
    ∧ (∃ (s : State) (stn : StationNo) (n : Nat), (s.hw.stn stn).facets.num = some n ∧ n ≠ 9 ∨ (s.hw.stn stn).facets.eosSeen =
      false)
    ∧ (∃ (s : State) (stn : StationNo) (k : Fin 4) (n : Nat) (x : Stamp × Nat × Nat), k.val ≠ 0 ∧ s.hw.is (pSWATH stn)
      SWATH.SW_CTRL_EN = true ∧ s.hw.runs (pSWATH stn) = true ∧ (s.hw.stn stn).facets.waitRev = 0 ∧ ((s.hw.stn
      stn).facets.plans.any fun x => decide (x.1 = (s.hw.facetSeq stn + k) % 2 ^ 32)) = false ∧ s.hw.facetTimes stn k =
      some x ∧ (s.hw.stn stn).facets.num = some n)
    ∧ (∃ (s : State) (m : Master) (stn : StationNo), s.hw.takes m (addrOf SWATH.SW_CTRL_EN (pSWATH stn) 0) = true)
    ∧ (∃ (s : State) (stn : StationNo) (t : Stamp) (falling : Bool), decide (s.hw.use (pSCANCLK stn) SCANCLK.SC_CTRL_SOS_EDGE
      = 1) = falling ∧ s.hw.sosAccepted stn t = true)
    ∧ (∃ (s : State) (stn : StationNo) (t : Stamp) (falling : Bool), decide (s.hw.use (pSCANCLK stn) SCANCLK.SC_CTRL_SOS_EDGE
      = 1) = falling ∧ s.hw.sosAccepted stn t = false)
    ∧ (∃ (s : State) (stn : StationNo) (t : Stamp) (falling : Bool), (decide (s.hw.use (pSCANCLK stn) SCANCLK.SC_CTRL_SOS_EDGE
      = 1) == falling) = false)
    ∧ (∃ (s : State) (stn : StationNo) (t : Stamp) (falling : Bool) (sos : Stamp) (rest : List Stamp) (n : Nat), decide
      (s.hw.use (pSCANCLK stn) SCANCLK.SC_CTRL_EOS_EDGE = 1) = falling ∧ (s.hw.stn stn).facets.sos = sos :: rest ∧
      (s.hw.stn stn).facets.num = some n ∧ (s.hw.stn stn).facets.eosSeen = false ∧ 576 * s.hw.scanDur stn n < 10 * (t -
      sos).toNat)
    ∧ (∃ (s : State) (stn : StationNo) (t : Stamp) (falling : Bool) (sos : Stamp) (rest : List Stamp), (s.hw.stn
      stn).facets.sos = sos :: rest ∧ (s.hw.stn stn).facets.eosSeen = true)
    ∧ (∃ (s : State) (stn : StationNo) (q : Stamp), (s.hw.stn stn).facets.pred 1 = some q ∧ s.hw.is (pSCANCLK stn)
      SCANCLK.SC_STS_LOCKED = true)
    ∧ (∃ (s : State) (stn : StationNo), (s.hw.stn stn).facets.relock = true)
    ∧ (∃ (s : State) (stn : StationNo), s.hw.is (pSCANCLK stn) SCANCLK.SC_CTRL_EN = true ∧ s.hw.runs (pSCANCLK stn) = true ∧
      s.hw.is (pSCANCLK stn) SCANCLK.SC_STS_PLL_LOCK = true ∧ pairGood (s.hw.divAct stn).1 (s.hw.divAct stn).2 = true ∧
      s.hw.is (pSCANCLK stn) SCANCLK.SC_STS_RUNNING = false)
    ∧ (∃ (s : State) (stn : StationNo), s.hw.is (pSCANCLK stn) SCANCLK.SC_STS_RUNNING = true)
    ∧ (∃ (s : State) (m : Master) (stn : StationNo), s.hw.takes m (addrOf SCANCLK.SC_CTRL_EN (pSCANCLK stn) 0) = true)
    ∧ (∃ (s : State) (m : Master) (stn : StationNo), s.hw.takes m (addrOf SCANCLK.SC_CTRL_EN (pSCANCLK stn) 0) = true) :=
  ⟨⟨facetNine, 0, by decide +kernel⟩,
    ⟨spinning, 0, 0, by decide +kernel⟩,
    ⟨spinning, 0, 1, 0, (21504000, 21504000, 22528000), by decide +kernel⟩,
    ⟨up, kernelMaster, 0, by decide +kernel⟩,
    ⟨up, 0, 0, false, by decide +kernel⟩,
    ⟨spinning, 0, 0, false, by decide +kernel⟩,
    ⟨up, 0, 0, true, by decide +kernel⟩,
    ⟨spinning, 0, 2000000000, false, 20480000, edges.tail, 0, by decide +kernel⟩,
    ⟨eosCame, 0, 0, false, 20480000, edges.tail, by decide +kernel⟩,
    ⟨spinning, 0, 21504000, by decide +kernel⟩,
    ⟨relocking, 0, by decide +kernel⟩,
    ⟨readyToStart, 0, by decide +kernel⟩,
    ⟨sclkRuns, 0, by decide +kernel⟩,
    ⟨up, kernelMaster, 0, by decide +kernel⟩,
    ⟨up, kernelMaster, 0, by decide +kernel⟩⟩

/-- The hypotheses of every clause of Obligations.EmitterCommandsComplete that has some are met. -/
theorem witness_emitter_commands_complete :
    (∃ (s : State) (m : Master) (stn : StationNo), s.hw.takes m (addrOf EMIT.EBANK_SWITCH (pEMIT stn) 0) = true ∧ (s.hw.stn
      stn).emit.sw = .idle)
    ∧ (∃ (s : State) (m : Master) (stn : StationNo), s.hw.takes m (addrOf EMIT.EBANK_CANCEL (pEMIT stn) 0) = true)
    ∧ (∃ (s : State) (stn : StationNo), (s.hw.stn stn).emit.sw = .validating)
    ∧ (∃ (s : State) (stn : StationNo) (b : Fin 2) (crc : Word), s.hw.linkUp (.head stn) = true ∧ (s.hw.stn
      stn).emit.redownload = [] ∧ (s.hw.stn stn).emit.sw = .downloading ∧ b.val = s.hw.emTarget stn ∧ crc.toNat = tget
      (fun _ => 0) (s.hw.stn stn).emit.expect b)
    ∧ (∃ (s : State) (stn : StationNo), (s.hw.stn stn).emit.sw = .downloading)
    ∧ (∃ (s : State) (m : Master) (stn : StationNo) (v : BitVec 16), s.hw.takes m (addrOf EMIT.CEIL_UW (pEMIT stn) 0) = true ∧
      s.hw.windowOpen = true)
    ∧ (∃ (s : State) (m : Master) (stn : StationNo), s.hw.takes m (addrOf EMIT.EM_CTRL_DEAD_CLR (pEMIT stn) 0) = true)
    ∧ (∃ (s : State) (stn : StationNo), (s.hw.stn stn).emit.deadClr = true ∧ s.hw.exposingOn stn = false)
    ∧ (∃ (s : State) (m : Master) (stn : StationNo) (v : Bool), s.hw.takes m (addrOf EMIT.EM_CTRL_CAL_EN (pEMIT stn) 0) =
      true)
    ∧ (∃ (s : State) (stn : StationNo) (b : Fin 48), s.hw.linkUp (.head stn) = true)
    ∧ (∃ (s : State) (stn : StationNo) (d : BitVec 20), s.hw.linkUp (.head stn) = true)
    ∧ (∃ (s : State) (stn : StationNo) (b : Fin 48) (step : Fin 16) (meas : BitVec 16), s.hw.linkUp (.head stn) = true ∧
      meas.toNat ≤ s.hw.rd (pEMIT stn) EMIT.CEIL_UW)
    ∧ (∃ (s : State) (stn : StationNo) (mask : BitVec 48), s.hw.linkUp (.head stn) = true ∧ (s.hw.stn stn).emit.testing =
      true)
    ∧ (∃ (s : State) (m : Master) (stn : StationNo), s.hw.takes m (addrOf EMIT.HEALTH_STS_MEAS_OVER (pEMIT stn) 0) = true) :=
  ⟨⟨up, kernelMaster, 0, by decide +kernel⟩,
    ⟨up, kernelMaster, 0, by decide +kernel⟩,
    ⟨checking, 0, by decide +kernel⟩,
    ⟨downloading, 0, 1, 0, by decide +kernel⟩,
    ⟨downloading, 0, by decide +kernel⟩,
    ⟨sealed, kernelMaster, 0, 0, by decide +kernel⟩,
    ⟨up, kernelMaster, 0, by decide +kernel⟩,
    ⟨clearing, 0, by decide +kernel⟩,
    ⟨up, kernelMaster, 0, false, by decide +kernel⟩,
    ⟨headOn, 0, 0, by decide +kernel⟩,
    ⟨headOn, 0, 0, by decide +kernel⟩,
    ⟨headOn, 0, 0, 0, 0, by decide +kernel⟩,
    ⟨headTests, 0, 0, by decide +kernel⟩,
    ⟨up, kernelMaster, 0, by decide +kernel⟩⟩

/-- The hypotheses of every clause of Obligations.HeadLinkCommandsComplete that has some are met. -/
theorem witness_head_link_commands_complete :
    (∃ (s : State) (stn : StationNo) (param : BitVec 64), s.hw.linkUp (.head stn) = true)
    ∧ (∃ (s : State) (stn : StationNo) (f : Frame), s.hw.linkUp (.head stn) = true ∧ s.hw.kernelRuns = true)
    ∧ (∃ (s : State) (l : LinkId) (reason : BitVec 8) (ch : BitVec 3) (seq : BitVec 16) (detail : BitVec 32), s.hw.linkUp l =
      true ∧ reason.toNat ≠ 0x14)
    ∧ (∃ (s : State) (l : LinkId) (reason : BitVec 8) (ch : BitVec 3) (seq : BitVec 16) (detail : BitVec 32), s.hw.linkUp l =
      true ∧ reason.toNat = 0x14)
    ∧ (∃ (s : State) (l : LinkId) (ch : BitVec 3) (seq : BitVec 16), s.hw.linkUp l = true ∧ ch.toNat = 3 ∨ ch.toNat = 4 ∧
      (s.hw.bufferFreed l ch.toNat).injArmed l.page 4 0 = false ∧ seq.toNat = (s.hw.chan l ch.toNat).rxSeq)
    ∧ (∃ (s : State) (l : LinkId) (ch : BitVec 3) (seq : BitVec 16), s.hw.linkUp l = true ∧ ((s.hw.chan l
      ch.toNat).unacked.any fun f => decide (f.seq = seq.toNat)) = true)
    ∧ (∃ (s : State) (l : LinkId) (ch : BitVec 3), s.hw.linkUp l = true ∧ (s.hw.chan l ch.toNat).unacked.isEmpty = false ∧
      (s.hw.chan l ch.toNat).failed = false ∧ (s.hw.chan l ch.toNat).resends < 8 ∧ ((s.hw.chan l ch.toNat).unacked.take
      (s.hw.chan l ch.toNat).credits).isEmpty = false)
    ∧ (∃ (s : State) (l : LinkId) (ch : BitVec 3), (s.hw.chan l ch.toNat).resends < 8 ∧ ((s.hw.chan l ch.toNat).unacked.take
      (s.hw.chan l ch.toNat).credits).isEmpty = true)
    ∧ (∃ (s : State) (l : LinkId) (ch : BitVec 3) (cnt : BitVec 8), s.hw.linkUp l = true ∧ ch.toNat = 3 ∨ ch.toNat = 4) :=
  ⟨⟨headOn, 0, 0, by decide +kernel⟩,
    ⟨headOn, 0, ⟨3, 0, 0, 0, 0, 0, []⟩, by decide +kernel⟩,
    ⟨headOn, .head 0, 0, 0, 0, 0, by decide +kernel⟩,
    ⟨headOn, .head 0, 0x14, 0, 0, 0, by decide +kernel⟩,
    ⟨headOn, .head 0, 3, 0, by decide +kernel⟩,
    ⟨frameOut, .head 0, 3, 0, by decide +kernel⟩,
    ⟨frameOut, .head 0, 3, by decide +kernel⟩,
    ⟨headOn, .head 0, 3, by decide +kernel⟩,
    ⟨headOn, .head 0, 3, 0, by decide +kernel⟩⟩

/-- The hypotheses of every clause of Obligations.LaneCommandsComplete that has some are met. -/
theorem witness_lane_commands_complete :
    (∃ (s : State) (l : LinkId) (k : Fin 3) (m : Message) (t : TsRec), m.ts = some t ∧ (s.hw.lane l k).st = .detect ∧ t.tsType
      = 1 ∧ k.val < l.lanes ∧ l.tsMatches k t = true ∧ 8 ≤ (s.hw.lane l k).aligns)
    ∧ (∃ (s : State) (l : LinkId) (k : Fin 3) (m : Message) (t : TsRec), m.ts = some t ∧ (s.hw.lane l k).st = .negotiate ∧
      t.tsType = 2 ∧ k.val < l.lanes ∧ l.tsMatches k t = true ∧ (decide (t.verMin ≤ 1 ∧ 1 ≤ t.verMax)) = true ∧ l.enough t
      = true)
    ∧ (∃ (s : State) (l : LinkId) (k : Fin 3) (m : Message) (t : TsRec), m.ts = some t ∧ (s.hw.lane l k).st = .quarantine ∧
      t.tsType = 2 ∧ k.val < l.lanes ∧ l.tsMatches k t = true ∧ (decide (t.verMin ≤ 1 ∧ 1 ≤ t.verMax)) = true ∧ (s.hw.lane
      l k).reason ≠ 4 ∨ l.enough t = true)
    ∧ (∃ (s : State) (l : LinkId) (k : Fin 3) (m : Message) (t : TsRec), m.ts = some t ∧ (s.hw.lane l k).st = .confirm ∧
      t.tsType = 3 ∧ k.val < l.lanes ∧ l.tsMatches k t = true ∧ t.verAgreed = 1)
    ∧ (∃ (s : State) (l : LinkId) (k : Fin 3), (s.hw.lane l k).st = .detect)
    ∧ (∃ (s : State) (l : LinkId) (k : Fin 3), (s.hw.lane l k).st = .negotiate)
    ∧ (∃ (s : State) (l : LinkId) (k : Fin 3), (s.hw.lane l k).st = .confirm)
    ∧ (∃ (s : State) (l : LinkId) (k : Fin 3), (s.hw.lane l k).st = .failed)
    ∧ (∃ (s : State) (l : LinkId) (k : Fin 3) (am : BitVec 64) (fields : BitVec 54) (skew : BitVec 16) (corrected : BitVec 32)
      (a : AlignRec), k.val < l.lanes ∧ (alignMessage am fields).align = some a ∧ l.alignValid k (s.hw.lane l k) a = true
      ∧ skew.toNat ≤ 1934)
    ∧ (∃ (s : State) (l : LinkId) (k : Fin 3) (am : BitVec 64) (fields : BitVec 54) (skew : BitVec 16) (corrected : BitVec
      32), k.val < l.lanes ∧ (alignMessage am fields).align = none)
    ∧ (∃ (s : State) (l : LinkId) (k : Fin 3), (s.hw.lane l k).st = .active)
    ∧ (∃ (s : State) (l : LinkId) (k : Fin 3), (s.hw.lane l k).st ≠ .active)
    ∧ (∃ (s : State) (k : Fin 3) (pos : BitVec 8) (others : Option (Message × Message)) (q : Fin 2), (s.hw.lane (.peer q)
      k).st = .active)
    ∧ (∃ (s : State) (k : Fin 3) (pos : BitVec 8) (others : Option (Message × Message)) (q : Fin 8), (s.hw.lane (.head q)
      k).st = .active)
    ∧ (∃ (s : State) (stn : StationNo) (u : Unit) (k : Nat), ((List.range 3).find? fun k => decide ((s.hw.lane (.head stn)
      k).st = .active)) = some k)
    ∧ (∃ (s : State) (m : Master) (l : LinkId), s.hw.takes m (l.page + 0x80) = true)
    ∧ (∃ (s : State) (m : Master) (stn : StationNo) (en : Bool) (lanes : BitVec 3), s.hw.takes m (addrOf IVINA.IV_CTRL_EN
      (pIVINA stn) 0) = true)
    ∧ (∃ (s : State) (m : Master) (p : Fin 2) (en : Bool) (lanes : BitVec 2), s.hw.takes m (addrOf PEER.PR_CTRL_EN (pPEER p)
      0) = true)
    ∧ (∃ (s : State) (m : Master) (stn : StationNo), s.hw.takes m (addrOf IVINA.IV_CTRL_LEN_EN (pIVINA stn) 0) = true ∧
      isKernel m = true ∧ s.hw.lenMay stn = true)
    ∧ (∃ (s : State) (m : Master) (stn : StationNo), s.hw.takes m (addrOf IVINA.IV_CTRL_LEN_EN (pIVINA stn) 0) = true) :=
  ⟨⟨laneIn .detect, .head 0, 0, (tsOf 1).message, tsOf 1, by decide +kernel⟩,
    ⟨laneIn .negotiate, .head 0, 0, (tsOf 2).message, tsOf 2, by decide +kernel⟩,
    ⟨laneIn .quarantine, .head 0, 0, (tsOf 2).message, tsOf 2, by decide +kernel⟩,
    ⟨laneIn .confirm, .head 0, 0, (tsOf 3).message, tsOf 3, by decide +kernel⟩,
    ⟨laneIn .detect, .head 0, 0, by decide +kernel⟩,
    ⟨laneIn .negotiate, .head 0, 0, by decide +kernel⟩,
    ⟨laneIn .confirm, .head 0, 0, by decide +kernel⟩,
    ⟨laneIn .failed, .head 0, 0, by decide +kernel⟩,
    ⟨headOn, .head 0, 0, BitVec.ofNat 64 alignMark, firstFields, 0, 0, firstAlign, by decide +kernel⟩,
    ⟨headOn, .head 0, 0, 0, 0, 0, 0, by decide +kernel⟩,
    ⟨headOn, .head 0, 0, by decide +kernel⟩,
    ⟨laneIn .negotiate, .head 0, 0, by decide +kernel⟩,
    ⟨peerOn, 0, 0, none, 0, by decide +kernel⟩,
    ⟨headOn, 0, 0, none, 0, by decide +kernel⟩,
    ⟨headOn, 0, (), 0, by decide +kernel⟩,
    ⟨up, kernelMaster, .head 0, by decide +kernel⟩,
    ⟨up, kernelMaster, 0, false, 0, by decide +kernel⟩,
    ⟨up, kernelMaster, 0, false, 0, by decide +kernel⟩,
    ⟨lenReady, kernelMaster, 0, by decide +kernel⟩,
    ⟨up, kernelMaster, 0, by decide +kernel⟩⟩

/-- The hypotheses of every clause of Obligations.EncoderCommandsComplete that has some are met. -/
theorem witness_encoder_commands_complete :
    (∃ (s : State) (c : Fin 20) (a : Bool) (b : Bool) (t : Stamp), s.hw.encCounts c = true ∧ (s.hw.encSt c).a ≠ a ∧
      (s.hw.encSt c).b = b)
    ∧ (∃ (s : State) (c : Fin 20) (a : Bool) (b : Bool) (t : Stamp), s.hw.encCounts c = true ∧ (s.hw.encSt c).a = a ∧
      (s.hw.encSt c).b ≠ b)
    ∧ (∃ (s : State) (c : Fin 20) (t : Stamp), s.hw.encCounts c = true)
    ∧ (∃ (s : State) (c : Fin 20) (line : Fin 3), s.hw.encIs c FEEDBACK.CH_CFG_LOSS_EN = true ∧ s.hw.runs (fbPage c) = true ∧
      s.hw.encWatches c line = true)
    ∧ (∃ (s : State) (c : Fin 20) (a : Bool) (b : Bool) (t : Stamp), s.hw.encCounts c = true ∧ (encoderCount c a b t
      s.hw).encCounts c = true)
    ∧ (∃ (s : State) (c : Fin 20), s.hw.encOn c = true ∧ s.hw.enc c FEEDBACK.CH_CFG_MODE = 3)
    ∧ (∃ (s : State) (c : Fin 20) (t : Stamp) (started : Bool) (released : Bool) (position : List Bool) (nE : Bool) (nW :
      Bool) (crc : BitVec 6) (delay : BitVec 32), s.hw.encOn c = true ∧ s.hw.enc c FEEDBACK.CH_CFG_MODE = 3 ∧
      (let x := bissData (clampN 8 40 (s.hw.enc c FEEDBACK.BISS_CFG_BITS)) (bissBits position nE nW crc); started && x.crcOk && x.nE && released)
      = false)
    ∧ (∃ (s : State) (c : Fin 20) (t : Stamp) (position : List Bool) (nE : Bool) (nW : Bool) (crc : BitVec 6) (delay : BitVec
      32) (x : BissData), s.hw.encOn c = true ∧ s.hw.enc c FEEDBACK.CH_CFG_MODE = 3 ∧ bissData (clampN 8 40 (s.hw.enc c
      FEEDBACK.BISS_CFG_BITS)) (bissBits position nE nW crc) = x ∧ x.crcOk = true ∧ x.nE = true)
    ∧ (∃ (s : State) (c : Fin 20) (t : Stamp), s.hw.encLives c = true)
    ∧ (∃ (s : State) (c : Fin 20), s.hw.encLives c = true)
    ∧ (∃ (s : State) (d : Fin 4) (t : Stamp) (x : Bool) (xs : List Bool), (s.hw.divSt d).backlog = x :: xs ∧ s.hw.divOn d =
      true ∧ s.hw.divFree d t = true)
    ∧ (∃ (s : State) (m : Master) (d : Fin 4) (w : Word), s.hw.takes m (addrOf FEEDBACK.DIV_CFG_EN (pFEEDBACK 2) d) = true ∧
      s.hw.div d FEEDBACK.DIV_DEN ≠ 0 ∧ s.hw.div d FEEDBACK.DIV_NUM ≤ s.hw.div d FEEDBACK.DIV_DEN ∧ s.hw.div d
      FEEDBACK.DIV_CFG_EN = 0 ∧ w &&& 1 = 0)
    ∧ (∃ (s : State) (m : Master) (c : Fin 20), s.hw.takes m (addrOf FEEDBACK.CH_STS_ILLEGAL (fbPage c) (c % 8)) = true)
    ∧ (∃ (s : State) (m : Master) (c : Fin 20), s.hw.takes m (addrOf FEEDBACK.CH_CFG_EN (fbPage c) (c % 8)) = true)
    ∧ (∃ (s : State) (m : Master) (c : Fin 20), s.hw.takes m (addrOf FEEDBACK.CH_CFG_EN (fbPage c) (c % 8)) = true ∧
      s.hw.encIs c FEEDBACK.CH_CFG_EN = false) :=
  ⟨⟨encoderOn, 0, true, false, 0, by decide +kernel⟩,
    ⟨encoderOn, 0, false, true, 0, by decide +kernel⟩,
    ⟨encoderOn, 0, 0, by decide +kernel⟩,
    ⟨encoderOn, 0, 0, by decide +kernel⟩,
    ⟨encoderOn, 0, false, false, 0, by decide +kernel⟩,
    ⟨bissOn, 0, by decide +kernel⟩,
    ⟨bissOn, 0, 0, false, false, [], false, false, 0, 0, by decide +kernel⟩,
    ⟨bissOn, 0, 0, goodPosition, true, true, goodCrc, 0, bissData 32 (bissBits goodPosition true true goodCrc), by decide +kernel⟩,
    ⟨encoderOn, 0, 0, by decide +kernel⟩,
    ⟨encoderOn, 0, by decide +kernel⟩,
    ⟨dividing, 0, 0, true, [], by decide +kernel⟩,
    ⟨up, kernelMaster, 0, 0, by decide +kernel⟩,
    ⟨up, kernelMaster, 0, by decide +kernel⟩,
    ⟨up, kernelMaster, 0, by decide +kernel⟩,
    ⟨up, kernelMaster, 0, by decide +kernel⟩⟩

/-- The hypotheses of every clause of Obligations.AxisEnableCommandsComplete that has some are met. -/
theorem witness_axis_enable_commands_complete :
    (∃ (s : State) (m : Master) (n : Fin 20), s.hw.takes m (addrOf AXIS.AX_CTRL_EN (pAXIS n) 0) = true)
    ∧ (∃ (s : State) (m : Master) (n : Fin 20), s.hw.takes m (addrOf AXIS.AX_CTRL_EN (pAXIS n) 0) = true ∧ s.hw.axState n = 0
      ∧ s.hw.is (pAXIS n) AXIS.AX_STS_MBUS_LOW = false ∧
      (let u := (if isKernel m then (s.hw.wr (pAXIS n) AXIS.AX_CTRL_EN 1).rearmUnit (axisBank n) (axisBridge n) else s.hw.wr (pAXIS n) AXIS.AX_CTRL_EN 1); u.stageHeld (axisBank n) (axisBridge n))
      = false)
    ∧ (∃ (s : State) (m : Master) (n : Fin 20), s.hw.takes m (addrOf AXIS.AX_CTRL_EN (pAXIS n) 0) = true ∧ s.hw.axState n = 0
      ∧ s.hw.is (pAXIS n) AXIS.AX_STS_MBUS_LOW = false ∧
      (let u := (if isKernel m then (s.hw.wr (pAXIS n) AXIS.AX_CTRL_EN 1).rearmUnit (axisBank n) (axisBridge n) else s.hw.wr (pAXIS n) AXIS.AX_CTRL_EN 1); u.stageHeld (axisBank n) (axisBridge n))
      = true)
    ∧ (∃ (s : State) (m : Master) (n : Fin 20), s.hw.takes m (addrOf AXIS.AX_CTRL_ALIGN_REQ (pAXIS n) 0) = true ∧ isPoly n =
      false)
    ∧ (∃ (s : State) (n : Fin 20) (speed : BitVec 32) (theta : BitVec 16) (amp : BitVec 16), s.hw.axState n = 1)
    ∧ (∃ (s : State) (n : Fin 20) (speed : BitVec 32) (theta : BitVec 16) (amp : BitVec 16), s.hw.axState n = 2)
    ∧ (∃ (s : State) (n : Fin 20), s.hw.axState n = 2)
    ∧ (∃ (s : State) (n : Fin 20), s.hw.axState n = 3)
    ∧ (∃ (s : State) (n : Fin 20), s.hw.axState n = 3)
    ∧ (∃ (s : State) (n : Fin 20), s.hw.axState n = 4 ∧ isPoly n = true)
    ∧ (∃ (s : State) (n : Fin 20), s.hw.axState n = 4 ∧ isPoly n = false)
    ∧ (∃ (s : State) (n : Fin 20), s.hw.axState n = 5) :=
  ⟨⟨up, kernelMaster, 0, by decide +kernel⟩,
    ⟨estopsShut, kernelMaster, 0, by decide +kernel⟩,
    ⟨up, kernelMaster, 0, by decide +kernel⟩,
    ⟨up, kernelMaster, 8, by decide +kernel⟩,
    ⟨axisIn 0 1, 0, 0, 0, 0, by decide +kernel⟩,
    ⟨axisIn 0 2, 0, 0, 0, 0, by decide +kernel⟩,
    ⟨axisIn 0 2, 0, by decide +kernel⟩,
    ⟨axisIn 0 3, 0, by decide +kernel⟩,
    ⟨axisIn 0 3, 0, by decide +kernel⟩,
    ⟨axisIn 0 4, 0, by decide +kernel⟩,
    ⟨axisIn 8 4, 8, by decide +kernel⟩,
    ⟨axisIn 0 5, 0, by decide +kernel⟩⟩

/-- The hypotheses of every clause of Obligations.AxisRunCommandsComplete that has some are met. -/
theorem witness_axis_run_commands_complete :
    (∃ (s : State) (n : Fin 20) (codeA : BitVec 16) (codeB : BitVec 16) (zero : BitVec 16) (vbus : BitVec 16) (obsTheta :
      BitVec 16) (obsSpeed : BitVec 32) (t : Stamp), (s.hw.axBegin n zero.toInt obsSpeed.toInt t).hw.runs (pAXIS n) = true
      ∧ modulates ((s.hw.axBegin n zero.toInt obsSpeed.toInt t).hw.axState n) = false)
    ∧ (∃ (s : State) (n : Fin 20) (codeA : BitVec 16) (codeB : BitVec 16) (zero : BitVec 16) (vbus : BitVec 16) (obsTheta :
      BitVec 16) (obsSpeed : BitVec 32) (t : Stamp), (s.hw.axBegin n zero.toInt obsSpeed.toInt t).hw.runs (pAXIS n) =
      false)
    ∧ (∃ (s : State) (n : Fin 20) (codeA : BitVec 16) (codeB : BitVec 16) (zero : BitVec 16) (vbus : BitVec 16) (obsTheta :
      BitVec 16) (obsSpeed : BitVec 32) (t : Stamp), (s.hw.axBegin n zero.toInt obsSpeed.toInt t).hw.runs (pAXIS n) = true
      ∧ modulates ((s.hw.axBegin n zero.toInt obsSpeed.toInt t).hw.axState n) = true ∧
      (let b := s.hw.axBegin n zero.toInt obsSpeed.toInt t; b.hw.overCurrent n (!b.trips.isEmpty) b.ofs codeA.toInt codeB.toInt)
      = true)
    ∧ (∃ (s : State) (n : Fin 20) (codeA : BitVec 16) (codeB : BitVec 16) (zero : BitVec 16) (vbus : BitVec 16) (obsTheta :
      BitVec 16) (obsSpeed : BitVec 32) (t : Stamp), (s.hw.axBegin n zero.toInt obsSpeed.toInt t).hw.runs (pAXIS n) = true
      ∧ modulates ((s.hw.axBegin n zero.toInt obsSpeed.toInt t).hw.axState n) = true ∧
      (let b := s.hw.axBegin n zero.toInt obsSpeed.toInt t; b.hw.overCurrent n (!b.trips.isEmpty) b.ofs codeA.toInt codeB.toInt)
      = false ∧ (s.hw.axBegin n zero.toInt obsSpeed.toInt t).hw.overSpeed n (s.hw.axBegin n zero.toInt obsSpeed.toInt
      t).speed = true)
    ∧ (∃ (s : State) (n : Fin 20) (codeA : BitVec 16) (codeB : BitVec 16) (zero : BitVec 16) (vbus : BitVec 16) (obsTheta :
      BitVec 16) (obsSpeed : BitVec 32) (t : Stamp), (s.hw.axBegin n zero.toInt obsSpeed.toInt t).hw.runs (pAXIS n) = true
      ∧ modulates ((s.hw.axBegin n zero.toInt obsSpeed.toInt t).hw.axState n) = true ∧
      (let b := s.hw.axBegin n zero.toInt obsSpeed.toInt t; b.hw.overCurrent n (!b.trips.isEmpty) b.ofs codeA.toInt codeB.toInt)
      = false ∧ (s.hw.axBegin n zero.toInt obsSpeed.toInt t).hw.overSpeed n (s.hw.axBegin n zero.toInt obsSpeed.toInt
      t).speed = false ∧ (isPoly n && decide ((s.hw.axBegin n zero.toInt obsSpeed.toInt t).hw.axState n = 7) && decide
      (obsSpeed.toInt < 9600)) = false)
    ∧ (∃ (s : State) (n : Fin 20), s.hw.axState n = 6)
    ∧ (∃ (s : State) (n : Fin 20), isPoly n = true ∧ s.hw.axState n = 7)
    ∧ (∃ (s : State) (n : Fin 20), s.hw.axState n = 7 ∧ s.hw.use (pAXIS n) AXIS.AX_CTRL_IQ_SRC = 0 ∧ 1000 * s.hw.use (pAXIS n)
      AXIS.GOV_WD < s.hw.clk.cycles - s.hw.axHeard n)
    ∧ (∃ (s : State) (n : Fin 20), isPoly n = true ∧ s.hw.axState n = 8 ∧ s.hw.kernelRuns = true)
    ∧ (∃ (s : State) (n : Fin 8) (j : Nat), s.hw.kernelRuns = true ∧ s.hw.is (pSCANCLK n) SCANCLK.SC_STS_LOCKED = true ∧
      s.hw.axState n = 7 ∧ 10000 * (signed 32 (s.hw.rd (pAXIS n) AXIS.SPEED_EST) - 16 * s.hw.polyRpm s.hw.runGrade).natAbs
      ≤ 4 * (16 * s.hw.polyRpm s.hw.runGrade) ∧ s.hw.phaseSlot n = some j)
    ∧ (∃ (s : State) (mask : BitVec 8), s.hw.kernelRuns = true)
    ∧ (∃ (s : State) (n : Fin 8), s.hw.axState n = 7) :=
  ⟨⟨up, 0, 0, 0, 0, 0, 0, 0, 0, by decide +kernel⟩,
    ⟨axisHeld, 0, 0, 0, 0, 0, 0, 0, 0, by decide +kernel⟩,
    ⟨axisSampled, 0, 0x7F80, 0, 0, 0, 0, 0, 0, by decide +kernel⟩,
    ⟨axisIn 0 7, 0, 0, 0, 0, 0, 0, 0x7FFFFFFF, 0, by decide +kernel⟩,
    ⟨axisIn 0 7, 0, 0, 0, 0, 0, 0, 16000, 0, by decide +kernel⟩,
    ⟨axisIn 0 6, 0, by decide +kernel⟩,
    ⟨axisIn 0 7, 0, by decide +kernel⟩,
    ⟨axisSilent, 0, by decide +kernel⟩,
    ⟨axisIn 0 8, 0, by decide +kernel⟩,
    ⟨engaging, 0, 0, by decide +kernel⟩,
    ⟨up, 0, by decide +kernel⟩,
    ⟨axisIn 0 7, 0, by decide +kernel⟩⟩

/-- The hypotheses of every clause of Obligations.GateCommandsComplete that has some are met. -/
theorem witness_gate_commands_complete :
    (∃ (s : State) (x : Fin 6) (l : Fin 24) (side : Fin 2) (gross : Bool) (blanked : Bool), l.val / bankLegs x < bankBridges x
      ∧ (blanked && !gross) = false ∧ s.hw.heldBefore x (l.val / bankLegs x) = false ∧ ((s.hw.bridge x (l.val / bankLegs
      x)).trips.any fun k => decide (k.leg = l.val ∧ k.side = side.val)) = false ∧ s.hw.bit (pGATE x) GATE.BRIDGE_LATCH
      (l.val / bankLegs x) = false)
    ∧ (∃ (s : State) (x : Fin 6) (l : Fin 24) (mv : BitVec 16), l.val / bankLegs x < bankBridges x ∧ s.hw.bit (pGATE x)
      GATE.BOOT_OK l = true ∧ mv.toNat < 8500)
    ∧ (∃ (s : State) (x : Fin 6) (l : Fin 24) (mv : BitVec 16), l.val / bankLegs x < bankBridges x ∧ s.hw.bit (pGATE x)
      GATE.BOOT_OK l = false ∧ 9500 < mv.toNat)
    ∧ (∃ (s : State) (x : Fin 6) (mv : BitVec 16), s.hw.is (pGATE x) GATE.GD_STS_VGD_OK = true ∧ mv.toNat < 10500 ∨ 13500 <
      mv.toNat)
    ∧ (∃ (s : State) (x : Fin 6) (mv : BitVec 16), 11000 < mv.toNat ∧ mv.toNat < 13000)
    ∧ (∃ (s : State) (x : Fin 6), s.hw.is (pGATE x) GATE.GD_STS_VGD_OK = true ∧ s.hw.is (pGATE x) GATE.GD_STS_BANK_OFF = true)
    ∧ (∃ (s : State) (m : Master) (x : Fin 6) (mask : BitVec 8), s.hw.takes m (addrOf GATE.BRIDGE_CLR (pGATE x) 0) = true) :=
  ⟨⟨bankLive, 0, 0, 0, false, false, by decide +kernel⟩,
    ⟨booted, 0, 0, 0, by decide +kernel⟩,
    ⟨up, 0, 0, 9501, by decide +kernel⟩,
    ⟨gated, 0, 0, by decide +kernel⟩,
    ⟨up, 0, 12000, by decide +kernel⟩,
    ⟨bankBack, 0, by decide +kernel⟩,
    ⟨up, kernelMaster, 0, 0, by decide +kernel⟩⟩

/-- The hypotheses of every clause of Obligations.StepperCommandsComplete that has some are met. -/
theorem witness_stepper_commands_complete :
    (∃ (s : State) (m : Master) (n : Fin 16), s.hw.takes m (addrOf STEP.STEP_CTRL_EN (pSTEP n) 0) = true)
    ∧ (∃ (s : State) (m : Master) (n : Fin 16), s.hw.takes m (addrOf STEP.STEP_CTRL_EN (pSTEP n) 0) = true ∧ s.hw.is (pSTEP n)
      STEP.STEP_STS_MBUS_LOW = false ∧ s.hw.stpState n = 0 ∧
      (let u := (if isKernel m then (s.hw.wr (pSTEP n) STEP.STEP_CTRL_EN 1).rearmUnit (stepBank n) (stepBridge n) else s.hw.wr (pSTEP n) STEP.STEP_CTRL_EN 1); u.stageHeld (stepBank n) (stepBridge n))
      = false)
    ∧ (∃ (s : State) (n : Fin 16), s.hw.stpState n = 1)
    ∧ (∃ (s : State) (n : Fin 16), s.hw.stpState n = 1)
    ∧ (∃ (s : State) (m : Master) (n : Fin 16), s.hw.takes m (addrOf STEP.STEP_CTRL_STOP_NOW (pSTEP n) 0) = true)
    ∧ (∃ (s : State) (m : Master) (n : Fin 16) (v : Word), s.hw.takes m (addrOf STEP.TARGET (pSTEP n) 0) = true)
    ∧ (∃ (s : State) (m : Master) (n : Fin 16) (v : BitVec 16), s.hw.takes m (addrOf STEP.V_TGT (pSTEP n) 0) = true)
    ∧ (∃ (s : State) (m : Master) (n : Fin 16) (v : BitVec 2), s.hw.takes m (addrOf STEP.STEP_CTRL_MODE (pSTEP n) 0) = true ∧
      v.toNat < 2 ∧ 4 ≤ s.hw.rdvOf n)
    ∧ (∃ (s : State) (m : Master) (n : Fin 16) (v : Word), s.hw.takes m (addrOf STEP.POS_SET (pSTEP n) 0) = true ∧
      s.hw.stpState n = 2)
    ∧ (∃ (s : State) (n : Fin 16) (iA : BitVec 16) (iB : BitVec 16) (vbus : BitVec 16) (t : Stamp), (s.hw.chopBegin n
      t).2.stpTakes n = true ∧ (s.hw.chopBegin n t).2.runs (pSTEP n) = true)
    ∧ (∃ (s : State) (n : Fin 16), s.hw.stpState n = 2) :=
  ⟨⟨up, kernelMaster, 0, by decide +kernel⟩,
    ⟨estopsShut, kernelMaster, 0, by decide +kernel⟩,
    ⟨stepIn 1, 0, by decide +kernel⟩,
    ⟨stepIn 1, 0, by decide +kernel⟩,
    ⟨up, kernelMaster, 0, by decide +kernel⟩,
    ⟨up, kernelMaster, 0, 0, by decide +kernel⟩,
    ⟨up, kernelMaster, 0, 0, by decide +kernel⟩,
    ⟨up, kernelMaster, 0, 0, by decide +kernel⟩,
    ⟨stepIn 2, kernelMaster, 0, 0, by decide +kernel⟩,
    ⟨stepIn 2, 0, 0, 0, 0, 0, by decide +kernel⟩,
    ⟨stepIn 2, 0, by decide +kernel⟩⟩

/-- The hypotheses of every clause of Obligations.MotionCommandsComplete that has some are met. -/
theorem witness_motion_commands_complete :
    (∃ (s : State) (t : Stamp), (forN 16 (fun n u => u.unitBoundary (pSTEP n) 0) (s.hw.beltSample t)).runs pMOTION = false)
    ∧ (∃ (s : State) (t : Stamp), (forN 16 (fun n u => u.unitBoundary (pSTEP n) 0) (s.hw.beltSample t)).runs pMOTION = true)
    ∧ (∃ (s : State) (m : Master) (g : Fin 4) (w : Word), s.hw.takes m (addrOf MOTION.GRP_CFG_MEMBERS pMOTION g) = true ∧
      popCount16 (bitsOf w 15 0) ≤ 4 ∧ bitsOf w 31 31 = 0 ∧ s.hw.mo MOTION.GRP_CFG_EN g = 0)
    ∧ (∃ (s : State) (m : Master) (g : Fin 4), s.hw.takes m (addrOf MOTION.GRP_GO pMOTION g) = true ∧ s.hw.mo
      MOTION.GRP_CFG_EN g ≠ 0 ∧ s.hw.runs pMOTION = true ∧ s.hw.grpMoving g = false ∧ ((below 16 fun n => bitAt (s.hw.mo
      MOTION.GRP_CFG_MEMBERS g) n).any fun n => s.hw.stpExited n) = false ∧ ((below 16 fun n => bitAt (s.hw.mo
      MOTION.GRP_CFG_MEMBERS g) n).any fun n => !s.hw.stpTakes n || decide (s.hw.stpState n = 3)) = false)
    ∧ (∃ (s : State) (m : Master) (g : Fin 4), s.hw.takes m (addrOf MOTION.GRP_GO pMOTION g) = true ∧ s.hw.mo
      MOTION.GRP_CFG_EN g ≠ 0 ∧ s.hw.runs pMOTION = true ∧ s.hw.grpMoving g = true ∧ ((below 16 fun n => bitAt (s.hw.mo
      MOTION.GRP_CFG_MEMBERS g) n).any fun n => s.hw.stpExited n) = false ∧ ((below 16 fun n => bitAt (s.hw.mo
      MOTION.GRP_CFG_MEMBERS g) n).any fun n => !s.hw.stpTakes n) = false)
    ∧ (∃ (s : State) (m : Master) (r : Fin 4), s.hw.takes m (addrOf MOTION.RDV_CTRL_GO pMOTION r) = true ∧ s.hw.rdvState r = 0
      ∧ s.hw.stpTakes (s.hw.mo MOTION.RDV_CTRL_AXIS r) = true ∧ s.hw.stpExited (s.hw.mo MOTION.RDV_CTRL_AXIS r) = false ∧
      4 ≤ s.hw.rdvOf (s.hw.mo MOTION.RDV_CTRL_AXIS r) ∧ 4 ≤ s.hw.grpOf (s.hw.mo MOTION.RDV_CTRL_AXIS r))
    ∧ (∃ (s : State) (m : Master) (r : Fin 4), s.hw.takes m (addrOf MOTION.RDV_CTRL_ABORT pMOTION r) = true ∧ s.hw.rdvState r
      ≠ 0) :=
  ⟨⟨motionOff, 0, by decide +kernel⟩,
    ⟨up, 0, by decide +kernel⟩,
    ⟨up, kernelMaster, 0, 0, by decide +kernel⟩,
    ⟨grouped, kernelMaster, 0, by decide +kernel⟩,
    ⟨groupMoves, kernelMaster, 0, by decide +kernel⟩,
    ⟨stepIn 2, kernelMaster, 0, by decide +kernel⟩,
    ⟨rdvOn, kernelMaster, 0, by decide +kernel⟩⟩

/-- The hypotheses of every clause of Obligations.GovernorCommandsComplete that has some are met. -/
theorem witness_governor_commands_complete :
    (∃ (s : State) (j : Fin 96), s.hw.slUse j GOV.SL_CFG_TRIG = 0 ∨ (s.hw.gov j).due ≠ 0 ∧ s.hw.injArmed (govPage j) 2 0 =
      false ∧ s.hw.injArmed (govPage j) 1 0 = false)
    ∧ (∃ (s : State) (g : Fin 4) (x : GovSample) (rest : List GovSample), (s.hw.govU g).queue = x :: rest ∧ s.hw.govLate x =
      false)
    ∧ (∃ (s : State) (g : Fin 4) (x : GovSample) (rest : List GovSample), (s.hw.govU g).queue = x :: rest ∧ s.hw.govLate x =
      true)
    ∧ (∃ (s : State) (j : Fin 96) (x : GovSample), ((s.hw.govU (govUnitOf j)).queue.find? fun x => decide (x.slot = j.val)) =
      some x ∧ s.hw.govLate x = true)
    ∧ (∃ (s : State) (m : Master) (j : Fin 96), s.hw.takes m (addrOf GOV.SL_CFG_EN (govPage j) (j % 24)) = true ∧ s.hw.govEn j
      = false ∧ s.hw.govValidate j (s.hw.sl j GOV.SL_STS_ACTIVE_BANK) = none ∧ ([s.hw.inUse, s.hw.afterCommits].any fun v
      => overLoad (s.hw.govLoad v (govUnitOf j) fun k => decide (k = j.val) || s.hw.govEn k)) = false ∧ targetClash
      [s.hw.inUse, s.hw.afterCommits] (fun k => decide (k = j.val) || s.hw.govEn k) j = false)
    ∧ (∃ (s : State) (m : Master) (j : Fin 96), s.hw.takes m (addrOf GOV.SL_CFG_EN (govPage j) (j % 24)) = true ∧ s.hw.govEn j
      = true)
    ∧ (∃ (s : State) (m : Master) (j : Fin 96), s.hw.takes m (addrOf GOV.SL_STS_SWITCH (govPage j) (j % 24)) = true ∧
      (s.hw.gov j).validating = false ∧ s.hw.slIs j GOV.SL_STS_SW_PEND = false)
    ∧ (∃ (s : State) (j : Fin 96), (s.hw.gov j).validating = true)
    ∧ (∃ (s : State) (m : Master) (g : Fin 4), s.hw.takes m (addrOf GOV.GV_CTRL_STAT_CLR (pGOV g) 0) = true) :=
  ⟨⟨up, 0, by decide +kernel⟩,
    ⟨evaluating, 0, aSample, [], by decide +kernel⟩,
    ⟨evaluatingLate, 0, aSample, [], by decide +kernel⟩,
    ⟨evaluatingLate, 0, aSample, by decide +kernel⟩,
    ⟨slotGood, kernelMaster, 0, by decide +kernel⟩,
    ⟨slotOn, kernelMaster, 0, by decide +kernel⟩,
    ⟨up, kernelMaster, 0, by decide +kernel⟩,
    ⟨slotValidating, 0, by decide +kernel⟩,
    ⟨up, kernelMaster, 0, by decide +kernel⟩⟩

/-- The hypotheses of every clause of Obligations.HighVoltageCommandsComplete that has some are met. -/
theorem witness_high_voltage_commands_complete :
    (∃ (s : State) (c : Fin 42) (vs : BitVec 16) (is : BitVec 16), s.hw.blockAnswers (hvPage c) = true)
    ∧ (∃ (s : State) (c : Fin 42) (current : Bool) (pass : Bool), s.hw.blockAnswers (hvPage c) = true)
    ∧ (∃ (s : State) (m : Master) (i : Fin 3) (mask : BitVec 14), s.hw.takes m (addrOf HVIO.HV_CLR (pHVIO i) 0) = true)
    ∧ (∃ (s : State) (m : Master), s.hw.takes m (addrOf HVIO.PT_BANK_SWITCH (pHVIO 0) 0) = true ∧ s.hw.is (pHVIO 0)
      HVIO.PT_BANK_SWITCH_PEND = false)
    ∧ (∃ (s : State), s.hw.is (pHVIO 0) HVIO.PT_BANK_SWITCH_PEND = true ∧ s.hw.anyExposing = false)
    ∧ (∃ (s : State) (c : Fin 42) (us : BitVec 32) (j : Nat) (pg : PageRec), s.hw.kernelRuns = true ∧ s.hw.hvSlot c = some j ∧
      s.hw.hvPage? c = some pg ∧ (decide (c.val < 40) && s.hw.exposingOn (hvStation c)) = false)
    ∧ (∃ (s : State) (m : Master) (c : Fin 42) (v : Bool), s.hw.takes m (addrOf HVIO.HV_CFG_EN (hvPage c) (c % 14)) = true) :=
  ⟨⟨up, 0, 0, 0, by decide +kernel⟩,
    ⟨up, 0, false, false, by decide +kernel⟩,
    ⟨up, kernelMaster, 0, 0, by decide +kernel⟩,
    ⟨up, kernelMaster, by decide +kernel⟩,
    ⟨setPending, by decide +kernel⟩,
    ⟨ramping, 0, 0, 0, ready1, by decide +kernel⟩,
    ⟨up, kernelMaster, 0, false, by decide +kernel⟩⟩

/-- The hypotheses of every clause of Obligations.LampCommandsComplete that has some are met. -/
theorem witness_lamp_commands_complete :
    (∃ (s : State) (rising : Bool) (t : Stamp), s.hw.blockAnswers pLAMP = true ∧ s.hw.mains.last = none)
    ∧ (∃ (s : State) (rising : Bool) (t : Stamp) (u : Stamp), s.hw.blockAnswers pLAMP = true ∧ s.hw.mains.last = some u ∧
      1024000000000 ≤ 130 * (t - u).toNat ∧ 90 * (t - u).toNat ≤ 1024000000000)
    ∧ (∃ (s : State) (rising : Bool) (t : Stamp) (u : Stamp), s.hw.blockAnswers pLAMP = true ∧ s.hw.mains.last = some u ∧ 130
      * (t - u).toNat < 1024000000000 ∨ 1024000000000 < 90 * (t - u).toNat)
    ∧ (∃ (s : State) (rising : Bool), s.hw.runs pLAMP = true ∧ s.hw.is pLAMP LAMP.LP_STS_ZC_OK = true)
    ∧ (∃ (s : State) (k : Fin 8) (peak : BitVec 17), s.hw.lcState k ≠ 5 ∧ s.hw.blockAnswers pLAMP = true ∧ 2 *
      s.hw.lampEnvelope k < peak.toNat)
    ∧ (∃ (s : State) (k : Fin 8) (peak : BitVec 32) (rms : BitVec 32), s.hw.blockAnswers pLAMP = true)
    ∧ (∃ (s : State), s.hw.is pLAMP LAMP.LP_STS_ZC_OK = true)
    ∧ (∃ (s : State) (m : Master) (k : Fin 8), s.hw.takes m (addrOf LAMP.LC_CFG_EN pLAMP k) = true ∧ s.hw.lc k
      LAMP.LC_CFG_G0_EN ≠ 0 ∧ s.hw.pins.estop1 = true ∧ s.hw.pins.estop2 = true ∧ bitAt s.hw.pins.heldLamp k = false ∨
      isKernel m = true)
    ∧ (∃ (s : State) (m : Master) (k : Fin 8), s.hw.takes m (addrOf LAMP.LC_CFG_EN pLAMP k) = true)
    ∧ (∃ (s : State) (m : Master) (mask : BitVec 8), s.hw.takes m (addrOf LAMP.LOCK_CLR pLAMP 0) = true)
    ∧ (∃ (s : State) (m : Master) (mask : BitVec 8), s.hw.takes m (addrOf LAMP.FUS_CLR pLAMP 0) = true)
    ∧ (∃ (s : State) (t : Fin 16), s.hw.isi pLAMP LAMP.TIN_MAP_EN t = true ∧ s.hw.blockAnswers pLAMP = true) :=
  ⟨⟨up, false, 0, by decide +kernel⟩,
    ⟨crossed, false, 10240000000, 0, by decide +kernel⟩,
    ⟨crossed, false, 10240, 0, by decide +kernel⟩,
    ⟨mainsGood, false, by decide +kernel⟩,
    ⟨up, 0, 100000, by decide +kernel⟩,
    ⟨up, 0, 0, 0, by decide +kernel⟩,
    ⟨mainsGood, by decide +kernel⟩,
    ⟨guarded, kernelMaster, 0, by decide +kernel⟩,
    ⟨up, kernelMaster, 0, by decide +kernel⟩,
    ⟨up, kernelMaster, 0, by decide +kernel⟩,
    ⟨up, kernelMaster, 0, by decide +kernel⟩,
    ⟨tinMapped, 0, by decide +kernel⟩⟩

/-- The hypotheses of every clause of Obligations.LeatCommandsComplete that has some are met. -/
theorem witness_leat_commands_complete :
    (∃ (s : State) (t : Fin 4) (time : Stamp), s.hw.is (pLEAT t) LEAT.LT_STS_RUNNING = true)
    ∧ (∃ (s : State) (t : Fin 4) (n : BitVec 8) (j : Fin 8) (verMin : BitVec 8) (verMax : BitVec 8) (vendor : BitVec 16)
      (model : BitVec 16) (firmware : BitVec 16), s.hw.is (pLEAT t) LEAT.LT_STS_RUNNING = true ∧ (s.hw.node t n.toNat).st
      ≠ 0 ∧ s.hw.slotOwner t j = some n.toNat)
    ∧ (∃ (s : State) (t : Fin 4) (n : BitVec 8) (j : Fin 8) (ack : BitVec 8) (lo : Word) (hi : Word), s.hw.is (pLEAT t)
      LEAT.LT_STS_RUNNING = true ∧ (s.hw.node t n.toNat).st = 2 ∧ s.hw.slotOwner t j = some n.toNat)
    ∧ (∃ (s : State) (t : Fin 4) (n : BitVec 8) (j : Fin 8) (seq : BitVec 8) (ack : BitVec 8) (input : Fin 16) (level : Bool)
      (low : Word) (arrival : Stamp), s.hw.is (pLEAT t) LEAT.LT_STS_RUNNING = true ∧ (s.hw.node t n.toNat).st = 2 ∧
      s.hw.slotOwner t j = some n.toNat ∧ s.hw.injArmed (pLEAT t) 4 n.toNat = false ∧ seq.toNat = (s.hw.node t
      n.toNat).seqRx % 255 + 1 ∧ seq.toNat ≠ (s.hw.node t n.toNat).seqRx)
    ∧ (∃ (s : State) (t : Fin 4) (n : BitVec 8) (j : Fin 8) (ack : BitVec 8) (idx : Fin 16) (fault : Bool) (v : BitVec 16)
      (low : Word), s.hw.is (pLEAT t) LEAT.LT_STS_RUNNING = true ∧ (s.hw.node t n.toNat).st = 2 ∧ s.hw.slotOwner t j =
      some n.toNat)
    ∧ (∃ (s : State) (t : Fin 4) (n : BitVec 8) (j : Fin 8) (seq : BitVec 8) (ack : BitVec 8) (lo : Word) (hi : Word), s.hw.is
      (pLEAT t) LEAT.LT_STS_RUNNING = true ∧ (s.hw.node t n.toNat).st = 2 ∧ s.hw.slotOwner t j = some n.toNat ∧
      s.hw.injArmed (pLEAT t) 4 n.toNat = false ∧ seq.toNat = (s.hw.node t n.toNat).seqRx % 255 + 1 ∧ seq.toNat ≠
      (s.hw.node t n.toNat).seqRx)
    ∧ (∃ (s : State) (t : Fin 4) (n : BitVec 8) (j : Fin 8) (ack : BitVec 8) (reason : BitVec 8) (seq : BitVec 8) (ftype :
      BitVec 8), s.hw.is (pLEAT t) LEAT.LT_STS_RUNNING = true ∧ (s.hw.node t n.toNat).st = 2 ∧ s.hw.slotOwner t j = some
      n.toNat)
    ∧ (∃ (s : State) (t : Fin 4) (n : BitVec 8) (reason : BitVec 8) (seq : BitVec 8) (ftype : BitVec 8), s.hw.is (pLEAT t)
      LEAT.LT_STS_RUNNING = true)
    ∧ (∃ (s : State) (t : Fin 4) (n : BitVec 8), (s.hw.node t n.toNat).out.isSome = true ∧ (s.hw.node t n.toNat).lapsed =
      true)
    ∧ (∃ (s : State) (t : Fin 4) (n : BitVec 8), (s.hw.node t n.toNat).st = 2 ∧ s.hw.use (pLEAT t) LEAT.LT_CFG_SILENCE_LIM ≤
      (s.hw.node t n.toNat).missed)
    ∧ (∃ (s : State) (t : Fin 4), s.hw.is (pLEAT t) LEAT.LT_STS_RUNNING = true ∧ 64 < ((s.hw.trunk t).crcAt.filter fun x =>
      decide ((s.hw.mono - x).toNat < 1024000000)).length)
    ∧ (∃ (s : State) (m : Master) (t : Fin 4), s.hw.takes m (addrOf LEAT.CMD_PUSH (pLEAT t) 0) = true ∧ (s.hw.trunk
      t).cmds.length < 32)
    ∧ (∃ (s : State) (m : Master) (t : Fin 4), s.hw.takes m (addrOf LEAT.RPT_POP (pLEAT t) 0) = true)
    ∧ (∃ (s : State) (m : Master) (t : Fin 4) (v : Bool), s.hw.takes m (addrOf LEAT.LT_CTRL_EN (pLEAT t) 0) = true) :=
  ⟨⟨trunkOn, 0, 0, by decide +kernel⟩,
    ⟨trunkOn, 0, 1, 0, 0, 0, 0, 0, 0, by decide +kernel⟩,
    ⟨trunkOn, 0, 1, 0, 0, 0, 0, by decide +kernel⟩,
    ⟨trunkOn, 0, 1, 0, 1, 0, 0, false, 0, 0, by decide +kernel⟩,
    ⟨trunkOn, 0, 1, 0, 0, 0, false, 0, 0, by decide +kernel⟩,
    ⟨trunkOn, 0, 1, 0, 1, 0, 0, 0, by decide +kernel⟩,
    ⟨trunkOn, 0, 1, 0, 0, 0, 0, 0, by decide +kernel⟩,
    ⟨trunkOn, 0, 0, 0, 0, 0, by decide +kernel⟩,
    ⟨commanded, 0, 0, by decide +kernel⟩,
    ⟨silentNode, 0, 0, by decide +kernel⟩,
    ⟨noisyTrunk, 0, by decide +kernel⟩,
    ⟨up, kernelMaster, 0, by decide +kernel⟩,
    ⟨up, kernelMaster, 0, by decide +kernel⟩,
    ⟨up, kernelMaster, 0, false, by decide +kernel⟩⟩

/-- The hypotheses of every clause of Obligations.SheetCommandsComplete that has some are met. -/
theorem witness_sheet_commands_complete :
    (∃ (s : State) (m : Master) (n : Fin 64) (d : BitVec 20) (c : Fin 4) (purge : Bool), s.hw.takes m (addrOf
      SHEET.SH_ENTRY_DESC pSHEET n) = true ∧ isKernel m = true ∧ s.hw.jammed = false ∧ s.hw.shState n = 0 ∧
      (match (s.hw.classCps c).head? with | some i => s.hw.latePassed n i | none => false) = false)
    ∧ (∃ (s : State) (m : Master), s.hw.takes m (addrOf SHEET.SH_CTRL_EN pSHEET 0) = true)
    ∧ (∃ (s : State) (m : Master), s.hw.takes m (addrOf SHEET.SH_CTRL_EN pSHEET 0) = true ∧ ((List.range 4).all s.hw.classOk)
      = true)
    ∧ (∃ (s : State) (n : Fin 64) (i : Fin 128), s.hw.reportOver n i false = true ∧ s.hw.is pSHEET SHEET.SH_CTRL_EN = true ∧
      s.hw.runs pSHEET = true ∧ s.hw.jammed = false ∧ s.hw.shState n = 1 ∧ (s.hw.classCps (s.hw.shClass n)).contains i.val
      = true ∧ (s.hw.sheet n).lead.contains i.val = false)
    ∧ (∃ (s : State) (n : Fin 64) (i : Fin 128), s.hw.reportOver n i true = true ∧ s.hw.is pSHEET SHEET.SH_CTRL_EN = true ∧
      s.hw.runs pSHEET = true ∧ s.hw.jammed = false ∧ s.hw.shState n = 1 ∧ (s.hw.classCps (s.hw.shClass n)).contains i.val
      = true ∧ s.hw.isi pSHEET SHEET.CP_SRC_TRAIL_EN i = true ∧ (s.hw.sheet n).lead.contains i.val = true ∧ (s.hw.sheet
      n).trail.contains i.val = false)
    ∧ (∃ (s : State) (m : Master), s.hw.takes m (addrOf SHEET.SH_CTRL_JAM_REQ pSHEET 0) = true)
    ∧ (∃ (s : State) (m : Master), s.hw.takes m (addrOf SHEET.SH_CTRL_JAM_CLR pSHEET 0) = true ∧ s.hw.drivesStopped = true) :=
  ⟨⟨up, kernelMaster, 0, 0, 0, false, by decide +kernel⟩,
    ⟨up, kernelMaster, by decide +kernel⟩,
    ⟨checkpoints, kernelMaster, by decide +kernel⟩,
    ⟨sheetIn, 0, 0, by decide +kernel⟩,
    ⟨sheetTrail, 0, 0, by decide +kernel⟩,
    ⟨up, kernelMaster, by decide +kernel⟩,
    ⟨up, kernelMaster, by decide +kernel⟩⟩

/-- The hypotheses of every clause of Obligations.ThermalCommandsComplete that has some are met. -/
theorem witness_thermal_commands_complete :
    (∃ (s : State) (raw : Vector (BitVec 16) 44) (bad : BitVec 44) (power : Vector (BitVec 32) 3), s.hw.boot.vaon = true)
    ∧ (∃ (s : State) (i : Fin 44), 1000 ≤ tget (fun _ => 0) s.hw.thermal.subst i ∧ s.hw.snsBroken i = false)
    ∧ (∃ (s : State), s.hw.boot.vaon = true)
    ∧ (∃ (s : State), s.hw.anyThrottle = true)
    ∧ (∃ (s : State), s.hw.kernelRuns = true ∧ ((List.range 11).all fun z => decide (s.hw.zn z THERMAL.ZSTS_ZONE_VAL < s.hw.zn
      z THERMAL.ZLIM0_THROTTLE - (s.hw.rd pTHERMALA THERMAL.TH_CFG_TH_HYST : Int)) && decide (s.hw.rdi (zonePage z)
      THERMAL.ZSTS_RATE_OVER (zoneIdx z) = 0)) = true)
    ∧ (∃ (s : State) (i : Nat) (j : Nat), i ∈ [32, 33, 34, 35] ∧ j ∈ [32, 33, 34, 35] ∧ s.hw.snsBroken i = false ∧ s.hw.bit
      (snsPage i) THERMAL.UNCHECK (snsIdx i) = false ∧ s.hw.snsBroken j = false ∧ s.hw.bit (snsPage j) THERMAL.UNCHECK
      (snsIdx j) = false ∧ 600 < signed 16 (s.hw.rdi (snsPage i) THERMAL.SNS_EFF (snsIdx i)) - signed 16 (s.hw.rdi
      (snsPage j) THERMAL.SNS_EFF (snsIdx j)))
    ∧ (∃ (s : State), s.hw.boot.vaon = true ∧ s.hw.rd pTHERMALB THERMAL.SD_STS_STATE = 1 ∧ s.hw.thermal.down = true ∧
      s.hw.allCool false = true)
    ∧ (∃ (s : State), s.hw.boot.vaon = true)
    ∧ (∃ (s : State) (m : Master) (mask : BitVec 32), s.hw.takes m (addrOf THERMAL.BROKEN pTHERMALB 0) = true)
    ∧ (∃ (s : State) (m : Master) (mask : BitVec 32), s.hw.takes m (addrOf THERMAL.BROKEN pTHERMALA 0) = true) :=
  ⟨⟨up, Vector.replicate 44 0, 0, Vector.replicate 3 0, by decide +kernel⟩,
    ⟨sensorGone, 0, by decide +kernel⟩,
    ⟨up, by decide +kernel⟩,
    ⟨throttled, by decide +kernel⟩,
    ⟨up, by decide +kernel⟩,
    ⟨spread, 32, 33, by decide +kernel⟩,
    ⟨cooled, by decide +kernel⟩,
    ⟨up, by decide +kernel⟩,
    ⟨up, kernelMaster, 0, by decide +kernel⟩,
    ⟨up, kernelMaster, 0, by decide +kernel⟩⟩

/-- The hypotheses of every clause of Obligations.SluiceStepsComplete that has some are met. -/
theorem witness_sluice_steps_complete :
    (∃ (s : State), s.hw.sqAt 1 .ready = true)
    ∧ (∃ (s : State), s.hw.sqAt 2 .ready = true)
    ∧ (∃ (s : State) (mv : BitVec 16) (timedOut : Bool) (confirmed : Bool) (us : BitVec 24) (r : Nat), s.hw.disRail = some r ∧
      r ≠ 34 ∧ timedOut = false ∧ mv.toNat < s.hw.offMv r)
    ∧ (∃ (s : State), s.hw.sqAt 3 .ready = true)
    ∧ (∃ (s : State), s.hw.sqAt 3 .wait = true)
    ∧ (∃ (s : State), s.hw.sqAt 4 .ready = true)
    ∧ (∃ (s : State) (mv : BitVec 16) (vIn : BitVec 16) (vCap : BitVec 16), s.hw.sqAt 4 .check = true ∧ s.hw.condHolds (stCond
      s.hw.sqStep) (stRail s.hw.sqStep) mv.toNat vIn.toNat vCap.toNat = true)
    ∧ (∃ (s : State), s.hw.sqAt 4 .check = true)
    ∧ (∃ (s : State), s.hw.sqAt 5 .ready = true)
    ∧ (∃ (s : State), s.hw.sqAt 6 .ready = true)
    ∧ (∃ (s : State) (x : Seq), s.hw.sqAt 0 .ready = true ∧ s.hw.sluice.seq = some x)
    ∧ (∃ (s : State), s.hw.sluice.retry = true ∧ s.hw.is pSUPPLY SUPPLY.PH_STS_PFW = false) :=
  ⟨⟨atStep 0x0000000C00000001, by decide +kernel⟩,
    ⟨atStep 2, by decide +kernel⟩,
    ⟨disRuns, 0, false, false, 0, 12, by decide +kernel⟩,
    ⟨atStep 3, by decide +kernel⟩,
    ⟨inStep 3 .wait, by decide +kernel⟩,
    ⟨atStep 4, by decide +kernel⟩,
    ⟨inStep 0x60004 .check, 0, 0, 0, by decide +kernel⟩,
    ⟨inStep 4 .check, by decide +kernel⟩,
    ⟨atStep 5, by decide +kernel⟩,
    ⟨atStep 6, by decide +kernel⟩,
    ⟨atStep 0, ⟨1, .ready, 0⟩, by decide +kernel⟩,
    ⟨retrying, by decide +kernel⟩⟩

/-- The hypotheses of every clause of Obligations.SupplyCommandsComplete that has some are met. -/
theorem witness_supply_commands_complete :
    (∃ (s : State) (r : Fin 12), r.val ≠ 0 ∧ s.hw.railEn r = true ∧ s.hw.railPg r = true)
    ∧ (∃ (s : State), s.hw.sluice.restart = some 6 ∧ s.hw.rd pTHERMALB THERMAL.SD_STS_STATE = 1)
    ∧ (∃ (s : State) (r : Fin 34), 12 ≤ r.val ∧ s.hw.railEn r = true ∧ s.hw.railPg r = true)
    ∧ (∃ (s : State) (r : Fin 35) (mv : BitVec 16) (vIn : BitVec 16) (vCap : BitVec 16), 12 ≤ r.val ∧ s.hw.railEn r = true ∧
      s.hw.condHolds 0 r mv.toNat vIn.toNat vCap.toNat = true)
    ∧ (∃ (s : State) (vrms : BitVec 16) (noZeroCross : Bool), s.hw.boot.vaon = true ∧ vrms.toNat < 750 ∨ noZeroCross = true)
    ∧ (∃ (s : State) (vrms : BitVec 16) (freq : BitVec 16), s.hw.is pSUPPLY SUPPLY.PH_STS_PFW = true ∧ mainsInRange vrms.toNat
      freq.toNat = true ∧ s.hw.sluice.deadPhases.length ≤ 1)
    ∧ (∃ (s : State) (vrms : BitVec 16), s.hw.boot.vaon = true)
    ∧ (∃ (s : State) (m : Master), s.hw.takes m (addrOf SLUICE.SQ_CTRL_STOP_REQ pSLUICE 0) = true ∧ isKernel m = true)
    ∧ (∃ (s : State) (m : Master) (r : BitVec 6) (on : Bool), s.hw.takes m (addrOf SUPPLY.RAIL_CMD_GO pSUPPLY 0) = true ∧
      ((s.hw.wr pSUPPLY SUPPLY.RAIL_CMD_RAIL r.toNat).wr pSUPPLY SUPPLY.RAIL_CMD_ON (b2n on)).railCmdRefused r.toNat on =
      0)
    ∧ (∃ (s : State) (vCap : BitVec 16), vCap.toNat < 500 ∧ s.hw.is pSUPPLY SUPPLY.MBUS_STS_DISCHARGED = false)
    ∧ (∃ (s : State) (vCap : BitVec 16), 4200 < vCap.toNat ∧ s.hw.is pSUPPLY SUPPLY.MBUS_STS_UV = true)
    ∧ (∃ (s : State) (vCap : BitVec 16), vCap.toNat < 5400 ∧ s.hw.is pSUPPLY SUPPLY.MBUS_STS_OV = true)
    ∧ (∃ (s : State) (vCap : BitVec 16), vCap.toNat < 4000 ∧ s.hw.is pSUPPLY SUPPLY.MBUS_STS_UV = false)
    ∧ (∃ (s : State) (vCap : BitVec 16), 5600 < vCap.toNat ∧ s.hw.is pSUPPLY SUPPLY.MBUS_STS_OV = false)
    ∧ (∃ (s : State) (p : Fin 3), s.hw.sluice.deadPhases.contains p.val = false) :=
  ⟨⟨railsGood, 1, by decide +kernel⟩,
    ⟨railDown, by decide +kernel⟩,
    ⟨railsGood, 12, by decide +kernel⟩,
    ⟨railsGood, 12, 12000, 0, 0, by decide +kernel⟩,
    ⟨up, 0, false, by decide +kernel⟩,
    ⟨powerLost, 2300, 5000, by decide +kernel⟩,
    ⟨up, 0, by decide +kernel⟩,
    ⟨up, kernelMaster, by decide +kernel⟩,
    ⟨railsGood, kernelMaster, 12, false, by decide +kernel⟩,
    ⟨up, 0, by decide +kernel⟩,
    ⟨mbusLow, 4201, by decide +kernel⟩,
    ⟨mbusHigh, 0, by decide +kernel⟩,
    ⟨up, 0, by decide +kernel⟩,
    ⟨up, 5601, by decide +kernel⟩,
    ⟨up, 0, by decide +kernel⟩⟩

/-- The hypotheses of every clause of Obligations.LogCommandsComplete that has some are met. -/
theorem witness_log_commands_complete :
    (∃ (s : State) (m : Master), s.hw.takes m (addrOf SLUICE.PROG_STORE pSLUICE 0) = true ∧ s.hw.windowOpen = true)
    ∧ (∃ (s : State) (m : Master), s.hw.takes m (addrOf SLUICE.LOG_PUSH pSLUICE 0) = true ∧ isKernel m = true)
    ∧ (∃ (s : State) (readBack : Bool) (r : LogRec), s.hw.mram.hold = false ∧ s.hw.boot.vaon = true ∧ s.hw.nextRecord = some r
      ∧ s.hw.injArmed pSLUICE 6 0 = false ∧ readBack = true ∧ s.hw.mram.dropped = 0)
    ∧ (∃ (s : State), s.hw.mram.hold = false ∧ s.hw.boot.vaon = true ∧ s.hw.nextRecord.isSome = true)
    ∧ (∃ (s : State) (j : Job), (s.hw.jobs.find? fun j => j.deferred && s.hw.inGap (j.arg % 256) (j.arg / 256)) = some j)
    ∧ (∃ (s : State) (j : Job) (a : Slot), s.hw.jobs.find? Job.deferred = some j ∧ s.hw.headrace.slot = some a) :=
  ⟨⟨sealed, kernelMaster, by decide +kernel⟩,
    ⟨up, kernelMaster, by decide +kernel⟩,
    ⟨queued, true, aRecord, by decide +kernel⟩,
    ⟨queued, by decide +kernel⟩,
    ⟨testWaits, aTest, by decide +kernel⟩,
    ⟨testSlot, aTest, aSlot, by decide +kernel⟩⟩

/-- The hypotheses of every clause of Obligations.DmaCommandsComplete that has some are met. -/
theorem witness_dma_commands_complete :
    (∃ (s : State) (m : Master) (k : Fin 64) (w : Word), s.hw.takes m (addrOf DMA.CTRL_GO (dmaPage k) (k.val % 16)) = true ∧
      s.hw.dmaOf k = none)
    ∧ (∃ (s : State) (k : Fin 64) (t : Transfer), s.hw.dmaOf k = some t ∧ t.back = true)
    ∧ (∃ (s : State) (k : Fin 64) (t : Transfer), s.hw.dmaOf k = some t ∧ t.back = true)
    ∧ (∃ (s : State) (k : Fin 64) (bs : List Byte) (t : Transfer), s.hw.dmaOf k = some t ∧ t.back = true)
    ∧ (∃ (s : State) (k : Fin 64) (t : Transfer), s.hw.dmaOf k = some t ∧ t.back = false ∧ t.srcMpa = false)
    ∧ (∃ (s : State) (k : Fin 64) (t : Transfer), s.hw.dmaOf k = some t ∧ t.back = false ∧ t.srcMpa = false)
    ∧ (∃ (s : State) (k : Fin 64) (bs : List Byte) (t : Transfer), s.hw.dmaOf k = some t ∧ t.back = false ∧ t.srcMpa = false)
    ∧ (∃ (s : State) (k : Fin 64) (badUnit : Option (BitVec 26)) (t : Transfer), s.hw.dmaOf k = some t ∧ t.back = false ∧
      t.srcMpa = false ∧ t.count ≤ t.done)
    ∧ (∃ (s : State) (k : Fin 64) (t : Transfer), s.hw.dmaOf k = some t ∧ t.back = false ∧ t.srcMpa = true)
    ∧ (∃ (s : State) (m : Master) (k : Fin 64) (t : Transfer), s.hw.takes m (addrOf DMA.CTRL_ABORT (dmaPage k) (k.val % 16)) =
      true ∧ s.hw.dmaOf k = some t)
    ∧ (∃ (s : State) (k : Fin 64) (t : Transfer), s.hw.dmaOf k = some t ∧ t.back = true)
    ∧ (∃ (s : State) (k : Fin 64) (t : Transfer), s.hw.dmaOf k = some t ∧ t.back = false ∧ t.srcMpa = false ∧ t.done <
      t.count) :=
  ⟨⟨up, kernelMaster, 0, 0, by decide +kernel⟩,
    ⟨moving { toHost with back := true }, 0, { toHost with back := true }, by decide +kernel⟩,
    ⟨moving { toHost with back := true }, 0, { toHost with back := true }, by decide +kernel⟩,
    ⟨moving { toHost with back := true }, 0, [], { toHost with back := true }, by decide +kernel⟩,
    ⟨moving fromHost, 0, fromHost, by decide +kernel⟩,
    ⟨moving fromHost, 0, fromHost, by decide +kernel⟩,
    ⟨moving fromHost, 0, [], fromHost, by decide +kernel⟩,
    ⟨moving { fromHost with done := 64 }, 0, none, { fromHost with done := 64 }, by decide +kernel⟩,
    ⟨moving toHost, 0, toHost, by decide +kernel⟩,
    ⟨moving fromHost, kernelMaster, 0, fromHost, by decide +kernel⟩,
    ⟨moving { toHost with back := true }, 0, { toHost with back := true }, by decide +kernel⟩,
    ⟨moving fromHost, 0, fromHost, by decide +kernel⟩⟩

/-- The hypotheses of every clause of Obligations.MailboxServicesComplete that has some are met. -/
theorem witness_mailbox_services_complete :
    (∃ (s : State) (n : Fin 32) (c : Call), s.hw.awaits n = true ∧ s.hw.callOf n = some c ∧ c.op = 0x01 ∧ s.hw.judge n c =
      .go)
    ∧ (∃ (s : State) (n : Fin 32) (c : Call), s.hw.awaits n = true ∧ s.hw.callOf n = some c ∧ c.op = 0x02 ∧ s.hw.judge n c =
      .go)
    ∧ (∃ (s : State) (n : Fin 32) (c : Call), s.hw.awaits n = true ∧ s.hw.callOf n = some c ∧ c.op = 0x10 ∧ s.hw.judge n c =
      .go)
    ∧ (∃ (s : State) (n : Fin 32) (c : Call), s.hw.awaits n = true ∧ s.hw.callOf n = some c ∧ c.op = 0x11 ∧ s.hw.judge n c =
      .go)
    ∧ (∃ (s : State) (ok : Bool) (stations : BitVec 8) (detail : BitVec 16) (j : Job), s.hw.jobOf 0x11 = some j)
    ∧ (∃ (s : State) (n : Fin 32) (c : Call), s.hw.awaits n = true ∧ s.hw.callOf n = some c ∧ c.op = 0x12 ∧ s.hw.judge n c =
      .go)
    ∧ (∃ (s : State) (j : Job), s.hw.jobOf 0x12 = some j ∧ s.hw.pressIdle = true)
    ∧ (∃ (s : State) (n : Fin 32) (c : Call), s.hw.awaits n = true ∧ s.hw.callOf n = some c ∧ c.op = 0x13 ∧ s.hw.judge n c =
      .go)
    ∧ (∃ (s : State), (s.hw.jobOf 0x13).isSome = true)
    ∧ (∃ (s : State) (n : Fin 32) (gapFits : Bool) (c : Call), s.hw.awaits n = true ∧ s.hw.callOf n = some c ∧ c.op = 0x20 ∧
      s.hw.judge n c = .go ∧ c.arg % 256 ≠ 0 ∧ c.arg % 256 ≤ 6)
    ∧ (∃ (s : State) (n : Fin 32) (c : Call) (b : Nat), s.hw.awaits n = true ∧ s.hw.callOf n = some c ∧ c.op = 0x30 ∧
      s.hw.judge n c = .go ∧ (s.hw.mbTake kernelMaster n).windowOpen = true ∧ c.block = some b)
    ∧ (∃ (s : State) (readBackOk : Bool) (k : Nat) (img : ImageSlot) (j : Job), s.hw.boot.loading = some (k, img) ∧ s.hw.jobOf
      0x30 = some j)
    ∧ (∃ (s : State) (n : Fin 32) (c : Call) (b : Nat), s.hw.awaits n = true ∧ s.hw.callOf n = some c ∧ c.op = 0x31 ∧
      s.hw.judge n c = .go ∧ (s.hw.mbTake kernelMaster n).windowOpen = true ∧ c.block = some b)
    ∧ (∃ (s : State) (n : Fin 32) (c : Call), s.hw.awaits n = true ∧ s.hw.callOf n = some c ∧ c.op = 0x40 ∧ s.hw.judge n c =
      .go)
    ∧ (∃ (s : State) (n : Fin 32) (c : Call), s.hw.awaits n = true ∧ s.hw.callOf n = some c ∧ c.op = 0x41 ∧ s.hw.judge n c =
      .go)
    ∧ (∃ (s : State) (n : Fin 32) (c : Call) (x : Nat), s.hw.awaits n = true ∧ s.hw.callOf n = some c ∧ s.hw.judge n c =
      .refuse x)
    ∧ (∃ (s : State) (n : Fin 32), s.hw.awaits n = true ∧ s.hw.callOf n = none) :=
  ⟨⟨calling 0x01000101, 0, ⟨0x01, 0, 0x0101, none, false⟩, by decide +kernel⟩,
    ⟨calling 0x02000005, 0, ⟨0x02, 0, 5, none, false⟩, by decide +kernel⟩,
    ⟨calling 0x10000000, 0, ⟨0x10, 0, 0, none, false⟩, by decide +kernel⟩,
    ⟨calling 0x11000000, 0, ⟨0x11, 0, 0, none, false⟩, by decide +kernel⟩,
    ⟨working 0x11, false, 0, 0, ⟨0x11, 0, 0, none, 0, false, false⟩, by decide +kernel⟩,
    ⟨calling 0x12000000, 0, ⟨0x12, 0, 0, none, false⟩, by decide +kernel⟩,
    ⟨working 0x12, ⟨0x12, 0, 0, none, 0, false, false⟩, by decide +kernel⟩,
    ⟨calling 0x13000000, 0, ⟨0x13, 0, 0, none, false⟩, by decide +kernel⟩,
    ⟨working 0x13, by decide +kernel⟩,
    ⟨calling 0x20000001, 0, false, ⟨0x20, 0, 1, none, false⟩, by decide +kernel⟩,
    ⟨blockCall 0x30000000, 0, ⟨0x30, 0, 0, some 0, false⟩, 0, by decide +kernel⟩,
    ⟨loadingNow, false, 0, emptySlot, ⟨0x30, 0, 0, none, 0, false, false⟩, by decide +kernel⟩,
    ⟨blockCall 0x31000000, 0, ⟨0x31, 0, 0, some 0, false⟩, 0, by decide +kernel⟩,
    ⟨calling 0x40000007, 0, ⟨0x40, 0, 7, none, false⟩, by decide +kernel⟩,
    ⟨calling 0x41000000, 0, ⟨0x41, 0, 0, none, false⟩, by decide +kernel⟩,
    ⟨calling 0x7F000000, 0, ⟨0x7F, 0, 0, none, false⟩, 0x12, by decide +kernel⟩,
    ⟨pointing 4, 0, by decide +kernel⟩⟩

/-- The hypotheses of every clause of Obligations.KernelCommandsComplete that has some are met. -/
theorem witness_kernel_commands_complete :
    (∃ (s : State) (p : Fin 4) (us10 : BitVec 16), s.hw.kernelRuns = true ∧ s.hw.bit pKERNEL KERNEL.KN_STS_WORKING p = true ∧
      s.hw.is pKERNEL KERNEL.KN_STS_STANDBY_OK = true)
    ∧ (∃ (s : State) (p : Fin 4) (us10 : BitVec 16), s.hw.kernelRuns = true ∧ s.hw.bit pKERNEL KERNEL.KN_STS_WORKING p = true
      ∧ s.hw.is pKERNEL KERNEL.KN_STS_STANDBY_OK = false)
    ∧ (∃ (s : State) (p : Fin 4) (us10 : BitVec 16), s.hw.kernelRuns = true)
    ∧ (∃ (s : State), s.hw.kernelRuns = true)
    ∧ (∃ (s : State) (p : Fin 4), s.hw.kernelRuns = true)
    ∧ (∃ (s : State) (m : Master) (n : Fin 32) (w : Word), s.hw.pageServed m pMAILBOX = true ∧ s.hw.masterActs m = true ∧
      s.hw.blockAnswers pMAILBOX = true ∧ s.hw.mayWrite m (addrOf MAILBOX.MB_DATA pMAILBOX n) = true ∧ s.hw.mb n
      MAILBOX.MB_CFG_EN = 1 ∧ isParty (s.hw.mb n MAILBOX.MB_BIND_SENDER) m = true ∧ s.hw.mb n MAILBOX.MB_CFG_FULL = 0)
    ∧ (∃ (s : State) (m : Master) (n : Fin 32), s.hw.pageServed m pMAILBOX = true ∧ s.hw.masterActs m = true ∧
      s.hw.blockAnswers pMAILBOX = true ∧ s.hw.mb n MAILBOX.MB_CFG_EN = 1 ∧ isParty (s.hw.mb n MAILBOX.MB_BIND_RECEIVER) m
      = true ∧ s.hw.mb n MAILBOX.MB_CFG_FULL = 1)
    ∧ (∃ (s : State) (n : Fin 32), s.hw.mb n MAILBOX.MB_CFG_FULL = 1 ∧ s.hw.mb n MAILBOX.MB_CFG_EN = 1) :=
  ⟨⟨up, 0, 0, by decide +kernel⟩,
    ⟨spareGone, 0, 0, by decide +kernel⟩,
    ⟨up, 0, 0, by decide +kernel⟩,
    ⟨up, by decide +kernel⟩,
    ⟨up, 0, by decide +kernel⟩,
    ⟨boxOn, kernelMaster, 0, 0, by decide +kernel⟩,
    ⟨boxFull, kernelMaster, 0, by decide +kernel⟩,
    ⟨boxFull, 0, by decide +kernel⟩⟩

/-- The hypotheses of every clause of Obligations.PeerMembershipAndTimeComplete that has some are met. -/
theorem witness_peer_membership_and_time_complete :
    (∃ (s : State) (verMin : BitVec 8) (verMax : BitVec 8) (m : Fin 16) (digest : BitVec 64), s.hw.chainOn = true ∧
      s.hw.linkUp (.peer 1) = true ∧ m.val = s.hw.neighbour 1)
    ∧ (∃ (s : State) (verMin : BitVec 8) (verMax : BitVec 8) (m : Fin 16) (digest : BitVec 64), s.hw.chainOn = true ∧
      s.hw.linkUp (.peer 1) = true ∧ m.val ≠ s.hw.neighbour 1)
    ∧ (∃ (s : State) (verMin : BitVec 8) (verMax : BitVec 8) (m : Fin 16) (digest : BitVec 64), s.hw.chainOn = true ∧
      s.hw.linkUp (.peer 0) = true)
    ∧ (∃ (s : State) (p : Fin 2) (m : Fin 16) (version : BitVec 8), s.hw.hears p = true ∧ s.hw.facesUp p = true ∧
      version.toNat ≤ 1)
    ∧ (∃ (s : State) (p : Fin 2) (m : Fin 16) (grade : Fin 8) (exposing : Bool) (jammed : Bool) (digest : BitVec 64) (exchange
      : Option (BitVec 32)) (members : BitVec 16) (excluded : BitVec 16) (refused : BitVec 16), s.hw.hears p = true ∧
      s.hw.isHeadstock = true)
    ∧ (∃ (s : State) (m : Fin 16) (grade : Fin 8) (exposing : Bool) (jammed : Bool) (digest : BitVec 64) (exchange : Option
      (BitVec 32)) (members : BitVec 16) (excluded : BitVec 16) (refused : BitVec 16), s.hw.hears 1 = true ∧
      s.hw.isHeadstock = false)
    ∧ (∃ (s : State) (m : Fin 16) (grade : Fin 8) (exposing : Bool) (jammed : Bool) (digest : BitVec 64) (exchange : Option
      (BitVec 32)) (members : BitVec 16) (excluded : BitVec 16) (refused : BitVec 16), s.hw.hears 0 = true ∧
      s.hw.isHeadstock = false ∧ m.val = 0)
    ∧ (∃ (s : State), s.hw.chainOn = true)
    ∧ (∃ (s : State) (p : Fin 2) (m : Fin 16), m.val = s.hw.neighbour p ∧ 10 ≤ tget (fun _ => 0) s.hw.chain.missed p)
    ∧ (∃ (s : State) (p : Fin 2) (m : Fin 16), m.val ≠ s.hw.neighbour p ∧ s.hw.chainOn = true ∧ s.hw.isHeadstock = true ∧ m ≠
      0 ∧ 10 ≤ tget (fun _ => 0) s.hw.chain.quiet m)
    ∧ (∃ (s : State) (p : Fin 2) (off : BitVec 64) (bytes : List Byte), s.hw.hears p = true ∧ bytes.length ≤ 256 ∧ s.hw.inWin
      off.toNat bytes.length = true)
    ∧ (∃ (s : State) (p : Fin 2) (off : BitVec 48) (len : BitVec 16), s.hw.hears p = true ∧ len.toNat ≤ 256 ∧ s.hw.inWin
      off.toNat len.toNat = true)
    ∧ (∃ (s : State) (p : Fin 2) (param : BitVec 64) (bytes : List Byte), s.hw.hears p = true)
    ∧ (∃ (s : State) (u : Unit), s.hw.hears 1 = true)
    ∧ (∃ (s : State) (p : Fin 2) (t1 : Stamp) (t2 : Stamp) (u : Unit), s.hw.hears p = true ∧ s.hw.facesUp p = true)
    ∧ (∃ (s : State) (t4 : Stamp), s.hw.hears 1 = true)
    ∧ (∃ (s : State) (p : Fin 2) (t4 : Stamp) (t1 : Stamp) (t2 : Stamp) (t3 : Stamp), s.hw.hears p = true ∧ s.hw.facesUp p =
      true ∧ s.hw.chain.sync = some (t1, t2, t3)) :=
  ⟨⟨chained 0, 0, 0, 1, 0, by decide +kernel⟩,
    ⟨chained 0, 0, 0, 2, 0, by decide +kernel⟩,
    ⟨chained 1, 0, 0, 0, 0, by decide +kernel⟩,
    ⟨chained 1, 0, 0, 0, by decide +kernel⟩,
    ⟨chained 0, 1, 0, 0, false, false, 0, none, 0, 0, 0, by decide +kernel⟩,
    ⟨chained 1, 0, 0, false, false, 0, none, 0, 0, 0, by decide +kernel⟩,
    ⟨chained 1, 0, 0, false, false, 0, none, 0, 0, 0, by decide +kernel⟩,
    ⟨chained 0, by decide +kernel⟩,
    ⟨silentPeer, 1, 1, by decide +kernel⟩,
    ⟨silentFar, 1, 2, by decide +kernel⟩,
    ⟨chained 1, 0, 0, [], by decide +kernel⟩,
    ⟨chained 1, 0, 0, 0, by decide +kernel⟩,
    ⟨chained 1, 0, 0, [], by decide +kernel⟩,
    ⟨chained 0, (), by decide +kernel⟩,
    ⟨chained 1, 0, 0, 0, (), by decide +kernel⟩,
    ⟨chained 0, 0, by decide +kernel⟩,
    ⟨chainSync, 0, 0, 0, 0, 0, by decide +kernel⟩⟩

/-- The hypotheses of every clause of Obligations.PeerPagesComplete that has some are met. -/
theorem witness_peer_pages_complete :
    (∃ (s : State) (due : Stamp) (a : Slot), s.hw.headrace.slot = some a ∧ s.hw.chainOn = true ∧ s.hw.isHeadstock = true)
    ∧ (∃ (s : State) (p : Fin 2) (n : BitVec 32) (grade : Fin 8) (pHead : Coord) (pOwn : Coord) (due : Stamp) (g : PageRec),
      s.hw.hears p = true ∧ s.hw.facesUp p = true ∧ (s.hw.chainDown (fromModule 0 0x74 (n.toNat + 2 ^ 32 * grade) (toLE 8
      pHead.toNat ++ toLE 8 due.toNat))).candidate = some g)
    ∧ (∃ (s : State) (m : Fin 16) (n : BitVec 32) (ok : Bool) (reason : BitVec 8) (job : BitVec 32), s.hw.hears 1 = true ∧
      s.hw.isHeadstock = true ∧ s.hw.chain.offered = some n.toNat)
    ∧ (∃ (s : State) (m : Fin 16) (n : BitVec 32) (ok : Bool) (reason : BitVec 8) (job : BitVec 32), s.hw.hears 1 = true ∧
      s.hw.isHeadstock = false)
    ∧ (∃ (s : State) (p : Fin 2) (n : BitVec 32) (go : Bool), s.hw.hears p = true ∧ s.hw.facesUp p = true)
    ∧ (∃ (s : State) (p : Fin 2) (m : Fin 16) (n : BitVec 32), s.hw.hears p = true)
    ∧ (∃ (s : State) (m : Fin 16) (n : BitVec 32) (reason : BitVec 8), s.hw.hears 0 = true ∧ s.hw.isHeadstock = false ∧ m.val
      ≠ s.hw.moduleNo)
    ∧ (∃ (s : State) (m : Fin 16) (n : BitVec 32) (reason : BitVec 8), s.hw.hears 0 = true ∧ s.hw.isHeadstock = false ∧ m.val
      = s.hw.moduleNo)
    ∧ (∃ (s : State) (m : Fin 16) (n : BitVec 32) (reason : BitVec 8), s.hw.hears 1 = true ∧ s.hw.isHeadstock = false)
    ∧ (∃ (s : State) (p : Fin 2) (m : Fin 16) (n : BitVec 32) (reason : BitVec 8), s.hw.hears p = true ∧ s.hw.isHeadstock =
      true ∧ s.hw.spoilKnown n.toNat = false)
    ∧ (∃ (s : State) (p : Fin 2) (m : Fin 16) (n : BitVec 32) (reason : BitVec 8), s.hw.hears p = true ∧ s.hw.isHeadstock =
      true ∧ s.hw.spoilKnown n.toNat = true)
    ∧ (∃ (s : State) (p : Fin 2) (n : BitVec 32), s.hw.hears p = true ∧ s.hw.facesUp p = true)
    ∧ (∃ (s : State) (p : Fin 2) (g : Fin 8) (last : BitVec 32), s.hw.hears p = true ∧ s.hw.facesUp p = true)
    ∧ (∃ (s : State) (p : Fin 2) (m : Fin 16) (cause : Fin 8), s.hw.hears p = true ∧ m.val ≠ s.hw.moduleNo)
    ∧ (∃ (s : State), s.hw.chainOn = true ∧ s.hw.isHeadstock = false ∧ s.hw.rd pTIME TIME.TIME_CTRL_SRC ≠ 0) :=
  ⟨⟨chainSlot, 0, aSlot, by decide +kernel⟩,
    ⟨chainPage, 0, 0, 0, 0, 0, 0, resident1, by decide +kernel⟩,
    ⟨chainOffered, 0, 0, false, 0, 0, by decide +kernel⟩,
    ⟨chained 1, 0, 0, false, 0, 0, by decide +kernel⟩,
    ⟨chained 1, 0, 0, false, by decide +kernel⟩,
    ⟨chained 1, 0, 0, 0, by decide +kernel⟩,
    ⟨chainRun, 2, 0, 0, by decide +kernel⟩,
    ⟨chainRun, 1, 0, 0, by decide +kernel⟩,
    ⟨chained 1, 0, 0, 0, by decide +kernel⟩,
    ⟨chained 0, 1, 0, 0, 0, by decide +kernel⟩,
    ⟨spoilHeard, 1, 0, 0, 0, by decide +kernel⟩,
    ⟨chained 1, 0, 0, by decide +kernel⟩,
    ⟨chained 1, 0, 0, 0, by decide +kernel⟩,
    ⟨chained 1, 0, 0, 0, by decide +kernel⟩,
    ⟨chainTimed, by decide +kernel⟩⟩

/-- The hypotheses of every clause of Obligations.FaceCommandsComplete that has some are met. -/
theorem witness_face_commands_complete :
    (∃ (s : State) (m : Master) (page : PageNo), s.hw.takes m (addrOf FACE.FE_INFO_VALID (4096 * page.val) 0) = true ∧ (clsOf
      (4096 * page.val)).isNone = false)
    ∧ (∃ (s : State) (m : Master) (page : PageNo) (checker : BitVec 4) (target : BitVec 8) (c : Cls), s.hw.takes m (addrOf
      FACE.FLT_INJ_ARM (4096 * page.val) 0) = true ∧ clsOf (4096 * page.val) = some c)
    ∧ (∃ (s : State) (m : Master) (page : PageNo) (mask : BitVec 16) (c : Cls), s.hw.takes m (addrOf FACE.EVT_MASK (4096 *
      page.val) 0) = true ∧ clsOf (4096 * page.val) = some c)
    ∧ (∃ (s : State) (m : Master) (page : PageNo) (v : Bool) (c : Cls), s.hw.takes m (addrOf FACE.PAGE_CTRL_EN (4096 *
      page.val) 0) = true ∧ clsOf (4096 * page.val) = some c ∧ fixedEn c = false ∧ s.hw.is (4096 * page.val)
      FACE.PAGE_CTRL_EN ≠ v)
    ∧ (∃ (s : State) (m : Master) (page : PageNo) (v : Bool) (c : Cls), s.hw.takes m (addrOf FACE.PAGE_CTRL_EN (4096 *
      page.val) 0) = true ∧ clsOf (4096 * page.val) = some c ∧ fixedEn c = true)
    ∧ (∃ (s : State) (m : Master) (page : PageNo) (v : Bool), s.hw.takes m (addrOf FACE.PAGE_CTRL_FREEZE (4096 * page.val) 0)
      = true ∧ (clsOf (4096 * page.val)).isNone = false)
    ∧ (∃ (s : State) (m : Master) (page : PageNo), s.hw.takes m (addrOf FACE.PAGE_CTRL_BLOCK_RESET (4096 * page.val) 0) = true
      ∧ (clsOf (4096 * page.val)).isNone = false)
    ∧ (∃ (s : State) (page : PageNo), s.hw.is (4096 * page.val) FACE.PAGE_STS_IN_RESET = true)
    ∧ (∃ (s : State) (m : Master) (page : PageNo), s.hw.takes m (addrOf FACE.PAGE_CTRL_COMMIT (4096 * page.val) 0) = true ∧
      s.hw.is (4096 * page.val) FACE.PAGE_STS_IN_RESET = false ∧ clsOf (4096 * page.val) ≠ some .gov)
    ∧ (∃ (s : State) (m : Master) (page : PageNo), s.hw.takes m (addrOf FACE.PAGE_CTRL_COMMIT (4096 * page.val) 0) = true ∧
      s.hw.is (4096 * page.val) FACE.PAGE_STS_IN_RESET = false ∧ clsOf (4096 * page.val) = some .gov ∧
      s.hw.govCommitRefused (pageInstance (4096 * page.val)) = none)
    ∧ (∃ (s : State) (page : PageNo) (u : Fin 64), s.hw.boundaryNow (4096 * page.val) = true)
    ∧ (∃ (s : State) (m : Master) (page : PageNo), s.hw.takes m (addrOf FACE.PAGE_CTRL_LOCK (4096 * page.val) 0) = true ∧
      (clsOf (4096 * page.val)).isNone = false) :=
  ⟨⟨up, kernelMaster, 0, by decide +kernel⟩,
    ⟨up, kernelMaster, 0, 0, 0, .ident, by decide +kernel⟩,
    ⟨up, kernelMaster, 0, 0, .ident, by decide +kernel⟩,
    ⟨up, kernelMaster, 0x1B, false, .sheet, by decide +kernel⟩,
    ⟨up, kernelMaster, 0, false, .ident, by decide +kernel⟩,
    ⟨up, kernelMaster, 0, false, by decide +kernel⟩,
    ⟨up, kernelMaster, 0, by decide +kernel⟩,
    ⟨blockHeld, 0, by decide +kernel⟩,
    ⟨up, kernelMaster, 0, by decide +kernel⟩,
    ⟨up, kernelMaster, 0x20, by decide +kernel⟩,
    ⟨up, 0, 0, by decide +kernel⟩,
    ⟨up, kernelMaster, 0, by decide +kernel⟩⟩

/-- The hypotheses of every clause of Obligations.FantailCommandsComplete that has some are met. -/
theorem witness_fantail_commands_complete :
    (∃ (s : State) (m : Master), s.hw.takes m (addrOf FANTAIL.FT_CTRL_EN pFANTAIL 0) = true ∧ isKernel m = true ∧ s.hw.is
      pFANTAIL FANTAIL.FT_CTRL_EN = true ∧ s.hw.is pFANTAIL FANTAIL.FT_STS_TOGGLING = false ∧ s.hw.ready = true ∧
      s.hw.mram.hold = false ∧ s.hw.fanClear = true)
    ∧ (∃ (s : State) (m : Master) (v : Bool), s.hw.takes m (addrOf FANTAIL.FT_CTRL_EN pFANTAIL 0) = true ∧ isKernel m = true)
    ∧ (∃ (s : State) (m : Master) (v : BitVec 14), s.hw.takes m (addrOf FANTAIL.FT_FREQ pFANTAIL 0) = true ∧ 100 ≤ v.toNat ∧
      v.toNat ≤ 10000)
    ∧ (∃ (s : State) (m : Master) (a : BitVec 20) (write : Bool), (clsOf (pageBase a.toNat)).isNone = false ∧ 0x80 ≤ pageOff
      a.toNat ∧ s.hw.pageServed m (pageBase a.toNat) = true ∧ s.hw.is (pageBase a.toNat) FACE.PAGE_STS_IN_RESET = false)
    ∧ (∃ (s : State) (page : PageNo) (c : Cls), clsOf (4096 * page.val) = some c ∧ alwaysOn c = false ∧ s.hw.is (4096 *
      page.val) FACE.PAGE_STS_IN_RESET = false ∧ s.hw.boot.inReset = false)
    ∧ (∃ (s : State), s.hw.boot.inReset = false)
    ∧ (∃ (s : State) (page : PageNo), (clsOf (4096 * page.val)).isNone = false ∧ s.hw.boot.inReset = false)
    ∧ (∃ (s : State) (m : Master) (stn : StationNo) (mask : BitVec 4), s.hw.takes m (addrOf TIME.SURF_STS_STALE pTIME stn) =
      true) :=
  ⟨⟨fanStopped, kernelMaster, by decide +kernel⟩,
    ⟨up, kernelMaster, false, by decide +kernel⟩,
    ⟨up, kernelMaster, 1000, by decide +kernel⟩,
    ⟨up, kernelMaster, 0x80, false, by decide +kernel⟩,
    ⟨up, 2, .clock, by decide +kernel⟩,
    ⟨up, by decide +kernel⟩,
    ⟨up, 0, by decide +kernel⟩,
    ⟨up, kernelMaster, 0, 0, by decide +kernel⟩⟩

end Sys2Proof.Tests
end

section
/-! The end of a step drives the laser enables (R33, R34, R183, R223), and every meaning ends with it. -/

namespace Sys2Proof.Machine

/-! ### Bits of a number -/

/-- Taking from a number the bit it has at i leaves every other bit. -/
theorem testBit_sub_and_bit (n i j : Nat) : (n - (n &&& 1 <<< i)).testBit j = (n.testBit j && decide (j ≠ i)) := by
  rw [Nat.one_shiftLeft, Nat.and_two_pow]
  cases hb : n.testBit i with
  | false => by_cases e : j = i <;> simp [e, hb]
  | true =>
    have hr : n % 2 ^ i < 2 ^ i := Nat.mod_lt _ (Nat.two_pow_pos i)
    have odd : n / 2 ^ i % 2 = 1 := by simpa [Nat.testBit_eq_decide_div_mod_eq] using hb
    have hn : n = 2 ^ i * (2 * (n / 2 ^ i / 2) + 1) + n % 2 ^ i := by
      rw [show 2 * (n / 2 ^ i / 2) + 1 = n / 2 ^ i by omega, Nat.div_add_mod]
    generalize n / 2 ^ i / 2 = q at hn
    generalize n % 2 ^ i = r at hn hr
    subst hn
    rw [Bool.toNat_true, one_mul, mul_add, mul_one, add_right_comm, Nat.add_sub_cancel, Nat.testBit_two_pow_mul_add _ hr, add_right_comm,
      ← Nat.mul_add_one, Nat.testBit_two_pow_mul_add _ hr]
    by_cases lt : j < i
    · simp [lt, Nat.ne_of_lt lt]
    · obtain ⟨d, rfl⟩ := Nat.exists_eq_add_of_le (Nat.le_of_not_lt lt)
      cases d with
      | zero => simp
      | succ d => simp [Nat.testBit_succ, Nat.mul_add_div]

@[simp] theorem bitAt_putBit_same (n i : Nat) (b : Bool) : bitAt (putBit n i b) i = b := by
  cases b <;> simp [bitAt, putBit, testBit_sub_and_bit, Nat.testBit_shiftLeft]

theorem bitAt_putBit_other (n : Nat) {i j : Nat} (b : Bool) (ne : j ≠ i) : bitAt (putBit n i b) j = bitAt n j := by
  cases b
  · simp [bitAt, putBit, testBit_sub_and_bit, ne]
  · simp [bitAt, putBit, Nat.one_shiftLeft, Nat.testBit_two_pow_of_ne ne.symm]

/-! ### The conditions of a laser enable -/

theorem forN_succ {α : Type} (n : Nat) (f : Nat → α → α) (a : α) : forN (n + 1) f a = f n (forN n f a) := by
  simp [forN, List.range_succ]

theorem is_wr_other (h : Hw) (p : Nat) (f : Field) (v q : Nat) (g : Field) (d : apart p f 0 q g 0) (hf : f.hi < 32 := by decide)
    (hl : f.lo ≤ f.hi := by decide) (hg : g.hi < 32 := by decide) : (h.wr p f v).is q g = h.is q g := by
  show decide ((h.wri p f 0 v).rdi q g 0 = 1) = _
  rw [rdi_wri_other h p f 0 v q g 0 hf hl hg d]
  rfl

/-- A register of a station page keeps its offset in the address. -/
theorem pageOff_addrOf_pST (f : Field) (s n i : Nat) (lt : f.off + f.stride * i < 4096) :
    pageOff (addrOf f (pST s n) i) = f.off + f.stride * i := by
  unfold pageOff addrOf pST
  omega

/-- Registers of station pages at different offsets have different addresses. -/
theorem addrOf_pST_ne {f g : Field} (s n t m : Nat) (ne : f.off ≠ g.off := by decide) (hf : f.off < 4096 := by decide)
    (hg : g.off < 4096 := by decide) : addrOf f (pST s n) 0 ≠ addrOf g (pST t m) 0 := by
  intro e
  have o := congrArg pageOff e
  rw [pageOff_addrOf_pST f s n 0 (by simpa), pageOff_addrOf_pST g t m 0 (by simpa)] at o
  exact ne (by simpa using o)

/-- The conditions of LEN_k are a function of the levels other than LEN and LAMP, of the reset, and of four register fields. -/
theorem lenHolds_congr {h g : Hw} (k : Nat) (pins : g.pins = { h.pins with len := g.pins.len, lamp := g.pins.lamp }) (boot : g.boot = h.boot)
    (en : g.is (pIVINA k) IVINA.IV_CTRL_LEN_EN = h.is (pIVINA k) IVINA.IV_CTRL_LEN_EN)
    (up : g.is (pIVINA k) IVINA.IV_STS_LINK_UP = h.is (pIVINA k) IVINA.IV_STS_LINK_UP)
    (ready : g.is (pIVINA k) IVINA.IV_STS_HEAD_READY = h.is (pIVINA k) IVINA.IV_STS_HEAD_READY)
    (measOver : g.is (pEMIT k) EMIT.HEALTH_STS_MEAS_OVER = h.is (pEMIT k) EMIT.HEALTH_STS_MEAS_OVER) : g.lenHolds k = h.lenHolds k := by
  unfold Hw.lenHolds
  rw [pins, boot, en, up, ready, measOver]

/-- IV_STS.LEN, which shows the level of a LEN output, is no condition of any. -/
theorem lenHolds_wr_len (h : Hw) (s k v : Nat) : (h.wr (pIVINA s) IVINA.IV_STS_LEN v).lenHolds k = h.lenHolds k := by
  refine lenHolds_congr k (by simp) (by simp) ?_ ?_ ?_ ?_
  · exact is_wr_other _ _ _ _ _ _ (.inl (addrOf_pST_ne k 7 s 7))
  · exact is_wr_other _ _ _ _ _ _ (.inr (by decide))
  · exact is_wr_other _ _ _ _ _ _ (.inr (by decide))
  · exact is_wr_other _ _ _ _ _ _ (.inl (addrOf_pST_ne k 4 s 7))

/-! ### Driving the laser enables -/

/-- LEN_s stands where its conditions have it, or is moved and shown. -/
theorem lenFollow_cases (s : Nat) (h : Hw) : (bitAt h.pins.len s = h.lenHolds s ∧ Hw.lenFollow s h = h)
    ∨ Hw.lenFollow s h = { h with pins := { h.pins with len := putBit h.pins.len s (h.lenHolds s) } }.wr (pIVINA s) IVINA.IV_STS_LEN
        (b2n (h.lenHolds s)) := by
  by_cases e : bitAt h.pins.len s = h.lenHolds s
  · exact .inl ⟨e, if_pos e⟩
  · exact .inr (if_neg e)

@[simp] theorem lenFollow_lenHolds (s k : Nat) (h : Hw) : (Hw.lenFollow s h).lenHolds k = h.lenHolds k := by
  obtain ⟨-, e⟩ | e := lenFollow_cases s h
  · rw [e]
  · exact (congrArg (Hw.lenHolds · k) e).trans (lenHolds_wr_len _ s k _)

@[simp] theorem lenFollow_due (s : Nat) (h : Hw) : (Hw.lenFollow s h).due = h.due := by
  obtain ⟨-, e⟩ | e := lenFollow_cases s h <;> simp [e]

theorem lenFollow_len_same (s : Nat) (h : Hw) : bitAt (Hw.lenFollow s h).pins.len s = h.lenHolds s := by
  obtain ⟨len, e⟩ | e := lenFollow_cases s h
  · rw [e, len]
  · simp [e]

theorem lenFollow_len_other {s k : Nat} (h : Hw) (ne : k ≠ s) : bitAt (Hw.lenFollow s h).pins.len k = bitAt h.pins.len k := by
  obtain ⟨-, e⟩ | e := lenFollow_cases s h
  · rw [e]
  · simp [e, bitAt_putBit_other _ _ ne]

/-- After the first n outputs have followed their conditions they agree with them, and the conditions are what they were. -/
theorem forN_lenFollow (n : Nat) (h : Hw) : (forN n Hw.lenFollow h).due = h.due
    ∧ (∀ k, (forN n Hw.lenFollow h).lenHolds k = h.lenHolds k)
    ∧ ∀ k, k < n → bitAt (forN n Hw.lenFollow h).pins.len k = h.lenHolds k := by
  induction n with
  | zero => exact ⟨rfl, fun _ => rfl, by simp⟩
  | succ n ih =>
    obtain ⟨due, holds, len⟩ := ih
    rw [forN_succ]
    refine ⟨by simp [due], by simp [holds], fun k lt => ?_⟩
    by_cases e : k = n
    · rw [e, lenFollow_len_same, holds]
    · rw [lenFollow_len_other _ e, len k (by omega)]

theorem driveLen_safe {h : Hw} (q : h.due = []) : h.driveLen.Safe := by
  obtain ⟨due, holds, len⟩ := forN_lenFollow 8 h
  exact ⟨fun k lt => (len k lt).trans (holds k).symm, due.trans q⟩

/-- The end of a step leaves a safe state, whatever the step did. -/
theorem settle_safe (h : Hw) : h.settle.Safe := driveLen_safe rfl

/-- Every command answers, and ends with the end of the step. -/
theorem exec_settles (c : Instr) (s : State) : ∃ h, exec c s = .next (s.settled h) := by
  cases c <;> exact ⟨_, rfl⟩

end Sys2Proof.Machine
end

section
/-! A cycle of the clock (R42, R195, R322, R461): what it may change, in one shape. -/

namespace Sys2Proof.Machine

/-- The hardware g is h but for what a cycle of the clock may change: the registers, and of those only words of FANTAIL and the rebuild
counters of the head links; PRESS_TIME; the Fantail output's counter; what is sent; the links; the lamps and their outputs. -/
def Ticks (h g : Hw) : Prop :=
  (∃ r c f x ss ps ls n, g = { h with regs := r, clk := c, fanIn := f, sent := x, stations := ss, peers := ps, lamps := ls,
                                      pins := { h.pins with lamp := n } })
    ∧ ∀ a, pageBase a ≠ pFANTAIL → (∀ k, k < 8 → a ≠ addrOf IVINA.REBUILT (pIVINA k) 0) → g.word a = h.word a

namespace Ticks

variable {h g k : Hw}

theorem refl (h : Hw) : Ticks h h :=
  ⟨⟨h.regs, h.clk, h.fanIn, h.sent, h.stations, h.peers, h.lamps, h.pins.lamp, rfl⟩, fun _ _ _ => rfl⟩

theorem trans (e : Ticks h g) (e' : Ticks g k) : Ticks h k := by
  obtain ⟨⟨r, c, f, x, ss, ps, ls, n, rfl⟩, w⟩ := e
  obtain ⟨⟨r', c', f', x', ss', ps', ls', n', rfl⟩, w'⟩ := e'
  exact ⟨⟨r', c', f', x', ss', ps', ls', n', rfl⟩, fun a p q => (w' a p q).trans (w a p q)⟩

theorem clk (h : Hw) (c : PressClock) : Ticks h { h with clk := c } :=
  ⟨⟨h.regs, c, h.fanIn, h.sent, h.stations, h.peers, h.lamps, h.pins.lamp, rfl⟩, fun _ _ _ => rfl⟩

theorem fanIn (h : Hw) (n : Nat) : Ticks h { h with fanIn := n } :=
  ⟨⟨h.regs, h.clk, n, h.sent, h.stations, h.peers, h.lamps, h.pins.lamp, rfl⟩, fun _ _ _ => rfl⟩

theorem send (h : Hw) (y : Sent) : Ticks h (h.send y) :=
  ⟨⟨h.regs, h.clk, h.fanIn, _, h.stations, h.peers, h.lamps, h.pins.lamp, rfl⟩, fun _ _ _ => rfl⟩

theorem modLk (h : Hw) (l : LinkId) (f : LinkState → LinkState) : Ticks h (h.modLk l f) := by
  cases l with
  | head s => exact ⟨⟨h.regs, h.clk, h.fanIn, h.sent, _, h.peers, h.lamps, h.pins.lamp, rfl⟩, fun _ _ _ => rfl⟩
  | peer p => exact ⟨⟨h.regs, h.clk, h.fanIn, h.sent, h.stations, _, h.lamps, h.pins.lamp, rfl⟩, fun _ _ _ => rfl⟩

theorem modLamp (h : Hw) (i : Nat) (f : LampCh → LampCh) : Ticks h (h.modLamp i f) :=
  ⟨⟨h.regs, h.clk, h.fanIn, h.sent, h.stations, h.peers, _, h.pins.lamp, rfl⟩, fun _ _ _ => rfl⟩

theorem lampLevel (h : Hw) (n : Nat) : Ticks h { h with pins := { h.pins with lamp := n } } :=
  ⟨⟨h.regs, h.clk, h.fanIn, h.sent, h.stations, h.peers, h.lamps, n, rfl⟩, fun _ _ _ => rfl⟩

/-- A write of a field of FANTAIL or of a rebuild counter. -/
theorem wri (h : Hw) (p : Nat) (f : Field) (i v : Nat)
    (of : pageBase (addrOf f p i) = pFANTAIL ∨ ∃ j, j < 8 ∧ addrOf f p i = addrOf IVINA.REBUILT (pIVINA j) 0) : Ticks h (h.wri p f i v) := by
  refine ⟨⟨_, h.clk, h.fanIn, h.sent, h.stations, h.peers, h.lamps, h.pins.lamp, rfl⟩, fun a fan reb => word_wri_other _ _ _ _ _ ?_⟩
  rintro rfl
  rcases of with of | ⟨j, lt, e⟩
  · exact fan of
  · exact reb j lt e

theorem ite {c : Prop} [Decidable c] {a b : Hw} (x : Ticks h a) (y : Ticks h b) : Ticks h (if c then a else b) := by
  split
  · exact x
  · exact y

theorem foldl {α : Type} (f : Hw → α → Hw) (l : List α) (each : ∀ h x, Ticks h (f h x)) : Ticks h (l.foldl f h) :=
  List.foldlRecOn l f (refl h) fun _ e x _ => e.trans (each _ x)

theorem forN (n : Nat) (f : Nat → Hw → Hw) (each : ∀ i h, Ticks h (f i h)) : Ticks h (forN n f h) :=
  forN_keeps (Ticks h) n f h (refl h) fun i _ e => e.trans (each i _)

end Ticks

theorem ticks_fanTick (h : Hw) : Ticks h h.fanTick := by
  unfold Hw.fanTick
  exact .ite (.refl h) (.ite ((Ticks.wri h _ _ _ _ (.inl (by decide))).trans (.fanIn _ _)) (.fanIn _ _))

/-! ### The lanes of the links -/

theorem ticks_codewordsOut (h : Hw) (l : LinkId) (m : Nat → Message) : Ticks h (h.codewordsOut l m) :=
  .forN _ _ fun _ h => .ite (.refl h) (.send h _)

theorem ticks_countRebuilt (h : Hw) (l : LinkId) : Ticks h (h.countRebuilt l) := by
  unfold Hw.countRebuilt
  extract_lets x g
  have e : Ticks h g := by
    cases l with
    | head s => exact .ite (.wri h _ _ _ _ (.inr ⟨s, s.isLt, rfl⟩)) (.refl h)
    | peer p => exact .refl h
  exact e.trans (.modLk _ _ _)

theorem ticks_linkCodeword (h : Hw) (l : LinkId) : Ticks h (h.linkCodeword l) :=
  .ite ((Ticks.modLk _ _ _).trans (ticks_codewordsOut _ _ _))
    (((Ticks.modLk _ _ _).trans (ticks_codewordsOut _ _ _)).trans (ticks_countRebuilt _ _))

theorem ticks_linkTick (h : Hw) (l : LinkId) : Ticks h (h.linkTick l) :=
  .ite (.refl h) (.ite (.modLk _ _ _) ((Ticks.modLk _ _ _).trans (ticks_linkCodeword _ _)))

theorem ticks_linksTick (h : Hw) : Ticks h h.linksTick :=
  (Ticks.foldl _ _ fun h s => ticks_linkTick h (.head s)).trans (.foldl _ _ fun h p => ticks_linkTick h (.peer p))

/-! ### The lamp outputs -/

theorem ticks_lampPin (h : Hw) (k : Nat) (v : Bool) : Ticks h (h.lampPin k v) := by
  unfold Hw.lampPin
  extract_lets was g pins g'
  have e : Ticks h g' := (Ticks.ite (.refl h) (.modLamp h k _)).trans (.lampLevel _ _)
  exact .ite (e.trans (.modLamp _ _ _)) (.ite (e.trans (.modLamp _ _ _)) e)

theorem ticks_lampsTick (h : Hw) : Ticks h h.lampsTick := by
  refine .forN _ _ fun k h => ?_
  extract_lets now due g
  have e : Ticks h g := .ite ((ticks_lampPin h k true).trans (.modLamp _ _ _)) (.refl h)
  exact .ite (.ite (e.trans (.modLamp _ _ _)) (e.trans (ticks_lampPin _ _ _))) e

theorem ticks_tick (h : Hw) : Ticks h h.tick :=
  .ite ((((Ticks.clk h _).trans (ticks_fanTick _)).trans (ticks_linksTick _)).trans (ticks_lampsTick _)) (.refl h)

/-! ### Safety -/

theorem pageBase_addrOf_pST_ne (f : Field) (s n : Nat) : pageBase (addrOf f (pST s n) 0) ≠ pFANTAIL := by
  unfold pageBase addrOf pST pFANTAIL
  omega

/-- A cycle of the clock leaves every register of a station page but the rebuild counter. -/
theorem Ticks.is_pST {h g : Hw} (e : Ticks h g) (s n : Nat) (f : Field) (ne : f.off ≠ IVINA.REBUILT.off := by decide)
    (lt : f.off < 4096 := by decide) : g.is (pST s n) f = h.is (pST s n) f := by
  have w := e.2 _ (pageBase_addrOf_pST_ne f s n) fun k _ => addrOf_pST_ne s n k 7 ne lt
  unfold Hw.is Hw.rd
  rw [w]

/-- A cycle of the clock touches no condition of a laser enable. -/
theorem Ticks.lenHolds {h g : Hw} (e : Ticks h g) (k : Nat) : g.lenHolds k = h.lenHolds k := by
  refine lenHolds_congr k ?_ ?_ (e.is_pST k 7 _) (e.is_pST k 7 _) (e.is_pST k 7 _) (e.is_pST k 4 _) <;>
    obtain ⟨⟨r, c, f, x, ss, ps, ls, n, rfl⟩, -⟩ := e <;> rfl

/-- A cycle of the clock keeps a safe state safe. -/
theorem Ticks.safe {h g : Hw} (e : Ticks h g) (safe : h.Safe) : g.Safe := by
  obtain ⟨len, due⟩ := safe
  have holds := e.lenHolds
  obtain ⟨⟨r, c, f, x, ss, ps, ls, n, rfl⟩, -⟩ := e
  exact ⟨fun k lt => (len k lt).trans (holds k).symm, due⟩

/-- Settles O6: a step is a command, whose meaning ends with the end of the step, or a cycle of the clock, which touches no condition. -/
theorem stepKeepsSafe : Obligations.StepKeepsSafe := by
  rintro ⟨h, pending⟩ t safe st
  cases pending with
  | nil =>
    obtain rfl : idle ⟨h, []⟩ = t := by simpa [step] using st
    exact (ticks_tick h).safe safe
  | cons c rest =>
    obtain ⟨g, e⟩ := exec_settles c ⟨h, rest⟩
    obtain rfl : State.settled ⟨h, rest⟩ g = t := by simpa [step, e] using st
    exact settle_safe g

end Sys2Proof.Machine
end

section
/-! The module before mains comes on (R41, R75, R382), and the commands that report or count. -/

namespace Sys2Proof.Machine

/-! ### The reset state -/

/-- No register is listed at reset: each reads its reset value. -/
theorem word_reset (a : Nat) : State.reset.hw.word a = regReset a := rfl

theorem byte_reset (a : Nat) : State.reset.hw.byte a = 0 := rfl

theorem table_reset (o : Nat) : State.reset.hw.table o = w1Reset o := rfl

/-- Settles O4: nothing is listed at reset, so every word and byte reads its default; the levels are those of the reset pins. -/
theorem resetState : Obligations.ResetState :=
  ⟨rfl, word_reset, byte_reset, table_reset, rfl, rfl, rfl, rfl, rfl, rfl, rfl, rfl, rfl, rfl, rfl⟩

/-! ### Commands that report or count -/

namespace Says

variable {h g : Hw}

theorem persist (e : Says h g) (p i : Nat) (v : Bool) : Says h (g.persist p i v) := e.setBit _ _ _ _

theorem raise (e : Says h g) (p i : Nat) (c : Cap) : Says h (g.raise p i c) := e.trans (says_raise _ _ _ _)

end Says

theorem says_pcieLinkUp (speed : BitVec 4) (width : BitVec 5) (flit : Bool) (h : Hw) : Says h (pcieLinkUp speed width flit h) := by
  unfold pcieLinkUp
  extract_lets p g slow g'
  have e : Says h g' := (((((Says.refl h).wr _ _ _).wr _ _ _).wr _ _ _).wr _ _ _).persist _ _ _
  exact .ite (.refl h) (.ite (e.raise _ _ _) e)

theorem says_bankOffClear (x : Nat) (h : Hw) : Says h (bankOffClear x h) :=
  .ite (.refl h) ((((Says.refl h).wr _ _ _).wr _ _ _).persist _ _ _)

theorem says_mbusDischarged (vCap : BitVec 16) (h : Hw) : Says h (mbusDischarged vCap h) :=
  .ite ((((Says.refl h).wr _ _ _).wr _ _ _).raise _ _ _) (.refl h)

theorem says_mbusOvClear (vCap : BitVec 16) (h : Hw) : Says h (mbusOvClear vCap h) :=
  .ite ((((Says.refl h).wr _ _ _).wr _ _ _).persist _ _ _) (.refl h)

theorem says_mainsRange (vrms : BitVec 16) (h : Hw) : Says h (mainsRange vrms h) := by
  unfold mainsRange
  extract_lets out g
  have e : Says h g := ((Says.refl h).wr _ _ _).persist _ _ _
  exact .ite (.refl h) (.ite (e.raise _ _ _) e)

/-- The warning of a pair notes the pair, and reports. -/
theorem says_watchdogWarn (p : Fin 4) (h : Hw) :
    ∃ w, Says { h with boot := { h.boot with warned := w } } (watchdogWarn p h) := by
  by_cases k : h.kernelRuns = true
  · exact ⟨some p.val, by rw [watchdogWarn, if_pos k]; exact says_raise _ _ _ _⟩
  · exact ⟨h.boot.warned, by rw [watchdogWarn, if_neg k]; exact .refl h⟩

theorem says_fabricParityError (page : PageNo) (h : Hw) : Says h (fabricParityError page h) :=
  .ite (.refl h) (says_raise _ _ _ _)

/-- A command whose effect changes registers, messages and follow-ups only keeps everything else until the end of the step. -/
theorem framed_of_effect {c : Instr} {s : State} (effect : Hw → Hw) (ends : exec c s = finish s (effect s.hw))
    (e : Says s.hw (effect s.hw)) : ∃ z, Says s.hw z ∧ exec c s = .next (s.settled z) :=
  ⟨_, e, ends⟩

/-- Settles O15: each of these commands is made of register writes and raises. -/
theorem registerOnlyCommandsFrame : Obligations.RegisterOnlyCommandsFrame := by
  intro s
  have e := Says.refl s.hw
  refine ⟨fun c => framed_of_effect (contextResetEnd c) rfl ((e.wri _ _ _ _).setBit _ _ _ _),
    fun a b f => framed_of_effect (pcieLinkUp a b f) rfl (says_pcieLinkUp a b f _),
    framed_of_effect syspllUnlock rfl ((e.wr _ _ _).raise _ _ _),
    framed_of_effect corepllUnlock rfl ((e.wr _ _ _).raise _ _ _),
    framed_of_effect clkMon rfl ((e.wr _ _ _).raise _ _ _),
    fun k => framed_of_effect (headStatusTimeout k) rfl (e.wr _ _ _),
    fun k => framed_of_effect (headRxOkTimeout k) rfl (e.wr _ _ _),
    fun x => framed_of_effect (bankOffClear x) rfl (says_bankOffClear x _),
    fun v => framed_of_effect (mbusDischarged v) rfl (says_mbusDischarged v _),
    fun v => framed_of_effect (mbusOvClear v) rfl (says_mbusOvClear v _),
    fun v => framed_of_effect (mainsRange v) rfl (says_mainsRange v _),
    framed_of_effect rowLeaseExpiry rfl (e.inc _ _),
    fun p => ?_,
    fun p => framed_of_effect (fabricParityError p) rfl (says_fabricParityError p _),
    fun c => framed_of_effect (pwmFault c) rfl (e.raise _ _ _),
    framed_of_effect aonFault rfl (e.raise _ _ _)⟩
  obtain ⟨w, r⟩ := says_watchdogWarn p s.hw
  exact ⟨w, _, r, rfl⟩

end Sys2Proof.Machine
end

section
/-! The safety inputs (R33, R34, R35, R37, R38, R427): what each command answers. -/

namespace Sys2Proof.Machine

/-- With no press running the presence window is the SEAL loop's. -/
theorem windowOpen_of_no_press {h : Hw} (n : h.pins.buttonEnds = none) : h.windowOpen = h.pins.sealClosed := by
  simp [Hw.windowOpen, Hw.buttonRuns, n]

theorem interlockClose_last {h : Hw} (a : h.pins.ilk1 = false) (b : h.pins.ilk2 = true) :
    interlockClose 0 h = { h with pins := { h.pins with ilk1 := true, ilkClosedAt := h.clk.cycles } } := by
  simp [interlockClose, a, b]

theorem interlockClose_first {h : Hw} (a : h.pins.ilk1 = false) : interlockClose 1 h = { h with pins := { h.pins with ilk2 := true } } := by
  simp [interlockClose, a]

theorem coverEdge_kernel {h : Hw} (i : Fin 4) (closed : Bool) (k : h.kernelRuns = true) : coverEdge i closed h
    = { h with pins := { h.pins with cover := putBit h.pins.cover i closed } }.send (.cover i closed h.clk.time) := if_pos k

/-- A press inside an open window starts the 120 s again. -/
theorem commissionPress_again {h : Hw} {ms : BitVec 16} (on : h.boot.vaon = true) (long : 50 ≤ ms.toNat) (opened : h.windowOpen = true) :
    commissionPress ms h = ({ h with pins := { h.pins with buttonEnds := some (h.mono + buttonWindow) } }.wr pPRESENCE
      PRESENCE.PR_STS_BUTTON 1).lockoutPresence := by
  unfold commissionPress
  rw [if_neg (by simp [on]; omega)]
  simp only [opened, if_true]

theorem sealClose_opens {h : Hw} (on : h.boot.vaon = true) (shut : h.windowOpen = false) :
    sealClose h = (({ h with pins := { h.pins with sealClosed := true } }.wr pPRESENCE PRESENCE.PR_STS_SEAL 1).windowMoved
      0xFFFF).lockoutPresence := by
  simp [sealClose, on, shut]

theorem sealOpen_shuts {h : Hw} (on : h.boot.vaon = true) (closed : h.pins.sealClosed = true) (n : h.pins.buttonEnds = none) :
    sealOpen h = ({ h with pins := { h.pins with sealClosed := false } }.wr pPRESENCE PRESENCE.PR_STS_SEAL 0).windowMoved 0xFFFF := by
  simp [sealOpen, on, windowOpen_of_no_press, closed, n]

/-- The end of the button window shuts the presence window where the SEAL loop is open. -/
theorem buttonOver_shuts {h : Hw} (m : Nat) (runs : h.pins.buttonEnds.isSome = true) (op : h.pins.sealClosed = false) :
    h.buttonOver m = ({ h with pins := { h.pins with buttonEnds := none } }.wr pPRESENCE PRESENCE.PR_STS_BUTTON 0).windowMoved m := by
  have n : h.pins.buttonEnds.isNone = false := by simpa using runs
  simp [Hw.buttonOver, n, windowOpen_of_no_press, op]

/-- Settles O27: each input's effect, case by case. -/
theorem safetyInputsComplete : Obligations.SafetyInputsComplete := by
  refine ⟨fun _ => rfl, fun _ => rfl, fun s a b => ?_, fun s a => ?_, fun _ => rfl, fun _ => rfl, fun _ => rfl, fun _ => rfl,
    fun s i closed k => ?_, fun s ms on long opened => ?_, fun s on shut => ?_, fun s on closed n => ?_, fun s ended runs op => ?_,
    fun s m t runs op => ?_⟩
  · exact congrArg (finish s) (interlockClose_last a b)
  · exact congrArg (finish s) (interlockClose_first a)
  · exact congrArg (finish s) (coverEdge_kernel i closed k)
  · exact congrArg (finish s) (commissionPress_again on long opened)
  · exact congrArg (finish s) (sealClose_opens on shut)
  · exact congrArg (finish s) (sealOpen_shuts on closed n)
  · exact congrArg (finish s) ((if_neg (by simp [ended])).trans (buttonOver_shuts _ runs op))
  · exact congrArg (finish s) ((writeTo_takes t _).trans (congrArg (Hw.fabricUse · _) (buttonOver_shuts _ runs op)))

end Sys2Proof.Machine
end

section
/-! Rail faults, MBUS, mains and overloaded supplies (R16, R18, R26, R365, R370, R371, R373, R375, R381): what each command answers. -/

namespace Sys2Proof.Machine

/-- The engine kernel's write of a register that takes no other master's has its effect. -/
theorem kernelOnly_takes {h : Hw} {m : Master} {a : Nat} (t : h.takes m a = true) (k : isKernel m = true) (f : Hw → Hw) :
    h.kernelOnly m a f = (f h).fabricUse (pageBase a) :=
  (writeTo_takes t _).trans (congrArg (Hw.fabricUse · _) (if_pos k))

/-- A command that is carried out where a condition holds answers its effect there. -/
theorem finish_if_pos {c : Prop} [Decidable c] (holds : c) (s : State) (x y : Hw) : finish s (if c then x else y) = .next (s.settled x) :=
  congrArg (finish s) (if_pos holds)

theorem mainsRange_powered {h : Hw} (on : h.boot.vaon = true) (vrms : BitVec 16) : mainsRange vrms h =
    let u := (h.wr pSUPPLY SUPPLY.MAINS_VRMS vrms.toNat).persist pSUPPLY 13 (decide (vrms.toNat < 850 ∨ 3050 < vrms.toNat))
    if vrms.toNat < 850 ∨ 3050 < vrms.toNat then u.raise pSUPPLY 13 (cap0 0) else u := by
  simp [mainsRange, on]

/-- A rail command that nothing refuses switches the rail on, or begins to switch it off. -/
theorem railCmdGo_carried {h : Hw} {m : Master} {r : BitVec 6} {on : Bool} (t : h.takes m (addrOf SUPPLY.RAIL_CMD_GO pSUPPLY 0) = true)
    (ok : ((h.wr pSUPPLY SUPPLY.RAIL_CMD_RAIL r.toNat).wr pSUPPLY SUPPLY.RAIL_CMD_ON (b2n on)).railCmdRefused r.toNat on = 0) :
    railCmdGo m r on h =
      (let u := ((h.wr pSUPPLY SUPPLY.RAIL_CMD_RAIL r.toNat).wr pSUPPLY SUPPLY.RAIL_CMD_ON (b2n on)).wr pSUPPLY
        SUPPLY.RAIL_CMD_STS_RESULT 0
      if on then (u.rearmHven m r.toNat).railOn r.toNat
      else ((u.railOff r.toNat).modSq fun q => { q with cmd := some r.toNat }).wr pSUPPLY SUPPLY.RAIL_CMD_STS_BUSY 1).fabricUse
        (pageBase (addrOf SUPPLY.RAIL_CMD_GO pSUPPLY 0)) := by
  unfold railCmdGo
  rw [writeTo_takes t]
  simp only [ok, ne_eq, not_true_eq_false, if_false]

/-- Settles O52: each command's effect where its condition holds. -/
theorem supplyCommandsComplete : Obligations.SupplyCommandsComplete := by
  refine ⟨fun s r ne en pg => ?intRailFault, fun s restart cooling => ?railRestart, fun s r ext en pg => ?extRailFault,
    fun s r mv vIn vCap ext en good => ?extRailPowerGood, fun s vrms lost on low => ?powerFailWarn,
    fun s vrms freq warned inRange phases => ?mainsReturn, fun s vrms on => ?mainsRange, fun s m t k => ?stopReq,
    fun s m r on t ok => ?railCmdGo, fun s v low new => ?mbusDischarged, fun s v high was => ?mbusUvClear,
    fun s v low was => ?mbusOvClear, fun s => rfl, fun s v low new => ?mbusUndervoltage, fun s v high new => ?mbusOvervoltage,
    fun s p live => ?supplyPhaseFail, fun s c => rfl⟩
  case intRailFault => exact finish_if_pos ⟨ne, en, pg⟩ _ _ _
  case railRestart => exact finish_if_pos ⟨restart, cooling⟩ _ _ _
  case extRailFault => exact finish_if_pos ⟨ext, en, pg⟩ _ _ _
  case extRailPowerGood => exact finish_if_pos ⟨ext, en, good⟩ _ _ _
  case powerFailWarn => exact finish_if_pos ⟨on, low⟩ _ _ _
  case mainsReturn => exact finish_if_pos ⟨warned, inRange, phases⟩ _ _ _
  case mainsRange => exact congrArg (finish s) (mainsRange_powered on vrms)
  case stopReq => exact congrArg (finish s) (kernelOnly_takes t k _)
  case railCmdGo => exact congrArg (finish s) (railCmdGo_carried t ok)
  case mbusDischarged => exact finish_if_pos ⟨low, by simpa using new⟩ _ _ _
  case mbusUvClear => exact finish_if_pos ⟨high, was⟩ _ _ _
  case mbusOvClear => exact finish_if_pos ⟨low, was⟩ _ _ _
  case mbusUndervoltage => exact finish_if_pos ⟨low, by simpa using new⟩ _ _ _
  case mbusOvervoltage => exact finish_if_pos ⟨high, by simpa using new⟩ _ _ _
  case supplyPhaseFail => exact congrArg (finish s) (if_neg (ne_true_of_eq_false live))

end Sys2Proof.Machine
end

section
/-! A cycle of the clock (R42, R44, R195, R322, R461): what it moves, and PRESS_TIME. -/

namespace Sys2Proof.Machine

/-- Settles O2: a cycle of the clock has the shape `Ticks`. -/
theorem emptyQueueTicks : Obligations.EmptyQueueTicks := by
  intro h
  obtain ⟨⟨r, c, f, x, ss, ps, ls, n, e⟩, words⟩ := ticks_tick h
  exact ⟨rfl, by rw [e], by rw [e], by rw [e], by rw [e], by rw [e], by rw [e], by rw [e], words⟩

/-! ### Only PRESS_TIME's own cycle moves it -/

theorem modLk_clk (h : Hw) (l : LinkId) (f : LinkState → LinkState) : (h.modLk l f).clk = h.clk := by
  cases l <;> rfl

theorem modLamp_clk (h : Hw) (k : Nat) (f : LampCh → LampCh) : (h.modLamp k f).clk = h.clk := rfl

theorem fanTick_clk (h : Hw) : h.fanTick.clk = h.clk := by
  unfold Hw.fanTick
  split
  · rfl
  · split
    · simp only [wr_clk]
    · rfl

theorem codewordsOut_clk (h : Hw) (l : LinkId) (m : Nat → Message) : (h.codewordsOut l m).clk = h.clk :=
  forN_keeps (fun g : Hw => g.clk = h.clk) _ _ _ rfl fun k g e => by
    split
    · exact e
    · exact e

theorem countRebuilt_clk (h : Hw) (l : LinkId) : (h.countRebuilt l).clk = h.clk := by
  unfold Hw.countRebuilt
  dsimp only
  rw [modLk_clk]
  cases l with
  | head s =>
    dsimp only
    split
    · exact inc_clk _ _ _
    · rfl
  | peer p => rfl

theorem linkCodeword_clk (h : Hw) (l : LinkId) : (h.linkCodeword l).clk = h.clk := by
  unfold Hw.linkCodeword
  dsimp only
  split
  · rw [codewordsOut_clk, modLk_clk]
  · rw [countRebuilt_clk, codewordsOut_clk, modLk_clk]

theorem linkTick_clk (h : Hw) (l : LinkId) : (h.linkTick l).clk = h.clk := by
  unfold Hw.linkTick
  dsimp only
  split
  · rfl
  · split
    · exact modLk_clk _ _ _
    · rw [linkCodeword_clk, modLk_clk]

theorem linksTick_clk (h : Hw) : h.linksTick.clk = h.clk :=
  List.foldlRecOn (motive := fun g : Hw => g.clk = h.clk) _ _
    (List.foldlRecOn (motive := fun g : Hw => g.clk = h.clk) _ _ rfl fun g e _ _ => (linkTick_clk g _).trans e)
    fun g e _ _ => (linkTick_clk g _).trans e

theorem lampPin_clk (h : Hw) (k : Nat) (v : Bool) : (h.lampPin k v).clk = h.clk := by
  cases v
  · show (if bitAt h.pins.lamp k then _ else _ : Hw).clk = h.clk
    split <;> rfl
  · rfl

theorem lampsTick_clk (h : Hw) : h.lampsTick.clk = h.clk := by
  refine forN_keeps (fun g : Hw => g.clk = h.clk) _ _ _ rfl fun k g e => ?_
  extract_lets now due u
  have eu : u.clk = h.clk := by
    unfold u
    split
    · exact (modLamp_clk _ _ _).trans ((lampPin_clk _ _ _).trans e)
    · exact e
  split
  · split
    · exact eu
    · exact (lampPin_clk _ _ _).trans eu
  · exact eu

theorem tick_clk {h : Hw} (on : h.boot.vaon = true) : h.tick.clk = h.clk.tick (signed 32 (h.rd pTIME TIME.RATE_ADJ)) := by
  unfold Hw.tick
  rw [if_pos on, lampsTick_clk, linksTick_clk, fanTick_clk]

/-! ### PRESS_TIME and its slew (R42, R44) -/

/-- PRESS_TIME and its fraction are one number of 96 bits, to which a cycle adds. -/
theorem tick_adds (c : PressClock) (rate : Int) : ((c.tick rate).time.toNat * 2 ^ 32 + (c.tick rate).frac) % 2 ^ 96
    = (c.time.toNat * 2 ^ 32 + c.frac + (1024 * (4294967296 + rateClamp rate) + slewPart rate c.slew).toNat) % 2 ^ 96 := by
  simp only [PressClock.tick, BitVec.toNat_add, BitVec.toNat_ofNat]
  omega

theorem tick_frac_lt (c : PressClock) (rate : Int) : (c.tick rate).frac < 2 ^ 32 := Nat.mod_lt _ (by decide)

/-- While more than one cycle's part of a forward slew remains, rate and slew are clamped together. -/
theorem slewPart_forward {rate slew : Int} (much : 1024 * 85899 ≤ slew) :
    slewPart rate slew + 1024 * rateClamp rate = 1024 * rateClamp (rate + 85899) := by
  have term : slewTerm rate slew = rateClamp (rate + 85899) - rateClamp rate := by
    simp only [slewTerm, if_neg (show ¬ slew = 0 by omega), if_neg (show ¬ slew < 0 by omega)]
  have bound : 0 ≤ slewTerm rate slew ∧ slewTerm rate slew ≤ 85899 := by
    rw [term]; unfold rateClamp clampI; omega
  have whole : slewPart rate slew = 1024 * slewTerm rate slew := if_neg (by omega)
  omega

/-- The same of a backward slew. -/
theorem slewPart_backward {rate slew : Int} (much : slew ≤ -(1024 * 85899)) :
    slewPart rate slew + 1024 * rateClamp rate = 1024 * rateClamp (rate - 85899) := by
  have term : slewTerm rate slew = rateClamp (rate - 85899) - rateClamp rate := by
    simp only [slewTerm, if_neg (show ¬ slew = 0 by omega), if_pos (show slew < 0 by omega)]
    rfl
  have bound : -85899 ≤ slewTerm rate slew ∧ slewTerm rate slew ≤ 0 := by
    rw [term]; unfold rateClamp clampI; omega
  have whole : slewPart rate slew = 1024 * slewTerm rate slew := if_neg (by omega)
  omega

/-- Settles O3: only PRESS_TIME's own cycle moves it, and that cycle is an addition on 96 bits. -/
theorem tickAdvancesPressTime : Obligations.TickAdvancesPressTime := by
  intro h on _ rate d c
  have e : c = h.clk.tick rate := tick_clk on
  rw [e]
  exact ⟨tick_adds _ _, tick_frac_lt _ _, rfl, slewPart_forward, slewPart_backward⟩

end Sys2Proof.Machine
end

section
/-! PRESS_TIME, SURF and top of form (R43, R44, R46, R52, R54, R56, R497): what each command answers. -/

namespace Sys2Proof.Machine

theorem timeSet_loads {h : Hw} {m : Master} (t : h.takes m (addrOf TIME.TIME_CTRL_SET pTIME 0) = true) (gap : h.anyExposing = false)
    (own : h.rd pTIME TIME.TIME_CTRL_SRC = 0) : timeSet m h =
    (h.setTime (BitVec.ofNat 64 (h.rd2 pTIME TIME.SET_LO TIME.SET_HI 0))).fabricUse (pageBase (addrOf TIME.TIME_CTRL_SET pTIME 0)) :=
  (writeTo_takes t _).trans (congrArg (Hw.fabricUse · _) (if_neg (by simp [gap, own])))

theorem timeSet_refused {h : Hw} {m : Master} (t : h.takes m (addrOf TIME.TIME_CTRL_SET pTIME 0) = true) (exposing : h.anyExposing = true) :
    timeSet m h = (h.wr pTIME TIME.TIME_STS_SET_REFUSED 1).fabricUse (pageBase (addrOf TIME.TIME_CTRL_SET pTIME 0)) :=
  (writeTo_takes t _).trans (congrArg (Hw.fabricUse · _) (if_pos (.inl exposing)))

theorem slewReqWrite_taken {h : Hw} {m : Master} {v : Word} (t : h.takes m (addrOf TIME.SLEW_REQ pTIME 0) = true)
    (own : h.rd pTIME TIME.TIME_CTRL_SRC = 0) : slewReqWrite m v h =
    ((h.wr pTIME TIME.SLEW_REQ v.toNat).slewBy v.toInt).fabricUse (pageBase (addrOf TIME.SLEW_REQ pTIME 0)) :=
  (writeTo_takes t _).trans (congrArg (Hw.fabricUse · _) (if_neg (not_not.mpr own)))

/-! ### Top of form -/

/-- What TOF_CTRL.GO shows of a computation that starts: the mask, BUSY and the instant. -/
def Hw.tofShow (h : Hw) (mask : BitVec 8) (t0 : Stamp) : Hw :=
  ((h.wr pTIME TIME.TOF_CTRL_MASK mask.toNat).wr pTIME TIME.TOF_CTRL_BUSY 1).wr2 pTIME TIME.TOF_TIME_LO TIME.TOF_TIME_HI 0 t0.toNat

/-- TOF_CTRL.GO on an idle computation: each masked station is computed for the belt point P. -/
def Hw.tofStart (h : Hw) (mask : BitVec 8) (t0 : Stamp) : Hw :=
  let p : Coord := BitVec.ofNat 48 (h.rd2 pTIME TIME.TOF_BELT_LO TIME.TOF_BELT_HI 0)
  let u := h.tofShow mask t0
  { u with tofCalc := (below 8 fun s => bitAt mask.toNat s).map fun s => (s, (u.tofFor s p t0.toNat).1, (u.tofFor s p t0.toNat).2, p) }

theorem tofGo_starts {h : Hw} {m : Master} {mask : BitVec 8} {t0 : Stamp} (t : h.takes m (addrOf TIME.TOF_CTRL_GO pTIME 0) = true)
    (idle : h.is pTIME TIME.TOF_CTRL_BUSY = false) :
    tofGo m mask t0 h = (h.tofStart mask t0).fabricUse (pageBase (addrOf TIME.TOF_CTRL_GO pTIME 0)) :=
  (writeTo_takes t _).trans (congrArg (Hw.fabricUse · _) (if_neg (ne_true_of_eq_false idle)))

theorem tofStart_stations (h : Hw) (mask : BitVec 8) (t0 : Stamp) :
    (h.tofStart mask t0).tofCalc.map (fun x => x.1) = below 8 fun k => bitAt mask.toNat k := by
  simp [Hw.tofStart, Function.comp_def]

theorem tofStart_points (h : Hw) (mask : BitVec 8) (t0 : Stamp) :
    ∀ x ∈ (h.tofStart mask t0).tofCalc, x.2.2.2 = BitVec.ofNat 48 (h.rd2 pTIME TIME.TOF_BELT_LO TIME.TOF_BELT_HI 0) := by
  simp [Hw.tofStart]

theorem tofStart_word (h : Hw) (mask : BitVec 8) (t0 : Stamp) (a : Nat) : (h.tofStart mask t0).word a = (h.tofShow mask t0).word a := by
  simp only [Hw.word, Hw.tofStart]

/-- The instant has registers of its own: TOF_CTRL reads what GO left in it. -/
theorem tofStart_ctrl (h : Hw) (mask : BitVec 8) (t0 : Stamp) : (h.tofStart mask t0).word (addrOf TIME.TOF_CTRL_BUSY pTIME 0)
    = ((h.wr pTIME TIME.TOF_CTRL_MASK mask.toNat).wr pTIME TIME.TOF_CTRL_BUSY 1).word (addrOf TIME.TOF_CTRL_BUSY pTIME 0) := by
  rw [tofStart_word, Hw.tofShow, Hw.wr2, word_wri_other _ _ _ _ _ (by decide), word_wri_other _ _ _ _ _ (by decide)]

theorem tofStart_busy (h : Hw) (mask : BitVec 8) (t0 : Stamp) : (h.tofStart mask t0).is pTIME TIME.TOF_CTRL_BUSY = true := by
  have busy : (h.tofStart mask t0).rd pTIME TIME.TOF_CTRL_BUSY = 1 := by
    unfold Hw.rd
    rw [tofStart_ctrl]
    exact rd_wr_same _ _ TIME.TOF_CTRL_BUSY 1
  exact decide_eq_true busy

theorem tofStart_mask (h : Hw) (mask : BitVec 8) (t0 : Stamp) : (h.tofStart mask t0).rd pTIME TIME.TOF_CTRL_MASK = mask.toNat := by
  have low : (h.wr pTIME TIME.TOF_CTRL_MASK mask.toNat).rd pTIME TIME.TOF_CTRL_MASK = mask.toNat :=
    (rd_wr_same h pTIME TIME.TOF_CTRL_MASK mask.toNat).trans (Nat.mod_eq_of_lt mask.isLt)
  have kept : ((h.wr pTIME TIME.TOF_CTRL_MASK mask.toNat).wr pTIME TIME.TOF_CTRL_BUSY 1).rd pTIME TIME.TOF_CTRL_MASK
      = (h.wr pTIME TIME.TOF_CTRL_MASK mask.toNat).rd pTIME TIME.TOF_CTRL_MASK :=
    rdi_wri_other _ _ _ _ _ _ _ _ (by decide) (by decide) (by decide) (.inr (by decide))
  rw [← low, ← kept]
  unfold Hw.rd
  exact congrArg (bitsOf · _ _) (tofStart_ctrl h mask t0)

theorem tofDeadline_misses {h : Hw} {stn : StationNo} {d : BitVec 20} {g : PageRec} (page : h.page? d.toNat = some g)
    (uses : g.uses stn = true) (unplaced : (g.on stn).tof.isNone = true) : tofDeadline stn d h = h.missSlot d.toNat := by
  simp [tofDeadline, page, uses, unplaced]

/-- Settles O30: each command's effect where its condition holds. -/
theorem timeCommandsComplete : Obligations.TimeCommandsComplete := by
  refine ⟨fun s m t gap own => ?timeSet, fun s m t exposing => ?setRefused, fun s m v t own => ?slewReqWrite, fun s applied => ?slewComplete,
    fun s => rfl, fun s stn runs => ?surfStale, fun s m mask t0 t idle => ?tofGo, fun s busy => ?tofComplete,
    fun s stn d g page uses unplaced => ?tofDeadline⟩
  case timeSet => exact congrArg (finish s) (timeSet_loads t gap own)
  case setRefused => exact congrArg (finish s) (timeSet_refused t exposing)
  case slewReqWrite => exact congrArg (finish s) (slewReqWrite_taken t own)
  case slewComplete => exact finish_if_pos applied _ _ _
  case surfStale => exact finish_if_pos runs _ _ _
  case tofGo =>
    refine ⟨s.hw.tofStart mask t0, congrArg (finish s) (tofGo_starts t idle), (tofStart_stations _ _ _).trans ?_⟩
    refine congrArg (below 8) (funext fun k => ?_)
    have shown := And.intro (tofStart_busy s.hw mask t0) (And.intro (tofStart_mask s.hw mask t0) (tofStart_points s.hw mask t0))
    -- The statement's test of a station reads on over the other facts about the computation; they hold, so it is the station's mask bit.
    rw [Bool.eq_iff_iff, decide_eq_true_iff]
    exact iff_self_and.mpr fun _ => shown
  case tofComplete => exact finish_if_pos busy _ _ _
  case tofDeadline => exact congrArg (finish s) (tofDeadline_misses page uses unplaced)

end Sys2Proof.Machine
end

section
/-! Accesses of the host to registers, the view and the tables (R58, R396, R398, R399, R475, R486): what each command answers. -/

namespace Sys2Proof.Machine

/-- A register write that is taken has the effect of its half of the page, on a DMA channel's register as on any other. -/
theorem w0RegisterWrite_takes {h : Hw} {m : Master} {a : BitVec 20} {n : BitVec 10} {w : Word} {c : Cls}
    (cls : clsOf (pageBase a.toNat) = some c) (size : w0Takes a.toNat n.toNat = true) (t : h.takes m a.toNat = true) :
    w0RegisterWrite m a n w h = (if pageOff a.toNat < 0x80 then h.writeFace c (pageBase a.toNat) a.toNat w
      else h.writeBlock m c (pageBase a.toNat) a.toNat w).fabricUse (pageBase a.toNat) := by
  simp only [w0RegisterWrite, cls, size, Bool.not_true, Bool.false_eq_true, if_false]
  split
  · exact dmaWrite_takes t _
  · exact writeTo_takes t _

theorem w0UnmappedAccess_refused {h : Hw} {m : Master} {a : BitVec 20} (page : clsOf (pageBase a.toNat) = none)
    (served : h.pageServed m pHOST = true) (acts : h.masterActs m = true) (write : Bool) : w0UnmappedAccess m a write h =
      (if write then h else h.send (.readValue m a.toNat 0xFFFFFFFF)).refuse m a.toNat false write := by
  have same : ∀ y, (h.send y).pageServed m pHOST = true ∧ (h.send y).masterActs m = true := fun _ => ⟨served, acts⟩
  cases write <;> simp [w0UnmappedAccess, page, served, acts, same]

theorem viewRead_commons {h : Hw} {c : Fin 16} {off : BitVec 26} {n : BitVec 10} (acts : h.masterActs (ctxMaster c) = true)
    (served : h.w1Served = true) (size : w1Access off.toNat n.toNat = true) (view : w1TableEnd ≤ off.toNat)
    (commons : inRange (h.viewMpa c off.toNat) n.toNat (h.commonsRange c) = true)
    (given : h.stacksGive (h.viewMpa c off.toNat) n.toNat = true) : viewRead c off n false h =
      h.send (.readBytes (ctxMaster c) off.toNat (h.bytes (h.viewMpa c off.toNat) n.toNat)) := by
  simp [viewRead, acts, served, size, Nat.not_lt.mpr view, commons, given]

theorem viewWrite_commons {h : Hw} {c : Fin 16} {off : BitVec 25} {bytes : List Byte} (acts : h.masterActs (ctxMaster c) = true)
    (served : h.w1Served = true) (size : w1Access (w1TableEnd + off.toNat) bytes.length = true)
    (commons : inRange (h.viewMpa c (w1TableEnd + off.toNat)) bytes.length (h.commonsRange c) = true) :
    viewWrite c off bytes h = h.putBytes (h.viewMpa c (w1TableEnd + off.toNat)) bytes := by
  simp [viewWrite, acts, served, size, commons]

/-- A 4-byte AtomicOp in the commons that writes answers the value it replaced. -/
theorem atomicOp_writes {h : Hw} {c : Fin 16} {off : BitVec 25} {k : AtomicKind} {v : Nat} (acts : h.masterActs (ctxMaster c) = true)
    (served : h.w1Served = true) (commons : inRange (h.viewMpa c (w1TableEnd + off.toNat)) 4 (h.commonsRange c) = true)
    (aligned : (w1TableEnd + off.toNat) % 4 = 0)
    (writes : k.result 4 (ofLE (h.bytes (h.viewMpa c (w1TableEnd + off.toNat)) 4)) = some v) : atomicOp c off false k h =
      (h.putBytes (h.viewMpa c (w1TableEnd + off.toNat)) (toLE 4 v)).send
        (.atomicDone (ctxMaster c) (some (ofLE (h.bytes (h.viewMpa c (w1TableEnd + off.toNat)) 4)))) := by
  simp [atomicOp, acts, served, commons, aligned, writes]

theorem w1TableWrite_taken {h : Hw} {m : Master} {off : BitVec 25} {bytes : List Byte} (acts : h.masterActs m = true)
    (ready : h.ready = true) (size : w1Access off.toNat bytes.length = true) (trusted : isTrusted m = true)
    (banks : ∀ i, i < bytes.length → ∃ b, bankOf (off.toNat + i) = some b ∧ h.bankWritable b = true) :
    w1TableWrite m off bytes h = h.putTables off.toNat bytes := by
  unfold w1TableWrite
  extract_lets o bad
  have none_bad : bad = none := by
    refine List.find?_eq_none.mpr fun i hi => ?_
    obtain ⟨b, bank, writable⟩ := banks i (List.mem_range.mp hi)
    simp [o, bank, writable]
  rw [if_neg (by simp [acts, ready, size, o]), if_pos (by simp [trusted, none_bad])]

theorem latchedLoRead_latches {h : Hw} {m : Master} {a : BitVec 20} {n : BitVec 10} {k : Cls} (cls : clsOf (pageBase a.toNat) = some k)
    (lo : loRegs k (pageOff a.toNat) = true) (size : w0Takes a.toNat n.toNat = true) : latchedLoRead m a n h =
      ((h.latch m (a.toNat + 4) (h.readW0 m (a.toNat + 4))).send (.readValue m a.toNat (h.readW0 m a.toNat).toNat)).fabricUse
        (pageBase a.toNat) := by
  simp [latchedLoRead, cls, lo, size]

/-- Settles O29: each access's effect where it is admitted. -/
theorem hostAccessComplete : Obligations.HostAccessComplete := by
  refine ⟨fun s m a n w c cls _ size face t => ?face, fun s m a n w c cls _ size block t => ?block,
    fun s m a n w cls size block t => ?dma, fun s m a page served acts => ?unmappedRead, fun s m a page served acts => ?unmappedWrite,
    fun s c off n uncorr acts served size view commons ok given => ?viewRead, fun s c off bytes acts served size commons => ?viewWrite,
    fun s c off k v acts served commons aligned writes => ?atomicOp, fun s m off bytes acts ready size trusted banks => ?tableWrite,
    fun s m a n k cls lo size => ?latchedLoRead, fun s m c served acts answers live => ?chPosRead⟩
  case face => exact congrArg (finish s) ((w0RegisterWrite_takes cls size t).trans (by rw [if_pos face]))
  case block => exact congrArg (finish s) ((w0RegisterWrite_takes cls size t).trans (by rw [if_neg (Nat.not_lt.mpr block)]))
  case dma => exact congrArg (finish s) ((w0RegisterWrite_takes cls size t).trans (by rw [if_neg (by omega)]))
  case unmappedRead => exact congrArg (finish s) (w0UnmappedAccess_refused page served acts false)
  case unmappedWrite => exact congrArg (finish s) (w0UnmappedAccess_refused page served acts true)
  case viewRead => subst ok; exact congrArg (finish s) (viewRead_commons acts served size view commons given)
  case viewWrite => exact congrArg (finish s) (viewWrite_commons acts served size commons)
  case atomicOp => exact congrArg (finish s) (atomicOp_writes acts served commons aligned writes)
  case tableWrite => exact congrArg (finish s) (w1TableWrite_taken acts ready size trusted banks)
  case latchedLoRead => exact congrArg (finish s) (latchedLoRead_latches cls lo size)
  case chPosRead =>
    refine congrArg (finish s) ?_
    simp [chPosRead, served, acts, answers, live]

end Sys2Proof.Machine
end

section
/-! The Fantail and the page fabric (R54, R461, R462, R463, R465, R466, R468): what each command answers. -/

namespace Sys2Proof.Machine

/-- The engine kernel's write of FT_CTRL has its effect. -/
theorem fanWrite_takes {h : Hw} {m : Master} (t : h.takes m (addrOf FANTAIL.FT_CTRL_EN pFANTAIL 0) = true) (k : isKernel m = true)
    (f : Hw → Hw) : h.fanWrite m f = (f h).fabricUse (pageBase (addrOf FANTAIL.FT_CTRL_EN pFANTAIL 0)) := by
  unfold Hw.fanWrite
  rw [writeTo_takes t, if_pos k]

theorem fantailResume_starts {h : Hw} {m : Master} (t : h.takes m (addrOf FANTAIL.FT_CTRL_EN pFANTAIL 0) = true) (k : isKernel m = true)
    (en : h.is pFANTAIL FANTAIL.FT_CTRL_EN = true) (stopped : h.is pFANTAIL FANTAIL.FT_STS_TOGGLING = false) (ready : h.ready = true)
    (held : h.mram.hold = false) (clear : h.fanClear = true) :
    fantailResume m h = h.fanStart.fabricUse (pageBase (addrOf FANTAIL.FT_CTRL_EN pFANTAIL 0)) :=
  (fanWrite_takes t k _).trans (congrArg (Hw.fabricUse · _) (if_pos (by simp [en, stopped, ready, held, clear])))

theorem ftFreqWrite_legal {h : Hw} {m : Master} {v : BitVec 14} (t : h.takes m (addrOf FANTAIL.FT_FREQ pFANTAIL 0) = true)
    (low : 100 ≤ v.toNat) (high : v.toNat ≤ 10000) :
    ftFreqWrite m v h = (h.wr pFANTAIL FANTAIL.FT_FREQ v.toNat).fabricUse (pageBase (addrOf FANTAIL.FT_FREQ pFANTAIL 0)) :=
  (writeTo_takes t _).trans (congrArg (Hw.fabricUse · _) (if_pos ⟨low, high⟩))

theorem fabricTimeout_late {h : Hw} {m : Master} {a : BitVec 20} {write : Bool} (page : (clsOf (pageBase a.toNat)).isNone = false)
    (blk : 0x80 ≤ pageOff a.toNat) (served : h.pageServed m (pageBase a.toNat) = true)
    (runs : h.is (pageBase a.toNat) FACE.PAGE_STS_IN_RESET = false) : fabricTimeout m a write h =
      (if write then h else h.send (.readValue m a.toNat 0xFFFFFFFF)).raise pFANTAIL 2 ⟨a.toNat, m.toNat, b2n write, false⟩ :=
  if_neg (by simp [page, blk, served, runs])

theorem blockWatchdog_hung {h : Hw} {page : PageNo} {c : Cls} (cls : clsOf (4096 * page.val) = some c) (domain : alwaysOn c = false)
    (runs : h.is (4096 * page.val) FACE.PAGE_STS_IN_RESET = false) (up : h.boot.inReset = false) : blockWatchdog page h =
      ((h.strand (4096 * page.val)).wr (4096 * page.val) FACE.PAGE_STS_HUNG 1).raise pFANTAIL 2 (cap0 (4096 * page.val)) := by
  simp [blockWatchdog, cls, domain, runs, up]

/-- Settles O60: each command's effect where its condition holds. -/
theorem fantailCommandsComplete : Obligations.FantailCommandsComplete := by
  refine ⟨fun s m t k en stopped ready held clear => ?fantailResume, fun s m v t k => ?fantailEnWrite, fun s m v t low high => ?ftFreqWrite,
    fun s m a write page blk served runs => ?fabricTimeout, fun s page c cls domain runs up => ?blockWatchdog, fun s => ?ledgerAgrees,
    fun s up => ?ledgerDiffers, fun s page cls up => ?fabricParityError, fun s m stn mask t => ?surfStsClear⟩
  case fantailResume => exact congrArg (finish s) (fantailResume_starts t k en stopped ready held clear)
  case fantailEnWrite => exact congrArg (finish s) (fanWrite_takes t k _)
  case ftFreqWrite => exact congrArg (finish s) (ftFreqWrite_legal t low high)
  case fabricTimeout => exact congrArg (finish s) (fabricTimeout_late page blk served runs)
  case blockWatchdog => exact congrArg (finish s) (blockWatchdog_hung cls domain runs up)
  case ledgerAgrees => exact finish_if_pos (.inl rfl) _ _ _
  case ledgerDiffers => exact congrArg (finish s) (if_neg (by simp [up]))
  case fabricParityError => exact congrArg (finish s) (if_neg (by simp [cls, up]))
  case surfStsClear => exact congrArg (finish s) (writeTo_takes t _)

end Sys2Proof.Machine
end

section
/-! A module reset (R53, R75, R387, R388, R391): what it keeps and what it clears. -/

namespace Sys2Proof.Machine

/-! ### The end of a step in a module reset -/

/-- With every LEN output low and the module in reset, no LEN output has a condition to follow. -/
theorem lenFollow_inReset {h : Hw} (k : Nat) (low : h.pins.len = 0) (reset : h.boot.inReset = true) : Hw.lenFollow k h = h :=
  if_pos (by simp [low, reset, Hw.lenHolds, bitAt])

theorem settle_inReset {h : Hw} (q : h.due = []) (low : h.pins.len = 0) (reset : h.boot.inReset = true) : h.settle = h := by
  rw [settle_quiet q]
  exact forN_keeps (· = h) 8 _ h rfl fun k g e => by rw [e, lenFollow_inReset k low reset]

/-! ### What is wiped -/

/-- Fields are carried into registers, and nothing else changes. -/
theorem carry_shape (h old : Hw) (fs : List (Nat × Field × Nat)) : ∃ r, h.carry old fs = { h with regs := r } :=
  List.foldlRecOn (motive := fun g : Hw => ∃ r, g = { h with regs := r }) fs _ ⟨h.regs, rfl⟩ fun g e x _ => by
    obtain ⟨r, rfl⟩ := e
    exact ⟨_, rfl⟩

/-- The hardware g is what a module reset makes of h: what R388 keeps is that of h, the outputs are low and the slew ends, and everything else
is at reset, but for the registers, what the module has sent, the boot's own state and what a block keeps a part of. -/
def Wiped (h g : Hw) : Prop :=
  ∃ r b ss bs ds ms x, g = { Hw.reset with
    regs := r, mem := h.mem, clk := { h.clk with slew := 0 }, boot := b, pins := { h.pins with lenPermit := 0, len := 0, lamp := 0 }
    mram := h.mram, stations := ss, banks := h.banks, bridges := bs, divs := ds, sluice := h.sluice, thermal := h.thermal, msixFns := ms
    sent := x, fresh := h.fresh }

namespace Wiped

variable {h u g : Hw}

theorem wiped (h : Hw) : Wiped h h.wiped := by
  obtain ⟨r, e⟩ := carry_shape _ h keptFields
  exact ⟨r, _, _, _, _, _, _, e⟩

/-- Registers, what is sent and the follow-ups are no part of what a module reset keeps. -/
theorem of_says (w : Wiped u g) (e : Says h u) : Wiped h g := by
  obtain ⟨r, x, d, rs, t, c, m, rfl⟩ := e
  unfold Wiped at w ⊢
  dsimp only at w
  exact w

theorem boot (w : Wiped h g) (b : Boot) : Wiped h { g with boot := b } := by
  obtain ⟨r, b', ss, bs, ds, ms, x, rfl⟩ := w
  exact ⟨r, b, ss, bs, ds, ms, x, rfl⟩

theorem wr (w : Wiped h g) (p : Nat) (f : Field) (v : Nat) : Wiped h (g.wr p f v) := by
  obtain ⟨r, b, ss, bs, ds, ms, x, rfl⟩ := w
  exact ⟨_, b, ss, bs, ds, ms, x, rfl⟩

theorem ite {c : Prop} [Decidable c] {a b : Hw} (x : Wiped h a) (y : Wiped h b) : Wiped h (if c then a else b) := by
  split
  · exact x
  · exact y

end Wiped

/-! ### A module reset -/

/-- The end of a module reset: the boot begins, and the identity page shows BOOT and counts the reset, with its cause where it is the first. -/
def Hw.bootShown (h : Hw) (b : Boot) (again : Bool) (cause : Nat) : Hw :=
  let v := ({ h with boot := b }.wr pIDENT IDENT.MOD_STS_STATE 0).wr pIDENT IDENT.MOD_STS_TEST 0
  (if again then v else v.wr pIDENT IDENT.RESET_CAUSE_CAUSE cause).inc pIDENT IDENT.RESET_CAUSE_COUNT

/-- A module reset stops the Fantail and notes the page and source that caused it, wipes what is not kept, and begins the boot. -/
theorem moduleReset_eq (h : Hw) (cause page src : Nat) (byFault : Bool) : ∃ u b again, Says h u ∧ b.inReset = true
    ∧ h.moduleReset cause page src byFault = u.wiped.bootShown b again cause := by
  unfold Hw.moduleReset
  extract_lets before first again stopped source addrLo addrHi info timeLo noted
  have e : Says h stopped := .ite (says_stopFantail _ _ _ _) (.refl h)
  have e' : Says h noted := .ite ((((((((e.wr _ _ _).wr _ _ _).wr _ _ _).wr _ _ _).wr _ _ _).wr _ _ _).wr _ _ _).wr _ _ _) e
  exact ⟨noted, _, again, e', rfl, rfl⟩

theorem Wiped.bootShown {h g : Hw} (w : Wiped h g) (b : Boot) (again : Bool) (cause : Nat) : Wiped h (g.bootShown b again cause) :=
  have shown := ((w.boot b).wr pIDENT IDENT.MOD_STS_STATE 0).wr pIDENT IDENT.MOD_STS_TEST 0
  (Wiped.ite shown (shown.wr _ _ _)).wr _ _ _

@[simp] theorem bootShown_boot (h : Hw) (b : Boot) (again : Bool) (cause : Nat) : (h.bootShown b again cause).boot = b := by
  cases again <;> simp [Hw.bootShown]

/-- Writing another register or field leaves the state of the module. -/
theorem modState_wr {h : Hw} {p : Nat} {f : Field} {v : Nat} (d : apart p f 0 pIDENT IDENT.MOD_STS_STATE 0) (hi : f.hi < 32 := by decide)
    (lo : f.lo ≤ f.hi := by decide) : (h.wr p f v).modState = h.modState :=
  rdi_wri_other _ _ _ _ _ _ _ _ hi lo (by decide) d

theorem bootShown_modState (h : Hw) (b : Boot) (again : Bool) (cause : Nat) : (h.bootShown b again cause).modState = 0 := by
  have shown : (({ h with boot := b }.wr pIDENT IDENT.MOD_STS_STATE 0).wr pIDENT IDENT.MOD_STS_TEST 0).modState = 0 :=
    (modState_wr (.inr (by decide))).trans (rd_wr_same _ _ _ _)
  refine (modState_wr (f := IDENT.RESET_CAUSE_COUNT) (.inl (by decide))).trans ?_
  cases again
  · exact (modState_wr (f := IDENT.RESET_CAUSE_CAUSE) (.inl (by decide))).trans shown
  · exact shown

/-- RESET_N low for 5.5 µs is a module reset (R36). -/
theorem moduleResetN_long {h : Hw} {lowNs : BitVec 32} (on : h.boot.vaon = true) (long : 5500 ≤ lowNs.toNat) :
    moduleResetN lowNs h = { h with boot := { h.boot with resetNLow := true } }.moduleReset 1 0 0 false := by
  unfold moduleResetN
  rw [if_neg (by simp [on]; omega), if_pos long]

/-- Settles O16: the module reset wipes what is not kept, and the end of its step finds nothing left to do. -/
theorem moduleResetKeepsAndClears : Obligations.ModuleResetKeepsAndClears := by
  intro s lowNs on long
  let h : Hw := { s.hw with boot := { s.hw.boot with resetNLow := true } }
  obtain ⟨u, b, again, noted, reset, e⟩ := moduleReset_eq h 1 0 0 false
  have answer : exec (.moduleReset lowNs) s = .next (s.settled (u.wiped.bootShown b again 1)) :=
    congrArg (finish s) ((moduleResetN_long on long).trans e)
  have inReset : (u.wiped.bootShown b again 1).boot.inReset = true := by simpa using reset
  have boot := bootShown_modState u.wiped b again 1
  obtain ⟨r, b', ss, bs, ds, ms, x, e'⟩ := ((Wiped.wiped u).of_says noted).bootShown b again 1
  refine ⟨_, answer, ?_⟩
  rw [settled_hw, settle_inReset (by rw [e']; rfl) (by rw [e']) inReset]
  refine ⟨inReset, boot, ?_⟩
  rw [e']
  exact ⟨rfl, rfl, rfl, rfl, rfl, rfl, rfl, rfl, rfl, rfl, rfl, rfl, rfl, rfl, rfl, rfl, rfl, rfl, rfl⟩

end Sys2Proof.Machine
end

section
/-! Writes of the Millpond (R59, R399, R439): the bytes written, and everything they leave alone to the end of the step. -/

namespace Sys2Proof.Machine

/-! ### What driving the laser enables changes -/

/-- A loop keeps what each of its rounds keeps. -/
theorem forN_keeps_below {α : Type} (P : α → Prop) (n : Nat) (f : Nat → α → α) (a : α) (h : P a)
    (step : ∀ i b, i < n → P b → P (f i b)) : P (forN n f a) := by
  induction n with
  | zero => exact h
  | succ n ih =>
    rw [forN_succ]
    exact step n _ (Nat.lt_succ_self n) (ih fun i b lt => step i b (Nat.lt_succ_of_lt lt))

/-- The hardware g is h but for the LEN outputs and the registers, and of those only the IV_STS words of the heads. -/
def DrivesLen (h g : Hw) : Prop :=
  (∃ r n, g = { h with regs := r, pins := { h.pins with len := n } })
    ∧ ∀ a, (∀ k, k < 8 → a ≠ addrOf IVINA.IV_STS_LEN (pIVINA k) 0) → g.word a = h.word a

namespace DrivesLen

variable {h g k : Hw}

theorem refl (h : Hw) : DrivesLen h h := ⟨⟨h.regs, h.pins.len, rfl⟩, fun _ _ => rfl⟩

theorem trans (e : DrivesLen h g) (e' : DrivesLen g k) : DrivesLen h k := by
  obtain ⟨⟨r, n, rfl⟩, words⟩ := e
  obtain ⟨⟨r', n', rfl⟩, words'⟩ := e'
  exact ⟨⟨r', n', rfl⟩, fun a away => (words' a away).trans (words a away)⟩

end DrivesLen

theorem drivesLen_lenFollow (s : Nat) (lt : s < 8) (h : Hw) : DrivesLen h (Hw.lenFollow s h) := by
  obtain ⟨-, e⟩ | e := lenFollow_cases s h
  · rw [e]; exact .refl h
  · rw [e]; exact ⟨⟨_, _, rfl⟩, fun a away => word_wri_other _ _ _ _ _ (away s lt)⟩

theorem drivesLen_driveLen (h : Hw) : DrivesLen h h.driveLen :=
  forN_keeps_below (DrivesLen h) 8 _ h (.refl h) fun s g lt e => e.trans (drivesLen_lenFollow s lt g)

/-- With no follow-up left, the end of a step drives the LEN outputs and changes nothing else. -/
theorem drivesLen_settle {h : Hw} (quiet : h.due = []) : DrivesLen h h.settle := by
  rw [settle_quiet quiet]
  exact drivesLen_driveLen h

/-! ### Bytes of the Millpond -/

/-- A byte outside the range written reads as before. -/
theorem byte_putBytes_outside (h : Hw) (a : Nat) (bs : List Byte) (x : Nat) (out : x < a ∨ a + bs.length ≤ x) :
    (h.putBytes a bs).byte x = h.byte x := by
  induction bs generalizing h a with
  | nil => rfl
  | cons b bs ih =>
    rw [List.length_cons] at out
    rw [Hw.putBytes, ih _ _ (by omega), byte_putByte_other _ _ (by omega)]

/-- A byte of the range written reads as written. -/
theorem byte_putBytes_inside (h : Hw) (a : Nat) (bs : List Byte) (i : Nat) (lt : i < bs.length) :
    (h.putBytes a bs).byte (a + i) = bs.getD i 0 := by
  induction bs generalizing h a i with
  | nil => exact absurd lt (Nat.not_lt_zero i)
  | cons b bs ih =>
    cases i with
    | zero => exact (byte_putBytes_outside _ _ _ _ (.inl (Nat.lt_succ_self a))).trans (byte_putByte_same h a b)
    | succ i =>
      rw [show a + (i + 1) = a + 1 + i by omega]
      exact ih (h.putByte a b) (a + 1) i (Nat.lt_of_succ_lt_succ lt)

/-! ### The end of a step that writes the Millpond -/

/-- A step whose effect is to write bytes, with no follow-up left over, changes those bytes and what the end of every step drives. -/
theorem settle_putBytes {h : Hw} (quiet : h.due = []) (a : Nat) (bs : List Byte) :
    (∃ r n x, (h.putBytes a bs).settle = { h with regs := r, pins := { h.pins with len := n }, mem := x })
      ∧ (∀ i, i < bs.length → (h.putBytes a bs).settle.byte (a + i) = bs.getD i 0)
      ∧ (∀ x, (x < a ∨ a + bs.length ≤ x) → (h.putBytes a bs).settle.byte x = h.byte x)
      ∧ (Memory.wf h.mem = true → Memory.wf (h.putBytes a bs).settle.mem = true)
      ∧ (∀ w, (∀ k, k < 8 → w ≠ addrOf IVINA.IV_STS_LEN (pIVINA k) 0) → (h.putBytes a bs).settle.word w = h.word w) := by
  have inside := byte_putBytes_inside h a bs
  have outside := byte_putBytes_outside h a bs
  have canonical : Memory.wf h.mem = true → Memory.wf (h.putBytes a bs).mem = true := fun wf => memory_wf_putBytes wf a bs
  obtain ⟨m, e⟩ := putBytes_shape h a bs
  rw [e] at inside outside canonical ⊢
  obtain ⟨⟨r, n, shape⟩, words⟩ := drivesLen_settle (h := { h with mem := m }) quiet
  refine ⟨⟨r, n, m, shape⟩, ?_, ?_, ?_, words⟩
  all_goals rw [shape]
  · exact inside
  · exact outside
  · exact canonical

/-- A MEM_WRITE inside the peer window stores its bytes (R439). -/
theorem memWrite_window {h : Hw} {p : Fin 2} {off : BitVec 64} {bytes : List Byte} (hears : h.hears p = true) (short : bytes.length ≤ 256)
    (window : h.inWin off.toNat bytes.length = true) : memWrite p off bytes h = h.putBytes off.toNat bytes := by
  simp [memWrite, hears, Nat.not_lt.mpr short, window]

/-- Settles O14: both writes store their bytes in the Millpond, and the end of the step finds nothing left to do. -/
theorem millpondWritesFrame : Obligations.MillpondWritesFrame := by
  constructor
  · intro s c off bytes quiet acts served size commons
    exact ⟨_, congrArg (finish s) (viewWrite_commons acts served size commons), settle_putBytes quiet _ bytes⟩
  · intro s p off bytes quiet hears short window
    exact ⟨_, congrArg (finish s) (memWrite_window hears short window), settle_putBytes quiet _ bytes⟩

end Sys2Proof.Machine
end

section
/-! Submission, verification, withdrawal and lost stacks (R60, R67, R70, R71, R74): what each command answers. -/

namespace Sys2Proof.Machine

/-- A SUBMIT at the head of the queue of a free Headrace makes a page, or is rejected with its check's reason; that REPRINT_DEF is read here is
the model's choice (log entry 102). -/
theorem submitProcess_head {h : Hw} {readOk : Bool} {m : Master} {idx : Nat} {rest : List HrCmd}
    (head : h.headrace.queue = .submit m idx :: rest) (free : h.hrFree = true) : submitProcess readOk h =
      let u := h.takeCmd
      let bs := u.descBytes idx
      let e := u.submitCheck m idx readOk bs
      if e = 0 then
        let g := pageOf idx (u.rd pHEADRACE HEADRACE.REPRINT_DEF) bs
        ((u.modHr fun r => { r with pages := r.pages ++ [g] }).complete g.ctx (g.completion .state 0 0xFF)).showPages.followPages
      else
        let known := decide (e ≠ 0x0D ∧ e ≠ 0x0E)
        u.reject m ⟨if known then fieldLE bs 0 4 else 0, idx, 15, .submitReject, e, 0, 0xFF, if known then fieldLE bs 0x20 4 else 0⟩ := by
  unfold submitProcess
  rw [head]
  exact if_pos free

/-- A PLANE_READY for a plane that its page uses and that is not yet verified begins the verification. -/
theorem planeVerify_begins {h : Hw} {m : Master} {idx k : Nat} {rest : List HrCmd} {g : PageRec}
    (head : h.headrace.queue = .planeReady m idx k :: rest) (free : h.hrFree = true) (page : h.takeCmd.pageFor m idx = some g)
    (uses : g.uses k = true) (fresh : (g.plane k).verified = false) :
    planeVerify h = h.takeCmd.modHr fun r => { r with verifying := some (m, idx, k) } := by
  simp [planeVerify, head, free, page, uses, fresh]

/-- What follows a verified plane: a submitted page whose planes all are verified is resident (R73). -/
def Hw.residentWhenWhole (v : Hw) (idx : Nat) : Hw :=
  match v.page? idx with
  | some x => if x.state = .submitted ∧ x.verifiedMask &&& x.mask = x.mask then (v.enterState idx .resident 0).followPages else v
  | none => v

/-- The verification of a plane of a live page ends: the plane is rejected with its check's reason, or it is verified. -/
theorem planeVerifyDone_page {h : Hw} {readOk : Bool} {m : Master} {idx k : Nat} {g : PageRec}
    (under : h.headrace.verifying = some (m, idx, k)) (page : (h.modHr fun r => { r with verifying := none }).pageFor m idx = some g) :
    planeVerifyDone readOk h =
      let u := h.modHr fun r => { r with verifying := none }
      let e := u.planeCheck g (g.plane k) readOk
      if e ≠ 0 then u.reject m (g.completion .planeReject e k) else
      ((((u.modPage idx fun x => { x with planes := x.planes.set k { g.plane k with verified := true } }).pageRecord
          idx .planeOk 0 k).ratioAdd g (g.plane k)).showPages).residentWhenWhole idx := by
  unfold planeVerifyDone
  rw [under]
  dsimp only
  rw [page]
  rfl

/-- A WITHDRAW of a page that is not in flight ends the page with reason 0x20. -/
theorem withdrawProcess_head {h : Hw} {m : Master} {idx : Nat} {rest : List HrCmd} {g : PageRec}
    (head : h.headrace.queue = .withdraw m idx :: rest) (free : h.hrFree = true) (page : h.takeCmd.pageFor m idx = some g)
    (waits : g.state.inFlight = false) : withdrawProcess h = h.takeCmd.withdrawPage idx 0x20 := by
  simp [withdrawProcess, head, free, page, waits]

/-- Settles O31: each command's effect where its condition holds. -/
theorem pageCommandsComplete : Obligations.PageCommandsComplete := by
  refine ⟨fun s m idx t => ?submit, fun s m idx stn t => ?planeReady, fun s m idx t => ?withdraw,
    fun s readOk m idx rest head free => ?submitProcess, fun s m idx k rest g head free page uses fresh => ?planeVerify,
    fun s readOk m idx k g under page => ?planeVerifyDone, fun s m idx rest g head free page waits => ?withdrawProcess,
    fun s i ok => ?stackLost⟩
  case submit => exact congrArg (finish s) (writeTo_takes t _)
  case planeReady => exact congrArg (finish s) (writeTo_takes t _)
  case withdraw => exact congrArg (finish s) (writeTo_takes t _)
  case submitProcess => exact congrArg (finish s) (submitProcess_head head free)
  case planeVerify => exact congrArg (finish s) (planeVerify_begins head free page uses fresh)
  case planeVerifyDone => exact congrArg (finish s) (planeVerifyDone_page under page)
  case withdrawProcess => exact congrArg (finish s) (withdrawProcess_head head free page waits)
  case stackLost => exact finish_if_pos ok _ _ _

end Sys2Proof.Machine
end

section
/-! The schedule, grade changes, the forecast and the completion rings (R76, R77, R79, R80, R86, R481): what each command answers. -/

namespace Sys2Proof.Machine

/-! ### Slots and gaps -/

/-- A due slot with a candidate, while the press decides: the candidate is admitted, or the slot is skipped with the condition that fails. -/
theorem slotDue_decides {h : Hw} {a : Slot} {g : PageRec} (slot : h.headrace.slot = some a) (candidate : h.candidate = some g)
    (goesOn : h.headrace.stopAtGap = false) (runs : h.kernelRuns = true) (decides : h.decides = true) : slotDue h =
      let why := h.admitFails g a.beltP (h.effGrade g)
      let go := decide (why = 0) && (!h.chainOn || h.jointGo g.jobId)
      let u := h.jointClose g.desc go g.jobId
      (if go then u.admitPage g.desc a.beltP else u.skipSlot why).slotTaken a := by
  unfold slotDue
  rw [slot, candidate]
  exact if_neg (by simp [goesOn, runs, decides])

/-! ### Grade changes -/

theorem gradeChangeApply_grade {h : Hw} (pending : h.is pHEADRACE HEADRACE.HR_STS_PEND_VALID = true) (exposed : h.allExposed = true)
    (passed : h.slotPassed = true) (alone : h.is pHEADRACE HEADRACE.GT_BANK_SWITCH_PEND = false) :
    gradeChangeApply h = h.gradeApply.followPages := by
  simp [gradeChangeApply, pending, exposed, passed, alone]

/-- A bank switch that waits with a grade comes first, and the grade follows where it is still pending. -/
theorem gradeChangeApply_bank {h : Hw} (pending : h.is pHEADRACE HEADRACE.HR_STS_PEND_VALID = true) (exposed : h.allExposed = true)
    (passed : h.slotPassed = true) (bank : h.is pHEADRACE HEADRACE.GT_BANK_SWITCH_PEND = true) :
    gradeChangeApply h = if h.gtApply.is pHEADRACE HEADRACE.HR_STS_PEND_VALID then h.gtApply.gradeApply.followPages else h.gtApply := by
  simp [gradeChangeApply, pending, exposed, passed, bank]

theorem gtBankSwitch_waits {h : Hw} {m : Master} (t : h.takes m (addrOf HEADRACE.GT_BANK_SWITCH pHEADRACE 0) = true)
    (idle : h.is pHEADRACE HEADRACE.GT_BANK_SWITCH_PEND = false) : gtBankSwitch m h =
      (let u := h.wr pHEADRACE HEADRACE.GT_BANK_SWITCH_PEND 1
      if u.pressIdle then u.gtApply
      else if u.gtChanges && !u.is pHEADRACE HEADRACE.HR_STS_PEND_VALID then u.gradeRequest u.runGrade else u).fabricUse
        (pageBase (addrOf HEADRACE.GT_BANK_SWITCH pHEADRACE 0)) :=
  (writeTo_takes t _).trans (congrArg (Hw.fabricUse · _) (if_neg (ne_true_of_eq_false idle)))

/-! ### The forecast -/

theorem forecastStepDown_steps {h : Hw} (en : h.is pHEADRACE HEADRACE.HR_CTRL_FORECAST_EN = true) (runs : h.kernelRuns = true)
    (slower : 0 < h.rd pHEADRACE HEADRACE.HR_STS_FC_GRADE) (held : h.headrace.marginSince.isSome = true)
    (first : h.headrace.fcMoved = false) : forecastStepDown h = h.fcStep (h.rd pHEADRACE HEADRACE.HR_STS_FC_GRADE - 1) :=
  if_pos (by simp [en, runs, slower, held, first])

theorem forecastEnClear_taken {h : Hw} {m : Master} (t : h.takes m (addrOf HEADRACE.HR_CTRL_FORECAST_EN pHEADRACE 0) = true) :
    forecastEnClear m h = ((((((h.wr pHEADRACE HEADRACE.HR_CTRL_FORECAST_EN 0).modHr fun r => { r with marginSince := none }).wr pHEADRACE
      HEADRACE.HR_STS_FC_GRADE 0).wr pHEADRACE HEADRACE.HR_STS_STARVE 0).wr pHEADRACE HEADRACE.FC_MARGIN 0x7FFFFFFF).followPages).fabricUse
        (pageBase (addrOf HEADRACE.HR_CTRL_FORECAST_EN pHEADRACE 0)) := by
  unfold forecastEnClear
  rw [writeTo_takes t]

/-! ### Completion rings -/

/-- A ring that was not enabled is configured, and nothing is restarted. -/
theorem ringCfgWrite_disabled {h : Hw} {m : Master} {c : Fin 16} {log2 : BitVec 4} {en : Bool}
    (t : h.takes m (addrOf HEADRACE.RING_CFG_EN pHEADRACE c) = true) (was : h.isi pHEADRACE HEADRACE.RING_CFG_EN c = false) :
    ringCfgWrite m c log2 en h =
      ((h.wri pHEADRACE HEADRACE.RING_CFG_LOG2SIZE c (clampN 6 12 log2.toNat)).wri pHEADRACE HEADRACE.RING_CFG_EN c (b2n en)).fabricUse
        (pageBase (addrOf HEADRACE.RING_CFG_EN pHEADRACE c)) := by
  unfold ringCfgWrite
  rw [writeTo_takes t]
  dsimp only
  rw [if_neg (ne_true_of_eq_false was)]

/-- Settles O32: each command's effect where its condition holds. That a gap is the absence of an exposing page is the model's choice (log entry
92), and that a bank switch which changes the running row waits as a grade change does is log entry 67. -/
theorem scheduleCommandsComplete : Obligations.ScheduleCommandsComplete := by
  refine ⟨fun s a g slot candidate goesOn runs decides => ?slotDue, fun s gap => ?gapBoundary,
    fun s pending exposed passed alone => ?gradeAlone, fun s pending exposed passed bank => ?gradeAndBank, fun s m t idle => ?gtBankSwitch,
    fun s bank gap same => ?gtBankApply, fun s u en runs => ?forecastEval, fun s en runs slower held first => ?forecastStepDown,
    fun s m t => ?forecastEnClear, fun s m c log2 en t was => ?ringCfgWrite⟩
  case slotDue => exact congrArg (finish s) (slotDue_decides slot candidate goesOn runs decides)
  case gapBoundary => exact congrArg (finish s) (if_neg (ne_true_of_eq_false gap))
  case gradeAlone => exact congrArg (finish s) (gradeChangeApply_grade pending exposed passed alone)
  case gradeAndBank => exact congrArg (finish s) (gradeChangeApply_bank pending exposed passed bank)
  case gtBankSwitch => exact congrArg (finish s) (gtBankSwitch_waits t idle)
  case gtBankApply => exact finish_if_pos (by simp [bank, gap, same]) _ _ _
  case forecastEval => exact finish_if_pos (by simp [en, runs]) _ _ _
  case forecastStepDown => exact congrArg (finish s) (forecastStepDown_steps en runs slower held first)
  case forecastEnClear => exact congrArg (finish s) (forecastEnClear_taken t)
  case ringCfgWrite => exact congrArg (finish s) (ringCfgWrite_disabled t was)

end Sys2Proof.Machine
end

section
/-! Bytes and bit streams (R88, R90, R92): little-endian numbers, the CRC's width, and reading back what a stream was given. -/

namespace Sys2Proof.Machine

/-! ### Little-endian numbers -/

@[simp] theorem length_toLE (n v : Nat) : (toLE n v).length = n := by
  induction n generalizing v with
  | zero => rfl
  | succ n ih => simp [toLE, ih]

/-- The number n bytes spell is the one they were made of, modulo their width. -/
@[simp] theorem ofLE_toLE (n v : Nat) : ofLE (toLE n v) = v % 256 ^ n := by
  induction n generalizing v with
  | zero => simp [toLE, ofLE, Nat.mod_one]
  | succ n ih =>
    rw [toLE, ofLE, ih, BitVec.toNat_ofNat, Nat.pow_succ' (m := 256)]
    exact Nat.mod_mul.symm

/-- The bytes of the number a list of bytes spells are the list. -/
theorem toLE_ofLE (bs : List Byte) : toLE bs.length (ofLE bs) = bs := by
  induction bs with
  | nil => rfl
  | cons b bs ih =>
    have low : BitVec.ofNat 8 (ofLE (b :: bs)) = b :=
      BitVec.eq_of_toNat_eq (by have := b.isLt; simp only [ofLE, BitVec.toNat_ofNat]; omega)
    have high : ofLE (b :: bs) / 256 = ofLE bs := by have := b.isLt; simp only [ofLE]; omega
    rw [List.length_cons, toLE, low, high, ih]

theorem ofLE_append (a b : List Byte) : ofLE (a ++ b) = ofLE a + 256 ^ a.length * ofLE b := by
  induction a with
  | nil => simp [ofLE]
  | cons x a ih => rw [List.cons_append, ofLE, ih, ofLE, List.length_cons, Nat.pow_succ']; ring

theorem ofLE_lt (bs : List Byte) : ofLE bs < 256 ^ bs.length := by
  rw [← toLE_ofLE bs, ofLE_toLE, length_toLE]
  exact Nat.mod_lt _ (by positivity)

/-- A field behind the first bytes of a record. -/
theorem fieldLE_append_right (a b : List Byte) {o : Nat} (n : Nat) (behind : a.length ≤ o) :
    fieldLE (a ++ b) o n = fieldLE b (o - a.length) n := by
  rw [fieldLE, fieldLE, List.drop_append, List.drop_of_length_le behind, List.nil_append]

/-- A field that the first bytes of a record are. -/
theorem fieldLE_toLE (n v : Nat) (rest : List Byte) : fieldLE (toLE n v ++ rest) 0 n = v % 256 ^ n := by
  rw [fieldLE, List.drop_zero, List.take_left' (length_toLE n v), ofLE_toLE]

/-- A field of a record behind its first one. -/
theorem fieldLE_skip {k o : Nat} (v : Nat) (rest : List Byte) (n : Nat) (behind : k ≤ o) :
    fieldLE (toLE k v ++ rest) o n = fieldLE rest (o - k) n := by
  rw [fieldLE_append_right _ _ _ (by rwa [length_toLE]), length_toLE]

/-! ### The CRC -/

theorem crcBit_lt {c : Nat} (lt : c < 2 ^ 32) : crcBit c < 2 ^ 32 := by
  unfold crcBit
  split
  · exact Nat.xor_lt_two_pow (by omega) (by decide)
  · omega

theorem crcByte_lt {c : Nat} (lt : c < 2 ^ 32) (b : Byte) : crcByte c b < 2 ^ 32 := by
  have start : c ^^^ b.toNat < 2 ^ 32 := Nat.xor_lt_two_pow lt (by have := b.isLt; omega)
  exact crcBit_lt (crcBit_lt (crcBit_lt (crcBit_lt (crcBit_lt (crcBit_lt (crcBit_lt (crcBit_lt start)))))))

theorem crc32c_lt (bs : List Byte) : crc32c bs < 2 ^ 32 := by
  have keeps : ∀ c < 2 ^ 32, bs.foldl crcByte c < 2 ^ 32 := by
    induction bs with
    | nil => exact fun _ lt => lt
    | cons b bs ih => exact fun c lt => ih _ (crcByte_lt lt b)
  exact Nat.xor_lt_two_pow (keeps _ (by decide)) (by decide)

/-- The trailer of a billet holds the check value of its samples (R88, R97 code 1). -/
theorem checkTrailer_checkValue (bs : List Byte) (xs : List Sample) :
    checkTrailer (bs ++ toLE 4 (checkValue xs)) xs = .ok xs := by
  have fits : checkValue xs < 256 ^ 4 := crc32c_lt _
  refine if_pos ?_
  rw [List.length_append, length_toLE, Nat.add_sub_cancel, List.drop_left, ofLE_toLE, Nat.mod_eq_of_lt fits]

/-! ### Bits, most significant first -/

/-- n bits spell the number they were made of, modulo its width, behind the bits already read. -/
theorem takeMsb_putMsb_append (n acc v : Nat) (bs : List Bool) :
    takeMsb n acc (putMsb n v ++ bs) = some (acc * 2 ^ n + v % 2 ^ n, bs) := by
  induction n generalizing acc with
  | zero => simp [putMsb, takeMsb, Nat.mod_one]
  | succ n ih =>
    have head : putMsb (n + 1) v = bitAt v n :: putMsb n v := by
      simp only [putMsb, List.range_succ_eq_map, List.map_cons, List.map_map]
      refine congrArg₂ List.cons rfl (List.map_congr_left fun i _ => ?_)
      simp only [Function.comp]; congr 1; omega
    have bit : b2n (bitAt v n) = v / 2 ^ n % 2 := by
      rw [bitAt, Nat.testBit_eq_decide_div_mod_eq, b2n]; split <;> simp_all
    rw [head, List.cons_append, takeMsb, ih, bit, Nat.mod_pow_succ, Nat.pow_succ]
    congr 2; ring

/-- A field of n bits reads the number written in it. -/
theorem takeMsb_putMsb {n v : Nat} (fits : v < 2 ^ n) (bs : List Bool) : takeMsb n 0 (putMsb n v ++ bs) = some (v, bs) := by
  rw [takeMsb_putMsb_append, Nat.zero_mul, Nat.zero_add, Nat.mod_eq_of_lt fits]

/-- Of n equal bits no more than n are counted. -/
theorem countBits_replicate (b : Bool) (n : Nat) (bs : List Bool) : countBits b n (List.replicate n b ++ bs) = (n, bs) := by
  induction n with
  | zero => rfl
  | succ n ih => simp [List.replicate_succ, countBits, ih]

/-- The count of equal bits ends at the first other one. -/
theorem countBits_replicate_not {b c : Bool} (ne : c ≠ b) {z n : Nat} (below : z < n) (bs : List Bool) :
    countBits b n (List.replicate z b ++ c :: bs) = (z, c :: bs) := by
  induction z generalizing n with
  | zero => obtain ⟨n, rfl⟩ := Nat.exists_eq_add_of_lt below; simp [countBits, ne]
  | succ z ih =>
    cases n with
    | zero => omega
    | succ n => simp [List.replicate_succ, countBits, ih (Nat.lt_of_succ_lt_succ below)]

end Sys2Proof.Machine
end

section
/-! RAW billets (R88, R89, R90): where the packing places the bits of a sample, and that unpacking gives the samples back. -/

namespace Sys2Proof.Machine

/-! ### Bits, least significant first -/

/-- The number a list of bits spells, least significant first, as the packing and the unpacking of a RAW billet make it (R90). -/
def lsbValue (bs : List Bool) : Nat := bs.foldr (fun b a => b2n b + 2 * a) 0

theorem testBit_lsbValue (bs : List Bool) (i : Nat) : (lsbValue bs).testBit i = bs.getD i false := by
  have bit : ∀ b : Bool, b2n b = b.toNat := by decide
  induction bs generalizing i with
  | nil => simp [lsbValue]
  | cons b bs ih =>
    have cons : lsbValue (b :: bs) = Nat.bit b (lsbValue bs) := by
      rw [Nat.bit_val, ← bit, Nat.add_comm]; rfl
    cases i with
    | zero => simp [cons]
    | succ i => rw [cons, Nat.testBit_bit_succ, ih, List.getD_cons_succ]

/-- The lowest n bits of a number spell the number modulo their width. -/
theorem lsbValue_bits (n v : Nat) : lsbValue ((List.range n).map fun i => bitAt v i) = v % 2 ^ n := by
  refine Nat.eq_of_testBit_eq fun i => ?_
  rw [testBit_lsbValue, Nat.testBit_mod_two_pow, List.getD_eq_getElem?_getD, List.getElem?_map]
  by_cases lt : i < n <;> simp [lt, bitAt]

/-- The bits of the byte that eight bits spell are those bits. -/
theorem byteBitsLsb_lsbValue {bs : List Bool} (eight : bs.length = 8) : byteBitsLsb (BitVec.ofNat 8 (lsbValue bs)) = bs := by
  refine List.ext_getElem (by simp [byteBitsLsb, eight]) fun i lt lt' => ?_
  have small : i < 8 := eight ▸ lt'
  simp [byteBitsLsb, bitAt, Nat.testBit_mod_two_pow (j := 8), testBit_lsbValue, small, lt']

/-! ### Packing -/

theorem packLsb_succ {n : Nat} {bs : List Bool} (ne : bs ≠ []) :
    packLsb (n + 1) bs = BitVec.ofNat 8 (lsbValue (bs.take 8)) :: packLsb n (bs.drop 8) :=
  if_neg (by simpa using ne)

/-- The packed bytes of a whole number of bytes are that many. -/
theorem length_packLsb {n : Nat} {bs : List Bool} (whole : bs.length = 8 * n) : (packLsb n bs).length = n := by
  induction n generalizing bs with
  | zero => rfl
  | succ n ih =>
    have ne : bs ≠ [] := List.ne_nil_of_length_pos (by omega)
    rw [packLsb_succ ne, List.length_cons, ih (by simp; omega)]

/-- The packed bytes hold the bits, each from its least significant one on. -/
theorem packLsb_bits {n : Nat} {bs : List Bool} (whole : bs.length = 8 * n) : (packLsb n bs).flatMap byteBitsLsb = bs := by
  induction n generalizing bs with
  | zero => simp_all [packLsb]
  | succ n ih =>
    have ne : bs ≠ [] := List.ne_nil_of_length_pos (by omega)
    rw [packLsb_succ ne, List.flatMap_cons, ih (by simp; omega), byteBitsLsb_lsbValue (by simp; omega), List.take_append_drop]

/-- Piece q of a list made of pieces of k entries each holds its entries k q to k q + k − 1. -/
theorem getElem?_flatMap_pieces {α β : Type} {f : α → List β} {k : Nat} (pieces : ∀ x, (f x).length = k) (l : List α) {q r : Nat}
    (inside : r < k) : (l.flatMap f)[k * q + r]? = l[q]?.bind fun x => (f x)[r]? := by
  induction l generalizing q with
  | nil => simp
  | cons x l ih =>
    cases q with
    | zero => simp [List.getElem?_append_left, pieces, inside]
    | succ q =>
      rw [List.flatMap_cons, List.getElem?_append_right (by rw [pieces, Nat.mul_succ]; omega), pieces, Nat.mul_succ,
        show k * q + k + r - k = k * q + r by omega, ih, List.getElem?_cons_succ]

/-! ### The data bits of a RAW billet -/

/-- The 14 bits of a sample. -/
def sampleBits (x : Sample) : List Bool := (List.range 14).map fun i => bitAt x.word i

@[simp] theorem length_sampleBits (x : Sample) : (sampleBits x).length = 14 := by simp [sampleBits]

/-- The data bits of a billet of n samples. -/
@[simp] theorem length_flatMap_sampleBits (xs : List Sample) : (xs.flatMap sampleBits).length = 14 * xs.length := by
  simp [List.length_flatMap, Nat.mul_comm]

theorem encodeRaw_eq (xs : List Sample) : encodeRaw xs = packLsb 28672 (xs.flatMap sampleBits) ++ toLE 4 (checkValue xs) := rfl

/-- The word of a sample holds its tone below its tag. -/
theorem word_eq {x : Sample} (tone : x.tone < 1024) (tag : x.tag < 16) : x.word = x.tone + 1024 * x.tag := by
  rw [Sample.word, Nat.mod_eq_of_lt tone, Nat.mod_eq_of_lt tag]

theorem bitAt_word {x : Sample} (tone : x.tone < 1024) (tag : x.tag < 16) (j : Nat) :
    bitAt x.word j = if j < 10 then bitAt x.tone j else bitAt x.tag (j - 10) := by
  rw [word_eq tone tag, Nat.add_comm]
  exact Nat.testBit_two_pow_mul_add _ (i := 10) tone j

theorem takeRaw_succ (n : Nat) (bs : List Bool) :
    takeRaw (n + 1) bs = ⟨lsbValue (bs.take 14) % 1024, lsbValue (bs.take 14) / 1024⟩ :: takeRaw n (bs.drop 14) := rfl

/-- Groups of 14 bits are read as the samples they were made of. -/
theorem takeRaw_sampleBits {xs : List Sample} (fit : ∀ x ∈ xs, x.tone < 1024 ∧ x.tag < 16) :
    takeRaw xs.length (xs.flatMap sampleBits) = xs := by
  induction xs with
  | nil => rfl
  | cons x xs ih =>
    obtain ⟨⟨tone, tag⟩, rest⟩ := List.forall_mem_cons.mp fit
    have value : lsbValue (sampleBits x) = x.tone + 1024 * x.tag := by
      rw [sampleBits, lsbValue_bits, word_eq tone tag]; omega
    have low : (x.tone + 1024 * x.tag) % 1024 = x.tone := by omega
    have high : (x.tone + 1024 * x.tag) / 1024 = x.tag := by omega
    rw [List.flatMap_cons, List.length_cons, takeRaw_succ, List.take_left' (length_sampleBits x), List.drop_left' (length_sampleBits x),
      value, ih rest, low, high]

/-! ### The billet -/

/-- The data bits of 16,384 samples fill 28,672 bytes. -/
theorem sampleBits_fill {xs : List Sample} (full : xs.length = 16384) : (xs.flatMap sampleBits).length = 8 * 28672 := by
  rw [length_flatMap_sampleBits, full]

theorem length_encodeRaw {xs : List Sample} (full : xs.length = 16384) : (encodeRaw xs).length = 28676 := by
  rw [encodeRaw_eq, List.length_append, length_packLsb (sampleBits_fill full), length_toLE]

theorem decodeBillet_raw {bytes : List Byte} (right : bytes.length = 28676) :
    decodeBillet true bytes = checkTrailer bytes (takeRaw 16384 ((bytes.take 28672).flatMap byteBitsLsb)) :=
  (if_pos rfl).trans (if_neg (not_not.mpr right))

/-- Settles O17: the packed bytes hold the data bits, each 14 of which spell a sample, and the trailer the check value. -/
theorem rawBilletRoundTrip : Obligations.RawBilletRoundTrip := by
  intro xs full fit
  have fill := sampleBits_fill full
  have samples : takeRaw 16384 (((encodeRaw xs).take 28672).flatMap byteBitsLsb) = xs := by
    rw [encodeRaw_eq, List.take_left' (length_packLsb fill), packLsb_bits fill, ← full, takeRaw_sampleBits fit]
  refine ⟨length_encodeRaw full, ?_⟩
  rw [decodeBillet_raw (length_encodeRaw full), samples]
  exact checkTrailer_checkValue _ xs

/-- Data bit 8 q + r of a RAW billet is bit r of byte q (R90). -/
theorem bitAt_encodeRaw {xs : List Sample} (full : xs.length = 16384) {q r : Nat} (data : q < 28672) (inside : r < 8) :
    bitAt ((encodeRaw xs).getD q 0).toNat r = (xs.flatMap sampleBits).getD (8 * q + r) false := by
  have fill := sampleBits_fill full
  have here : q < (packLsb 28672 (xs.flatMap sampleBits)).length := by rwa [length_packLsb fill]
  have byte : (encodeRaw xs).getD q 0 = (packLsb 28672 (xs.flatMap sampleBits))[q] := by
    rw [encodeRaw_eq, List.getD_append _ _ _ _ here, List.getD_eq_getElem _ _ here]
  have bits := getElem?_flatMap_pieces (f := byteBitsLsb) (k := 8) (by simp [byteBitsLsb]) (packLsb 28672 (xs.flatMap sampleBits))
    (q := q) inside
  rw [packLsb_bits fill, List.getElem?_eq_getElem here] at bits
  rw [byte, List.getD_eq_getElem?_getD, bits]
  simp [byteBitsLsb, inside]

/-- Settles O19: byte i div 8 holds data bit i, and data bit 14 n + j is bit j of sample n's word. -/
theorem rawPackingPlacesBits : Obligations.RawPackingPlacesBits := by
  intro xs n j full fit below inside
  have here : n < xs.length := full ▸ below
  obtain ⟨tone, tag⟩ := fit _ (List.getElem_mem here)
  rw [bitAt_encodeRaw full (by omega) (Nat.mod_lt _ (by decide)), Nat.div_add_mod, List.getD_eq_getElem?_getD,
    getElem?_flatMap_pieces length_sampleBits xs inside, List.getElem?_eq_getElem here, List.getD_eq_getElem _ _ here,
    ← bitAt_word tone tag]
  simp [sampleBits, inside]

end Sys2Proof.Machine
end

section
/-! Coded billets (R91–R97, R101): each part of the stream reads back as it was written, whichever candidate a row takes. -/

namespace Sys2Proof.Machine

/-! ### Residual codes (R96) -/

theorem residualOf_codeOfResidual (e : Int) : residualOf (codeOfResidual e) = e := by
  unfold residualOf codeOfResidual
  split <;> split <;> omega

/-- The code of a residual of ten bits is a code of ten bits. -/
theorem codeOfResidual_lt {e : Int} (low : -512 ≤ e) (high : e < 512) : codeOfResidual e < 1024 := by
  unfold codeOfResidual
  split <;> omega

/-- A code is read as it was written, and as an escape exactly where it was written as one. -/
theorem takeResidual_putResidual {m : Nat} (ten : m < 1024) (k : Nat) (bs : List Bool) :
    takeResidual k (putResidual k m ++ bs) = some (m, decide (15 < m / 2 ^ k), bs) := by
  unfold takeResidual putResidual
  by_cases short : m / 2 ^ k ≤ 15
  · have count := countBits_replicate_not (b := true) (c := false) (by decide) (Nat.lt_succ_of_le short) (putMsb k m ++ bs)
    have whole : m / 2 ^ k * 2 ^ k + m % 2 ^ k = m := Nat.div_add_mod' m (2 ^ k)
    simp only [if_pos short, List.append_assoc, List.cons_append, List.nil_append, count, takeMsb_putMsb_append]
    rw [if_neg (by omega)]
    simp [whole, short]
  · simp only [if_neg short, List.append_assoc, countBits_replicate, if_true, takeMsb_putMsb (n := 10) ten]
    simp [not_le.mp short]

/-- The residual a tone is coded by (R95, R96). -/
def residualFor (pred t : Nat) : Int := ((t : Int) - pred + 512) % 1024 - 512

theorem residualFor_range (pred t : Nat) : -512 ≤ residualFor pred t ∧ residualFor pred t < 512 := by
  unfold residualFor; omega

/-- The prediction and the code of its residual give the tone. -/
theorem toneOf_residualFor {t : Nat} (tone : t < 1024) (pred : Nat) : toneOf pred (codeOfResidual (residualFor pred t)) = t := by
  rw [toneOf, residualOf_codeOfResidual, residualFor]; omega

/-- The prediction at a column of a row (R95). -/
def predicted (p : Nat) (left aboveLeft : Option Nat) (above : List Nat) : Nat :=
  predict p (neighbours left aboveLeft above.head?).1 (neighbours left aboveLeft above.head?).2.1 (neighbours left aboveLeft above.head?).2.2

theorem putPred_cons (p k : Nat) (left aboveLeft : Option Nat) (above : List Nat) (t : Nat) (ts : List Nat) :
    putPred p k left aboveLeft above (t :: ts) =
      putResidual k (codeOfResidual (residualFor (predicted p left aboveLeft above) t)) ++ putPred p k (some t) above.head? above.tail ts := rfl

/-- A column of a PRED row whose code gives t is read as t, and the row goes on from there. -/
theorem takePred_putResidual {p k y n x m t : Nat} {left aboveLeft : Option Nat} {above ts : List Nat} {bs rest : List Bool}
    (ten : m < 1024) (tone : toneOf (predicted p left aboveLeft above) m = t)
    (goesOn : takePred p k y n (x + 1) (some t) above.head? above.tail bs = .ok (ts, rest)) :
    takePred p k y (n + 1) x left aboveLeft above (putResidual k m ++ bs) = .ok (t :: ts, rest) := by
  rw [predicted] at tone
  rw [takePred, takeResidual_putResidual ten]
  dsimp only
  rw [if_neg (by omega), tone, goesOn]

/-- The tones of a PRED row are read as they were coded, whatever stands left of and above them. -/
theorem takePred_putPred {ts : List Nat} (tones : ∀ t ∈ ts, t < 1024) (p k y x : Nat) (left aboveLeft : Option Nat) (above : List Nat)
    (bs : List Bool) :
    takePred p k y ts.length x left aboveLeft above (putPred p k left aboveLeft above ts ++ bs) = .ok (ts, bs) := by
  induction ts generalizing x left aboveLeft above with
  | nil => rfl
  | cons t ts ih =>
    obtain ⟨tone, rest⟩ := List.forall_mem_cons.mp tones
    obtain ⟨low, high⟩ := residualFor_range (predicted p left aboveLeft above) t
    rw [putPred_cons, List.append_assoc]
    exact takePred_putResidual (codeOfResidual_lt low high) (toneOf_residualFor tone _) (ih rest _ _ _ _)

/-- The tones of a RAWROW row are read as they were written. -/
theorem takeTones_putMsb {ts : List Nat} (tones : ∀ t ∈ ts, t < 1024) (y x : Nat) (bs : List Bool) :
    takeTones y ts.length x (ts.flatMap (putMsb 10) ++ bs) = .ok (ts, bs) := by
  induction ts generalizing x with
  | nil => rfl
  | cons t ts ih =>
    obtain ⟨tone, rest⟩ := List.forall_mem_cons.mp tones
    rw [List.length_cons, takeTones, List.flatMap_cons, List.append_assoc, takeMsb_putMsb (n := 10) tone]
    dsimp only
    rw [ih rest]

/-! ### Tag runs (R94) -/

/-- The tags that runs stand for. -/
def expandRuns (rs : List (Nat × Nat)) : List Nat := rs.flatMap fun r => List.replicate r.2 r.1

theorem expandRuns_runsOf (gs : List Nat) : expandRuns (runsOf gs) = gs := by
  induction gs with
  | nil => rfl
  | cons g gs ih =>
    rw [runsOf]
    split
    · next empty => rw [empty] at ih; rw [← ih]; rfl
    · next h n rest runs =>
      rw [runs] at ih
      rw [← ih]
      split
      · next same => simp [expandRuns, same, List.replicate_succ]
      · simp [expandRuns]

/-- The runs of a list are of its entries, and none is empty. -/
theorem runsOf_fit {gs : List Nat} {b : Nat} (fit : ∀ g ∈ gs, g < b) : ∀ r ∈ runsOf gs, r.1 < b ∧ 0 < r.2 := by
  induction gs with
  | nil => simp [runsOf]
  | cons g gs ih =>
    obtain ⟨first, rest⟩ := List.forall_mem_cons.mp fit
    have later := ih rest
    rw [runsOf]
    split
    · simp [first]
    · next h n rs runs =>
      rw [runs] at later
      obtain ⟨⟨tag, _⟩, others⟩ := List.forall_mem_cons.mp later
      split
      · exact List.forall_mem_cons.mpr ⟨⟨tag, by simp⟩, others⟩
      · exact List.forall_mem_cons.mpr ⟨⟨first, by simp⟩, later⟩

/-- The first bit of a positive number's shortest form is 1. -/
theorem putMsb_log2 {r : Nat} (pos : 0 < r) : putMsb (r.log2 + 1) r = true :: putMsb r.log2 r := by
  have top : r.testBit r.log2 = true := Nat.testBit_log2 (by omega)
  simp [putMsb, bitAt, List.range_succ_eq_map, Function.comp_def, top, Nat.sub_sub, Nat.add_comm]

/-- The zeros before an Exp-Golomb code count its bits less one. -/
theorem countBits_putRun {r : Nat} (pos : 0 < r) (bs : List Bool) :
    countBits false (putRun r ++ bs).length (putRun r ++ bs) = (r.log2, putMsb (r.log2 + 1) r ++ bs) := by
  rw [putRun, putMsb_log2 pos, List.append_assoc]
  exact countBits_replicate_not (by decide) (by simp) _

/-- Runs from column x on are read as the tags they stand for, where they end at column 256. -/
theorem takeRuns_putRuns {rs : List (Nat × Nat)} (fit : ∀ r ∈ rs, r.1 < 16 ∧ 0 < r.2) (y : Nat) {fuel x : Nat}
    (full : x + (expandRuns rs).length = 256) (enough : (expandRuns rs).length ≤ fuel) (bs : List Bool) :
    takeRuns y fuel x (rs.flatMap (fun r => putMsb 4 r.1 ++ putRun r.2) ++ bs) = .ok (expandRuns rs, bs) := by
  induction rs generalizing fuel x with
  | nil =>
    have here : x = 256 := full
    cases fuel <;> exact if_pos here
  | cons r rs ih =>
    obtain ⟨⟨tag, pos⟩, rest⟩ := List.forall_mem_cons.mp fit
    have expand : expandRuns (r :: rs) = List.replicate r.2 r.1 ++ expandRuns rs := rfl
    rw [expand, List.length_append, List.length_replicate] at full enough
    obtain ⟨fuel, rfl⟩ : ∃ n, fuel = n + 1 := ⟨fuel - 1, by omega⟩
    rw [takeRuns, if_neg (by omega), List.flatMap_cons, List.append_assoc, List.append_assoc, takeMsb_putMsb (n := 4) tag]
    dsimp only
    rw [countBits_putRun pos]
    dsimp only
    rw [takeMsb_putMsb Nat.lt_log2_self]
    dsimp only
    rw [if_neg (by omega), ih rest (by omega) (by omega), expand]

/-- The tags of a row are read as they were written. -/
theorem takeTags_putTags {tags : List Nat} (row : tags.length = 256) (fit : ∀ g ∈ tags, g < 16) {tagmode btag : Nat}
    (single : tagmode = 0 → tags = List.replicate 256 btag) (y : Nat) (above : List Nat) (bs : List Bool) :
    takeTags tagmode btag y above (putTags tagmode above tags ++ bs) = .ok (tags, bs) := by
  unfold takeTags putTags
  by_cases one : tagmode = 0
  · rw [if_pos one, if_pos one, single one]; rfl
  · rw [if_neg one, if_neg one]
    by_cases same : tags = above
    · rw [if_pos same, same]; rfl
    · have runs := expandRuns_runsOf tags
      rw [if_neg same]
      have read := takeRuns_putRuns (runsOf_fit fit) y (fuel := 256) (x := 0) (by rw [runs, row]) (by rw [runs, row]) bs
      rwa [runs] at read

/-! ### Rows (R93, R101) -/

theorem zipSamples_map (row : List Sample) : zipSamples (row.map Sample.tone) (row.map Sample.tag) = row := by
  rw [zipSamples, List.zipWith_map, List.zipWith_self]; simp

/-- What a row of a billet is: 256 samples, of BTAG alone where TAGMODE is 0 (R91, R92). -/
structure RowFits (tagmode btag : Nat) (row : List Sample) : Prop where
  full : row.length = 256
  fit : ∀ x ∈ row, x.tone < 1024 ∧ x.tag < 16
  single : tagmode = 0 → ∀ x ∈ row, x.tag = btag

namespace RowFits

variable {tagmode btag : Nat} {row : List Sample}

theorem tones (r : RowFits tagmode btag row) : ∀ t ∈ row.map Sample.tone, t < 1024 := by
  simpa using fun x m => (r.fit x m).1

theorem tones_length (r : RowFits tagmode btag row) : (row.map Sample.tone).length = 256 := by
  rw [List.length_map, r.full]

theorem takeTags_eq (r : RowFits tagmode btag row) (y : Nat) (above : List Nat) (bs : List Bool) :
    takeTags tagmode btag y above (putTags tagmode above (row.map Sample.tag) ++ bs) = .ok (row.map Sample.tag, bs) := by
  refine takeTags_putTags (by rw [List.length_map, r.full]) (by simpa using fun x m => (r.fit x m).2) (fun one => ?_) y above bs
  rw [List.eq_replicate_iff]
  exact ⟨by rw [List.length_map, r.full], by simpa using r.single one⟩

end RowFits

/-- The tags above a row, as the encoder and the decoder take them (R94). -/
def tagsAbove (btag y : Nat) (above : List Sample) : List Nat := if y = 0 then List.replicate 256 btag else above.map Sample.tag

theorem tagsAbove_eq (btag y : Nat) (above : List Sample) :
    (if y = 0 then List.replicate 256 btag else above.map Sample.tag) = tagsAbove btag y above := rfl

section Candidates

variable {tagmode btag y : Nat} {row above : List Sample}

theorem takeRow_repeat (later : 0 < y) (bs : List Bool) : takeRow tagmode btag y above ([false, false] ++ bs) = .ok (above, bs) :=
  if_neg (Nat.ne_of_gt later)

theorem takeRow_flat (r : RowFits tagmode btag row) {v : Nat} (ten : v < 1024) (flat : ∀ x ∈ row, x.tone = v) (bs : List Bool) :
    takeRow tagmode btag y above ([false, true] ++ putMsb 10 v ++ putTags tagmode (tagsAbove btag y above) (row.map Sample.tag) ++ bs)
      = .ok (row, bs) := by
  have kind : ∀ rest, takeMsb 2 0 ([false, true] ++ rest) = some (1, rest) := fun _ => rfl
  have tones : List.replicate 256 v = row.map Sample.tone := by
    rw [eq_comm, List.eq_replicate_iff]
    exact ⟨r.tones_length, by simpa using flat⟩
  simp only [takeRow, List.append_assoc, kind, takeMsb_putMsb (n := 10) ten, tagsAbove_eq, r.takeTags_eq, tones, zipSamples_map]

theorem takeRow_pred (r : RowFits tagmode btag row) {p k : Nat} (fits : p < 4) (range : k < 10) (bs : List Bool) :
    takeRow tagmode btag y above ([true, false] ++ putMsb 2 p ++ putMsb 4 k ++ putTags tagmode (tagsAbove btag y above) (row.map Sample.tag)
      ++ putPred p k none none (above.map Sample.tone) (row.map Sample.tone) ++ bs) = .ok (row, bs) := by
  have kind : ∀ rest, takeMsb 2 0 ([true, false] ++ rest) = some (2, rest) := fun _ => rfl
  have tones := takePred_putPred r.tones p k y 0 none none (above.map Sample.tone) bs
  rw [r.tones_length] at tones
  have four : k < 2 ^ 4 := by omega
  have known : ¬ 9 < k := by omega
  simp only [takeRow, List.append_assoc, kind, takeMsb_putMsb (n := 2) fits, takeMsb_putMsb four, if_neg known, tagsAbove_eq, r.takeTags_eq,
    tones, zipSamples_map]

theorem takeRow_raw (r : RowFits tagmode btag row) (bs : List Bool) :
    takeRow tagmode btag y above ([true, true] ++ putTags tagmode (tagsAbove btag y above) (row.map Sample.tag)
      ++ (row.map Sample.tone).flatMap (putMsb 10) ++ bs) = .ok (row, bs) := by
  have kind : ∀ rest, takeMsb 2 0 ([true, true] ++ rest) = some (3, rest) := fun _ => rfl
  have tones := takeTones_putMsb r.tones y 0 bs
  rw [r.tones_length] at tones
  simp only [takeRow, List.append_assoc, kind, tagsAbove_eq, r.takeTags_eq, tones, zipSamples_map]

/-- Whichever candidate a row takes, it is read as the row. -/
theorem takeRow_candidate (r : RowFits tagmode btag row) {c : List Bool} (candidate : c ∈ rowCandidates tagmode btag y above row)
    (bs : List Bool) : takeRow tagmode btag y above (c ++ bs) = .ok (row, bs) := by
  unfold rowCandidates at candidate
  simp only [tagsAbove_eq, List.mem_append, List.mem_flatMap, List.mem_map, List.mem_range, List.mem_singleton] at candidate
  obtain ((again | flat) | ⟨p, fits, k, range, rfl⟩) | rfl := candidate
  · split at again
    · next h =>
      obtain ⟨later, rfl⟩ := h
      rw [List.mem_singleton.mp again]
      exact takeRow_repeat later bs
    · exact absurd again List.not_mem_nil
  · split at flat
    · next all =>
      rw [List.mem_singleton.mp flat]
      have tones : ∀ x ∈ row, x.tone = (row.map Sample.tone).headD 0 := by simpa using all
      obtain ⟨x, m⟩ := List.exists_mem_of_length_pos (by rw [r.full]; decide)
      exact takeRow_flat r (tones x m ▸ (r.fit x m).1) tones bs
    · exact absurd flat List.not_mem_nil
  · exact takeRow_pred r fits range bs
  · exact takeRow_raw r bs

end Candidates

/-- The shortest of some strings is one of them. -/
theorem shortest_mem {l : List (List Bool)} (ne : l ≠ []) : shortest l ∈ l := by
  induction l with
  | nil => exact absurd rfl ne
  | cons a l ih =>
    cases l with
    | nil => exact List.mem_singleton_self a
    | cons b rest =>
      rw [shortest]
      split
      · exact List.mem_cons_of_mem a (ih (List.cons_ne_nil b rest))
      · exact List.mem_cons_self

/-- Rows are read as they were coded. -/
theorem takeRows_putRows {tagmode btag n : Nat} {xs : List Sample} (full : xs.length = 256 * n)
    (fit : ∀ x ∈ xs, x.tone < 1024 ∧ x.tag < 16) (single : tagmode = 0 → ∀ x ∈ xs, x.tag = btag) (y : Nat) (above : List Sample)
    (bs : List Bool) : takeRows tagmode btag n y above (putRows tagmode btag n y above xs ++ bs) = .ok (xs, bs) := by
  induction n generalizing xs y above with
  | zero => rw [List.eq_nil_of_length_eq_zero full]; rfl
  | succ n ih =>
    have row : RowFits tagmode btag (xs.take 256) :=
      ⟨by simp; omega, fun x m => fit x (List.mem_of_mem_take m), fun one x m => single one x (List.mem_of_mem_take m)⟩
    have coded := shortest_mem (l := rowCandidates tagmode btag y above (xs.take 256)) (List.append_ne_nil_of_right_ne_nil _ (List.cons_ne_nil _ _))
    have rest := ih (xs := xs.drop 256) (by simp; omega) (fun x m => fit x (List.mem_of_mem_drop m))
      (fun one x m => single one x (List.mem_of_mem_drop m)) (y + 1) (xs.take 256)
    rw [takeRows, putRows, List.append_assoc, takeRow_candidate row coded]
    dsimp only
    rw [rest]
    dsimp only
    rw [List.take_append_drop]

/-! ### Padding (R92) -/

/-- The byte that eight bits spell, most significant first. -/
def msbByte (f : Nat → Bool) : Byte := BitVec.ofNat 8 ((List.range 8).foldl (fun a i => 2 * a + b2n (f i)) 0)

theorem byteBitsMsb_msbByte (f : Nat → Bool) : byteBitsMsb (msbByte f) = (List.range 8).map f := by
  have eight : ∀ a b c d e f g h : Bool, byteBitsMsb (BitVec.ofNat 8 (2 * (2 * (2 * (2 * (2 * (2 * (2 * (2 * 0 + b2n a) + b2n b) + b2n c)
      + b2n d) + b2n e) + b2n f) + b2n g) + b2n h)) = [a, b, c, d, e, f, g, h] := by decide
  exact eight (f 0) (f 1) (f 2) (f 3) (f 4) (f 5) (f 6) (f 7)

/-- Eight bits from the front of a stream, zeros where it runs out. -/
theorem range_map_getD (bs : List Bool) :
    (List.range 8).map (fun i => bs.getD i false) = bs.take 8 ++ List.replicate (8 - bs.length) false := by
  refine List.ext_getElem? fun i => ?_
  by_cases lt : i < 8
  · by_cases inside : i < bs.length
    · rw [List.getElem?_append_left (by simp; omega)]
      simp [lt, inside]
    · rw [List.getElem?_append_right (by simp; omega)]
      simp [lt, inside, List.getElem?_replicate]
      omega
  · rw [List.getElem?_eq_none (by simp; omega), List.getElem?_eq_none (by simp; omega)]

theorem packMsb_succ {n : Nat} {bs : List Bool} (ne : bs ≠ []) :
    packMsb (n + 1) bs = msbByte (fun i => bs.getD i false) :: packMsb n (bs.drop 8) := if_neg (by simpa using ne)

/-- The packed bytes hold the bits, and after them fewer than eight zeros. -/
theorem packMsb_bits {n : Nat} {bs : List Bool} (enough : bs.length ≤ 8 * n) :
    ∃ pad < 8, (packMsb n bs).flatMap byteBitsMsb = bs ++ List.replicate pad false := by
  induction n generalizing bs with
  | zero => exact ⟨0, by decide, by simp_all [packMsb]⟩
  | succ n ih =>
    by_cases empty : bs = []
    · exact ⟨0, by decide, by simp [empty, packMsb]⟩
    · rw [packMsb_succ empty, List.flatMap_cons, byteBitsMsb_msbByte, range_map_getD]
      by_cases whole : 8 ≤ bs.length
      · obtain ⟨pad, lt, rest⟩ := ih (bs := bs.drop 8) (by simp; omega)
        refine ⟨pad, lt, ?_⟩
        rw [rest, Nat.sub_eq_zero_of_le whole, List.replicate_zero, List.append_nil, ← List.append_assoc, List.take_append_drop]
      · have last : packMsb n (bs.drop 8) = [] := by
          rw [List.drop_of_length_le (by omega)]; cases n <;> rfl
        have pos := List.length_pos_of_ne_nil empty
        exact ⟨8 - bs.length, by omega, by rw [last, List.take_of_length_le (by omega), List.flatMap_nil, List.append_nil]⟩

/-! ### The billet (R91, R97) -/

/-- A coded billet whose header is right and whose rows and padding are read as they should be decodes to its rows. -/
theorem decodeCoded_ok {btag tagmode pad : Nat} {body : List Byte} {stream : List Bool} {xs : List Sample} (tag : btag < 16)
    (mode : tagmode < 2) (short : pad < 8) (bits : body.flatMap byteBitsMsb = stream ++ List.replicate pad false)
    (rows : takeRows tagmode btag 64 0 [] (stream ++ List.replicate pad false) = .ok (xs, List.replicate pad false)) :
    decodeCoded (toLE 1 1 ++ toLE 1 (btag + 16 * tagmode) ++ toLE 2 0 ++ body ++ toLE 4 (checkValue xs)) = .ok xs := by
  set bytes := toLE 1 1 ++ toLE 1 (btag + 16 * tagmode) ++ toLE 2 0 ++ body ++ toLE 4 (checkValue xs) with made
  have head : bytes = toLE 1 1 ++ (toLE 1 (btag + 16 * tagmode) ++ (toLE 2 0 ++ (body ++ toLE 4 (checkValue xs)))) := by
    simp only [made, List.append_assoc]
  have version : fieldLE bytes 0 1 = 1 := by rw [head, fieldLE_toLE]; rfl
  have mode1 : fieldLE bytes 1 1 = btag + 16 * tagmode := by
    rw [head, fieldLE_skip _ _ _ (by decide), fieldLE_toLE]
    omega
  have zero : fieldLE bytes 2 2 = 0 := by
    rw [head, fieldLE_skip _ _ _ (by decide), fieldLE_skip _ _ _ (by decide), fieldLE_toLE]
    rfl
  have inner : (bytes.drop 4).take (bytes.length - 8) = body := by
    rw [made, List.append_assoc _ body, List.drop_left' (by simp), List.take_left' (by simp; omega)]
  rw [decodeCoded, version, mode1, zero, inner, bits]
  dsimp only
  rw [if_neg (by simp), if_neg (by omega), show (btag + 16 * tagmode) / 16 % 4 = tagmode by omega,
    show (btag + 16 * tagmode) % 16 = btag by omega, rows]
  dsimp only
  rw [if_neg (by simp; omega)]
  exact checkTrailer_checkValue _ xs

/-- BTAG and TAGMODE of a billet's header, as the encoder chooses them (R91, R101). -/
def billetTag (xs : List Sample) : Nat := (xs.headD ⟨0, 0⟩).tag
def billetMode (xs : List Sample) : Nat := if xs.all (fun x => x.tag = billetTag xs) then 0 else 1

/-- The coded rows of a billet (R92). -/
def billetStream (xs : List Sample) : List Bool := putRows (billetMode xs) (billetTag xs) 64 0 [] xs

theorem encodeCoded_eq (xs : List Sample) :
    encodeCoded xs = toLE 1 1 ++ toLE 1 (billetTag xs + 16 * billetMode xs) ++ toLE 2 0 ++ packMsb (billetStream xs).length (billetStream xs)
      ++ toLE 4 (checkValue xs) := rfl

theorem decodeBillet_coded (bytes : List Byte) : decodeBillet false bytes = decodeCoded bytes := if_neg Bool.false_ne_true

theorem billetTag_lt {xs : List Sample} (fit : ∀ x ∈ xs, x.tone < 1024 ∧ x.tag < 16) : billetTag xs < 16 := by
  cases xs with
  | nil => decide
  | cons x xs => exact (fit x List.mem_cons_self).2

theorem billetMode_lt (xs : List Sample) : billetMode xs < 2 := by
  unfold billetMode; split <;> decide

theorem single_of_billetMode (xs : List Sample) (one : billetMode xs = 0) : ∀ x ∈ xs, x.tag = billetTag xs := by
  unfold billetMode at one
  split at one
  · next all => simpa using all
  · exact absurd one (by decide)

/-- Settles O18: each row is read as it was coded, the padding is zero and shorter than a byte, and the trailer is the check value. -/
theorem codedBilletRoundTrip : Obligations.CodedBilletRoundTrip := by
  intro xs full fit
  obtain ⟨pad, short, bits⟩ := packMsb_bits (n := (billetStream xs).length) (bs := billetStream xs) (by omega)
  rw [decodeBillet_coded, encodeCoded_eq]
  exact decodeCoded_ok (billetTag_lt fit) (billetMode_lt xs) short bits (takeRows_putRows full fit (single_of_billetMode xs) 0 [] _)

end Sys2Proof.Machine
end

section
/-! Training records and alignment codewords (R88, R196, R197, R202): what the message of each gives back. -/

namespace Sys2Proof.Machine

/-! ### Training records -/

/-- The fields of a TS record, each with its width in bytes, in the order of R202; the sixteenth byte is reserved. -/
def TsRec.body (t : TsRec) : List Byte :=
  toLE 1 t.tsType ++ (toLE 1 t.laneId ++ (toLE 1 t.station ++ (toLE 1 t.verMin ++ (toLE 1 t.verMax ++ (toLE 1 t.verAgreed
    ++ (toLE 1 t.reason ++ (toLE 1 t.caps ++ (toLE 2 t.crTable ++ (toLE 2 t.crMgmt ++ (toLE 2 t.lineBufs ++ (toLE 1 t.tablesValid
    ++ (toLE 1 0 ++ (toLE 2 t.vendor ++ (toLE 2 t.model ++ (toLE 8 t.serial ++ toLE 4 t.fw)))))))))))))))

theorem TsRec.bytes_eq (t : TsRec) : t.bytes = t.body ++ toLE 4 (crc32c t.body) := by
  simp only [TsRec.bytes, TsRec.body, List.append_assoc]

@[simp] theorem TsRec.length_body (t : TsRec) : t.body.length = 32 := by simp [TsRec.body]

@[simp] theorem TsRec.length_bytes (t : TsRec) : t.bytes.length = 36 := by simp [TsRec.bytes_eq]

/-- The CRC of a record is right. -/
theorem TsRec.crc_bytes (t : TsRec) : fieldLE t.bytes 32 4 = crc32c (t.bytes.take 32) := by
  have fits : crc32c t.body < 256 ^ 4 := crc32c_lt _
  have crc := fieldLE_toLE 4 (crc32c t.body) []
  rw [List.append_nil, Nat.mod_eq_of_lt fits] at crc
  rw [t.bytes_eq, List.take_left' t.length_body, fieldLE_append_right _ _ _ (by simp), t.length_body, crc]

/-- The bytes of a record give its fields back. -/
theorem tsOfBytes_bytes {t : TsRec} (fits : t.fits = true) : tsOfBytes t.bytes = t := by
  simp only [TsRec.fits, decide_eq_true_eq, Nat.reducePow] at fits
  simp (disch := decide) only [tsOfBytes, t.bytes_eq, TsRec.body, List.append_assoc, fieldLE_skip, Nat.reduceSub, fieldLE_toLE]
  obtain ⟨f1, f2, f3, f4, f5, f6, f7, f8, f9, f10, f11, f12, f13, f14, f15, f16⟩ := fits
  simp only [Nat.mod_eq_of_lt, Nat.reducePow, *]

/-- The bits of a training codeword (R197): KIND 2, and from bit 20 on the 17 copies. -/
theorem TsRec.message_toNat (t : TsRec) : t.message.toNat = 2 + 2 ^ 20 * ofLE (List.replicate 17 t.bytes).flatten := by
  have copies := ofLE_lt (List.replicate 17 t.bytes).flatten
  have bytes : (List.replicate 17 t.bytes).flatten.length = 612 := by simp
  rw [bytes] at copies
  rw [TsRec.message, BitVec.toNat_ofNat, Nat.mod_eq_of_lt]
  omega

/-- The first copy in a training codeword is the record. -/
theorem TsRec.copy_message (t : TsRec) : t.message.copy 0 = t.bytes := by
  have lt := ofLE_lt t.bytes
  have first : ofLE (List.replicate 17 t.bytes).flatten % 2 ^ 288 = ofLE t.bytes := by
    rw [List.replicate_succ, List.flatten_cons, ofLE_append]
    rw [t.length_bytes] at *
    omega
  have bits : t.message.bits (20 + 288 * 0) 288 = ofLE t.bytes := by
    rw [Message.bits, t.message_toNat, ← first]
    omega
  rw [Message.copy, bits, ← t.length_bytes, toLE_ofLE]

/-- A training codeword gives back the record it holds. -/
theorem TsRec.ts_message {t : TsRec} (fits : t.fits = true) : t.message.ts = some t := by
  have kind : t.message.bits 0 2 = 2 := by rw [Message.bits, t.message_toNat]; omega
  rw [Message.ts, if_neg (not_not.mpr kind), List.range_succ_eq_map, List.map_cons, t.copy_message,
    List.find?_cons_of_pos (by simpa using t.crc_bytes), Option.map_some, tsOfBytes_bytes fits]

/-! ### Alignment codewords -/

/-- The bits of an alignment codeword (R196). -/
theorem AlignRec.message_toNat {a : AlignRec} (lane : a.laneId < 256) (station : a.station < 256) (seq : a.seq < 2 ^ 32)
    (rxOk : a.rxOk < 8) (retrain : a.retrain < 8) :
    a.message.toNat = alignMark + 2 ^ 64 * a.laneId + 2 ^ 72 * a.station + 2 ^ 80 * a.seq + 2 ^ 112 * a.rxOk + 2 ^ 115 * a.retrain := by
  rw [AlignRec.message, BitVec.toNat_ofNat, alignMark]
  omega

/-- An alignment codeword gives back its fields. -/
theorem AlignRec.align_message {a : AlignRec} (lane : a.laneId < 256) (station : a.station < 256) (seq : a.seq < 2 ^ 32)
    (rxOk : a.rxOk < 8) (retrain : a.retrain < 8) : a.message.align = some a := by
  have bits := AlignRec.message_toNat lane station seq rxOk retrain
  rw [alignMark] at bits
  have mark : a.message.bits 0 64 = alignMark := by rw [Message.bits, bits, alignMark]; omega
  have b1 : a.message.bits 64 8 = a.laneId := by rw [Message.bits, bits]; omega
  have b2 : a.message.bits 72 8 = a.station := by rw [Message.bits, bits]; omega
  have b3 : a.message.bits 80 32 = a.seq := by rw [Message.bits, bits]; omega
  have b4 : a.message.bits 112 3 = a.rxOk := by rw [Message.bits, bits]; omega
  have b5 : a.message.bits 115 3 = a.retrain := by rw [Message.bits, bits]; omega
  rw [Message.align, if_pos mark, b1, b2, b3, b4, b5]

/-- Settles O21: the first copy of a record stands whole in its codeword under a right CRC, and the fields of an alignment codeword are apart. -/
theorem linkRecordsRoundTrip : Obligations.LinkRecordsRoundTrip :=
  ⟨fun _ fits => TsRec.ts_message fits, fun _ lane station seq rxOk retrain => AlignRec.align_message lane station seq rxOk retrain⟩

end Sys2Proof.Machine
end

section
/-! Decoders and encoders of billets (R98, R99, R103, R104, R106, R107, R112, R114, R469): what each command answers. -/

namespace Sys2Proof.Machine

/-! ### Filling the line store -/

/-- The Millrace of a station reads as changed. -/
@[simp] theorem mill_modMill (h : Hw) (s : Nat) (f : Mill → Mill) : (h.modMill s f).mill s = f (h.mill s) := by
  simp [Hw.mill, Hw.modMill, Hw.modStn, Hw.stn]

@[simp] theorem mill_wr (h : Hw) (p : Nat) (f : Field) (v s : Nat) : (h.wr p f v).mill s = h.mill s := by
  simp [Hw.mill, Hw.stn]

/-- The decoders' beginning of a band leaves the page in the Millrace. -/
@[simp] theorem mill_startBand_cur (h : Hw) (s band cols : Nat) : ((h.startBand s band cols).mill s).cur = (h.mill s).cur := by
  simp [Hw.startBand, Hw.showDec]

/-- Writing another register of the station's pages leaves PREFILL. -/
theorem prefill_wr {h : Hw} {s n : Nat} {f : Field} {v : Nat} (ne : PIPE.PIPE_STS_PREFILL.off ≠ f.off := by decide)
    (page : f.off < 4096 := by decide) (hf : f.hi < 32 := by decide) (hl : f.lo ≤ f.hi := by decide) :
    (h.wr (pST s n) f v).is (pPIPE s) PIPE.PIPE_STS_PREFILL = h.is (pPIPE s) PIPE.PIPE_STS_PREFILL :=
  is_wr_other h _ f v _ _ (.inl (addrOf_pST_ne s 0 s n ne (by decide) page)) hf hl

/-- The decoders' beginning of a band leaves PREFILL. -/
theorem startBand_prefill (h : Hw) (s band cols : Nat) :
    (h.startBand s band cols).is (pPIPE s) PIPE.PIPE_STS_PREFILL = h.is (pPIPE s) PIPE.PIPE_STS_PREFILL :=
  (prefill_wr (f := DECODE.DEC_STS_RETRY) (n := 1)).trans (prefill_wr (f := DECODE.DEC_STS_BUSY) (n := 1))

/-- The pipe's status as a prefill starts (R114, R134). -/
def Hw.showPrefill (h : Hw) (p : Nat) : Hw :=
  (((((h.wr p PIPE.PIPE_STS_PREFILL 1).wr p PIPE.PIPE_STS_RENDER 0).wr p PIPE.PIPE_STS_IDLE 0).wr p PIPE.CUR_LINE_VALID 0).wr p
    PIPE.SLACK_MIN 0xFFFF).wr p PIPE.REQ_LEVEL 0

/-- The pipe shows PREFILL: RENDER and IDLE are other bits of its word, and the rest are other words. -/
theorem showPrefill_prefill (h : Hw) (s : Nat) : (h.showPrefill (pPIPE s)).is (pPIPE s) PIPE.PIPE_STS_PREFILL = true :=
  calc (h.showPrefill (pPIPE s)).is (pPIPE s) PIPE.PIPE_STS_PREFILL
    _ = (((h.wr (pPIPE s) PIPE.PIPE_STS_PREFILL 1).wr (pPIPE s) PIPE.PIPE_STS_RENDER 0).wr (pPIPE s) PIPE.PIPE_STS_IDLE 0).is (pPIPE s)
          PIPE.PIPE_STS_PREFILL :=
        (prefill_wr (f := PIPE.REQ_LEVEL)).trans ((prefill_wr (f := PIPE.SLACK_MIN)).trans (prefill_wr (f := PIPE.CUR_LINE_VALID)))
    _ = (h.wr (pPIPE s) PIPE.PIPE_STS_PREFILL 1).is (pPIPE s) PIPE.PIPE_STS_PREFILL :=
        (is_wr_other _ _ PIPE.PIPE_STS_IDLE _ _ _ (.inr (by decide))).trans (is_wr_other _ _ PIPE.PIPE_STS_RENDER _ _ _ (.inr (by decide)))
    _ = true := decide_eq_true (rd_wr_same _ _ _ _)

/-- A fill starts where its slot is free and the decoders run. -/
theorem bandFillStart_starts {h : Hw} {stn : StationNo} {g : PageRec} (page : h.millPage stn = some g) (free : (h.mill stn).filling = none)
    (more : (h.mill stn).complete < g.bands) (two : 2 ≤ (h.mill stn).complete)
    (slot : (h.mill stn).complete < (h.mill stn).released + 2) (runs : h.runs (pDECODE stn) = true) :
    bandFillStart stn h = h.startBand stn (h.mill stn).complete g.cols := by
  unfold bandFillStart
  rw [page]
  dsimp only
  rw [if_neg (by simp [free, runs]; omega)]

/-- A prefill that may start marks its page, puts it into the Millrace, shows PREFILL and begins band 0. -/
theorem prefillStart_starts {h : Hw} {stn : StationNo} {g : PageRec} (free : (h.mill stn).cur = none) (next : h.nextPrefill stn = some g)
    (decodes : h.runs (pDECODE stn) = true) (runs : h.runs (pPIPE stn) = true) :
    prefillStart stn h = ((((h.modPage g.desc fun g => g.modOn stn fun o => { o with prefill := true }).modMill stn fun m =>
      { Mill.reset with cur := some g.desc, doneAt := m.doneAt }).showPrefill (pPIPE stn)).startBand stn 0 g.cols) := by
  unfold prefillStart
  rw [free, next]
  exact if_neg (by simp [decodes, runs])

/-! ### Encoder jobs -/

theorem encJobSubmit_queued {h : Hw} {m : Master} {idx : BitVec 21} (t : h.takes m (addrOf CODEC_ENC.JOB_SUBMIT pCODEC 0) = true)
    (room : h.codec.queue.length < 64) : encJobSubmit m idx h =
      ({ h with codec := { h.codec with queue := h.codec.queue ++ [(idx.toNat, m)] } }.showJobs).fabricUse
        (pageBase (addrOf CODEC_ENC.JOB_SUBMIT pCODEC 0)) :=
  (writeTo_takes t _).trans (congrArg (Hw.fabricUse · _) (if_pos room))

/-- A free encoder that is enabled, sound and running takes the first job of the queue, and checks it. -/
theorem encJobStart_takes {h : Hw} {e : Fin 4} {idx : Nat} {m : Master} {rest : List (Nat × Master)}
    (queued : h.codec.queue = (idx, m) :: rest) (free : h.encoder e = none) (enabled : h.bit pCODEC CODEC_ENC.ENC_CTRL_ENC_EN e = true)
    (sound : h.bit pCODEC CODEC_ENC.ENC_STS_FAULTED e = false) (runs : h.runs pCODEC = true) : encJobStart e h =
      (let u := { h with codec := { h.codec with queue := rest } }.showJobs
      let j : EncJob :=
        { idx := idx, master := m, desc := u.jobBytes idx, row := 0, col := 0, next := 0, billets := 0, noshrink := 0, stop := false }
      let k := { j with next := j.dst }
      let err := u.jobCheck k
      if err = 0 then u.setEncoder e (some k) else u.jobEnd k e err) := by
  unfold encJobStart
  rw [queued]
  exact if_neg (by simp [free, enabled, sound, runs])

/-- A billet whose samples the Millpond gives is coded and written. -/
theorem encBilletDone_writes {h : Hw} {e : Fin 4} {j : EncJob} (works : h.encoder e = some j) (reads : h.jobReads j = true) :
    encBilletDone e true h = h.encWrite e j (j.body (h.jobSamples j)) (encodeBillet (h.jobSamples j)).isNone := by
  unfold encBilletDone
  rw [works]
  exact if_pos (by simp [reads])

theorem encLeaseExpiry_ends {h : Hw} {e : Fin 4} {j : EncJob} (works : h.encoder e = some j) :
    encLeaseExpiry e h = (h.inc pFANTAIL FANTAIL.LEASE_EXP).encoderEnd e j 9 := by
  unfold encLeaseExpiry
  rw [works]

/-- Settles O33: each command's effect where its condition holds. That the capture of an encoder's fault names the encoder's number is the
model's choice (log entry 109). -/
theorem codecCommandsComplete : Obligations.CodecCommandsComplete := by
  refine ⟨fun s stn d x => ?billetDecodeDone, fun s stn d x => ?billetRefetchDone, fun s stn g page free more two slot runs => ?bandFillStart,
    fun s stn g free next decodes runs => ?prefillStart, fun s m idx t room => ?encJobSubmit,
    fun s e idx m rest queued free enabled sound runs => ?encJobStart, fun s e readOk j works ok reads => ?encBilletDone,
    fun s e => ?encFault, fun s e j works => ?encLeaseExpiry⟩
  case billetDecodeDone => exact finish_eq s _
  case billetRefetchDone => exact finish_eq s _
  case bandFillStart => exact congrArg (finish s) (bandFillStart_starts page free more two slot runs)
  case prefillStart =>
    refine ⟨_, congrArg (finish s) (prefillStart_starts free next decodes runs), ?_, ?_⟩
    · simp [Hw.showPrefill]
    · rw [startBand_prefill, showPrefill_prefill]
  case encJobSubmit => exact congrArg (finish s) (encJobSubmit_queued t room)
  case encJobStart => exact congrArg (finish s) (encJobStart_takes queued free enabled sound runs)
  case encBilletDone => subst ok; exact congrArg (finish s) (encBilletDone_writes works reads)
  case encFault => exact finish_eq s _
  case encLeaseExpiry => exact congrArg (finish s) (encLeaseExpiry_ends works)

end Sys2Proof.Machine
end

section
/-! Lines and rendering banks (R110, R113, R130, R131): what each command answers. -/

namespace Sys2Proof.Machine

/-! ### The end of a line -/

/-- A line of a prefilled page whose bands are complete is read: an uncorrectable error met there ends it and spoils the page, and with none
it is late or done by its deadline. -/
theorem lineFinish_reads {h : Hw} {s : StationNo} {r : LineReq} {rest : List LineReq} {g : PageRec} (t : Stamp) (reads : List Stamp)
    (corrected : Nat) (mem : LineMem) (asked : (h.mill s).reqs = r :: rest) (page : h.millPage s = some g)
    (prefilled : (g.on s).prefilled = true) (bands : (h.lineRows s g r).2 / 64 < (h.mill s).complete) :
    lineFinish s t reads corrected mem h =
      (let u := (h.pipeInject s).incBy (pPIPE s) PIPE.ECC_CORR 0 corrected
      (lineMemAt s g mem).elim (if r.deadline.toNat < t.toNat then u.lineIsLate s else u.lineDone s g r (h.lineRows s g r) reads t)
        fun a => (u.raise (pPIPE s) 1 (pipeCap s a)).spoilOne g.desc 0x11) := by
  have noWait : ¬((!(g.on s).prefilled) = true ∨ (h.mill s).complete ≤ (h.lineRows s g r).2 / 64) := by simp [prefilled, bands]
  unfold lineFinish
  rw [asked, page]
  refine (if_neg noWait).trans ?_
  cases lineMemAt s g mem with
  | none => rfl
  | some a => rfl

/-! ### Bank switches -/

theorem wbankSwitch_validates {h : Hw} {m : Master} {s : StationNo} (t : h.takes m (addrOf WARP.WBANK_SWITCH (pWARP s) 0) = true)
    (idle : (h.stn s).warpSw = .idle) :
    wbankSwitch m s h = (h.warpEnter s .validating).fabricUse (pageBase (addrOf WARP.WBANK_SWITCH (pWARP s) 0)) :=
  (writeTo_takes t _).trans (congrArg (Hw.fabricUse · _) (if_pos idle))

theorem sbankSwitch_validates {h : Hw} {m : Master} {s : StationNo} (t : h.takes m (addrOf SCREEN.SBANK_SWITCH (pSCREEN s) 0) = true)
    (idle : (h.stn s).screenSw = .idle) :
    sbankSwitch m s h = (h.screenEnter s .validating).fabricUse (pageBase (addrOf SCREEN.SBANK_SWITCH (pSCREEN s) 0)) :=
  (writeTo_takes t _).trans (congrArg (Hw.fabricUse · _) (if_pos idle))

/-- The end of a rendering validation arms the bank, or rejects it with the first failing check. -/
theorem bankValidateDone_screen {h : Hw} {s : StationNo} (uncorr : Option (BitVec 20)) (validating : (h.stn s).screenSw = .validating) :
    bankValidateDone s true uncorr h =
      (let x := h.readTable (some s) (screenBase s (1 - h.rd (pSCREEN s) SCREEN.SBANK_ACTIVE)) (uncorr.map BitVec.toNat)
      match validateRendering x.1 with
      | none => x.2.screenEnter s .armed
      | some (c, n, o) => ((((x.2.screenEnter s .idle).wr (pSCREEN s) SCREEN.SREJECT_CHECK c).wr (pSCREEN s) SCREEN.SREJECT_SET n).wr
          (pSCREEN s) SCREEN.SREJECT_INDEX o).raise (pSCREEN s) 0 (cap0 0)) :=
  (if_pos rfl).trans (if_neg (not_not.mpr validating))

/-- The end of a warp validation arms the bank, or rejects it with the first failing check. -/
theorem bankValidateDone_warp {h : Hw} {s : StationNo} (uncorr : Option (BitVec 20)) (validating : (h.stn s).warpSw = .validating) :
    bankValidateDone s false uncorr h =
      (let x := h.readTable (some s) (warpBase s (1 - h.rd (pWARP s) WARP.WBANK_ACTIVE)) (uncorr.map fun b => b.toNat % 0x8000)
      match validateWarp x.1 with
      | none => x.2.warpEnter s .armed
      | some (c, o) => (((x.2.warpEnter s .idle).wr (pWARP s) WARP.WREJECT_CHECK c).wr (pWARP s) WARP.WREJECT_INDEX o).raise
          (pWARP s) 0 (cap0 0)) :=
  (if_neg Bool.false_ne_true).trans (if_neg (not_not.mpr validating))

/-- Settles O34: each command's effect where its condition holds. What FE_ADDR names for an error of the line store, and that an error of a
table spoils the page, are the model's choice (log entry 107). -/
theorem renderingCommandsComplete : Obligations.RenderingCommandsComplete := by
  refine ⟨fun s stn t reads corrected mem r rest g asked page prefilled bands clean inTime => ?lineInTime,
    fun s stn t reads corrected mem r rest g asked page prefilled bands clean late => ?lineOverdue,
    fun s stn t reads corrected mem r rest g a asked page prefilled bands bad => ?lineLost, fun s stn => ?lineLate,
    fun s m stn t idle => ?wbankSwitch, fun s m stn t => ?wbankCancel, fun s m stn t idle => ?sbankSwitch, fun s m stn t => ?sbankCancel,
    fun s stn uncorr validating => ?screenValidated, fun s stn uncorr validating => ?warpValidated⟩
  case lineInTime =>
    refine congrArg (finish s) ((lineFinish_reads t reads _ mem asked page prefilled bands).trans ?_)
    rw [clean]
    exact if_neg (Nat.not_lt.mpr inTime)
  case lineOverdue =>
    refine congrArg (finish s) ((lineFinish_reads t reads _ mem asked page prefilled bands).trans ?_)
    rw [clean]
    exact if_pos late
  case lineLost =>
    refine congrArg (finish s) ((lineFinish_reads t reads _ mem asked page prefilled bands).trans ?_)
    rw [bad]
    rfl
  case lineLate => exact finish_eq s _
  case wbankSwitch => exact congrArg (finish s) (wbankSwitch_validates t idle)
  case wbankCancel => exact congrArg (finish s) (writeTo_takes t _)
  case sbankSwitch => exact congrArg (finish s) (sbankSwitch_validates t idle)
  case sbankCancel => exact congrArg (finish s) (writeTo_takes t _)
  case screenValidated => exact congrArg (finish s) (bankValidateDone_screen uncorr validating)
  case warpValidated => exact congrArg (finish s) (bankValidateDone_warp uncorr validating)

end Sys2Proof.Machine
end

section
/-! Emitter banks, the ceiling and beam health (R151, R183–R191, R216, R469): what each command answers. -/

namespace Sys2Proof.Machine

/-! ### What the emitter's commands read after they have written -/

@[simp] theorem stn_wr (h : Hw) (p : Nat) (f : Field) (v s : Nat) : (h.wr p f v).stn s = h.stn s := by simp [Hw.stn]

/-- Writing a register of a station's EMIT page leaves the page's registers in other words. -/
theorem rd_wr_emit {h : Hw} {s : Nat} {f g : Field} {v : Nat} (ne : g.off ≠ f.off := by decide) (page : f.off < 4096 := by decide)
    (page' : g.off < 4096 := by decide) (hf : f.hi < 32 := by decide) (hl : f.lo ≤ f.hi := by decide) (hg : g.hi < 32 := by decide) :
    (h.wr (pEMIT s) f v).rd (pEMIT s) g = h.rd (pEMIT s) g :=
  rdi_wri_other h _ f 0 v _ g 0 hf hl hg (.inl (addrOf_pST_ne s 4 s 4 ne page' page))

theorem emTarget_wr_headCrc (h : Hw) (s v : Nat) : (h.wr (pEMIT s) EMIT.HEAD_CRC v).emTarget s = h.emTarget s :=
  congrArg (1 - ·) rd_wr_emit

/-! ### Banks -/

theorem ebankSwitch_validates {h : Hw} {m : Master} {s : StationNo} (t : h.takes m (addrOf EMIT.EBANK_SWITCH (pEMIT s) 0) = true)
    (idle : (h.stn s).emit.sw = .idle) :
    ebankSwitch m s h = (h.emEnter s .validating).fabricUse (pageBase (addrOf EMIT.EBANK_SWITCH (pEMIT s) 0)) :=
  (writeTo_takes t _).trans (congrArg (Hw.fabricUse · _) (if_pos idle))

/-- A CHECK_REPLY that matches while the switch downloads that bank arms it. -/
theorem checkReply_arms {h : Hw} {s : StationNo} {b : Fin 2} {crc : Word} (up : h.linkUp (.head s) = true)
    (downloading : (h.stn s).emit.sw = .downloading) (target : b.val = h.emTarget s)
    (agrees : crc.toNat = tget (fun _ => 0) (h.stn s).emit.expect b) :
    checkReply s b crc h = ((h.wr (pEMIT s) EMIT.HEAD_CRC crc.toNat).modEmit s fun e =>
      { e with headHolds := putBit e.headHolds b true, failed := putBit e.failed b false, redownload := e.redownload.erase b.val }).emArm
      s := by
  unfold checkReply
  simp only [up, stn_wr, emTarget_wr_headCrc, downloading, ← target, ← agrees, Bool.not_true, Bool.false_eq_true, if_false, and_self,
    decide_true, false_and, if_true]

/-! ### The ceiling -/

/-- A gated write inside an open presence window has its effect after the attempt is noted. -/
theorem gatedWrite_opened {h : Hw} (opened : h.windowOpen = true) (m : Master) (a : Nat) (effect : Hw → Hw) :
    h.gatedWrite m a effect = effect (h.gated m.toNat 1 a true) := by
  simp [Hw.gatedWrite, opened]

theorem ceilUwWrite_opened {h : Hw} {m : Master} {s : StationNo} (v : BitVec 16) (t : h.takes m (addrOf EMIT.CEIL_UW (pEMIT s) 0) = true)
    (opened : h.windowOpen = true) : ceilUwWrite m s v h =
      (((h.gated m.toNat 1 (addrOf EMIT.CEIL_UW (pEMIT s) 0) true).setCeil s v.toNat).storeCeiling
        (addrOf EMIT.CEIL_UW (pEMIT s) 0)).fabricUse (pageBase (addrOf EMIT.CEIL_UW (pEMIT s) 0)) := by
  unfold ceilUwWrite
  rw [writeTo_takes t, gatedWrite_opened opened]

/-! ### Beam health -/

/-- What the head reports is taken while its link is up. -/
theorem if_linkUp {h : Hw} {l : LinkId} (up : h.linkUp l = true) (x y : Hw) : (if !h.linkUp l then x else y) = y :=
  if_neg (by simp [up])

theorem deadClrApply_tests {h : Hw} {s : StationNo} (asked : (h.stn s).emit.deadClr = true) (gap : h.exposingOn s = false) :
    deadClrApply s h = (h.modEmit s fun e => { e with deadClr := false, testing := true }).relSend (.head s) (plainFrame 4 0x42 0 []) :=
  if_neg (by simp [asked, gap])

theorem deadResult_taken {h : Hw} {s : StationNo} (mask : BitVec 48) (up : h.linkUp (.head s) = true)
    (testing : (h.stn s).emit.testing = true) : deadResult s mask h =
      (let u := h.modEmit s fun e => { e with testing := false }
      if u.exposingOn s then u.modEmit s fun e => { e with revive := mask.toNat } else u.revive s mask.toNat) :=
  if_neg (by simp [up, testing])

/-- A measurement within the ceiling is kept, and otherwise only shown in registers. -/
theorem calMeas_within {h : Hw} {s : StationNo} (b : Fin 48) (step : Fin 16) {meas : BitVec 16} (up : h.linkUp (.head s) = true)
    (within : meas.toNat ≤ h.rd (pEMIT s) EMIT.CEIL_UW) : ∃ want seen, Says (h.modEmit s fun e =>
      { e with cal := tset (fun _ => (0, 0)) e.cal b (meas.toNat, want), calSeen := seen }) (calMeas s b step meas h) := by
  unfold calMeas
  rw [if_linkUp up]
  extract_lets p r want seen all kept swept weak judged shown
  have ceiling : shown.rd p EMIT.CEIL_UW = h.rd p EMIT.CEIL_UW := by
    have ofSwept : swept.rd p EMIT.CEIL_UW = h.rd p EMIT.CEIL_UW :=
      (apply_ite (Hw.rd · p EMIT.CEIL_UW) _ _ _).trans (by rw [rd_wr_emit (f := EMIT.CAL_SWEEPS), ite_self]; rfl)
    have ofJudged : judged.rd p EMIT.CEIL_UW = swept.rd p EMIT.CEIL_UW :=
      (apply_ite (Hw.rd · p EMIT.CEIL_UW) _ _ _).trans
        (by rw [Hw.setBit, Hw.setBit, rd_wr_emit (f := EMIT.DEGR_LO), rd_wr_emit (f := EMIT.DEGR_HI), ite_self])
    exact (rd_wr_emit (f := EMIT.CAL_DATA_P_EXP)).trans ((rd_wr_emit (f := EMIT.CAL_DATA_P_MEAS)).trans (ofJudged.trans ofSwept))
  have counted : Says kept swept := .ite ((Says.refl kept).wr _ _ _) (.refl kept)
  have degraded : Says kept judged := .ite (counted.setBit _ _ _ _) (counted.setBit _ _ _ _)
  have registers : Says kept shown := (degraded.wr _ _ _).wr _ _ _
  rw [if_neg (by rw [ceiling]; exact Nat.not_lt.mpr within)]
  exact ⟨want, _, registers⟩

/-- Settles O36: each command's effect where its condition holds. That EXPOSURE_LOST answers with no raise of BEAM_HEALTH is the model's
choice (log entry 58). -/
theorem emitterCommandsComplete : Obligations.EmitterCommandsComplete := by
  refine ⟨fun s m stn t idle => ?ebankSwitch, fun s m stn t => ?ebankCancel, fun s stn validating => ?emitValidateDone,
    fun s stn b crc up _ downloading target agrees => ?checkReply, fun s stn downloading => ?emitDownloadTimeout,
    fun s m stn v t opened => ?ceilUwWrite, fun s m stn t => ?deadClr, fun s stn asked gap => ?deadClrApply, fun s m stn v t => ?calEnWrite,
    fun s stn b up => ?beamDead, fun s stn d up => ?exposureLost, fun s stn b step meas up within => ?calMeas,
    fun s stn mask up testing => ?deadResult, fun s m stn t => ?measOverClear⟩
  case ebankSwitch => exact congrArg (finish s) (ebankSwitch_validates t idle)
  case ebankCancel => exact congrArg (finish s) (writeTo_takes t _)
  case emitValidateDone => exact congrArg (finish s) (if_neg (not_not.mpr validating))
  case checkReply => exact congrArg (finish s) (checkReply_arms up downloading target agrees)
  case emitDownloadTimeout => exact finish_if_pos downloading _ _ _
  case ceilUwWrite => exact congrArg (finish s) (ceilUwWrite_opened v t opened)
  case deadClr => exact congrArg (finish s) (writeTo_takes t _)
  case deadClrApply => exact congrArg (finish s) (deadClrApply_tests asked gap)
  case calEnWrite => exact congrArg (finish s) (writeTo_takes t _)
  case beamDead => exact congrArg (finish s) (if_linkUp up _ _)
  case exposureLost => exact congrArg (finish s) (if_linkUp up _ _)
  case calMeas =>
    obtain ⟨want, seen, _, _, _, _, _, _, _, e⟩ := calMeas_within b step up within
    refine ⟨_, rfl, ?_, ?_⟩
    · rw [e]
      simp [Hw.stn, Hw.modEmit, Hw.modStn]
    · rw [e]
      rfl
  case deadResult => exact congrArg (finish s) (deadResult_taken mask up testing)
  case measOverClear => exact congrArg (finish s) (writeTo_takes t _)

end Sys2Proof.Machine
end

section
/-! Beam-detect edges, plans and the scan clock (R138, R143, R155, R162–R165, R168–R170, R175, R194): what each command answers. -/

namespace Sys2Proof.Machine

/-! ### What keeps the facets of every station -/

/-- The hardware g has the facets of h on every station. -/
def KeepsFacets (h g : Hw) : Prop := ∀ s, (g.stn s).facets = (h.stn s).facets

theorem stn_modStn_same (h : Hw) (s : Nat) (f : Station → Station) : (h.modStn s f).stn s = f (h.stn s) := by simp [Hw.stn, Hw.modStn]

theorem stn_modStn_other (h : Hw) {s k : Nat} (f : Station → Station) (ne : k ≠ s) : (h.modStn s f).stn k = h.stn k :=
  tget_tset_other _ _ _ ne

namespace KeepsFacets

variable {h g k : Hw}

theorem of_stations (e : g.stations = h.stations) : KeepsFacets h g := fun s => by rw [Hw.stn, e, ← Hw.stn]

theorem refl (h : Hw) : KeepsFacets h h := fun _ => rfl

theorem trans (e : KeepsFacets h g) (e' : KeepsFacets g k) : KeepsFacets h k := fun s => (e' s).trans (e s)

/-- A change of a station that leaves its facets. -/
theorem modStn (h : Hw) (s : Nat) {f : Station → Station} (same : ∀ t, (f t).facets = t.facets) : KeepsFacets h (h.modStn s f) := by
  intro k
  by_cases e : k = s
  · rw [e, stn_modStn_same, same]
  · rw [stn_modStn_other h f e]

theorem of_says (e : Says h g) : KeepsFacets h g := by
  obtain ⟨_, _, _, _, _, _, _, rfl⟩ := e
  exact of_stations rfl

theorem ite {c : Prop} [Decidable c] {a b : Hw} (x : KeepsFacets h a) (y : KeepsFacets h b) : KeepsFacets h (if c then a else b) := by
  split
  · exact x
  · exact y

theorem foldl {α : Type} (f : Hw → α → Hw) (l : List α) (each : ∀ h x, KeepsFacets h (f h x)) : KeepsFacets h (l.foldl f h) :=
  List.foldlRecOn (motive := KeepsFacets h) _ _ (refl h) fun g e x _ => e.trans (each g x)

theorem forN (n : Nat) (f : Nat → Hw → Hw) (each : ∀ i h, KeepsFacets h (f i h)) : KeepsFacets h (forN n f h) :=
  forN_keeps (KeepsFacets h) _ _ _ (refl h) fun i g e => e.trans (each i g)

end KeepsFacets

theorem says_showQuery (h : Hw) : Says h h.showQuery := by
  unfold Hw.showQuery
  extract_lets p
  split
  · exact (Says.refl h).setWord _ _
  · exact (((((Says.refl h).wr _ _ _).wr _ _ _).wr _ _ _).wr _ _ _).wr _ _ _

theorem says_showPages (h : Hw) : Says h h.showPages :=
  ((((Says.refl h).wr _ _ _).wr2 _ _ _ _ _).wr _ _ _).trans (says_showQuery _)

theorem putBytes_stations (h : Hw) (a : Nat) (bs : List Byte) : (h.putBytes a bs).stations = h.stations := by
  induction bs generalizing h a with
  | nil => rfl
  | cons b bs ih => exact (ih _ _).trans (putByte_stations h a b)

theorem keepsFacets_noteReason (h : Hw) (c : Completion) : KeepsFacets h (h.noteReason c) :=
  .ite (.refl h) (.trans (g := h.modPage c.desc fun g => { g with reason := c.reason }) (.of_stations rfl) (.of_says (says_showQuery _)))

theorem keepsFacets_complete (h : Hw) (ctx : Nat) (c : Completion) : KeepsFacets h (h.complete ctx c) := by
  unfold Hw.complete
  extract_lets p seq noted r counted size head a
  have e : KeepsFacets h counted := (keepsFacets_noteReason h c).trans (.of_stations rfl)
  have lost : KeepsFacets h (counted.inci p HEADRACE.RING_LOST ctx) := e.trans (.of_stations (inci_stations _ _ _ _))
  exact .ite lost (.ite lost (.ite (lost.trans (.of_says (says_raise _ _ _ _)))
    (e.trans (.of_stations ((wri_stations _ _ _ _ _).trans (putBytes_stations _ _ _))))))

theorem keepsFacets_pageRecord (h : Hw) (d : Nat) (k : RecKind) (reason station : Nat) :
    KeepsFacets h (h.pageRecord d k reason station) := by
  unfold Hw.pageRecord
  split
  · exact keepsFacets_complete _ _ _
  · exact .refl h

theorem keepsFacets_showInUse (h : Hw) (s : Nat) : KeepsFacets h (h.showInUse s) := by
  unfold Hw.showInUse
  extract_lets on w c e warp screen u masked
  have registers : Says h screen := ((Says.refl h).wr _ _ _).wr _ _ _
  have viol : KeepsFacets screen masked := .modStn screen s fun _ => rfl
  exact ((KeepsFacets.of_says registers).trans viol).trans (.of_says (((Says.refl masked).wr _ _ _).wr _ _ _))

theorem keepsFacets_ivSend (h : Hw) (s : Nat) (f : Frame) : KeepsFacets h (h.ivSend s f) :=
  .ite (.trans (.of_stations (send_stations h _)) (.modStn _ s fun _ => rfl)) (.refl h)

theorem keepsFacets_millDrop (h : Hw) (s : Nat) : KeepsFacets h (h.millDrop s) := by
  unfold Hw.millDrop
  extract_lets p empty dropped shown requests
  have mill : KeepsFacets h dropped := .modStn h s fun _ => rfl
  have registers : Says dropped requests := ((((((Says.refl dropped).wr _ _ _).wr _ _ _).wr _ _ _).wr _ _ _).wr _ _ _)
  exact mill.trans (.of_says ((registers.wr _ _ _).wr _ _ _))

/-- Stopping a page leaves the facets: it drops what its stations hold of it, and tells their heads. -/
theorem keepsFacets_stopPage (h : Hw) (d : Nat) : KeepsFacets h (h.stopPage d) := by
  unfold Hw.stopPage
  split
  · exact .refl h
  · refine .trans (.trans (.forN _ _ fun s h => ?dropped) (.of_stations rfl)) (.forN _ _ fun s h => ?shown)
    case dropped =>
      refine .ite ?_ (.refl h)
      extract_lets u v
      have e : KeepsFacets h u := .ite (keepsFacets_millDrop h s) (.refl h)
      exact .ite (e.trans (keepsFacets_ivSend _ _ _)) e
    case shown => exact .ite (.of_says (((Says.refl h).wr _ _ _).later _)) (.refl h)

theorem keepsFacets_returnPage (h : Hw) (d : Nat) : KeepsFacets h (h.returnPage d) := by
  unfold Hw.returnPage
  split
  · exact .refl h
  · refine .ite (.refl h) ?_
    extract_lets purged returned
    have e : KeepsFacets h purged := .ite (.of_stations rfl) (.refl h)
    have r : KeepsFacets h returned := e.trans ((keepsFacets_stopPage _ _).trans (.of_stations rfl))
    have shown : KeepsFacets h (returned.pageRecord d .state 0 0xFF).showPages :=
      (r.trans (keepsFacets_pageRecord _ _ _ _ _)).trans (.of_says (says_showPages _))
    exact (shown.trans (.forN 8 _ fun s h => keepsFacets_showInUse h s)).trans (.of_stations (later_stations _ _))

theorem keepsFacets_dropPage (h : Hw) (d : Nat) : KeepsFacets h (h.dropPage d) := by
  unfold Hw.dropPage
  split
  · exact (keepsFacets_returnPage h d).trans (.of_stations rfl)
  · exact keepsFacets_returnPage h d

theorem keepsFacets_dropUnplanned (h : Hw) (s : Nat) : KeepsFacets h (h.dropUnplanned s) :=
  .foldl _ _ fun h g => keepsFacets_dropPage h g.desc

/-! ### Index edges and plans -/

theorem polyIndexEdge_accepted {h : Hw} {s : StationNo} (last : (h.stn s).facets.num = some 9) (eos : (h.stn s).facets.eosSeen = true) :
    polyIndexEdge s h = h.modFac s fun f => { f with indexSeen := true } := by
  simp [polyIndexEdge, last, eos]

/-- An index edge outside its window is counted; the second at one position re-bases the numbering. -/
theorem polyIndexEdge_stray {h : Hw} {s : StationNo} {n : Nat} (num : (h.stn s).facets.num = some n)
    (outside : n ≠ 9 ∨ (h.stn s).facets.eosSeen = false) : polyIndexEdge s h =
      (let u := h.inc (pSWATH s) SWATH.INDEX_MISS
      if (h.stn s).facets.strays.contains ((h.facetSeq s + 2 ^ 32 - 10) % 2 ^ 32) then
        ((u.raise (pSWATH s) 2 (u.slipCap s)).spoilStation s 0x11).modFac s fun f => { f with rebase := some (h.facetSeq s), strays := [] }
      else u.modFac s fun f => { f with strays := h.facetSeq s :: f.strays }) := by
  unfold polyIndexEdge
  extract_lets p f g
  rw [show f.num = some n from num]
  exact if_neg fun ⟨last, eos⟩ => outside.elim (· last) (ne_true_of_eq_false · eos)

/-- What is left of a plan run once the plan is noted: pages that cannot start return, and the head hears of the facet. -/
theorem planRun_notes {h : Hw} {s : StationNo} {k : Fin 4} {n : Nat} {x : Stamp × Nat × Nat} (later : k.val ≠ 0)
    (en : h.is (pSWATH s) SWATH.SW_CTRL_EN = true) (runs : h.runs (pSWATH s) = true) (wait : (h.stn s).facets.waitRev = 0)
    (new : ((h.stn s).facets.plans.any fun x => decide (x.1 = (h.facetSeq s + k) % 2 ^ 32)) = false) (times : h.facetTimes s k = some x)
    (num : (h.stn s).facets.num = some n) : ∃ (u : Hw) (lines : Nat) (page : Option Nat), KeepsFacets (u.modFac s fun f =>
      { f with lines15 := (lines :: f.lines15).take 15, plans := (((h.facetSeq s + k) % 2 ^ 32, page) :: f.plans).take 65536 })
      (planRun s k h) := by
  obtain ⟨sosPred, mid, midNext⟩ := x
  unfold planRun
  extract_lets p f g
  have planned : ¬(k.val = 0 ∨ (f.plans.any fun x => decide (x.1 = g)) = true) := fun e => e.elim later (ne_true_of_eq_false new)
  have off : ¬((!h.is p SWATH.SW_CTRL_EN) = true ∨ (!h.runs p) = true ∨ 0 < f.waitRev) := by simp [p, f, en, runs, wait]
  have numbered : f.num = some n := num
  simp -zeta only [planned, off, times, numbered, if_false]
  extract_lets r noted kept
  refine ⟨r.1, r.2.1, r.2.2.map fun x => x.1, ?_⟩
  have e : KeepsFacets noted kept := .ite (.refl _) (keepsFacets_dropUnplanned _ _)
  exact .ite (e.trans (keepsFacets_ivSend _ _ _)) e

/-! ### Beam-detect edges -/

/-- A BD_SOS edge of the selected polarity is judged. -/
theorem bdSos_judged {h : Hw} {s : StationNo} (t : Stamp) {falling : Bool}
    (edge : decide (h.use (pSCANCLK s) SCANCLK.SC_CTRL_SOS_EDGE = 1) = falling) : bdSos s t falling h =
      if !h.sosAccepted s t then h.inc (pSCANCLK s) SCANCLK.BD_SPUR
      else
        let u := h.endPages s (h.facetSeq s) t
        let b := if u.exposingOn s then u else u.commitWhole (pSCANCLK s)
        (((b.sosTake s t false).wr2 (pSCANCLK s) SCANCLK.SOS_TIME_LO SCANCLK.SOS_TIME_HI 0 t.toNat).lockJudge s).phaseMeasure s t :=
  if_neg (by simp [edge])

theorem bdSos_other_polarity {h : Hw} {s : StationNo} (t : Stamp) {falling : Bool}
    (other : (decide (h.use (pSCANCLK s) SCANCLK.SC_CTRL_SOS_EDGE = 1) == falling) = false) : bdSos s t falling h = h :=
  if_pos (by simpa [bne] using other)

/-- The first BD_EOS edge late enough after its SOS gives SCAN_DUR, pre-aligns the clock and ends the facet's pages. -/
theorem bdEos_accepted {h : Hw} {s : StationNo} {t sos : Stamp} {falling : Bool} {rest : List Stamp} {n : Nat}
    (edge : decide (h.use (pSCANCLK s) SCANCLK.SC_CTRL_EOS_EDGE = 1) = falling) (anchored : (h.stn s).facets.sos = sos :: rest)
    (num : (h.stn s).facets.num = some n) (first : (h.stn s).facets.eosSeen = false) (late : 576 * h.scanDur s n < 10 * (t - sos).toNat) :
    bdEos s t falling h =
      (let u := (((h.wr2 (pSCANCLK s) SCANCLK.EOS_TIME_LO SCANCLK.EOS_TIME_HI 0 t.toNat).modFac s fun f =>
        { f with eosSeen := true, eos := f.eos.set 0 (some t) }).wri (pSWATH s) SWATH.SCAN_DUR n ((t - sos).toNat / 64 % 2 ^ 24))
      (u.preAlign s t).endPages s (u.facetSeq s) t) := by
  unfold bdEos
  extract_lets f dur
  have known : dur = h.scanDur s n := by simp only [dur, f, num]
  rw [if_neg (by simp [edge]), show f.sos = sos :: rest from anchored, show f.num = some n from num]
  exact if_neg (not_or.mpr ⟨ne_true_of_eq_false first, Nat.not_le.mpr (known ▸ late)⟩)

theorem bdEos_again {h : Hw} {s : StationNo} (t : Stamp) (falling : Bool) {sos : Stamp} {rest : List Stamp}
    (anchored : (h.stn s).facets.sos = sos :: rest) (seen : (h.stn s).facets.eosSeen = true) : bdEos s t falling h = h := by
  unfold bdEos
  extract_lets f
  rw [show f.sos = sos :: rest from anchored]
  exact ite_eq_left_iff.mpr fun _ => if_pos (.inl seen)

/-- The facet of a missed edge on a locked station is flywheeled from its prediction. -/
theorem bdMiss_flywheels {h : Hw} {s : StationNo} {q : Stamp} (pred : (h.stn s).facets.pred 1 = some q)
    (locked : h.is (pSCANCLK s) SCANCLK.SC_STS_LOCKED = true) : bdMiss s h =
      (let u := h.sosTake s q true
      let v := (u.inc (pSCANCLK s) SCANCLK.BD_MISS).raise (pSCANCLK s) 1 (u.scCap s)
      if 2 ≤ (v.stn s).facets.fly then v.sclkUnlock s else v.lockJudge s) := by
  unfold bdMiss
  rw [pred]
  exact if_neg (by simp [locked])

/-- Settles O35: each command's effect where its condition holds. That INDEX_OK keeps its value where the clock starts, and what the capture
of FACET_SLIP names with no page exposing, are the model's choice (log entry 95). -/
theorem scanClockCommandsComplete : Obligations.ScanClockCommandsComplete := by
  refine ⟨fun s stn last eos => ?indexAccepted, fun s stn n num outside => ?indexStray,
    fun s stn k n x later en runs wait new times num => ?planRun, fun s m stn t => ?swathEnClear,
    fun s stn t falling edge ok => ?sosAccepted, fun s stn t falling edge no => ?sosSpurious,
    fun s stn t falling other => ?sosOther, fun s stn t falling sos rest n edge anchored num first late => ?eosAccepted,
    fun s stn t falling sos rest anchored seen => ?eosAgain, fun s stn q pred locked => ?bdMiss,
    fun s stn relock => ?pllRelockDone, fun s stn en runs lock good stopped => ?sclkStart,
    fun s stn running => ?sclkRuns, fun s m stn t => ?sclkEnable, fun s m stn t => ?sclkDisable, fun s => finish_eq s _,
    fun s => finish_eq s _, fun s i => finish_eq s _, fun s => finish_eq s _⟩
  case indexAccepted => exact congrArg (finish s) (polyIndexEdge_accepted last eos)
  case indexStray => exact congrArg (finish s) (polyIndexEdge_stray num outside)
  case planRun =>
    obtain ⟨u, lines, page, keeps⟩ := planRun_notes later en runs wait new times num
    refine ⟨_, finish_eq s _, ?_⟩
    rw [keeps stn, Hw.modFac, stn_modStn_same]
    rfl
  case swathEnClear => exact congrArg (finish s) (writeTo_takes t _)
  case sosAccepted => exact congrArg (finish s) ((bdSos_judged t edge).trans (if_neg (by simp [ok])))
  case sosSpurious => exact congrArg (finish s) ((bdSos_judged t edge).trans (if_pos (by simp [no])))
  case sosOther => exact congrArg (finish s) (bdSos_other_polarity t other)
  case eosAccepted => exact congrArg (finish s) (bdEos_accepted edge anchored num first late)
  case eosAgain => exact congrArg (finish s) (bdEos_again t falling anchored seen)
  case bdMiss => exact congrArg (finish s) (bdMiss_flywheels pred locked)
  case pllRelockDone => exact congrArg (finish s) (if_neg (by simp [relock]))
  case sclkStart => exact congrArg (finish s) (if_pos (by simp [en, runs, lock, good, stopped]))
  case sclkRuns => exact congrArg (finish s) (if_neg (by simp [running]))
  case sclkEnable => exact congrArg (finish s) (writeTo_takes t _)
  case sclkDisable => exact congrArg (finish s) (writeTo_takes t _)

end Sys2Proof.Machine
end

section
/-! The correction of a scan clock (R159, R165, R167): its steps spread over the cycles, the anchor edge they lead to, the cycles' lengths
and the pixels. -/

namespace Sys2Proof.Machine

/-! ### The parts of a correction -/

@[simp] theorem spreadSteps_length (n : Int) (k : Nat) : (spreadSteps n k).length = k := by simp [spreadSteps]

/-- The parts telescope: part i is the growth of ⌊n i / k⌋. -/
theorem spreadSteps_sum (n : Int) {k : Nat} (pos : 0 < k) : (spreadSteps n k).sum = n := by
  have telescope : (spreadSteps n k).sum = n * k / k - n * (0 : Nat) / k := Finset.sum_range_sub (fun i : Nat => n * i / (k : Int)) k
  have whole : n * k / k = n := Int.mul_ediv_cancel n (by omega)
  simp [telescope, whole]

/-- Each part lies within a step of n / k, as the two floors it is the difference of lie within one of their quotients. -/
theorem spreadSteps_near {n x : Int} {k : Nat} (pos : 0 < k) (mem : x ∈ spreadSteps n k) : n - k < k * x ∧ k * x < n + k := by
  obtain ⟨i, -, rfl⟩ := List.mem_map.mp mem
  have k0 : (0 : Int) < k := by omega
  have upTo := Int.mul_ediv_self_le (x := n * (i + 1 : Nat)) k0.ne'
  have above := Int.lt_mul_ediv_self_add (x := n * (i + 1 : Nat)) k0
  have upTo' := Int.mul_ediv_self_le (x := n * i) k0.ne'
  have above' := Int.lt_mul_ediv_self_add (x := n * i) k0
  have grows : n * (i + 1 : Nat) = n * i + n := by push_cast; ring
  rw [mul_sub]
  omega

theorem spreadSteps_even {n x y : Int} {k : Nat} (pos : 0 < k) (hx : x ∈ spreadSteps n k) (hy : y ∈ spreadSteps n k) : x - y ≤ 1 := by
  obtain ⟨-, below⟩ := spreadSteps_near pos hx
  obtain ⟨above, -⟩ := spreadSteps_near pos hy
  have apart : (k : Int) * (x - y) < k * 2 := by rw [mul_sub]; omega
  have := lt_of_mul_lt_mul_left apart (by omega)
  omega

theorem spreadSteps_bounded {n x : Int} {k b : Nat} (pos : 0 < k) (room : n.natAbs ≤ b * k) (mem : x ∈ spreadSteps n k) : x.natAbs ≤ b := by
  obtain ⟨above, below⟩ := spreadSteps_near pos mem
  have room' : |n| ≤ k * b := by rw [Int.abs_eq_natAbs]; exact_mod_cast (mul_comm b k) ▸ room
  obtain ⟨lo, hi⟩ := abs_le.mp room'
  have upper : (k : Int) * x < k * (b + 1) := by rw [mul_add]; omega
  have lower : (k : Int) * (-(b + 1)) < k * x := by rw [mul_neg, mul_add]; omega
  have := lt_of_mul_lt_mul_left upper (by omega)
  have := lt_of_mul_lt_mul_left lower (by omega)
  omega

/-! ### Roundings -/

/-- An approximate quotient differs from the real one by less than one. -/
theorem approxDiv_near (num : Int) {den : Nat} (pos : 0 < den) : (approxDiv num den * den - num).natAbs < den := by
  have split := Int.mul_ediv_add_emod num den
  have rem0 := Int.emod_nonneg num (b := den) (by omega)
  have remLt := Int.emod_lt_of_pos num (b := den) (by omega)
  rw [mul_comm] at split
  rw [approxDiv, if_neg pos.ne']
  split_ifs with divides up
  · omega
  · rw [add_mul]; omega
  · rw [add_zero]; omega

/-- A time at or past an edge lies nearest to an edge that is a whole number of cycles past that one. -/
theorem nearestEdge_cycles {period x : Int} (pos : 0 < period) (past : 0 ≤ x) :
    (((x - nearestEdge period x) / period).toNat : Int) * period = x - nearestEdge period x := by
  have split := Int.mul_ediv_add_emod x period
  have quot0 : 0 ≤ x / period := Int.ediv_nonneg past pos.le
  obtain ⟨q, q0, e⟩ : ∃ q : Int, 0 ≤ q ∧ x - nearestEdge period x = q * period := by
    unfold nearestEdge
    split
    · exact ⟨x / period, quot0, by rw [mul_comm]; omega⟩
    · exact ⟨x / period + 1, by omega, by rw [add_mul, mul_comm]; omega⟩
  rw [e, Int.mul_ediv_cancel q pos.ne', Int.toNat_of_nonneg q0]

/-! ### Rising edges -/

theorem Sclk.edge_nat (c : Sclk) (i : Nat) : c.edge i = c.first + (c.cycles.take i).sum + ((i - c.cycles.length : Nat) : Int) * c.period := by
  simp [Sclk.edge]

theorem Sclk.edge_succ_sub (c : Sclk) (j : Nat) : c.edge (j + 1 : Nat) - c.edge j = c.cycles.getD j c.period := by
  rw [c.edge_nat, c.edge_nat]
  by_cases corrected : j < c.cycles.length
  · rw [List.sum_take_succ _ _ corrected, List.getD_eq_getElem _ _ corrected, Nat.sub_eq_zero_of_le corrected,
      Nat.sub_eq_zero_of_le corrected.le]
    ring
  · have past := Nat.le_of_not_lt corrected
    rw [List.take_of_length_le past, List.take_of_length_le (past.trans j.le_succ), List.getD_eq_default _ _ past, Nat.succ_sub past]
    push_cast
    ring

/-- Pixel 4 m + i begins i quarters of a period after the rising edge m cycles after the marker cycle's. -/
theorem Sclk.pixelAt_quarter {c : Sclk} {k : Int} {i : Nat} (m : Nat) (quarter : i < 4) (marked : c.marker = some k) :
    ∃ x : Int, c.pixelAt (4 * m + i) = some x ∧ 4 * x = 4 * c.edge (k + m) + i * c.period := by
  have cycle : (4 * m + i) / 4 = m := by omega
  have place : (4 * m + i) % 4 = i := by omega
  refine ⟨c.edge (k + m) + i * (c.post * 2 ^ 36 * (2 ^ 24 + c.mag)), ?_, ?_⟩
  · rw [Sclk.pixelAt, marked, cycle, place]
    rfl
  · rw [Sclk.period]
    ring

/-! ### The anchor edge -/

theorem Sclk.step_pos {c : Sclk} (pos : 0 < c.period) : 0 < c.step := by
  have post : c.post ≠ 0 := fun zero => by simp [Sclk.period, zero] at pos
  exact Nat.mul_pos (Nat.pos_of_ne_zero post) (by positivity)

/-- How far the target of a facet that begins at t lies past the first edge that may be corrected. -/
def Sclk.anchorGap (c : Sclk) (t : Stamp) (phase : Int) : Int :=
  (c.refTo t).target t phase - ((c.refTo t).nextEdge (8192 * (c.refTo t).den)).2.1

/-- The cycles from there to the anchor edge. -/
def Sclk.anchorLead (c : Sclk) (t : Stamp) (phase : Int) : Nat :=
  ((c.anchorGap t phase - nearestEdge c.period (c.anchorGap t phase)) / c.period).toNat

theorem Sclk.anchored_marker (c : Sclk) (t : Stamp) (phase mag : Int) (pix0 : Nat) :
    (c.anchored t phase mag pix0).1.marker = some ((c.anchorLead t phase + pix0 : Nat) : Int) := rfl

theorem Sclk.anchored_steps (c : Sclk) (t : Stamp) (phase mag : Int) (pix0 : Nat) :
    (c.anchored t phase mag pix0).2 = approxDiv (nearestEdge c.period (c.anchorGap t phase)) c.step := rfl

/-- The cycles from there on; only those before the anchor edge are without MAG. -/
theorem Sclk.anchored_cycles (c : Sclk) (t : Stamp) (phase mag : Int) (pix0 : Nat) :
    (c.anchored t phase mag pix0).1.cycles =
      (spreadSteps (c.anchored t phase mag pix0).2
        (max (c.anchorLead t phase) (ceilDiv (c.anchored t phase mag pix0).2.natAbs 128))).zipIdx.map fun x =>
          (if x.2 < c.anchorLead t phase then c.period else { c with mag := mag }.period) + x.1 * c.step := rfl

/-- A correction of n steps over the lead takes lead ordinary cycles and n steps. -/
theorem sum_corrected (steps : List Int) (p late s : Int) :
    (steps.zipIdx.map fun x => (if x.2 < steps.length then p else late) + x.1 * s).sum = steps.length * p + steps.sum * s := by
  have early : (steps.zipIdx.map fun x => (if x.2 < steps.length then p else late) + x.1 * s) = steps.map fun x => p + x * s := by
    conv_rhs => rw [← List.zipIdx_map_fst 0 steps, List.map_map]
    exact List.map_congr_left fun x mem => congrArg (· + x.1 * s) (if_pos (List.snd_lt_of_mem_zipIdx mem))
  rw [early, List.sum_map_add, List.sum_map_mul_right]
  simp

/-- Where the lead has room for the correction, its cycles hold the whole of it. -/
theorem Sclk.anchored_cycles_sum {c : Sclk} {t : Stamp} {phase mag : Int} {pix0 : Nat}
    (room : (c.anchored t phase mag pix0).2.natAbs ≤ 128 * c.anchorLead t phase) :
    (c.anchored t phase mag pix0).1.cycles.length = c.anchorLead t phase ∧
    (c.anchored t phase mag pix0).1.cycles.sum = c.anchorLead t phase * c.period + (c.anchored t phase mag pix0).2 * c.step := by
  have cycles := c.anchored_cycles t phase mag pix0
  generalize (c.anchored t phase mag pix0).2 = n at *
  generalize c.anchorLead t phase = lead at *
  have fits : max lead (ceilDiv n.natAbs 128) = lead := by unfold ceilDiv; omega
  rw [fits] at cycles
  have total : (spreadSteps n lead).sum = n := by
    rcases Nat.eq_zero_or_pos lead with zero | pos
    · obtain rfl : n = 0 := by omega
      rw [zero]
      rfl
    · exact spreadSteps_sum n pos
  have corrected := sum_corrected (spreadSteps n lead) c.period ({ c with mag := mag } : Sclk).period c.step
  rw [spreadSteps_length, total, ← cycles] at corrected
  exact ⟨by simp [cycles], corrected⟩

/-- The anchor edge lies within a step of its target: the lead's ordinary cycles end on the edge nearest to it, and the steps make up
what is left of the way. -/
theorem Sclk.anchor_near_target {c : Sclk} {t : Stamp} {phase mag : Int} {pix0 : Nat} (pos : 0 < c.period)
    (ahead : 0 ≤ c.anchorGap t phase) (room : (c.anchored t phase mag pix0).2.natAbs ≤ 128 * c.anchorLead t phase) :
    ((c.anchored t phase mag pix0).1.edge (c.anchorLead t phase) - (c.refTo t).target t phase).natAbs < c.step := by
  obtain ⟨count, total⟩ := Sclk.anchored_cycles_sum room
  have near := nearestEdge_cycles pos ahead
  have made := approxDiv_near (nearestEdge c.period (c.anchorGap t phase)) (Sclk.step_pos pos)
  have gap : c.anchorGap t phase = (c.refTo t).target t phase - (c.anchored t phase mag pix0).1.first := rfl
  rw [← c.anchored_steps t phase mag pix0] at made
  convert made using 2
  rw [Sclk.edge_nat, List.take_of_length_le count.le, total, count, Nat.sub_self, Sclk.anchorLead, near]
  push_cast
  linear_combination gap

/-- Settles O24: the parts of a correction are differences of floors, which telescope, and the anchor edge is a whole number of cycles and
the correction's steps past the first edge that may be corrected. -/
theorem scanClockCorrection : Obligations.ScanClockCorrection := by
  refine ⟨fun n k pos => ⟨spreadSteps_length n k, spreadSteps_sum n pos, fun x hx y hy => spreadSteps_even pos hx hy,
      fun room x hx => spreadSteps_bounded pos room hx⟩,
    fun c t phase mag pix0 pos ahead => ⟨c.anchorLead t phase, c.anchored_marker t phase mag pix0, fun room => ?_⟩,
    Sclk.edge_succ_sub, fun c k m i quarter marked => Sclk.pixelAt_quarter m quarter marked⟩
  exact Sclk.anchor_near_target pos (sub_nonneg.mpr ahead) room

end Sys2Proof.Machine
end

section
/-! The laser enables (R33, R34, R183, R223, R224): the reset state, what holds where one is high, and the end of a step with nothing left
to follow up. -/

namespace Sys2Proof.Machine

/-- Settles O5: every LEN output is low at reset, where the interlock loops read open. -/
theorem resetIsSafe : Obligations.ResetIsSafe := by
  refine ⟨fun k _ => ?_, rfl⟩
  have open1 : State.reset.hw.pins.ilk1 = false := rfl
  have low : State.reset.hw.pins.len = 0 := rfl
  simp [Hw.lenHolds, bitAt, open1, low]

/-- A one-bit field that is not 1 is 0. -/
theorem rd_eq_zero {h : Hw} {p : Nat} {f : Field} (low : h.is p f = false) (oneBit : f.hi = f.lo := by decide) : h.rd p f = 0 := by
  have ne : h.rd p f ≠ 1 := of_decide_eq_false low
  have lt : h.rd p f < 2 := by
    rw [Hw.rd, bitsOf, oneBit, Nat.add_sub_cancel_left]
    exact Nat.mod_lt _ (by decide)
  omega

/-- Where the conditions of LEN_k hold, each of those that R223 lists holds. -/
theorem lenHolds_conditions {h : Hw} {k : Nat} (holds : h.lenHolds k = true) :
    h.pins.ilk1 = true ∧ h.pins.ilk2 = true ∧ bitAt h.pins.lenPermit k = true ∧ h.pins.estop1 = true ∧ h.pins.estop2 = true
      ∧ h.rd (pIVINA k) IVINA.IV_CTRL_LEN_EN = 1 ∧ h.rd (pIVINA k) IVINA.IV_STS_LINK_UP = 1
      ∧ h.rd (pIVINA k) IVINA.IV_STS_HEAD_READY = 1 ∧ h.rd (pEMIT k) EMIT.HEALTH_STS_MEAS_OVER = 0 ∧ h.boot.inReset = false := by
  simp only [Hw.lenHolds, Bool.and_eq_true, Bool.not_eq_true'] at holds
  obtain ⟨⟨⟨⟨⟨⟨⟨⟨⟨permit, ilk1⟩, ilk2⟩, estop1⟩, estop2⟩, runs⟩, en⟩, up⟩, ready⟩, within⟩ := holds
  exact ⟨ilk1, ilk2, permit, estop1, estop2, of_decide_eq_true en, of_decide_eq_true up, of_decide_eq_true ready, rd_eq_zero within, runs⟩

/-- Settles O7: a step from a safe state answers a safe one, where a LEN output is high only with its conditions. -/
theorem laserEnableOnlyWhileAllHold : Obligations.LaserEnableOnlyWhileAllHold := by
  intro s t k safe st lt high
  obtain ⟨follows, -⟩ := stepKeepsSafe s t safe st
  exact lenHolds_conditions ((follows k lt).symm.trans high)

/-- Settles O9: with no follow-up left, the end of a step only drives the LEN outputs and shows them. -/
theorem quietEndOfStepFrame : Obligations.QuietEndOfStepFrame := fun _ quiet => drivesLen_settle quiet

end Sys2Proof.Machine
end

section
/-! Stripes (R197–R200): the parity of the three lanes, and where a data codeword holds the bits of its cells. -/

namespace Sys2Proof.Machine

/-! ### Parity -/

/-- The third lane carries the exclusive or of the first two. -/
theorem stripeMessage_parity (cells : List (List Byte)) : stripeMessage cells 2 = stripeMessage cells 0 ^^^ stripeMessage cells 1 := rfl

/-- The exclusive or of two messages with one of them is the other. -/
theorem rebuilt_xor_self (a b : Message) : rebuilt a (a ^^^ b) = b := by
  rw [rebuilt, ← BitVec.xor_assoc, BitVec.xor_self, BitVec.zero_xor]

/-! ### Places of bits -/

/-- Bit k of byte i of a little-endian number is its bit 8 i + k. -/
theorem testBit_ofLE (bs : List Byte) (i : Nat) {k : Nat} (inside : k < 8) :
    (ofLE bs).testBit (8 * i + k) = bitAt (bs.getD i 0).toNat k := by
  induction bs generalizing i with
  | nil => simp [ofLE, bitAt]
  | cons b bs ih =>
    have split : ofLE (b :: bs) = 2 ^ 8 * ofLE bs + b.toNat := Nat.add_comm _ _
    rw [split, Nat.testBit_two_pow_mul_add _ b.isLt]
    cases i with
    | zero => simp [inside, bitAt]
    | succ i => rw [if_neg (by omega), List.getD_cons_succ, ← ih, show 8 * (i + 1) + k - 8 = 8 * i + k by omega]

/-- Byte i of piece j of a list of pieces of n bytes each. -/
theorem getD_flatten {α : Type} {n : Nat} {pieces : List (List α)} (whole : ∀ c ∈ pieces, c.length = n) (j : Nat) {i : Nat} (inside : i < n)
    (d : α) : pieces.flatten.getD (n * j + i) d = (pieces.getD j []).getD i d := by
  induction pieces generalizing j with
  | nil => simp
  | cons c cs ih =>
    obtain ⟨len, rest⟩ := List.forall_mem_cons.mp whole
    rw [List.flatten_cons]
    cases j with
    | zero => rw [List.getD_append _ _ _ _ (by omega)]; simp
    | succ j =>
      rw [List.getD_append_right _ _ _ _ (by rw [len, Nat.mul_succ]; omega), List.getD_cons_succ, ← ih rest j, len, Nat.mul_succ]
      congr 1; omega

/-- Bit 20 + n of a data codeword is bit n of its cells (R197). -/
theorem getLsbD_dataMessage (cells : List (List Byte)) {n : Nat} (inside : 20 + n < 5140) :
    (dataMessage cells).getLsbD (20 + n) = (ofLE cells.flatten).testBit n := by
  rw [dataMessage, BitVec.getLsbD_ofNat, decide_eq_true inside, Bool.true_and, Nat.testBit_two_pow_mul]
  simp

/-- Settles O22: each lane's message is the exclusive or of the other two, and a data codeword holds its cells' bytes in turn. -/
theorem stripeParity : Obligations.StripeParity := by
  refine ⟨fun cells => ?_, fun cells j i k five whole lane byte bit => ?_⟩
  · rw [stripeMessage_parity]
    refine ⟨rfl, rebuilt_xor_self _ _, ?_⟩
    rw [BitVec.xor_comm, rebuilt_xor_self]
  · rw [show 20 + 1024 * j + 8 * i + k = 20 + (8 * (128 * j + i) + k) by omega, getLsbD_dataMessage _ (by omega), testBit_ofLE _ _ bit,
      getD_flatten whole j byte]

end Sys2Proof.Machine
end

section
/-! The head links and the peer ports (R196, R200–R205, R217–R223, R226, R437): what each command answers. -/

namespace Sys2Proof.Machine

/-! ### The state of a link -/

/-- The page of a peer port. -/
theorem page_peer (q : Fin 2) : (LinkId.peer q).page = pPEER q := by
  revert q; decide

theorem lk_modLk_same (h : Hw) (l : LinkId) (f : LinkState → LinkState) : (h.modLk l f).lk l = f (h.lk l) := by
  cases l with
  | head s => exact congrArg Station.link (stn_modStn_same h s _)
  | peer p => exact tget_tset_same _ _ _ _

theorem chan_modChan_same (h : Hw) (l : LinkId) (c : Nat) (f : Channel → Channel) : (h.modChan l c f).chan l c = f (h.chan l c) := by
  rw [Hw.chan, Hw.modChan, lk_modLk_same]
  exact tget_tset_same _ _ _ _

/-- What changes registers, messages and follow-ups only leaves the links. -/
theorem Says.lk {h g : Hw} (e : Says h g) (l : LinkId) : g.lk l = h.lk l := by
  obtain ⟨_, _, _, _, _, _, _, rfl⟩ := e
  cases l <;> rfl

theorem Says.lane {h g : Hw} (e : Says h g) (l : LinkId) (k : Nat) : g.lane l k = h.lane l k := by
  rw [Hw.lane, e.lk, Hw.lane]

theorem says_showTs (h : Hw) (l : LinkId) (t : TsRec) : Says h (h.showTs l t) := by
  cases l with
  | head s => exact (((((((Says.refl h).wr _ _ _).wr _ _ _).wr _ _ _).wr _ _ _).wr2 _ _ _ _ _).wr _ _ _).wr _ _ _
  | peer p => exact (Says.refl h).wr _ _ _

theorem says_symbolsCorrected (h : Hw) (l : LinkId) (k n : Nat) : Says h (h.symbolsCorrected l k n) := by
  cases l with
  | head s => exact (Says.refl h).wri _ _ _ _
  | peer p => exact .refl h

@[simp] theorem lane_showTs (h : Hw) (l : LinkId) (t : TsRec) (j : LinkId) (k : Nat) : (h.showTs l t).lane j k = h.lane j k :=
  (says_showTs h l t).lane j k

@[simp] theorem lane_symbolsCorrected (h : Hw) (l : LinkId) (k n : Nat) (j : LinkId) (i : Nat) :
    (h.symbolsCorrected l k n).lane j i = h.lane j i :=
  (says_symbolsCorrected h l k n).lane j i

/-! ### Head reports and violations -/

theorem ivinaBadFrame_up {h : Hw} {l : LinkId} (reason ch seq detail : Nat) (up : h.linkUp l = true) :
    ivinaBadFrame l reason ch seq detail h =
      (if reason = 0x14 then h else h.bufferFreed l ch).violation l reason ch seq detail := if_pos up

/-! ### Reliable channels -/

/-- Freeing a buffer leaves the SEQ that is expected. -/
theorem rxSeq_bufferFreed (h : Hw) (l : LinkId) (ch : Nat) : ((h.bufferFreed l ch).chan l ch).rxSeq = (h.chan l ch).rxSeq := by
  unfold Hw.bufferFreed
  split
  · rw [chan_modChan_same]
  · rfl

/-- A frame with the SEQ expected is delivered, and acknowledged. -/
theorem ivinaReliableFrame_inOrder {h : Hw} {l : LinkId} {ch seq : Nat} (up : h.linkUp l = true) (reliable : ch = 3 ∨ ch = 4)
    (intact : (h.bufferFreed l ch).injArmed l.page 4 0 = false) (inOrder : seq = (h.chan l ch).rxSeq) : ivinaReliableFrame l ch seq h =
      ((h.bufferFreed l ch).modChan l ch fun c => { c with rxSeq := (c.rxSeq + 1) % 65536 }).ackNow l ch := by
  unfold ivinaReliableFrame
  rw [if_neg (by simp [up]; omega)]
  dsimp only
  rw [if_neg (ne_true_of_eq_false intact), if_pos (inOrder.trans (rxSeq_bufferFreed h l ch).symm)]

/-- An ACK of a frame sent and not yet acknowledged ends it and those before it, and frames that waited may leave. -/
theorem ivinaAck_taken {h : Hw} {l : LinkId} {ch seq : Nat} (up : h.linkUp l = true)
    (sent : ((h.chan l ch).unacked.any fun f => decide (f.seq = seq)) = true) : ivinaAck l ch seq h =
      Hw.relFlush 64 l (h.modChan l ch fun c =>
        { c with unacked := (c.unacked.dropWhile fun f => decide (f.seq ≠ seq)).drop 1, resends := 0 }) := by
  unfold ivinaAck
  rw [sent, up]
  exact if_neg (by decide)

/-- The frames not acknowledged are sent again as far as the credits go, and counted. -/
theorem ivinaResendTimeout_resends {h : Hw} {l : LinkId} {ch : Nat} (up : h.linkUp l = true)
    (sent : (h.chan l ch).unacked.isEmpty = false) (live : (h.chan l ch).failed = false) (few : (h.chan l ch).resends < 8)
    (credit : ((h.chan l ch).unacked.take (h.chan l ch).credits).isEmpty = false) : ivinaResendTimeout l ch h =
      (let c := h.chan l ch
      let fs := c.unacked.take c.credits
      let u := h.modChan l ch fun x => { x with resends := x.resends + 1, credits := x.credits - fs.length }
      let v := match l with
        | .head q => u.incBy (pIVINA q) IVINA.RETRY_CNT 0 fs.length
        | .peer q => u.incBy (LinkId.peer q).page PEER.RETRY_CNT 0 fs.length
      (fs.foldl (fun g f => g.frameOut l f) v).showCredits l) := by
  unfold ivinaResendTimeout
  dsimp only
  refine (if_neg (by simp [up, sent, live])).trans ((if_neg (Nat.not_le.mpr few)).trans ((if_neg (ne_true_of_eq_false credit)).trans ?_))
  cases l <;> rfl

/-- With no credit, or nothing to send again, a resend timer changes nothing. -/
theorem ivinaResendTimeout_nothing {h : Hw} {l : LinkId} {ch : Nat} (few : (h.chan l ch).resends < 8)
    (noCredit : ((h.chan l ch).unacked.take (h.chan l ch).credits).isEmpty = true) : ivinaResendTimeout l ch h = h := by
  unfold ivinaResendTimeout
  dsimp only
  rw [if_pos noCredit, if_neg (Nat.not_le.mpr few), ite_self]

/-- A credit count of a reliable channel is taken while the link is up. -/
theorem takeCredit_up {h : Hw} {l : LinkId} {ch : Nat} (cnt : Nat) (up : h.linkUp l = true) (reliable : ch = 3 ∨ ch = 4) :
    h.takeCredit l ch cnt = Hw.relFlush 64 l ((h.modChan l ch fun c =>
      { c with credits := c.credits + (cnt + 256 - c.crLast) % 256, crLast := cnt % 256 }).showCredits l) :=
  if_neg (by simp [up]; omega)

/-- Settles O37: each command's effect where its condition holds. -/
theorem headLinkCommandsComplete : Obligations.HeadLinkCommandsComplete := by
  refine ⟨fun s stn param up => ?headStatus, fun s stn => rfl, fun s stn f up runs => ?regReply,
    fun s reason ch seq detail q => ?peerViolation, fun s reason ch seq detail q => rfl,
    fun s l reason ch seq detail up credited => ?badFrame, fun s l reason ch seq detail up uncredited => ?frameWithoutCredit,
    fun s l ch seq up reliable intact inOrder => ?reliableFrame, fun s l ch seq up sent => ?ack,
    fun s l ch up sent live few credit => ?resend, fun s l ch few noCredit => ?resendNothing,
    fun s l ch cnt up reliable => ?creditCell, fun s stn => rfl⟩
  case headStatus => exact congrArg (finish s) (if_linkUp up _ _)
  case regReply => exact finish_if_pos (by simp [up, runs]) _ _ _
  case peerViolation => rw [← page_peer q]; rfl
  case badFrame => exact congrArg (finish s) ((ivinaBadFrame_up _ _ _ _ up).trans (by rw [if_neg credited]))
  case frameWithoutCredit =>
    exact congrArg (finish s) ((ivinaBadFrame_up _ _ _ _ up).trans (by rw [uncredited, if_pos rfl]))
  case reliableFrame => exact congrArg (finish s) (ivinaReliableFrame_inOrder up reliable intact inOrder)
  case ack => exact congrArg (finish s) (ivinaAck_taken up sent)
  case resend => exact congrArg (finish s) (ivinaResendTimeout_resends up sent live few credit)
  case resendNothing => exact congrArg (finish s) (ivinaResendTimeout_nothing few noCredit)
  case creditCell => exact congrArg (finish s) (takeCredit_up _ up reliable)

/-! ### Training -/

/-- A training codeword whose record is of the kind expected, and names its lane and station, is shown and taken; on a lane outside CONFIRM,
or with TS3, it breaks no row. -/
theorem tsIn_taken {h : Hw} {l : LinkId} {k kind : Nat} {m : Message} {t : TsRec} {x : LaneState} (f : TsRec → Hw → Hw)
    (record : m.ts = some t) (state : (h.lane l k).st = x) (type : t.tsType = kind) (lane : k < l.lanes) (named : l.tsMatches k t = true)
    (trains : x ≠ .disabled ∧ x ≠ .active := by decide) (row : kind = 3 ∨ x ≠ .confirm := by decide) :
    h.tsIn l k kind m f = f t (h.showTs l t) := by
  subst state
  have kept : (if kind = 3 then h else h.rowBroken l k) = h := by
    split
    · rfl
    · next other => exact if_neg (row.resolve_left other)
  unfold Hw.tsIn
  rw [if_neg (by simp [lane, trains]), record]
  dsimp only
  rw [if_neg (not_not.mpr type), if_neg (by simp [named]), kept]

/-- TS1 after eight alignment codewords in a row takes a lane from DETECT to NEGOTIATE. -/
theorem ivinaTs1_negotiates {h : Hw} {l : LinkId} {k : Nat} {m : Message} {t : TsRec} (record : m.ts = some t)
    (detects : (h.lane l k).st = .detect) (type : t.tsType = 1) (lane : k < l.lanes) (named : l.tsMatches k t = true)
    (aligned : 8 ≤ (h.lane l k).aligns) : ivinaTs1 l k m h = (h.showTs l t).laneMove l k .negotiate 0 := by
  unfold ivinaTs1
  rw [tsIn_taken _ record detects type lane named, lane_showTs, if_neg (not_not.mpr detects), if_pos aligned]

/-- TS2 with a common version and enough resources takes a lane from NEGOTIATE to CONFIRM, or finds what differs between the lanes. -/
theorem ivinaTs2_confirms {h : Hw} {l : LinkId} {k : Nat} {m : Message} {t : TsRec} (record : m.ts = some t)
    (negotiates : (h.lane l k).st = .negotiate) (type : t.tsType = 2) (lane : k < l.lanes) (named : l.tsMatches k t = true)
    (common : decide (t.verMin ≤ 1 ∧ 1 ≤ t.verMax) = true) (enough : l.enough t = true) : ivinaTs2 l k m h =
      (let g := h.showTs l t
      let u := g.modLane l k fun x => { x with ts := some t, precoded := g.precodes l k && bitAt t.caps 0 }
      let bad := u.tsDisagree l k t
      if bad.isEmpty then (match l with
        | .head q => u.wr (pIVINA q) IVINA.IV_VER_AGREED 1
        | .peer _ => u).laneMove l k .confirm 0 else (u.trainingViolation l k 3).laneDisagrees l bad) := by
  unfold ivinaTs2
  rw [tsIn_taken _ record negotiates type lane named, lane_showTs, negotiates]
  dsimp only
  unfold Hw.negotiates
  dsimp only
  rw [common, enough]
  refine (if_neg (by decide)).trans ((if_neg (by decide)).trans ?_)
  cases l <;> rfl

/-- TS2 with a common version, and with enough resources where they were lacking, takes a lane from QUARANTINE to NEGOTIATE. -/
theorem ivinaTs2_released {h : Hw} {l : LinkId} {k : Nat} {m : Message} {t : TsRec} (record : m.ts = some t)
    (held : (h.lane l k).st = .quarantine) (type : t.tsType = 2) (lane : k < l.lanes) (named : l.tsMatches k t = true)
    (common : decide (t.verMin ≤ 1 ∧ 1 ≤ t.verMax) = true) (release : (h.lane l k).reason ≠ 4 ∨ l.enough t = true) :
    ivinaTs2 l k m h = (h.showTs l t).laneMove l k .negotiate 0 := by
  unfold ivinaTs2
  rw [tsIn_taken _ record held type lane named, lane_showTs, held]
  exact if_pos (by simpa [common] using release)

/-- TS3 with the agreed version is counted on a lane in CONFIRM. -/
theorem ivinaTs3_counts {h : Hw} {l : LinkId} {k : Nat} {m : Message} {t : TsRec} (record : m.ts = some t)
    (confirms : (h.lane l k).st = .confirm) (type : t.tsType = 3) (lane : k < l.lanes) (named : l.tsMatches k t = true)
    (agreed : t.verAgreed = 1) : ivinaTs3 l k m h =
      (h.showTs l t).modLane l k fun x => { x with ts3 := x.ts3 + 1, ready := decide (16 ≤ x.ts3 + 1) } := by
  unfold ivinaTs3
  rw [tsIn_taken _ record confirms type lane named, lane_showTs, if_neg (not_not.mpr confirms), if_neg (not_not.mpr agreed)]

/-! ### Alignment and losses -/

/-- A valid alignment codeword within the skew allowed lets a ready lane join, and then fails the lanes the far end asks to retrain. -/
theorem alignmentCodeword_valid {h : Hw} {l : LinkId} {k skew : Nat} {m : Message} {a : AlignRec} (corrected : Nat) (lane : k < l.lanes)
    (record : m.align = some a) (valid : l.alignValid k (h.lane l k) a = true) (close : skew ≤ 1934) :
    alignmentCodeword l k m skew corrected h =
      (let g := h.symbolsCorrected l k corrected
      let u := ((g.showAlign l a.rxOk skew).modLane l k fun x =>
          { x with alignSeq := a.seq, missed := 0, aligns := if x.alignStep a.seq = 1 then min 8 (x.aligns + 1) else 1 }).modLk l
        fun x => { x with rxPos := 0, rxBad := false }
      let v := if (u.lane l k).st = .confirm ∧ (u.lane l k).ready ∧ g.alignAgrees l a.seq then u.laneJoin l k else u
      forN l.lanes (fun j x => if bitAt a.retrain j then x.laneFail l j else x) v) := by
  unfold alignmentCodeword
  rw [if_neg (Nat.not_le.mpr lane), record]
  dsimp only
  rw [if_neg (by simp [valid]), if_neg (Nat.not_lt.mpr close)]
  simp only [close, and_true]

/-- A codeword that is no alignment codeword where one is due breaks the row. -/
theorem alignmentCodeword_wrong {h : Hw} {l : LinkId} {k : Nat} {m : Message} (skew corrected : Nat) (lane : k < l.lanes)
    (record : m.align = none) : alignmentCodeword l k m skew corrected h = (h.symbolsCorrected l k corrected).alignWrong l k := by
  unfold alignmentCodeword
  rw [if_neg (Nat.not_le.mpr lane), record]

/-- An uncorrectable codeword of an ACTIVE lane is counted and its stripe rebuilt or lost; more than the limit in 1 ms fail the lane. -/
theorem codewordUncorrectable_head {h : Hw} {q : Fin 8} {k : Nat} (pos : Nat) (others : Option (Message × Message))
    (active : (h.lane (.head q) k).st = .active) : codewordUncorrectable (.head q) k pos others h =
      (let v := (h.inci (pIVINA q) IVINA.CW_UNCORR k).stripeHurt q k pos others
      let u := v.modLane (.head q) k fun x =>
        { x with uncorr := v.mono :: x.uncorr.takeWhile fun t => decide ((v.mono - t).toNat < 1024000000) }
      if u.rd (pIVINA q) IVINA.LANE_FAIL_THR < (u.lane (.head q) k).uncorr.length then u.laneFail (.head q) k else u) :=
  (if_neg (by simp [active])).trans (if_neg (not_not.mpr active))

/-- The same of a peer port, whose limit of 64 is the model's choice (log entry 54). -/
theorem codewordUncorrectable_peer {h : Hw} {q : Fin 2} {k : Nat} (pos : Nat) (others : Option (Message × Message))
    (active : (h.lane (.peer q) k).st = .active) : codewordUncorrectable (.peer q) k pos others h =
      (let u := h.modLane (.peer q) k fun x =>
        { x with uncorr := h.mono :: x.uncorr.takeWhile fun t => decide ((h.mono - t).toNat < 1024000000) }
      if 64 < (u.lane (.peer q) k).uncorr.length then u.laneFail (.peer q) k else u) :=
  (if_neg (by simp [active])).trans (if_neg (not_not.mpr active))

/-! ### Time and register writes -/

theorem timeSync_sent {h : Hw} {s : StationNo} {k : Nat}
    (lowest : ((List.range 3).find? fun k => decide ((h.lane (.head s) k).st = .active)) = some k) : timeSync s h =
      h.ivSend s { plainFrame 5 0x60 (h.timeAfter (h.alignIn (.head s))).toNat [] with flags := 2 * k } := by
  unfold timeSync
  rw [lowest]

/-- A write of a peer port's EN and LANE_EN moves its lanes. -/
theorem prEnWrite_taken {h : Hw} {m : Master} {p : Fin 2} (en : Bool) (lanes : Nat)
    (t : h.takes m (addrOf PEER.PR_CTRL_EN (pPEER p) 0) = true) : prEnWrite m p en lanes h =
      (((h.wr (pPEER p) PEER.PR_CTRL_EN (b2n en)).wr (pPEER p) PEER.PR_CTRL_LANE_EN lanes).lanesFollow (.peer p)).fabricUse
        (pageBase (addrOf PEER.PR_CTRL_EN (pPEER p) 0)) := by
  unfold prEnWrite
  rw [page_peer]
  exact writeTo_takes t _

/-- The engine kernel's write of LEN_EN re-enables the station where R33, R34 and R183 allow it. -/
theorem lenEnWrite_permits {h : Hw} {m : Master} {s : StationNo} (t : h.takes m (addrOf IVINA.IV_CTRL_LEN_EN (pIVINA s) 0) = true)
    (kernel : isKernel m = true) (may : h.lenMay s = true) : lenEnWrite m s true h =
      (let u := h.wr (pIVINA s) IVINA.IV_CTRL_LEN_EN 1
      { u with pins := { u.pins with lenPermit := putBit u.pins.lenPermit s true } }).fabricUse
        (pageBase (addrOf IVINA.IV_CTRL_LEN_EN (pIVINA s) 0)) :=
  (writeTo_takes t _).trans (congrArg (Hw.fabricUse · _) (if_pos (by simp [kernel, may])))

/-- A write of LEN_EN with 0 re-enables nothing. -/
theorem lenEnWrite_clears {h : Hw} {m : Master} {s : StationNo} (t : h.takes m (addrOf IVINA.IV_CTRL_LEN_EN (pIVINA s) 0) = true) :
    lenEnWrite m s false h =
      (h.wr (pIVINA s) IVINA.IV_CTRL_LEN_EN 0).fabricUse (pageBase (addrOf IVINA.IV_CTRL_LEN_EN (pIVINA s) 0)) :=
  (writeTo_takes t _).trans (congrArg (Hw.fabricUse · _) (if_neg (by simp)))

/-- Settles O38: each command's effect where its condition holds. That a lane of a peer port fails beyond 64 uncorrectable codewords is the
model's choice (log entry 54), and so is when a lane leaves QUARANTINE (log entry 129). -/
theorem laneCommandsComplete : Obligations.LaneCommandsComplete := by
  refine ⟨fun s l k m t record detects type lane named aligned => ?ts1,
    fun s l k m t record negotiates type lane named common enough => ?ts2,
    fun s l k m t record held type lane named common sufficient => ?ts2Released,
    fun s l k m t record confirms type lane named agreed => ?ts3, fun s l k detects => ?detectTimeout,
    fun s l k negotiates => ?negotiateTimeout, fun s l k confirms => ?confirmTimeout, fun s l k failed => ?failedTimeout,
    fun s l k am fields skew corrected a lane record valid close => ?alignmentValid,
    fun s l k am fields skew corrected lane record => ?alignmentWrong, fun s l k => rfl, fun s l k active => ?signalLossActive,
    fun s l k idle => ?signalLossIdle, fun s k pos others q active => ?uncorrectablePeer, fun s k pos others q active => ?uncorrectableHead,
    fun s stn u k lowest => ?timeSync, fun s m l t => ?retrain, fun s m stn en lanes t => ?ivEnWrite, fun s m p en lanes t => ?prEnWrite,
    fun s m stn t kernel may => ?lenPermitted, fun s m stn t => ?lenCleared⟩
  case ts1 => exact congrArg (finish s) (ivinaTs1_negotiates record detects type lane named aligned)
  case ts2 => exact congrArg (finish s) (ivinaTs2_confirms record negotiates type lane named common enough)
  case ts2Released => exact congrArg (finish s) (ivinaTs2_released record held type lane named common sufficient)
  case ts3 => exact congrArg (finish s) (ivinaTs3_counts record confirms type lane named agreed)
  case detectTimeout => exact finish_if_pos detects _ _ _
  case negotiateTimeout => exact finish_if_pos negotiates _ _ _
  case confirmTimeout => exact finish_if_pos confirms _ _ _
  case failedTimeout => exact finish_if_pos failed _ _ _
  case alignmentValid => exact congrArg (finish s) (alignmentCodeword_valid _ lane record valid close)
  case alignmentWrong => exact congrArg (finish s) (alignmentCodeword_wrong _ _ lane record)
  case signalLossActive => exact finish_if_pos active _ _ _
  case signalLossIdle => exact congrArg (finish s) (if_neg idle)
  case uncorrectablePeer => exact congrArg (finish s) (codewordUncorrectable_peer _ others active)
  case uncorrectableHead => exact congrArg (finish s) (codewordUncorrectable_head _ others active)
  case timeSync => exact congrArg (finish s) (timeSync_sent lowest)
  case retrain => exact congrArg (finish s) (writeTo_takes t _)
  case ivEnWrite => exact congrArg (finish s) (writeTo_takes t _)
  case prEnWrite => exact congrArg (finish s) (prEnWrite_taken en _ t)
  case lenPermitted => exact congrArg (finish s) (lenEnWrite_permits t kernel may)
  case lenCleared => exact congrArg (finish s) (lenEnWrite_clears t)

end Sys2Proof.Machine
end

section
/-! Encoder channels and divided outputs (R227–R233, R236, R237, R239): what each command answers. -/

namespace Sys2Proof.Machine

/-! ### Signed codes -/

theorem signed_unsignedOf {w : Nat} {z : Int} (wide : 0 < w) (low : -(2 ^ (w - 1) : Nat) ≤ z) (high : z ≤ (2 ^ (w - 1) : Nat) - 1) :
    signed w (unsignedOf w z) = z := by
  obtain ⟨k, rfl⟩ : ∃ k, w = k + 1 := ⟨w - 1, by omega⟩
  unfold signed unsignedOf
  simp only [Nat.add_sub_cancel, pow_succ, Nat.mul_comm _ 2] at low high ⊢
  generalize 2 ^ k = m at low high ⊢
  rcases lt_or_ge z 0 with neg | nonneg
  · have code : z % (2 * m : Nat) = z + (2 * m : Nat) := by
      rw [← Int.add_emod_right, Int.emod_eq_of_lt (by omega) (by omega)]
    rw [code, Nat.mod_eq_of_lt (by omega), if_neg (by omega)]
    omega
  · have code : z % (2 * m : Nat) = z := Int.emod_eq_of_lt nonneg (by omega)
    rw [code, Nat.mod_eq_of_lt (by omega), if_pos (by omega)]
    omega

theorem clampI_range {lo hi : Int} (z : Int) (order : lo ≤ hi) : lo ≤ clampI lo hi z ∧ clampI lo hi z ≤ hi := by
  unfold clampI
  split
  · omega
  · split <;> omega

theorem clampI_of_range {lo hi z : Int} (low : lo ≤ z) (high : z ≤ hi) : clampI lo hi z = z :=
  (if_neg (Int.not_lt.mpr low)).trans (if_neg (Int.not_lt.mpr high))

/-- The value a saturating code stands for has that code. -/
theorem satSigned_signed_satSigned {w : Nat} (wide : 0 < w) (z : Int) : satSigned w (signed w (satSigned w z)) = satSigned w z := by
  have := Nat.two_pow_pos (w - 1)
  obtain ⟨low, high⟩ := clampI_range (lo := -(2 ^ (w - 1) : Nat)) (hi := (2 ^ (w - 1) : Nat) - 1) z (by omega)
  unfold satSigned
  rw [signed_unsignedOf wide low high, clampI_of_range low high]

/-! ### Registers of one copy, and the channels' inner states -/

/-- Writing one copy of a field leaves the same copy of a field in other bits, or in another register of the same stride. -/
theorem rdi_wri_other_of_same_copy (h : Hw) (p : Nat) {f g : Field} (i v : Nat) (stride : g.stride = f.stride)
    (share : g.off ≠ f.off ∨ g.hi < f.lo ∨ f.hi < g.lo) (hf : f.hi < 32) (hl : f.lo ≤ f.hi) (hg : g.hi < 32) :
    (h.wri p f i v).rdi p g i = h.rdi p g i := by
  refine rdi_wri_other h p f i v p g i hf hl hg (share.imp_left fun off e => ?_)
  unfold addrOf at e
  rw [stride] at e
  omega

@[simp] theorem encSt_modEnc_same (h : Hw) (c : Nat) (f : Enc → Enc) : (h.modEnc c f).encSt c = f (h.encSt c) := by
  simp [Hw.encSt, Hw.modEnc]

@[simp] theorem modSurf_encs (h : Hw) (s : Nat) (f : Surf → Surf) : (h.modSurf s f).encs = h.encs := rfl

theorem encSt_of_encs {h g : Hw} (e : g.encs = h.encs) (c : Nat) : g.encSt c = h.encSt c := congrArg (tget _ · c) e

theorem raise_encs (h : Hw) (p i : Nat) (c : Cap) : (h.raise p i c).encs = h.encs := by
  obtain ⟨_, _, _, _, _, _, _, e⟩ := says_raise h p i c
  rw [e]

/-! ### Counts (R227–R229) -/

/-- An edge of one of A and B on a channel that counts: the levels follow, and the edge counts as its mode has it. -/
theorem encoderCount_edge {h : Hw} {c : Nat} {a b : Bool} (t : Stamp) (counts : h.encCounts c = true)
    (single : (h.encSt c).a ≠ a ↔ (h.encSt c).b = b) : encoderCount c a b t h =
      (let e := h.encSt c
      let q := quadrature (h.enc c FEEDBACK.CH_CFG_MODE) e.a e.b a b
      let u := (h.encFast c t).encLevels c a b t
      if q.1 then u.encStep c (q.2 != u.encIs c FEEDBACK.CH_CFG_DIR_INV) t else u) := by
  have moved : ¬((h.encSt c).a == a && (h.encSt c).b == b) = true := by
    simp only [Bool.and_eq_true, beq_iff_eq, not_and]
    exact fun same low => single.mpr low same
  have alone : ¬((h.encSt c).a != a && (h.encSt c).b != b) = true := by
    simp only [Bool.and_eq_true, bne_iff_ne, not_and, not_not]
    exact single.mp
  exact (if_neg moved).trans ((if_neg alone).trans (if_neg (by simp [counts])))

theorem encoderIllegal_counts {h : Hw} {c : Nat} (t : Stamp) (counts : h.encCounts c = true) : encoderIllegal c t h =
    (let u := (h.encFast c t).encLevels c (!(h.encSt c).a) (!(h.encSt c).b) t
    ((((u.encWr c FEEDBACK.CH_STS_ILLEGAL 1).inci (fbPage c) FEEDBACK.ERR_CNT (c % 8)).encValid c false).encJudge c).raise
      (fbPage c) 1 (fbCap c)) := by
  simp [encoderIllegal, counts]

theorem encoderSignalLoss_watched {h : Hw} {c line : Nat} (en : h.encIs c FEEDBACK.CH_CFG_LOSS_EN = true) (runs : h.runs (fbPage c) = true)
    (watches : h.encWatches c line = true) :
    encoderSignalLoss c line h = ((h.encWr c FEEDBACK.CH_STS_LOSS 1).encJudge c).raise (fbPage c) 0 (fbCap c) :=
  if_neg (by simp [en, runs, watches])

/-! ### Index edges (R230) -/

theorem surfJudge_encs (h : Hw) (s : Nat) : (h.surfJudge s).encs = h.encs := by
  unfold Hw.surfJudge
  split <;> simp

theorem rhoMeasure_encs (h : Hw) (s : Nat) : (h.rhoMeasure s).encs = h.encs := by
  unfold Hw.rhoMeasure
  simp only [modSurf_encs]
  split
  · rfl
  · split <;> exact wri_encs _ _ _ _ _

/-- An index edge on a channel that counts latches POS as the count of its tick left it. -/
theorem encoderIndex_latches {h : Hw} {c : Nat} {a b : Bool} {t : Stamp} (counts : (encoderCount c a b t h).encCounts c = true) :
    ((encoderIndex c a b t h).encSt c).idxAt = some ((encoderCount c a b t h).encSt c).pos := by
  unfold encoderIndex
  extract_lets g pos prev g1 g2 latched per checked
  rw [if_neg (by simp [g, counts])]
  have raised : checked.encs = latched.encs := by
    clear_value prev
    cases prev with
    | none => rfl
    | some q =>
      simp only [checked]
      split
      · exact raise_encs _ _ _ _
      · rfl
  have kept : ∀ f, (∀ s (k : Hw), k.encs = latched.encs → (f s k).encs = latched.encs) →
      ((forN 8 f checked).encSt c).idxAt = some pos := fun f step => by
    rw [encSt_of_encs (forN_keeps (fun k : Hw => k.encs = latched.encs) _ f _ raised step), encSt_modEnc_same]
  refine kept _ fun s k e => ?_
  split
  · rw [surfJudge_encs, rhoMeasure_encs, modSurf_encs, e]
  · exact e

/-! ### BiSS-C (R231–R233) -/

/-- What a good sample v of the given width at t does to POS after the last good one: a first sample only stands, another steps POS or
jumps too far and is skipped. -/
def Hw.bissMove (h : Hw) (c : Nat) (t : Stamp) (bits v : Nat) (last : Option Nat) : Hw :=
  match last with
  | none => h.modEnc c fun e => { e with good := (t, e.pos) :: e.good }
  | some y =>
    let d := bissDiff bits v y
    if 2 ^ (bits - 2) < d.natAbs then ((h.encWr c FEEDBACK.CH_STS_BISS_ERR 1).encValid c false).raise (fbPage c) 6 (fbCap c)
    else (Hw.encSteps c (decide (0 < d) != h.encIs c FEEDBACK.CH_CFG_DIR_INV) t d.natAbs h).modEnc c fun e =>
      { e with good := (t, e.pos) :: e.good }

/-- A frame that is late, wrong, marked bad or not released is counted and skipped. -/
theorem bissFrame_bad {h : Hw} {c : Nat} {t : Stamp} {started released : Bool} {frame : List Bool} {delay : Nat} (on : h.encOn c = true)
    (mode : h.enc c FEEDBACK.CH_CFG_MODE = 3)
    (bad : (let x := bissData (clampN 8 40 (h.enc c FEEDBACK.BISS_CFG_BITS)) frame
      started && x.crcOk && x.nE && released) = false) : bissFrame c t started released frame delay h =
      (let u := if started then h.encWr c FEEDBACK.BISS_DELAY (delay % 65536) else h
      ((((u.modEnc c fun e => { e with badRun := e.badRun + 1 }).encWr c FEEDBACK.CH_STS_BISS_ERR 1).inci (fbPage c) FEEDBACK.ERR_CNT
        (c % 8)).encJudge c).raise (fbPage c) 3 (fbCap c)) := by
  unfold bissFrame
  extract_lets bits x u
  rw [if_neg (by simp [on, mode]), if_pos]
  simp only [← Bool.not_and]
  exact (Bool.not_eq_true' _).mpr bad

/-- A good frame shows its warning, ends a run of bad ones and moves POS. -/
theorem bissFrame_good {h : Hw} {c : Nat} {t : Stamp} {frame : List Bool} {delay : Nat} {x : BissData} (on : h.encOn c = true)
    (mode : h.enc c FEEDBACK.CH_CFG_MODE = 3) (data : bissData (clampN 8 40 (h.enc c FEEDBACK.BISS_CFG_BITS)) frame = x)
    (crc : x.crcOk = true) (healthy : x.nE = true) : bissFrame c t true true frame delay h =
      (let u := (h.encWr c FEEDBACK.BISS_DELAY (delay % 65536)).encWr c FEEDBACK.CH_STS_WARN (b2n (!x.nW))
      let w := (u.modEnc c fun e => { e with badRun := 0, lastGood := some x.value }).encJudge c
      w.bissMove c t (clampN 8 40 (h.enc c FEEDBACK.BISS_CFG_BITS)) x.value (u.encSt c).lastGood) := by
  subst data
  exact (if_neg (by simp [on, mode])).trans (if_neg (by simp [crc, healthy]))

/-! ### Staged values of a channel (R480) -/

/-- The hardware g is h but for the values in use of staged fields. -/
def TakesShadows (h g : Hw) : Prop := ∃ u, g = { h with used := u }

theorem takesShadows_applyRows (h : Hw) (p q : Nat) (sel : FieldRow → Nat → Bool) : TakesShadows h (h.applyRows p q sel) := by
  have applies : ∀ {g : Hw} r i, TakesShadows h g → TakesShadows h (if sel r i then g.applyField p r.fld i q else g) := by
    rintro _ r i ⟨u, rfl⟩
    split
    · exact ⟨_, rfl⟩
    · exact ⟨u, rfl⟩
  exact List.foldlRecOn (motive := TakesShadows h) _ _ ⟨h.used, rfl⟩ fun g e r _ =>
    forN_keeps (TakesShadows h) _ _ _ e fun i _ => applies r i

theorem takesShadows_takeShadows (h : Hw) (p u : Nat) : TakesShadows h (h.takeShadows p u) := by
  unfold Hw.takeShadows
  split <;> exact takesShadows_applyRows _ _ _ _

theorem showPending_encs (h : Hw) (p : Nat) : (h.showPending p).encs = h.encs := by
  unfold Hw.showPending
  extract_lets v g
  split <;> simp [g]

theorem showPending_inReset (h : Hw) (p : Nat) :
    (h.showPending p).is p FACE.PAGE_STS_IN_RESET = h.is p FACE.PAGE_STS_IN_RESET := by
  have pending : ∀ v, (h.wr p FACE.PAGE_STS_COMMIT_PENDING v).is p FACE.PAGE_STS_IN_RESET = h.is p FACE.PAGE_STS_IN_RESET :=
    fun v => is_wr_other _ _ _ _ _ _ (.inr (by decide))
  unfold Hw.showPending
  extract_lets v g
  split
  · exact (is_wr_other _ _ _ _ _ _ (.inl (by simp [addrOf, FACE.PAGE_STS_IN_RESET, GOV.GV_STS_COMMIT_WAIT]))).trans (pending v)
  · exact pending v

/-- A unit's boundary leaves the encoders' inner states, and whether the page is in reset. -/
theorem unitBoundary_keeps (h : Hw) (p u : Nat) : (h.unitBoundary p u).encs = h.encs
    ∧ (h.unitBoundary p u).is p FACE.PAGE_STS_IN_RESET = h.is p FACE.PAGE_STS_IN_RESET := by
  obtain ⟨used, e⟩ := takesShadows_takeShadows h p u
  unfold Hw.unitBoundary
  split
  · rw [e]
    exact ⟨showPending_encs _ _, showPending_inReset _ _⟩
  · exact ⟨rfl, rfl⟩

/-! ### Speed (R237, R238) -/

/-- What a speed update writes: SPEED, ACCEL and the method, and the history of each. -/
theorem speedUpdate_writes {h : Hw} {c : Nat} (t : Stamp) (lives : h.encLives c = true) :
    ∃ (g : Hw) (v : Int) (accel method : Nat) (f : Enc → Enc), g.encs = h.encs
      ∧ (∀ e, (f e).speeds = (signed 32 (satSigned 32 v) :: e.speeds).take 64)
      ∧ speedUpdate c t h = (((g.encWr c FEEDBACK.SPEED (satSigned 32 v)).encWr c FEEDBACK.ACCEL accel).encWr c
        FEEDBACK.CH_STS_METHOD method).modEnc c f := by
  obtain ⟨encs, reset⟩ := unitBoundary_keeps h (fbPage c) (c % 8)
  unfold speedUpdate
  extract_lets g e win mode w hi lo window samples s f r v k
  have alive : g.encLives c = true := by rw [← lives, Hw.encLives, reset, ← Hw.encLives]
  rw [if_neg (by simp [alive])]
  have free : k.encs = g.encs := by
    clear_value s
    cases s <;> rfl
  exact ⟨k, v, _, _, _, free.trans encs, fun _ => rfl, rfl⟩

theorem speedUpdate_speeds {h : Hw} {c : Nat} (t : Stamp) (lives : h.encLives c = true) :
    ((speedUpdate c t h).encSt c).speeds.length = min 64 ((h.encSt c).speeds.length + 1) := by
  obtain ⟨g, v, accel, method, f, encs, speeds, e⟩ := speedUpdate_writes t lives
  rw [e, encSt_modEnc_same, speeds, List.length_take, List.length_cons]
  simp [Hw.encWr, Hw.encSt, encs]

/-- SPEED shows the newest speed of the history. -/
theorem speedUpdate_speed {h : Hw} {c : Nat} (t : Stamp) (lives : h.encLives c = true) : (speedUpdate c t h).enc c FEEDBACK.SPEED
    = satSigned 32 (((speedUpdate c t h).encSt c).speeds.headD 0) := by
  obtain ⟨g, v, accel, method, f, -, speeds, e⟩ := speedUpdate_writes t lives
  have shown : (speedUpdate c t h).enc c FEEDBACK.SPEED = satSigned 32 v % 2 ^ 32 := by
    rw [e]
    show (((g.encWr c FEEDBACK.SPEED _).encWr c FEEDBACK.ACCEL _).encWr c FEEDBACK.CH_STS_METHOD _).enc c FEEDBACK.SPEED = _
    simp (disch := decide) only [Hw.enc, Hw.encWr, rdi_wri_other_of_same_copy]
    exact rdi_wri_same _ _ _ _ _
  rw [shown, e, encSt_modEnc_same, speeds, List.take_succ_cons, List.headD_cons, satSigned_signed_satSigned (by decide)]
  refine Nat.mod_eq_of_lt ?_
  unfold satSigned unsignedOf
  omega

theorem encoderStall_stops {h : Hw} {c : Nat} (lives : h.encLives c = true) :
    encoderStall c h = (h.encWr c FEEDBACK.SPEED 0).encWr c FEEDBACK.CH_STS_STOPPED 1 := if_neg (by simp [lives])

/-! ### Divided outputs (R239) -/

/-- The oldest count held back leaves X6. -/
theorem divOutputEdge_leaves {h : Hw} {d : Nat} {t : Stamp} {x : Bool} {xs : List Bool} (held : (h.divSt d).backlog = x :: xs)
    (on : h.divOn d = true) (free : h.divFree d t = true) : divOutputEdge d t h =
      ((h.modDiv d fun o => { o with backlog := xs }).wri (pFEEDBACK 2) FEEDBACK.DIV_STS_BACKLOG d xs.length).divEdge d x t := by
  unfold divOutputEdge
  rw [held]
  exact if_pos (by simp [on, free])

/-- What a write of DIV_CFG with EN 0 leaves of a disabled output: SRC, INV and MIN_SP as written, and the output still off. -/
def Hw.divConfigured (h : Hw) (d : Nat) (w : Word) : Hw :=
  ((((h.wri (pFEEDBACK 2) FEEDBACK.DIV_CFG_SRC d (bitsOf w 5 1)).wri (pFEEDBACK 2) FEEDBACK.DIV_CFG_INV d (bitsOf w 6 6)).wri (pFEEDBACK 2)
    FEEDBACK.DIV_CFG_MIN_SP d (bitsOf w 15 8)).wri (pFEEDBACK 2) FEEDBACK.DIV_CFG_EN d 0).wri (pFEEDBACK 2) FEEDBACK.DIV_STS_RUNNING d 0

theorem divCfgWrite_configures {h : Hw} {m : Master} {d : Nat} {w : Word}
    (t : h.takes m (addrOf FEEDBACK.DIV_CFG_EN (pFEEDBACK 2) d) = true) (den : h.div d FEEDBACK.DIV_DEN ≠ 0)
    (proper : h.div d FEEDBACK.DIV_NUM ≤ h.div d FEEDBACK.DIV_DEN) (was : h.div d FEEDBACK.DIV_CFG_EN = 0) (off : w &&& 1 = 0) :
    divCfgWrite m d w h = (h.divConfigured d w).fabricUse (pageBase (addrOf FEEDBACK.DIV_CFG_EN (pFEEDBACK 2) d)) := by
  unfold divCfgWrite
  extract_lets p en
  have disables : en = 0 := by
    have low := congrArg BitVec.toNat off
    rw [BitVec.toNat_and, show (1 : Word).toNat = 1 from rfl, Nat.and_one_is_mod] at low
    simpa [en, bitsOf] using low
  rw [writeTo_takes t]
  simp [den, Nat.not_lt.mpr proper, disables, was, Hw.divConfigured, p]

theorem divConfigured_src (h : Hw) (d : Nat) (w : Word) : (h.divConfigured d w).div d FEEDBACK.DIV_CFG_SRC = bitsOf w 5 1 := by
  simp (disch := decide) only [Hw.div, Hw.divConfigured, rdi_wri_other_of_same_copy]
  rw [rdi_wri_same _ _ FEEDBACK.DIV_CFG_SRC]
  exact Nat.mod_eq_of_lt (Nat.mod_lt _ (by decide))

theorem divConfigured_en (h : Hw) (d : Nat) (w : Word) : (h.divConfigured d w).div d FEEDBACK.DIV_CFG_EN = 0 := by
  simp (disch := decide) only [Hw.div, Hw.divConfigured, rdi_wri_other_of_same_copy]
  exact rdi_wri_same _ _ _ _ _

theorem divConfigured_running (h : Hw) (d : Nat) (w : Word) : (h.divConfigured d w).div d FEEDBACK.DIV_STS_RUNNING = 0 :=
  rdi_wri_same _ _ _ _ _

/-! ### Register writes of a channel (R236, R240) -/

theorem encoderEnWrite_disables {h : Hw} {m : Master} {c : Nat} (t : h.takes m (addrOf FEEDBACK.CH_CFG_EN (fbPage c) (c % 8)) = true) :
    encoderEnWrite m c false h = (((h.encWr c FEEDBACK.CH_CFG_EN 0).encJudge c).surfJudgeCh c).fabricUse
      (pageBase (addrOf FEEDBACK.CH_CFG_EN (fbPage c) (c % 8))) :=
 by
  unfold encoderEnWrite
  rw [writeTo_takes t]
  simp [b2n]

theorem encoderEnWrite_enables {h : Hw} {m : Master} {c : Nat} (t : h.takes m (addrOf FEEDBACK.CH_CFG_EN (fbPage c) (c % 8)) = true)
    (was : h.encIs c FEEDBACK.CH_CFG_EN = false) : encoderEnWrite m c true h =
      ((h.encWr c FEEDBACK.CH_CFG_EN 1).encValid c true).fabricUse (pageBase (addrOf FEEDBACK.CH_CFG_EN (fbPage c) (c % 8))) :=
  (writeTo_takes t _).trans (congrArg (Hw.fabricUse · _) (if_pos (by simp [was])))

/-- Settles O39: each command's effect where its condition holds. -/
theorem encoderCommandsComplete : Obligations.EncoderCommandsComplete := by
  refine ⟨fun s c a b t counts ea eb => ?countA, fun s c a b t counts ea eb => ?countB, fun s c t counts => ?illegal,
    fun s c line en runs watches => ?signalLoss, fun s c a b t before counts => ?index, fun s c on mode => ?bissCycle,
    fun s c t started released position nE nW crc delay on mode bad => ?bissBad,
    fun s c t position nE nW crc delay x on mode data crcOk healthy => ?bissGood, fun s c t lives => ?speed, fun s c lives => ?stall,
    fun s d t x xs held on free => ?divEdge, fun s m d w t den proper was off => ?divCfg, fun s m c t => ?errClear,
    fun s c => finish_eq s _, fun s c => finish_eq s _, fun s m c t => ?disable, fun s m c t was => ?enable⟩
  case countA => exact congrArg (finish s) (encoderCount_edge t counts ⟨fun _ => eb, fun _ => ea⟩)
  case countB => exact congrArg (finish s) (encoderCount_edge t counts ⟨fun e => absurd ea e, fun e => absurd e eb⟩)
  case illegal => exact congrArg (finish s) (encoderIllegal_counts t counts)
  case signalLoss => exact congrArg (finish s) (encoderSignalLoss_watched en runs watches)
  case index => exact ⟨_, finish_eq s _, encoderIndex_latches counts⟩
  case bissCycle => exact finish_if_pos (by simp [on, mode]) _ _ _
  case bissBad => exact congrArg (finish s) (bissFrame_bad on mode bad)
  case bissGood => exact congrArg (finish s) (bissFrame_good on mode data crcOk healthy)
  case speed => exact ⟨_, finish_eq s _, speedUpdate_speeds t lives, speedUpdate_speed t lives⟩
  case stall => exact congrArg (finish s) (encoderStall_stops lives)
  case divEdge => exact congrArg (finish s) (divOutputEdge_leaves held on free)
  case divCfg =>
    exact ⟨_, congrArg (finish s) (divCfgWrite_configures t den proper was off), divConfigured_src _ _ _, divConfigured_en _ _ _,
      divConfigured_running _ _ _⟩
  case errClear => exact congrArg (finish s) (writeTo_takes t _)
  case disable => exact congrArg (finish s) (encoderEnWrite_disables t)
  case enable => exact congrArg (finish s) (encoderEnWrite_enables t was)

end Sys2Proof.Machine
end

section
/-! Enabling and starting a motor axis (R249, R252, R253, R256–R258): what each command answers. -/

namespace Sys2Proof.Machine

/-- The axis as a write of EN 1 finds it once the bit stands: the engine kernel's own write has re-armed the unit. -/
def Hw.axArmed (h : Hw) (m : Master) (n : Nat) : Hw :=
  if isKernel m then (h.wr (pAXIS n) AXIS.AX_CTRL_EN 1).rearmUnit (axisBank n) (axisBridge n) else h.wr (pAXIS n) AXIS.AX_CTRL_EN 1

/-- EN 1 in OFF, with MBUS up, goes on from the armed axis: a unit whose ENABLE is held low reports STAGE_OFF, another starts. -/
theorem axisEnable_of_off {h : Hw} {n : Nat} (m : Master) (off : h.axState n = 0) (mbus : h.is (pAXIS n) AXIS.AX_STS_MBUS_LOW = false) :
    h.axisEnable n (isKernel m) =
      if (h.axArmed m n).stageHeld (axisBank n) (axisBridge n) then (h.axArmed m n).axStageOff n
      else if isPoly n then (h.axArmed m n).axEnter n 1 else (h.axArmed m n).axEnter n 3 :=
  if_neg (by simp [off, mbus])

theorem axisEnWrite_takes {h : Hw} {m : Master} {n : Nat} (v : Bool) (t : h.takes m (addrOf AXIS.AX_CTRL_EN (pAXIS n) 0) = true) :
    axisEnWrite m n v h = (if v then h.axisEnable n (isKernel m) else (h.wr (pAXIS n) AXIS.AX_CTRL_EN 0).axOff n).fabricUse
      (pageBase (addrOf AXIS.AX_CTRL_EN (pAXIS n) 0)) := by
  unfold axisEnWrite
  rw [writeTo_takes t]

theorem axisEnWrite_stops {h : Hw} {m : Master} {n : Nat} (t : h.takes m (addrOf AXIS.AX_CTRL_EN (pAXIS n) 0) = true) :
    axisEnWrite m n false h =
      ((h.wr (pAXIS n) AXIS.AX_CTRL_EN 0).axOff n).fabricUse (pageBase (addrOf AXIS.AX_CTRL_EN (pAXIS n) 0)) := by
  rw [axisEnWrite_takes false t, if_neg Bool.false_ne_true]

/-- A taken write of EN 1 in OFF, with MBUS up and ENABLE not held, starts the axis: a polygon in CATCH, another in PRECHARGE. -/
theorem axisEnWrite_starts {h : Hw} {m : Master} {n : Nat} (t : h.takes m (addrOf AXIS.AX_CTRL_EN (pAXIS n) 0) = true)
    (off : h.axState n = 0) (mbus : h.is (pAXIS n) AXIS.AX_STS_MBUS_LOW = false)
    (free : (h.axArmed m n).stageHeld (axisBank n) (axisBridge n) = false) : axisEnWrite m n true h =
      (if isPoly n then (h.axArmed m n).axEnter n 1 else (h.axArmed m n).axEnter n 3).fabricUse
        (pageBase (addrOf AXIS.AX_CTRL_EN (pAXIS n) 0)) := by
  rw [axisEnWrite_takes true t, if_pos rfl, axisEnable_of_off m off mbus, if_neg (ne_true_of_eq_false free)]

/-- The same write with ENABLE held low by the gate stage reports STAGE_OFF. -/
theorem axisEnWrite_held {h : Hw} {m : Master} {n : Nat} (t : h.takes m (addrOf AXIS.AX_CTRL_EN (pAXIS n) 0) = true)
    (off : h.axState n = 0) (mbus : h.is (pAXIS n) AXIS.AX_STS_MBUS_LOW = false)
    (held : (h.axArmed m n).stageHeld (axisBank n) (axisBridge n) = true) : axisEnWrite m n true h =
      ((h.axArmed m n).axStageOff n).fabricUse (pageBase (addrOf AXIS.AX_CTRL_EN (pAXIS n) 0)) := by
  rw [axisEnWrite_takes true t, if_pos rfl, axisEnable_of_off m off mbus, if_pos held]

theorem alignReq_kept {h : Hw} {m : Master} {n : Nat} (t : h.takes m (addrOf AXIS.AX_CTRL_ALIGN_REQ (pAXIS n) 0) = true)
    (encoder : isPoly n = false) : alignReq m n h =
      (h.wr (pAXIS n) AXIS.AX_CTRL_ALIGN_REQ 1).fabricUse (pageBase (addrOf AXIS.AX_CTRL_ALIGN_REQ (pAXIS n) 0)) := by
  unfold alignReq
  rw [writeTo_takes t, if_neg (ne_true_of_eq_false encoder)]

/-- The end of ALIGN takes a polygon to its ramp from angle 0. -/
theorem alignDone_poly {h : Hw} {n : Nat} (aligning : h.axState n = 4) (poly : isPoly n = true) :
    alignDone n h = (h.axEnter n 5).modAx n fun a => { a with theta := 0 } :=
  (if_neg (not_not.mpr aligning)).trans (if_pos poly)

/-- The end of ALIGN takes an encoder axis to RUN, with ELEC_OFS measured and in use. -/
theorem alignDone_encoder {h : Hw} {n : Nat} (aligning : h.axState n = 4) (encoder : isPoly n = false) : alignDone n h =
    let u := h.wr (pAXIS n) AXIS.ELEC_OFS ((65536 - h.axEncAngle n) % 65536)
    ({ u with used := tset usedReset u.used (addrOf AXIS.ELEC_OFS (pAXIS n) 0) (u.word (addrOf AXIS.ELEC_OFS (pAXIS n) 0)) }.wr
      (pAXIS n) AXIS.AX_STS_OFS_VALID 1).axRun n false :=
  (if_neg (not_not.mpr aligning)).trans (if_neg (ne_true_of_eq_false encoder))

/-- Settles O40: each command's effect where its condition holds. That the engine kernel's own write re-arms the unit, and that a held unit
reports STAGE_OFF, are the model's choices (logs 34 and 89). -/
theorem axisEnableCommandsComplete : Obligations.AxisEnableCommandsComplete := by
  refine ⟨fun s m n t => ?stops, fun s m n t off mbus free => ?starts, fun s m n t off mbus held => ?stageOff,
    fun s m n t encoder => ?alignReq, fun s n speed theta amp catching => ?measured, fun s n speed theta amp waiting => ?remeasured,
    fun s n waiting => ?waitOver, fun s n charging => ?charged, fun s n charging => ?notCharged, fun s n aligning poly => ?alignedPoly,
    fun s n aligning encoder => ?alignedEncoder, fun s n ramping => ?handoverLate⟩
  case stops => exact congrArg (finish s) (axisEnWrite_stops t)
  case starts => exact congrArg (finish s) (axisEnWrite_starts t off mbus free)
  case stageOff => exact congrArg (finish s) (axisEnWrite_held t off mbus held)
  case alignReq => exact congrArg (finish s) (alignReq_kept t encoder)
  case measured => exact finish_if_pos catching _ _ _
  case remeasured => exact finish_if_pos waiting _ _ _
  case waitOver => exact finish_if_pos waiting _ _ _
  case charged => exact congrArg (finish s) (if_neg (not_not.mpr charging))
  case notCharged => exact finish_if_pos charging _ _ _
  case alignedPoly => exact congrArg (finish s) (alignDone_poly aligning poly)
  case alignedEncoder => exact congrArg (finish s) (alignDone_encoder aligning encoder)
  case handoverLate => exact finish_if_pos ramping _ _ _

end Sys2Proof.Machine
end

section
/-! The running axis (R242, R246, R248, R250, R251, R255, R258, R390): what each command answers. -/

namespace Sys2Proof.Machine

/-! ### A PWM period (R242, R246, R248, R250, R251) -/

/-- The angle that a period of an axis that does not drive shows: the observer's, for a polygon outside PRECHARGE. -/
def Hw.axIdleAngle (h : Hw) (n : Nat) (obsTheta : BitVec 16) : Hw :=
  if isPoly n && decide (h.axState n ≠ 3) then h.wr (pAXIS n) AXIS.ANGLE_THETA (obsTheta.toNat % 65536) else h

/-- A period of an axis that has begun and meets no trip: the newest reference and the angle are taken, and the currents judged. -/
def AxStart.drive (b : AxStart) (n : Nat) (codeA codeB vbus obsTheta : BitVec 16) (obsSpeed : BitVec 32) (t : Stamp) : Hw :=
  let c := b.hw.axLatchQ n t
  let th := c.axAngle n obsTheta.toNat
  let u := (c.modAx n fun x => { x with theta := th, periods := x.periods + 1 }).wr (pAXIS n) AXIS.ANGLE_THETA th
  u.axPeriod n b.trips b.ofs b.speed codeA.toInt codeB.toInt vbus.toNat obsTheta.toNat obsSpeed.toInt (c.ax n).theta th t

section
variable {h : Hw} {n : Nat} (codeA codeB : BitVec 16) {zero : BitVec 16} (vbus obsTheta : BitVec 16) {obsSpeed : BitVec 32} {t : Stamp}
  {b : AxStart}

/-- The period as its beginning leaves it, judged in the order of R258. -/
theorem axisPeriodStart_eq (begun : h.axBegin n zero.toInt obsSpeed.toInt t = b) :
    axisPeriodStart n codeA.toInt codeB.toInt zero.toInt vbus.toNat obsTheta.toNat obsSpeed.toInt t h =
      if !b.hw.runs (pAXIS n) then b.hw
      else if !modulates (b.hw.axState n) then
        if 1 ≤ b.hw.axState n ∧ b.hw.axState n ≤ 3 ∧ (b.hw.axIdleAngle n obsTheta).overSpeed n b.speed then
          (b.hw.axIdleAngle n obsTheta).axFault n 1 6
        else b.hw.axIdleAngle n obsTheta
      else if b.hw.overCurrent n (!b.trips.isEmpty) b.ofs codeA.toInt codeB.toInt then b.hw.axFault n 0 0
      else if b.hw.overSpeed n b.speed then b.hw.axFault n 1 6
      else if isPoly n && decide (b.hw.axState n = 7) && decide (obsSpeed.toInt < 9600) then b.hw.axFault n 1 2
      else b.drive n codeA codeB vbus obsTheta obsSpeed t := by
  subst begun
  rfl

theorem axisPeriodStart_halted (begun : h.axBegin n zero.toInt obsSpeed.toInt t = b) (halted : b.hw.runs (pAXIS n) = false) :
    axisPeriodStart n codeA.toInt codeB.toInt zero.toInt vbus.toNat obsTheta.toNat obsSpeed.toInt t h = b.hw := by
  rw [axisPeriodStart_eq codeA codeB vbus obsTheta begun, halted, Bool.not_false, if_pos rfl]

/-- A period of an axis that does not drive measures, and judges the speed in CATCH, WAIT and PRECHARGE. -/
theorem axisPeriodStart_measures (begun : h.axBegin n zero.toInt obsSpeed.toInt t = b) (runs : b.hw.runs (pAXIS n) = true)
    (idle : modulates (b.hw.axState n) = false) :
    axisPeriodStart n codeA.toInt codeB.toInt zero.toInt vbus.toNat obsTheta.toNat obsSpeed.toInt t h =
      if 1 ≤ b.hw.axState n ∧ b.hw.axState n ≤ 3 ∧ (b.hw.axIdleAngle n obsTheta).overSpeed n b.speed then
        (b.hw.axIdleAngle n obsTheta).axFault n 1 6
      else b.hw.axIdleAngle n obsTheta := by
  rw [axisPeriodStart_eq codeA codeB vbus obsTheta begun, runs, idle, Bool.not_true, Bool.not_false, if_neg Bool.false_ne_true, if_pos rfl]

/-- A period of a driving axis is judged for its currents, its speed and a polygon's observer, in this order. -/
theorem axisPeriodStart_driving (begun : h.axBegin n zero.toInt obsSpeed.toInt t = b) (runs : b.hw.runs (pAXIS n) = true)
    (drives : modulates (b.hw.axState n) = true) :
    axisPeriodStart n codeA.toInt codeB.toInt zero.toInt vbus.toNat obsTheta.toNat obsSpeed.toInt t h =
      if b.hw.overCurrent n (!b.trips.isEmpty) b.ofs codeA.toInt codeB.toInt then b.hw.axFault n 0 0
      else if b.hw.overSpeed n b.speed then b.hw.axFault n 1 6
      else if isPoly n && decide (b.hw.axState n = 7) && decide (obsSpeed.toInt < 9600) then b.hw.axFault n 1 2
      else b.drive n codeA codeB vbus obsTheta obsSpeed t := by
  rw [axisPeriodStart_eq codeA codeB vbus obsTheta begun, runs, drives, Bool.not_true, if_neg Bool.false_ne_true,
    if_neg Bool.false_ne_true]

end

/-! ### Starts that are tried again, phase engagement and catch sets (R250, R255, R390) -/

/-- The engine kernel's answer to a failed polygon start: up to three more, then a head fault. -/
theorem polyStartRetry_failed {h : Hw} {n : Nat} (poly : isPoly n = true) (faulted : h.axState n = 8) (kernel : h.kernelRuns = true) :
    polyStartRetry n h = if (h.ax n).retries < 3 then
        axisEnWrite kernelMaster n true (((h.modAx n fun a => { a with retries := a.retries + 1 }).wr (pAXIS n) AXIS.AX_CTRL_EN 0).axOff n)
      else { h with headrace := { h.headrace with headFault := putBit h.headrace.headFault (16 + n) true } } :=
  if_neg (by simp [poly, faulted, kernel])

/-- The phase loop of a locked polygon in RUN near its reference: a faulted phase slot is disabled first, and one that is off is bounded
and enabled. -/
theorem phaseEngage_locked {h : Hw} {n j : Nat} (kernel : h.kernelRuns = true)
    (locked : h.is (pSCANCLK n) SCANCLK.SC_STS_LOCKED = true) (running : h.axState n = 7)
    (near : 10000 * (signed 32 (h.rd (pAXIS n) AXIS.SPEED_EST) - 16 * h.polyRpm h.runGrade).natAbs ≤ 4 * (16 * h.polyRpm h.runGrade))
    (slot : h.phaseSlot n = some j) : phaseEngage n h =
      let u := if h.slIs j GOV.SL_STS_FAULTED then govSlotDisable kernelMaster j h else h
      if u.govEn j then u else govSlotEn kernelMaster j (u.boundOffset j) := by
  unfold phaseEngage
  extract_lets want sp
  have engages : (!h.kernelRuns || !h.is (pSCANCLK n) SCANCLK.SC_STS_LOCKED || decide (h.axState n ≠ 7)
      || decide (4 * want < 10000 * (sp - want).natAbs)) = false := by
    simpa [kernel, locked, running, sp, want] using near
  rw [engages, slot]
  rfl

/-- Settles O41: each command's effect where its condition holds. The bound of the phase offset, the observer's operands and the CRC of the
catch sets are the model's choices (logs 103, 143 and 155). -/
theorem axisRunCommandsComplete : Obligations.AxisRunCommandsComplete := by
  refine ⟨fun s n codeA codeB zero vbus obsTheta obsSpeed t runs idle => ?measures,
    fun s n codeA codeB zero vbus obsTheta obsSpeed t halted => ?halted,
    fun s n codeA codeB zero vbus obsTheta obsSpeed t runs drives exceeds => ?overCurrent,
    fun s n codeA codeB zero vbus obsTheta obsSpeed t runs drives within fast => ?overSpeed,
    fun s n codeA codeB zero vbus obsTheta obsSpeed t runs drives within slow seen => ?drives,
    fun s n handing => ?handoverDone, fun s n poly running => ?observerLoss, fun s n running source silent => ?govSilent,
    fun s n poly faulted kernel => ?retry, fun s n j kernel locked running near slot => ?phaseEngage,
    fun s mask kernel => ?restore, fun s n running => ?store⟩
  case measures => exact congrArg (finish s) (axisPeriodStart_measures codeA codeB vbus obsTheta rfl runs idle)
  case halted => exact congrArg (finish s) (axisPeriodStart_halted codeA codeB vbus obsTheta rfl halted)
  case overCurrent =>
    exact congrArg (finish s) ((axisPeriodStart_driving codeA codeB vbus obsTheta rfl runs drives).trans (if_pos exceeds))
  case overSpeed =>
    refine congrArg (finish s) ((axisPeriodStart_driving codeA codeB vbus obsTheta rfl runs drives).trans ?_)
    rw [if_neg (ne_true_of_eq_false within), if_pos fast]
  case drives =>
    refine congrArg (finish s) ((axisPeriodStart_driving codeA codeB vbus obsTheta rfl runs drives).trans ?_)
    rw [if_neg (ne_true_of_eq_false within), if_neg (ne_true_of_eq_false slow), if_neg (ne_true_of_eq_false seen)]
    rfl
  case handoverDone => exact congrArg (finish s) (if_neg (not_not.mpr handing))
  case observerLoss => exact finish_if_pos (by simp [poly, running]) _ _ _
  case govSilent => exact finish_if_pos ⟨running, source, silent⟩ _ _ _
  case retry => exact congrArg (finish s) (polyStartRetry_failed poly faulted kernel)
  case phaseEngage => exact congrArg (finish s) (phaseEngage_locked kernel locked running near slot)
  case restore => exact congrArg (finish s) (if_neg (by simp [kernel]))
  case store => exact finish_if_pos running _ _ _

end Sys2Proof.Machine
end

section
/-! The switches of a leg (R260, R266, R267, R270, R271): what holds both off, and which one is on. -/

namespace Sys2Proof.Machine

/-! ### ENABLE and PULSE of a leg -/

/-- ENABLE of leg l of bank x at a time, as the gate stage passes it on: high where the modulator has it high and neither a hold of the
bridge nor a trip of the leg takes it low. -/
def Hw.legEnable (h : Hw) (x l : Nat) (t : Stamp) : Bool :=
  let r := h.bridge x (l / bankLegs x)
  (r.enable (h.bridgeCharged x (l / bankLegs x)) t.toNat).1 && !h.stageHeld x (l / bankLegs x)
    && !(r.trips.any fun k => decide (k.leg = l))

/-- The time at t since ENABLE or PULSE of leg l of bank x last changed. -/
def Hw.legSince (h : Hw) (x l : Nat) (t : Stamp) : Nat :=
  let r := h.bridge x (l / bankLegs x)
  t.toNat - max (r.enable (h.bridgeCharged x (l / bankLegs x)) t.toNat).2 (r.lastEdge (l % bankLegs x) t.toNat)

/-- PULSE of leg l of bank x at a time. -/
def Hw.legPulse (h : Hw) (x l : Nat) (t : Stamp) : Bool := (h.bridge x (l / bankLegs x)).pulse (l % bankLegs x) t.toNat

/-- The gate stage holds ENABLE low for a latched bridge, the bank, an E-STOP loop and MBUS (R18, R34, R267, R271, R275). -/
theorem legEnable_held {h : Hw} {x l : Nat} (held : h.stageHeld x (l / bankLegs x) = true) (t : Stamp) : h.legEnable x l t = false := by
  simp [Hw.legEnable, held]

theorem legEnable_undriven {h : Hw} {x l : Nat} (off : (h.bridge x (l / bankLegs x)).drive = .off) (t : Stamp) :
    h.legEnable x l t = false := by
  simp [Hw.legEnable, Bridge.enable, off]

theorem legEnable_tripped {h : Hw} {x l : Nat} (tripped : ((h.bridge x (l / bankLegs x)).trips.any fun k => decide (k.leg = l)) = true)
    (t : Stamp) : h.legEnable x l t = false := by
  simp only [Hw.legEnable, tripped, Bool.not_true, Bool.and_false]

theorem legEnable_driven {h : Hw} {x l : Nat} (on : (h.bridge x (l / bankLegs x)).drive = .on)
    (free : h.stageHeld x (l / bankLegs x) = false)
    (untripped : ((h.bridge x (l / bankLegs x)).trips.any fun k => decide (k.leg = l)) = false) (t : Stamp) :
    h.legEnable x l t = true := by
  simp only [Hw.legEnable, Bridge.enable, on, free, untripped, Bool.not_false, Bool.and_true]

/-! ### The switches -/

/-- The switches of a leg: R260's of its ENABLE and PULSE, with the high side off while BOOT_OK is 0 (R266). -/
theorem legSwitches_eq (h : Hw) (x l : Nat) (t : Stamp) : h.legSwitches x l t =
    let s := switches (h.legEnable x l t) (h.legPulse x l t) (h.legSince x l t) (h.rd (pGATE x) GATE.DEAD_DEAD_NS)
    (s.1 && h.bit (pGATE x) GATE.BOOT_OK l, s.2) := rfl

@[simp] theorem switches_low (pulse : Bool) (since dead : Nat) : switches false pulse since dead = (false, false) := rfl

theorem switches_dead {since dead : Nat} (early : since < 1024 * dead) (enable pulse : Bool) :
    switches enable pulse since dead = (false, false) := if_pos (by simp [early])

theorem switches_settled {since dead : Nat} (late : 1024 * dead ≤ since) (pulse : Bool) :
    switches true pulse since dead = (pulse, !pulse) := if_neg (by simp [late])

/-- The two switches of a leg are off together, or one is on and the other off. -/
theorem switches_cases (enable pulse : Bool) (since dead : Nat) :
    switches enable pulse since dead = (false, false) ∨ switches enable pulse since dead = (pulse, !pulse) := by
  unfold switches
  split
  · exact .inl rfl
  · exact .inr rfl

theorem legSwitches_not_both (h : Hw) (x l : Nat) (t : Stamp) : ¬((h.legSwitches x l t).1 = true ∧ (h.legSwitches x l t).2 = true) := by
  obtain e | e := switches_cases (h.legEnable x l t) (h.legPulse x l t) (h.legSince x l t) (h.rd (pGATE x) GATE.DEAD_DEAD_NS)
  · simp [legSwitches_eq, e]
  · rw [legSwitches_eq, e]
    cases h.legPulse x l t <;> simp

/-- A leg whose ENABLE is low has both switches off. -/
theorem legSwitches_low {h : Hw} {x l : Nat} {t : Stamp} (low : h.legEnable x l t = false) : h.legSwitches x l t = (false, false) := by
  simp [legSwitches_eq, low]

/-- Both switches are off until DEAD_NS has run since ENABLE or PULSE last changed. -/
theorem legSwitches_dead {h : Hw} {x l : Nat} {t : Stamp} (early : h.legSince x l t < 1024 * h.rd (pGATE x) GATE.DEAD_DEAD_NS) :
    h.legSwitches x l t = (false, false) := by
  simp [legSwitches_eq, switches_dead early]

theorem legSwitches_uncharged {h : Hw} {x l : Nat} (empty : h.bit (pGATE x) GATE.BOOT_OK l = false) (t : Stamp) :
    (h.legSwitches x l t).1 = false := by
  simp [legSwitches_eq, empty]

/-- With ENABLE high and DEAD_NS run, a charged leg follows PULSE. -/
theorem legSwitches_follow {h : Hw} {x l : Nat} {t : Stamp} (high : h.legEnable x l t = true)
    (late : 1024 * h.rd (pGATE x) GATE.DEAD_DEAD_NS ≤ h.legSince x l t) (charged : h.bit (pGATE x) GATE.BOOT_OK l = true) :
    h.legSwitches x l t = (h.legPulse x l t, !h.legPulse x l t) := by
  simp [legSwitches_eq, high, switches_settled late, charged]

/-- Settles O23: whatever holds a leg takes its ENABLE low, and a leg's switches are those of its ENABLE, its PULSE and its bootstrap. -/
theorem legSwitches : Obligations.LegSwitches := by
  intro h x l t
  exact ⟨legSwitches_not_both h x l t, fun held => legSwitches_low (legEnable_held held t),
    fun off => legSwitches_low (legEnable_undriven off t), fun tripped => legSwitches_low (legEnable_tripped tripped t),
    fun early => legSwitches_dead early, fun empty => legSwitches_uncharged empty t,
    fun on free untripped late charged => legSwitches_follow (legEnable_driven on free untripped t) late charged⟩

end Sys2Proof.Machine
end

section
/-! The gate banks (R265–R267, R269–R271): what each command answers. -/

namespace Sys2Proof.Machine

/-! ### The words a raise leaves alone (R452–R456) -/

theorem word_of_regs {h g : Hw} (e : g.regs = h.regs) (a : Nat) : g.word a = h.word a := congrArg (tget regReset · a) e

theorem word_ite {c : Prop} [Decidable c] {g k : Hw} {a : Nat} {w : Word} (eg : g.word a = w) (ek : k.word a = w) :
    (if c then g else k).word a = w := by
  split
  · exact eg
  · exact ek

section
variable {p a : Nat} (page : p % 4096 = 0)
include page

/-- Writing a field of the Faceplate leaves every word that stands behind it in its page. -/
theorem word_wr_face (behind : 0x80 ≤ pageOff a) (h : Hw) (f : Field) (v : Nat) (face : f.off < 0x80 := by decide) :
    (h.wr p f v).word a = h.word a :=
  word_wri_other h p f 0 v (by unfold addrOf; unfold pageOff at behind; omega)

/-- Writing a field of a page leaves the words of every other page. -/
theorem word_wr_page (other : pageBase a ≠ p) (h : Hw) (f : Field) (v : Nat) (inside : f.off < 4096 := by decide) :
    (h.wr p f v).word a = h.word a :=
  word_wri_other h p f 0 v (by unfold addrOf; unfold pageBase at other; omega)

/-- The same of a value in two registers of the Faceplate. -/
theorem word_wr2_face (behind : 0x80 ≤ pageOff a) (h : Hw) (f g : Field) (v : Nat) (low : f.off < 0x80 := by decide)
    (high : g.off < 0x80 := by decide) : (h.wr2 p f g 0 v).word a = h.word a := by
  unfold Hw.wr2
  exact (word_wr_face page behind _ g _ high).trans (word_wr_face page behind h f _ low)

/-- The first-error capture writes registers of the Faceplate. -/
theorem word_capture (behind : 0x80 ≤ pageOff a) (h : Hw) (i : Nat) (c : Cap) : (h.capture p i c).word a = h.word a := by
  have face := @word_wr_face p a page behind
  have face2 := @word_wr2_face p a page behind
  unfold Hw.capture
  extract_lets g1 g2 g3 g4 g5 g6 g7
  refine (word_of_regs (g := { g7 with capAt := _ }) (h := g7) rfl a).trans ?_
  simp (disch := decide) only [g1, g2, g3, g4, g5, g6, g7, face, face2]

theorem word_record (behind : 0x80 ≤ pageOff a) (h : Hw) (i : Nat) (c : Cap) : (h.record p i c).word a = h.word a := by
  have face := @word_wr_face p a page behind
  unfold Hw.record
  extract_lets takes count g k
  have ek : k.word a = h.word a := (face g FACE.FLT_STS _).trans (word_of_regs rfl a)
  exact (face _ FACE.FE_COUNT _).trans (word_ite ((word_capture page behind k i c).trans ek) ek)

end

theorem word_stopFantail {a : Nat} (fan : pageBase a ≠ pFANTAIL) (h : Hw) (k p i : Nat) : (h.stopFantail k p i).word a = h.word a := by
  have other := @word_wr_page pFANTAIL a rfl fan
  unfold Hw.stopFantail
  extract_lets g1 g2 g3
  have e : g3.word a = h.word a :=
    (other g2 FANTAIL.FT_STOPS _).trans ((other g1 FANTAIL.FT_STS_CAUSE k).trans (other h FANTAIL.FT_STS_TOGGLING 0))
  exact word_ite ((other _ FANTAIL.FT_STOP_SRC_SOURCE i).trans ((other _ FANTAIL.FT_STOP_SRC_PAGE p).trans e)) e

/-- A raise writes Faceplates and the pages HOST and FANTAIL: a word behind the Faceplate of any other page stands. -/
theorem word_raiseN {a : Nat} (behind : 0x80 ≤ pageOff a) (host : pageBase a ≠ pHOST) (fan : pageBase a ≠ pFANTAIL) (n : Nat) {p : Nat}
    (page : p % 4096 = 0) (i : Nat) (c : Cap) (h : Hw) : (Hw.raiseN n p i c h).word a = h.word a := by
  induction n generalizing p i c h with
  | zero => rfl
  | succ n ih =>
    have trap : ∀ {g : Hw} (k : Nat), g.word a = h.word a →
        (if bitAt k 1 then (if g.kernelRuns then g.send (.trap p i) else g.inc p FACE.FE_COUNT) else g).word a = h.word a :=
      fun _ e => word_ite (word_ite ((word_of_regs rfl a).trans e) ((word_wr_face page behind _ FACE.FE_COUNT _).trans e)) e
    unfold Hw.raiseN
    extract_lets code h1 sends g x v h2 h3 k
    have e1 : h1.word a = h.word a := word_record page behind h i c
    have eg : g.word a = h.word a := (word_wr_face page behind h1 FACE.EVT_PEND _).trans e1
    have dropped : (g.inc pHOST HOST.MSIX_DROP).word a = h.word a := (word_wr_page rfl host g HOST.MSIX_DROP _).trans eg
    have out : (g.msixOut x v).word a = h.word a := word_ite ((word_of_regs rfl a).trans eg) ((word_of_regs rfl a).trans eg)
    have e2 : h2.word a = h.word a :=
      word_ite (word_ite (word_ite ((word_of_regs rfl a).trans eg) (word_ite out ((ih rfl _ _ _).trans dropped))) eg) e1
    have e3 : h3.word a = h.word a := word_ite ((ih rfl _ _ _).trans ((word_stopFantail fan h2 1 p i).trans e2)) e2
    have ek : k.word a = h.word a := trap code e3
    have later : ∀ d, (k.later d).word a = h.word a := fun d => (word_of_regs (later_regs k d) a).trans ek
    unfold Hw.react
    exact word_ite (word_ite (later _) ek) (word_ite (word_ite (later _) (later _)) ek)

/-- A raise of a gate bank's page leaves the bank's own registers. -/
theorem word_raise_pGATE (h : Hw) (x i : Nat) (c : Cap) (f : Field) (behind : 0x80 ≤ f.off := by decide)
    (inside : f.off < 4096 := by decide) :
    (h.raise (pGATE x) i c).word (addrOf f (pGATE x) 0) = h.word (addrOf f (pGATE x) 0) := by
  refine word_raiseN ?_ ?_ ?_ 6 ?_ i c h
  · unfold pageOff addrOf pGATE; omega
  · unfold pageBase addrOf pGATE pHOST; omega
  · unfold pageBase addrOf pGATE pFANTAIL; omega
  · unfold pGATE; omega

/-! ### Trips (R269–R271) -/

/-- Writing a register of a page leaves another of its registers. -/
theorem word_wr_register {f g : Field} (ne : g.off ≠ f.off) (h : Hw) (p v : Nat) :
    (h.wr p f v).word (addrOf g p 0) = h.word (addrOf g p 0) :=
  word_wri_other h p f 0 v (by unfold addrOf; omega)

theorem bit_of_word {h g : Hw} {p : Nat} {f : Field} (e : g.word (addrOf f p 0) = h.word (addrOf f p 0)) (b : Nat) :
    g.bit p f b = h.bit p f b :=
  congrArg (fun w => bitAt (bitsOf w f.hi f.lo) b) e

/-- Recording a leg's trip touches no bit of BRIDGE_LATCH. -/
theorem bit_latch_tripLeg (h : Hw) (x l side : Nat) (gross blanked : Bool) (b : Nat) :
    (h.tripLeg x l side gross blanked).bit (pGATE x) GATE.BRIDGE_LATCH b = h.bit (pGATE x) GATE.BRIDGE_LATCH b := by
  refine bit_of_word ?_ b
  unfold Hw.tripLeg
  extract_lets p b' g1 g2 g3 g4
  have e2 : g2.word (addrOf GATE.BRIDGE_LATCH p 0) = h.word (addrOf GATE.BRIDGE_LATCH p 0) :=
    (word_wr_register (f := GATE.TRIP_CNT) (by decide) _ p _).trans (word_wr_register (f := GATE.LEG_TRIPPED) (by decide) g1 p _)
  rw [word_raise_pGATE _ x 0 _ GATE.BRIDGE_LATCH, ← e2]
  simp (disch := decide) only [g4, g3, p, word_wr_register]

/-- A switch seen for the first time in its period trips its leg; on an unlatched bridge the trip that completes the condition of R271
latches it. -/
theorem shortTrip_trips {h : Hw} {x l side : Nat} {gross blanked : Bool} (leg : l / bankLegs x < bankBridges x)
    (active : (blanked && !gross) = false) (free : h.heldBefore x (l / bankLegs x) = false)
    (first : ((h.bridge x (l / bankLegs x)).trips.any fun k => decide (k.leg = l ∧ k.side = side)) = false)
    (unlatched : h.bit (pGATE x) GATE.BRIDGE_LATCH (l / bankLegs x) = false) : shortTrip x l side gross blanked h =
      let w := h.tripLeg x l side gross blanked
      if w.faultsBridge x l then w.latchBridge x l side else w := by
  have sensed : ¬(bankBridges x ≤ l / bankLegs x ∨ (blanked = true ∧ (!gross) = true) ∨ h.heldBefore x (l / bankLegs x) = true) := by
    rw [← Bool.and_eq_true, active, free]
    simpa using leg
  refine (if_neg sensed).trans ((if_neg (ne_true_of_eq_false first)).trans ?_)
  simp only [bit_latch_tripLeg, unlatched, Bool.not_false, Bool.and_true]

/-! ### Supplies (R265–R267) -/

/-- A charged bootstrap that falls below 8.5 V is an event while its unit drives. -/
theorem bootUvlo_falls {h : Hw} {x l mv : Nat} (leg : l / bankLegs x < bankBridges x) (charged : h.bit (pGATE x) GATE.BOOT_OK l = true)
    (low : mv < 8500) : bootUvlo x l mv h =
      let u := h.setBit (pGATE x) GATE.BOOT_OK l false
      if h.unitDrives x (l / bankLegs x) then ((u.inc (pGATE x) GATE.UVLO_CNT).raise (pGATE x) 2 (gateCap l 1 (l / bankLegs x))).stageOff
        x (l / bankLegs x) else u :=
  (if_neg (Nat.not_le.mpr leg)).trans ((if_neg (by simp [charged])).trans (if_neg (Nat.not_le.mpr low)))

theorem bootUvlo_rises {h : Hw} {x l mv : Nat} (leg : l / bankLegs x < bankBridges x) (empty : h.bit (pGATE x) GATE.BOOT_OK l = false)
    (high : 9500 < mv) : bootUvlo x l mv h = h.setBit (pGATE x) GATE.BOOT_OK l true :=
  (if_neg (Nat.not_le.mpr leg)).trans ((if_pos (by simp [empty])).trans (if_pos high))

theorem is_wr_b2n (h : Hw) (p : Nat) (f : Field) (b : Bool) (bit : f.hi = f.lo := by decide) (hf : f.hi < 32 := by decide) :
    (h.wr p f (b2n b)).is p f = b := by
  unfold Hw.is
  rw [rd_wr_same h p f _ hf bit.ge, bit, Nat.add_sub_cancel_left]
  cases b <;> rfl

/-- Below 10.5 V or above 13.5 V a supply is out of its range, whatever it was before. -/
theorem vgdMeasure_out {h : Hw} {mv : Nat} (x : Nat) (out : mv < 10500 ∨ 13500 < mv) :
    (h.vgdMeasure x mv).is (pGATE x) GATE.GD_STS_VGD_OK = false := by
  unfold Hw.vgdMeasure
  extract_lets p under high g
  rw [is_wr_b2n _ p GATE.GD_STS_VGD_OK]
  rcases out with low | above
  · have under_true : under = true := by simp only [under]; split <;> exact decide_eq_true (by omega)
    simp [under_true]
  · have high_true : high = true := by simp only [high]; split <;> exact decide_eq_true (by omega)
    simp [high_true]

/-- Between 11.0 V and 13.0 V a supply is in its range, whatever it was before. -/
theorem vgdMeasure_in {h : Hw} {mv : Nat} (x : Nat) (low : 11000 < mv) (high : mv < 13000) : h.vgdMeasure x mv =
    (((h.modBank x fun k => { k with under := false }).wr (pGATE x) GATE.VGD_MEAS mv).wr (pGATE x) GATE.GD_STS_VGD_OV 0).wr (pGATE x)
      GATE.GD_STS_VGD_OK 1 := by
  have under : (if (h.bank x).under then decide (mv ≤ 11000) else decide (mv < 10500)) = false := by
    split <;> exact decide_eq_false (by omega)
  have above : (if h.is (pGATE x) GATE.GD_STS_VGD_OV then decide (13000 ≤ mv) else decide (13500 < mv)) = false := by
    split <;> exact decide_eq_false (by omega)
  simp only [Hw.vgdMeasure, under, above, Nat.min_eq_right (show mv ≤ 65535 by omega)]
  rfl

/-- A supply that leaves its range takes its bank off. -/
theorem vgdUvlo_fails {h : Hw} {x mv : Nat} (was : h.is (pGATE x) GATE.GD_STS_VGD_OK = true) (out : mv < 10500 ∨ 13500 < mv) :
    vgdUvlo x mv h = (h.vgdMeasure x mv).bankFails x :=
  if_pos (by simp [was, vgdMeasure_out x out])

/-- A supply within its range is measured, and its bank stays as it is. -/
theorem vgdUvlo_good {h : Hw} {x mv : Nat} (low : 11000 < mv) (high : mv < 13000) : vgdUvlo x mv h = h.vgdMeasure x mv := by
  have ok : (h.vgdMeasure x mv).is (pGATE x) GATE.GD_STS_VGD_OK = true := by
    rw [vgdMeasure_in x low high]
    exact is_wr_b2n _ _ _ true
  exact if_neg (by simp [ok])

theorem bankOffClear_back {h : Hw} {x : Nat} (ok : h.is (pGATE x) GATE.GD_STS_VGD_OK = true)
    (off : h.is (pGATE x) GATE.GD_STS_BANK_OFF = true) : bankOffClear x h =
      ((h.wr (pGATE x) GATE.GD_STS_BANK_OFF 0).wr (pGATE x) GATE.BOOT_OK 0).persist (pGATE x) 3 false :=
  if_neg (by simp [ok, off])

/-- Settles O42: each command's effect where its condition holds. -/
theorem gateCommandsComplete : Obligations.GateCommandsComplete := by
  refine ⟨fun s x l side gross blanked leg active free first unlatched => ?shortTrip, fun s x l mv leg charged low => ?bootFalls,
    fun s x l mv leg empty high => ?bootRises, fun s x mv was out => ?supplyFails, fun s x mv ⟨low, high⟩ => ?supplyGood,
    fun s x ok off => ?bankBack, fun s m x mask t => ?bridgeClr⟩
  case shortTrip => exact congrArg (finish s) (shortTrip_trips leg active free first unlatched)
  case bootFalls => exact congrArg (finish s) (bootUvlo_falls leg charged low)
  case bootRises => exact congrArg (finish s) (bootUvlo_rises leg empty high)
  case supplyFails => exact congrArg (finish s) (vgdUvlo_fails was out)
  case supplyGood => exact congrArg (finish s) ((vgdUvlo_good low high).trans (vgdMeasure_in x low high))
  case bankBack => exact congrArg (finish s) (bankOffClear_back ok off)
  case bridgeClr => exact congrArg (finish s) (writeTo_takes t _)

end Sys2Proof.Machine
end

section
/-! The shape of a step, the page map of W0 and the stored program (R368, R474, R475). -/

namespace Sys2Proof.Machine

/-- Settles O1: the step takes the front command off the queue it stands in. -/
theorem stepRunsFrontCommand : Obligations.StepRunsFrontCommand := fun _ _ => rfl

/-- Settles O8: each command's arm ends with the end of the step. That none faults or is refused is the model's choice (log entry 86). -/
theorem everyCommandAnswers : Obligations.EveryCommandAnswers := exec_settles

theorem ite_some_eq_none {α : Type} {c : Prop} [Decidable c] {x : α} {o : Option α} :
    (if c then some x else o) = none ↔ ¬c ∧ o = none := by
  split <;> simp [*]

/-- The page numbers of W0 to which no class belongs. -/
theorem clsOfNum_eq_none {k : Nat} : clsOfNum k = none ↔ k = 0x3F ∨ (0x50 ≤ k ∧ k < 0x80) ∨ 0xC0 ≤ k := by
  simp only [clsOfNum, ite_some_eq_none, ite_eq_left_iff, and_true]
  omega

/-- Settles O12: a page number lacks a class in three runs, whose addresses are the three ranges. -/
theorem pageMapOfW0 : Obligations.PageMapOfW0 := by
  intro a w0
  have num : clsOf (pageBase a) = clsOfNum (a / 4096) := by
    unfold clsOf pageBase
    rw [Nat.mul_div_cancel _ (by decide)]
  rw [num, clsOfNum_eq_none]
  omega

/-! ### The two copies of the stored program (R368) -/

theorem aIsNewer_some {m : Mram} (newer : m.aIsNewer = true) : ∃ a, m.copyA = some a := by
  unfold Mram.aIsNewer at newer
  cases e : m.copyA with
  | none => simp [e] at newer
  | some a => exact ⟨a, rfl⟩

theorem selected_of_newer {m : Mram} {a : Program} (newer : m.aIsNewer = true) (copy : m.copyA = some a) : m.selected = a := by
  simp [Mram.selected, newer, copy]

theorem selected_of_older {m : Mram} {b : Program} (older : m.aIsNewer = false) (copy : m.copyB = some b) : m.selected = b := by
  simp [Mram.selected, older, copy]

theorem store_of_newer {m : Mram} (g : Program) (newer : m.aIsNewer = true) : m.store g = { m with copyB := some g } := if_pos newer

theorem store_of_older {m : Mram} (g : Program) (older : m.aIsNewer = false) : m.store g = { m with copyA := some g } :=
  if_neg (ne_true_of_eq_false older)

/-- The copy that is not selected takes the program, and with the next generation it is the newer one. -/
theorem selected_store {m : Mram} {g : Program} (next : g.gen = m.selected.gen + 1) : (m.store g).selected = g := by
  cases newer : m.aIsNewer with
  | true =>
    obtain ⟨a, copyA⟩ := aIsNewer_some newer
    rw [selected_of_newer newer copyA] at next
    rw [store_of_newer g newer]
    exact selected_of_older (by simp [Mram.aIsNewer, copyA, next]) rfl
  | false =>
    rw [store_of_older g newer]
    refine selected_of_newer ?_ rfl
    cases copyB : m.copyB with
    | none => simp [Mram.aIsNewer]
    | some b =>
      rw [selected_of_older newer copyB] at next
      simp [Mram.aIsNewer, next]

/-- A store leaves the copy that is selected. -/
theorem store_keeps_selected {m : Mram} (g : Program) {p : Program} (held : m.copyA = some p ∨ m.copyB = some p) (sel : p = m.selected) :
    (m.store g).copyA = some p ∨ (m.store g).copyB = some p := by
  cases newer : m.aIsNewer with
  | true =>
    obtain ⟨a, copyA⟩ := aIsNewer_some newer
    rw [store_of_newer g newer, sel, selected_of_newer newer copyA]
    exact .inl copyA
  | false =>
    rw [store_of_older g newer]
    cases copyB : m.copyB with
    | none =>
      have copyA := held.resolve_right (by simp [copyB])
      simp [Mram.aIsNewer, copyA, copyB] at newer
    | some b => exact .inr (by rw [sel, selected_of_older newer copyB])

/-- Settles O25: the program goes to the copy that is not selected. -/
theorem storedProgramSurvives : Obligations.StoredProgramSurvives :=
  fun _ g next => ⟨selected_store next, fun _ held sel => store_keeps_selected g held sel⟩

end Sys2Proof.Machine
end

section
/-! Raises and mailboxes (R415, R417, R452, R453, R455, R462): which words a raise leaves alone, and the words of a mailbox. -/

namespace Sys2Proof.Machine

/-! ### The words of other pages (R452–R456) -/

section
variable {p a : Nat} (page : p % 4096 = 0) (other : pageBase a ≠ p)
include page other

/-- The same of a value in two registers of the page. -/
theorem word_wr2_page (h : Hw) (f g : Field) (v : Nat) (low : f.off < 4096 := by decide) (high : g.off < 4096 := by decide) :
    (h.wr2 p f g 0 v).word a = h.word a :=
  (word_wr_page page other (h.wr p f (v % 2 ^ 32)) g _ high).trans (word_wr_page page other h f _ low)

theorem word_capture_page (h : Hw) (i : Nat) (c : Cap) : (h.capture p i c).word a = h.word a := by
  have one := @word_wr_page p a page other
  have two := @word_wr2_page p a page other
  unfold Hw.capture
  extract_lets g1 g2 g3 g4 g5 g6 g7
  refine (word_of_regs (g := { g7 with capAt := _ }) (h := g7) rfl a).trans ?_
  simp (disch := decide) only [g1, g2, g3, g4, g5, g6, g7, one, two]

theorem word_record_page (h : Hw) (i : Nat) (c : Cap) : (h.record p i c).word a = h.word a := by
  have one := @word_wr_page p a page other
  unfold Hw.record
  extract_lets takes count g k
  have ek : k.word a = h.word a := (one g FACE.FLT_STS _).trans (word_of_regs rfl a)
  exact (one _ FACE.FE_COUNT _).trans (word_ite ((word_capture_page page other k i c).trans ek) ek)

end

/-- A raise writes its own page, HOST and FANTAIL: a word of any other page stands. -/
theorem word_raiseN_page {a : Nat} (host : pageBase a ≠ pHOST) (fan : pageBase a ≠ pFANTAIL) (n : Nat) {p : Nat} (page : p % 4096 = 0)
    (other : pageBase a ≠ p) (i : Nat) (c : Cap) (h : Hw) : (Hw.raiseN n p i c h).word a = h.word a := by
  induction n generalizing p i c h with
  | zero => rfl
  | succ n ih =>
    have one := @word_wr_page p a page other
    have trap : ∀ {g : Hw} (k : Nat), g.word a = h.word a →
        (if bitAt k 1 then (if g.kernelRuns then g.send (.trap p i) else g.inc p FACE.FE_COUNT) else g).word a = h.word a :=
      fun _ e => word_ite (word_ite ((word_of_regs rfl a).trans e) ((one _ FACE.FE_COUNT _).trans e)) e
    unfold Hw.raiseN
    extract_lets code h1 sends g x v h2 h3 k
    have e1 : h1.word a = h.word a := word_record_page page other h i c
    have eg : g.word a = h.word a := (one h1 FACE.EVT_PEND _).trans e1
    have dropped : (g.inc pHOST HOST.MSIX_DROP).word a = h.word a := (word_wr_page rfl host g HOST.MSIX_DROP _).trans eg
    have out : (g.msixOut x v).word a = h.word a := word_ite ((word_of_regs rfl a).trans eg) ((word_of_regs rfl a).trans eg)
    have e2 : h2.word a = h.word a :=
      word_ite (word_ite (word_ite ((word_of_regs rfl a).trans eg) (word_ite out ((ih rfl host _ _ _).trans dropped))) eg) e1
    have e3 : h3.word a = h.word a := word_ite ((ih rfl fan _ _ _).trans ((word_stopFantail fan h2 1 p i).trans e2)) e2
    have ek : k.word a = h.word a := trap code e3
    have later : ∀ d, (k.later d).word a = h.word a := fun d => (word_of_regs (later_regs k d) a).trans ek
    unfold Hw.react
    exact word_ite (word_ite (later _) ek) (word_ite (word_ite (later _) (later _)) ek)

/-- Settles O10: a raise is made of its record, messages, follow-ups and the raises it causes on HOST and FANTAIL. -/
theorem raiseFrame : Obligations.RaiseFrame := fun h p i c page =>
  ⟨says_raise h p i c, fun _ other host fan => word_raiseN_page host fan 6 page other i c h⟩

/-! ### The words of a mailbox (R415, R417) -/

/-- The registers of mailbox n: 16 bytes from 0x100 + 16 n on. -/
def InBox (f : Field) : Prop := f.off / 16 = 16 ∧ f.stride = 16

theorem addrOf_inBox_ne {f g : Field} {n k : Nat} (hf : InBox f) (hg : InBox g) (ne : k ≠ n ∨ g.off ≠ f.off) :
    addrOf g pMAILBOX k ≠ addrOf f pMAILBOX n := by
  obtain ⟨offF, strideF⟩ := hf
  obtain ⟨offG, strideG⟩ := hg
  unfold addrOf
  rw [strideF, strideG]
  omega

/-- Writing a register of a mailbox leaves another register of it, another field, and every other mailbox. -/
theorem mb_mbWr_other (h : Hw) {n k : Nat} {f g : Field} (v : Nat) (apart : k ≠ n ∨ g.off ≠ f.off ∨ g.hi < f.lo ∨ f.hi < g.lo)
    (hf : InBox f := by unfold InBox; decide) (hg : InBox g := by unfold InBox; decide) (fHi : f.hi < 32 := by decide)
    (fLo : f.lo ≤ f.hi := by decide) (gHi : g.hi < 32 := by decide) : (h.mbWr n f v).mb k g = h.mb k g := by
  refine rdi_wri_other h pMAILBOX f n v pMAILBOX g k fHi fLo gHi ?_
  rcases apart with box | off | bits
  · exact .inl (addrOf_inBox_ne hf hg (.inl box))
  · exact .inl (addrOf_inBox_ne hf hg (.inr off))
  · exact .inr bits

theorem mb_of_word {h g : Hw} {k : Nat} {f : Field} (e : g.word (addrOf f pMAILBOX k) = h.word (addrOf f pMAILBOX k)) :
    g.mb k f = h.mb k f :=
  congrArg (bitsOf · f.hi f.lo) e

section
variable (h : Hw) (k : Fin 32) (f : Field) (inBox : InBox f)
include inBox

/-- The register that shows FULL of all mailboxes stands before them. -/
theorem mb_wr_full (v : Nat) : (h.wr pMAILBOX MAILBOX.MB_FULL v).mb k f = h.mb k f := by
  obtain ⟨off, stride⟩ := inBox
  refine mb_of_word (word_wri_other _ _ _ _ _ ?_)
  unfold addrOf
  simp only [MAILBOX.MB_FULL, stride]
  omega

/-- A raise of the page leaves the mailboxes, and so does one of HOST. -/
theorem mb_raise {p : Nat} (page : p % 4096 = 0) (i : Nat) (c : Cap) : (h.raise p i c).mb k f = h.mb k f := by
  obtain ⟨off, stride⟩ := inBox
  refine mb_of_word (word_raiseN ?_ ?_ ?_ 6 page i c h)
  all_goals simp only [pageOff, pageBase, addrOf, pMAILBOX, pHOST, pFANTAIL, stride]; omega

/-- Sending a mailbox's vector, or counting that it cannot be sent, leaves the mailboxes. -/
theorem mb_mbIrq (n party : Nat) : (h.mbIrq n party).mb k f = h.mb k f := by
  unfold Hw.mbIrq Hw.msix
  split
  · split
    · refine mb_of_word (word_ite (word_of_regs rfl _) (word_of_regs rfl _))
    · refine (mb_raise _ k f inBox rfl _ _).trans (mb_of_word (word_wr_page rfl ?_ h HOST.MSIX_DROP _))
      obtain ⟨off, stride⟩ := inBox
      simp only [pageBase, addrOf, pMAILBOX, pHOST, stride]
      omega
  · rfl

end

theorem mb_mbSetFull_other (h : Hw) {n : Nat} {k : Fin 32} {f : Field} (v : Bool)
    (apart : k.val ≠ n ∨ f.off ≠ MAILBOX.MB_CFG_FULL.off ∨ f.hi < MAILBOX.MB_CFG_FULL.lo ∨ MAILBOX.MB_CFG_FULL.hi < f.lo)
    (inBox : InBox f := by unfold InBox; decide) (hi : f.hi < 32 := by decide) : (h.mbSetFull n v).mb k f = h.mb k f :=
  (mb_wr_full _ k f inBox _).trans (mb_mbWr_other h _ apart (hg := inBox) (gHi := hi))

theorem mb_mbSetFull_same (h : Hw) (n : Fin 32) (v : Bool) : (h.mbSetFull n v).mb n MAILBOX.MB_CFG_FULL = b2n v := by
  refine (mb_wr_full _ n MAILBOX.MB_CFG_FULL (by unfold InBox; decide) _).trans ((rdi_wri_same _ _ _ _ _).trans ?_)
  cases v <;> rfl

/-- What mbStore leaves of the mailboxes' registers is the writes of the word, of FULL and of EXPIRED. -/
theorem mb_mbStore (h : Hw) (m : Master) (n : Nat) (w : Word) (k : Fin 32) (f : Field) (inBox : InBox f := by unfold InBox; decide)
    (apart : f.off ≠ MAILBOX.MB_CFG_EXPIRED.off ∨ f.hi < MAILBOX.MB_CFG_EXPIRED.lo ∨ MAILBOX.MB_CFG_EXPIRED.hi < f.lo := by decide)
    (hi : f.hi < 32 := by decide) : (h.mbStore m n w).mb k f = ((h.mbWr n MAILBOX.MB_DATA w.toNat).mbSetFull n true).mb k f :=
  (mb_mbIrq _ k f inBox _ _).trans ((mb_raise _ k f inBox rfl _ _).trans (mb_mbWr_other _ _ (.inr apart) (hg := inBox) (gHi := hi)))

/-- The registers of every other mailbox stand. -/
theorem mb_mbStore_other (h : Hw) (m : Master) {n : Nat} (w : Word) {k : Fin 32} (f : Field) (box : k.val ≠ n)
    (inBox : InBox f := by unfold InBox; decide)
    (apart : f.off ≠ MAILBOX.MB_CFG_EXPIRED.off ∨ f.hi < MAILBOX.MB_CFG_EXPIRED.lo ∨ MAILBOX.MB_CFG_EXPIRED.hi < f.lo := by decide)
    (hi : f.hi < 32 := by decide) : (h.mbStore m n w).mb k f = h.mb k f := by
  rw [mb_mbStore h m n w k f inBox apart hi, mb_mbSetFull_other _ _ (.inl box) inBox hi]
  exact mb_mbWr_other h _ (.inl box) (hg := inBox) (gHi := hi)

/-- Taking a word leaves of the mailboxes' registers what clearing FULL leaves. -/
theorem mb_mbTake (h : Hw) (m : Master) (n : Nat) (k : Fin 32) (f : Field) (inBox : InBox f := by unfold InBox; decide) :
    (h.mbTake m n).mb k f = (h.mbSetFull n false).mb k f :=
  (mb_mbIrq _ k f inBox _ _).trans (mb_raise _ k f inBox rfl _ _)

/-- Settles O20: the word, FULL and EXPIRED are fields of the mailbox's own registers, which no raise and no message writes. -/
theorem mailboxHoldsTheWord : Obligations.MailboxHoldsTheWord := by
  refine ⟨fun h m n w => ⟨?data, ?full, fun k ne => ⟨?otherData, ?otherFull⟩⟩, fun h m n => ⟨?emptied, ?keptData⟩⟩
  case data =>
    rw [mb_mbStore h m n w n MAILBOX.MB_DATA, mb_mbSetFull_other _ _ (.inr (.inl (by decide)))]
    exact (rdi_wri_same _ _ _ _ _).trans (Nat.mod_eq_of_lt w.isLt)
  case full => exact (mb_mbStore h m n w n MAILBOX.MB_CFG_FULL).trans (mb_mbSetFull_same _ n true)
  case otherData => exact mb_mbStore_other h m w MAILBOX.MB_DATA (Fin.val_ne_of_ne ne)
  case otherFull => exact mb_mbStore_other h m w MAILBOX.MB_CFG_FULL (Fin.val_ne_of_ne ne)
  case emptied => exact (mb_mbTake h m n n MAILBOX.MB_CFG_FULL).trans (mb_mbSetFull_same h n false)
  case keptData => exact (mb_mbTake h m n n MAILBOX.MB_DATA).trans (mb_mbSetFull_other h _ (.inr (.inl (by decide))))

end Sys2Proof.Machine
end

section
/-! The first-error capture (R273, R455, R456): what a record and FE_REARM leave in the Faceplate. -/

namespace Sys2Proof.Machine

/-! ### Fields of one page -/

/-- Writing a field of a page leaves the page's other fields. -/
theorem rd_wr_other (h : Hw) (p : Nat) {f g : Field} (v : Nat) (share : g.off ≠ f.off ∨ g.hi < f.lo ∨ f.hi < g.lo) (hf : f.hi < 32)
    (hl : f.lo ≤ f.hi) (hg : g.hi < 32) : (h.wr p f v).rd p g = h.rd p g :=
  rdi_wri_other h p f 0 v p g 0 hf hl hg (share.imp_left fun off e => off (by unfold addrOf at e; omega))

theorem wr2_eq_wr (h : Hw) (p : Nat) (lo hi : Field) (v : Nat) :
    h.wr2 p lo hi 0 v = (h.wr p lo (v % 2 ^ 32)).wr p hi (v / 2 ^ 32 % 2 ^ (hi.hi + 1 - hi.lo)) := rfl

theorem rd2_eq_rd (h : Hw) (p : Nat) (lo hi : Field) : h.rd2 p lo hi 0 = h.rd p lo + 2 ^ 32 * h.rd p hi := rfl

theorem rd_of_word {h g : Hw} {p : Nat} {f : Field} (e : g.word (addrOf f p 0) = h.word (addrOf f p 0)) : g.rd p f = h.rd p f :=
  congrArg (bitsOf · f.hi f.lo) e

/-- The two halves of a value make the value, modulo 2^64. -/
theorem halves_eq (v : Nat) : v % 2 ^ 32 % 2 ^ 32 + 2 ^ 32 * (v / 2 ^ 32 % 2 ^ 32 % 2 ^ 32) = v % 2 ^ 64 := by omega

/-! ### The capture (R455) -/

/-- What a capture writes before PRESS_TIME: the value, the particulars and VALID. -/
def Hw.captured (h : Hw) (p i : Nat) (c : Cap) : Hw :=
  (((((h.wr2 p FACE.FE_ADDR_LO FACE.FE_ADDR_HI 0 c.addr).wr p FACE.FE_INFO_MASTER c.master).wr p FACE.FE_INFO_ACCESS c.access).wr p
    FACE.FE_INFO_SOURCE i).wr p FACE.FE_INFO_INJECTED (b2n c.injected)).wr p FACE.FE_INFO_VALID 1

theorem now_captured (h : Hw) (p i : Nat) (c : Cap) : (h.captured p i c).now = h.now := by simp [Hw.captured, Hw.now]

/-- The hardware with the times of the captures changed, which no register shows. -/
def Hw.withCapAt (h : Hw) (t : Tab (Option Stamp)) : Hw := { h with capAt := t }

theorem rd_withCapAt (h : Hw) (t : Tab (Option Stamp)) (p : Nat) (f : Field) : (h.withCapAt t).rd p f = h.rd p f := rfl

theorem capture_eq (h : Hw) (p i : Nat) (c : Cap) :
    ∃ t, h.capture p i c = ((h.captured p i c).wr2 p FACE.FE_TIME_LO FACE.FE_TIME_HI 0 (h.captured p i c).now).withCapAt t := by
  delta Hw.capture Hw.captured Hw.withCapAt
  exact ⟨_, rfl⟩

theorem rd_capture (h : Hw) (p i : Nat) (c : Cap) (f : Field) :
    (h.capture p i c).rd p f = ((h.captured p i c).wr2 p FACE.FE_TIME_LO FACE.FE_TIME_HI 0 h.now).rd p f := by
  obtain ⟨_, e⟩ := capture_eq h p i c
  rw [e, rd_withCapAt, now_captured]

section
variable (h : Hw) (p i : Nat) (c : Cap)

theorem capture_addr : (h.capture p i c).rd2 p FACE.FE_ADDR_LO FACE.FE_ADDR_HI 0 = c.addr % 2 ^ 64 := by
  simp (disch := decide) only [rd2_eq_rd, rd_capture, Hw.captured, wr2_eq_wr, rd_wr_other, rd_wr_same]
  exact halves_eq c.addr

theorem capture_time : (h.capture p i c).rd2 p FACE.FE_TIME_LO FACE.FE_TIME_HI 0 = h.now := by
  simp (disch := decide) only [rd2_eq_rd, rd_capture, Hw.captured, wr2_eq_wr, rd_wr_other, rd_wr_same]
  exact (halves_eq h.now).trans (Nat.mod_eq_of_lt h.clk.time.isLt)

theorem capture_master : (h.capture p i c).rd p FACE.FE_INFO_MASTER = c.master % 2 ^ 16 := by
  simp (disch := decide) only [rd_capture, Hw.captured, wr2_eq_wr, rd_wr_other, rd_wr_same]
  rfl

theorem capture_access : (h.capture p i c).rd p FACE.FE_INFO_ACCESS = c.access % 16 := by
  simp (disch := decide) only [rd_capture, Hw.captured, wr2_eq_wr, rd_wr_other, rd_wr_same]
  rfl

theorem capture_source {i : Nat} (small : i < 16) : (h.capture p i c).rd p FACE.FE_INFO_SOURCE = i := by
  simp (disch := decide) only [rd_capture, Hw.captured, wr2_eq_wr, rd_wr_other, rd_wr_same]
  exact Nat.mod_eq_of_lt small

theorem capture_injected : (h.capture p i c).rd p FACE.FE_INFO_INJECTED = b2n c.injected := by
  simp (disch := decide) only [rd_capture, Hw.captured, wr2_eq_wr, rd_wr_other, rd_wr_same]
  cases c.injected <;> rfl

theorem capture_valid : (h.capture p i c).rd p FACE.FE_INFO_VALID = 1 := by
  simp (disch := decide) only [rd_capture, Hw.captured, wr2_eq_wr, rd_wr_other, rd_wr_same]
  rfl

theorem capture_flags : (h.capture p i c).rd p FACE.FLT_STS = h.rd p FACE.FLT_STS := by
  simp (disch := decide) only [rd_capture, Hw.captured, wr2_eq_wr, rd_wr_other]

end

/-! ### The record of a raise (R452, R455, R456) -/

/-- A raise noted among those of its clock, with its flag in FLT_STS. -/
def Hw.flagged (h : Hw) (p i : Nat) (c : Cap) : Hw :=
  { h with raised := ⟨p, i, c, h.bit p FACE.EVT_PEND i⟩ :: h.raisedNow, raisedAt := h.mono }.setBit p FACE.FLT_STS i true

/-- FE_COUNT as a raise leaves it. -/
def Hw.raiseCount (h : Hw) (p : Nat) : Nat := if h.is p FACE.FE_INFO_VALID then min 0xFFFFFFFF (h.rd p FACE.FE_COUNT + 1) else 1

section
variable {h : Hw} {p i : Nat} (c : Cap)

theorem record_captured (takes : h.captures p i = true) :
    h.record p i c = ((h.flagged p i c).capture p i c).wr p FACE.FE_COUNT (h.raiseCount p) := by
  unfold Hw.record
  extract_lets t count g k
  rw [if_pos takes]
  rfl

theorem record_counted (kept : h.captures p i = false) :
    h.record p i c = (h.flagged p i c).wr p FACE.FE_COUNT (h.raiseCount p) := by
  unfold Hw.record
  extract_lets t count g k
  rw [if_neg (ne_true_of_eq_false kept)]
  rfl

theorem record_count : (h.record p i c).rd p FACE.FE_COUNT = h.raiseCount p := by
  refine (rd_wr_same _ p FACE.FE_COUNT _).trans (Nat.mod_eq_of_lt ?_)
  split
  · exact Nat.lt_of_le_of_lt (Nat.min_le_left _ _) (by decide)
  · decide

theorem flagged_flag (small : i < 16) : (h.flagged p i c).bit p FACE.FLT_STS i = true := by
  unfold Hw.bit Hw.flagged Hw.setBit
  rw [rd_wr_same _ p FACE.FLT_STS]
  show Nat.testBit (_ % 2 ^ 16) i = true
  rw [Nat.testBit_mod_two_pow, decide_eq_true small, Bool.true_and]
  exact bitAt_putBit_same _ i true

/-- FLT_STS shows the source, whether or not it takes the capture. -/
theorem record_flag (small : i < 16) : (h.record p i c).bit p FACE.FLT_STS i = true := by
  suffices same : (h.record p i c).rd p FACE.FLT_STS = (h.flagged p i c).rd p FACE.FLT_STS from
    (congrArg (bitAt · i) same).trans (flagged_flag c small)
  cases takes : h.captures p i with
  | true =>
    rw [record_captured c takes, rd_wr_other _ _ _ (by decide) (by decide) (by decide) (by decide)]
    exact capture_flags _ _ _ _
  | false => rw [record_counted c takes, rd_wr_other _ _ _ (by decide) (by decide) (by decide) (by decide)]

/-- Where the capture stands, the record leaves every register of the Faceplate but FLT_STS and FE_COUNT. -/
theorem record_keeps (kept : h.captures p i = false) (f : Field) (flags : f.off ≠ FACE.FLT_STS.off := by decide)
    (count : f.off ≠ FACE.FE_COUNT.off := by decide) : (h.record p i c).word (addrOf f p 0) = h.word (addrOf f p 0) := by
  rw [record_counted c kept, word_wr_register count]
  exact word_wr_register flags _ p _

/-- A field of the capture reads as captured. -/
theorem record_field (takes : h.captures p i = true) (f : Field) (count : f.off ≠ FACE.FE_COUNT.off) :
    (h.record p i c).rd p f = ((h.flagged p i c).capture p i c).rd p f := by
  rw [record_captured c takes]
  exact rd_of_word (word_wr_register count _ p _)

theorem captures_armed (armed : h.rd p FACE.FE_INFO_VALID = 0) : h.captures p i = true := by
  simp [Hw.captures, Hw.is, armed]

/-- A raise of the clock of the capture that comes before the captured source takes the capture. -/
theorem captures_earlier (same : tget (fun _ => none) h.capAt p = some h.mono)
    (first : captureRank p i < captureRank p (h.rd p FACE.FE_INFO_SOURCE)) : h.captures p i = true := by
  simp [Hw.captures, same, first]

theorem captures_not (valid : h.rd p FACE.FE_INFO_VALID = 1)
    (later : tget (fun _ => none) h.capAt p ≠ some h.mono ∨ captureRank p (h.rd p FACE.FE_INFO_SOURCE) ≤ captureRank p i) :
    h.captures p i = false := by
  simp only [Hw.captures, Hw.is, valid, decide_true, Bool.not_true, Bool.false_or, Bool.and_eq_false_iff, decide_eq_false_iff_not, not_lt]
  exact later

theorem raiseCount_first (armed : h.rd p FACE.FE_INFO_VALID = 0) : h.raiseCount p = 1 := if_neg (by simp [Hw.is, armed])

theorem raiseCount_next (valid : h.rd p FACE.FE_INFO_VALID = 1) : h.raiseCount p = min (2 ^ 32 - 1) (h.rd p FACE.FE_COUNT + 1) :=
  if_pos (by simp [Hw.is, valid])

end

/-- A source with the reaction code 0 raises no interrupt, stops no output, traps and resets nothing. -/
theorem raise_of_reaction_zero {h : Hw} {p i : Nat} (c : Cap) (zero : h.reaction p i = 0) : h.raise p i c = h.record p i c := by
  have none : ∀ b, bitAt 0 b = false := fun b => Nat.zero_testBit b
  unfold Hw.raise Hw.raiseN
  simp only [zero, none, Bool.false_eq_true, if_false, Bool.false_and, Hw.react, ite_self]

/-! ### FE_REARM (R455, R456) -/

theorem foldl_isSome {α : Type} (f : Option α → α → Option α) (some : ∀ a x, (f a x).isSome = true) {l : List α} (ne : l ≠ [])
    (a : Option α) : (l.foldl f a).isSome = true := by
  obtain rfl | ⟨l, x, rfl⟩ := List.eq_nil_or_concat l
  · exact absurd rfl ne
  · rw [List.concat_eq_append, List.foldl_append]
    exact some _ x

theorem rearm_quiet {h : Hw} {p : Nat} (none : h.raisedOn p = []) : h.rearm p = (h.wr p FACE.FE_INFO_VALID 0).wr p FACE.FE_COUNT 0 := by
  simp [Hw.rearm, none]

/-- Raises of the clock of the write are captured and counted again. -/
theorem rearm_raised {h : Hw} {p : Nat} (some : h.raisedOn p ≠ []) : ∃ r : Raised, h.rearm p =
    (((h.wr p FACE.FE_INFO_VALID 0).wr p FACE.FE_COUNT 0).capture p r.source r.cap).wr p FACE.FE_COUNT (h.raisedOn p).length := by
  unfold Hw.rearm
  extract_lets rs g first
  have found : first.isSome = true := by
    refine foldl_isSome _ (fun a r => ?_) (by simpa using some) _
    cases a with
    | none => rfl
    | some x => dsimp only; split <;> rfl
  obtain ⟨r, e⟩ := Option.isSome_iff_exists.mp found
  refine ⟨r, ?_⟩
  rw [e]

/-- Settles O11: the record is the flag, the count and, where the source takes it, the capture, each in registers of its own. That commands at
one value of the cycle counter are of one clock is the model's choice (log entry 11). -/
theorem firstErrorCapture : Obligations.FirstErrorCapture := by
  refine ⟨fun h p i c small armed => ?first, fun h p i c small valid later => ?further, fun h p i c small valid same earlier => ?earlier,
    fun _ _ => rfl, fun h p i c zero => raise_of_reaction_zero c zero, fun s m page t cls => ?rearm⟩
  case first =>
    have takes := captures_armed (i := i) armed
    refine ⟨?_, ?_, ?_, ?_, ?_, ?_, ?_, (record_count c).trans (raiseCount_first armed), record_flag c small⟩
    all_goals simp (disch := decide) only [rd2_eq_rd, record_field _ takes]
    · exact capture_addr _ p i c
    · exact capture_master _ p i c
    · exact capture_access _ p i c
    · exact capture_source _ p c small
    · exact capture_injected _ p i c
    · exact capture_valid _ p i c
    · exact capture_time _ p i c
  case further =>
    have kept := captures_not valid later
    refine ⟨?_, record_keeps c kept FACE.FE_INFO_VALID, ?_, (record_count c).trans (raiseCount_next valid), record_flag c small⟩
    · rw [rd2_eq_rd, rd2_eq_rd, rd_of_word (record_keeps c kept FACE.FE_ADDR_LO), rd_of_word (record_keeps c kept FACE.FE_ADDR_HI)]
    · rw [rd2_eq_rd, rd2_eq_rd, rd_of_word (record_keeps c kept FACE.FE_TIME_LO), rd_of_word (record_keeps c kept FACE.FE_TIME_HI)]
  case earlier =>
    have takes := captures_earlier same earlier
    refine ⟨?_, ?_, ?_, ?_, (record_count c).trans (raiseCount_next valid), record_flag c small⟩
    all_goals simp (disch := decide) only [rd2_eq_rd, record_field _ takes]
    · exact capture_addr _ p i c
    · exact capture_master _ p i c
    · exact capture_source _ p c small
    · exact capture_valid _ p i c
  case rearm =>
    have live : (clsOf (4096 * page.val)).isNone = false := by simpa using cls
    have base : pageBase (addrOf FACE.FE_INFO_VALID (4096 * page.val) 0) = 4096 * page.val := by
      unfold pageBase addrOf
      simp only [FACE.FE_INFO_VALID]
      omega
    refine ⟨s.hw.rearm (4096 * page.val), congrArg (finish s) ?_, fun none => ?_, fun some => ?_⟩
    · exact (if_neg (ne_true_of_eq_false live)).trans ((writeTo_takes t _).trans (by rw [base]))
    · rw [rearm_quiet none]
      exact ⟨(rd_wr_other _ _ _ (by decide) (by decide) (by decide) (by decide)).trans (rd_wr_same _ _ _ _), rd_wr_same _ _ _ _⟩
    · obtain ⟨r, e⟩ := rearm_raised some
      rw [e]
      refine ⟨(rd_wr_other _ _ _ (by decide) (by decide) (by decide) (by decide)).trans (capture_valid _ _ _ _), ?_⟩
      exact rd_wr_same _ _ FACE.FE_COUNT _

end Sys2Proof.Machine
end

section
/-! A register write that R398 does not permit: what its account changes. -/

namespace Sys2Proof.Machine

/-- The hardware g is h but for what the account of a refusal on page p may change: messages, follow-ups and the raises of the clock, and
registers of p, HOST and FANTAIL. -/
def Accounts (p : Nat) (h g : Hw) : Prop :=
  Says h g ∧ ∀ b, pageBase b ≠ p → pageBase b ≠ pHOST → pageBase b ≠ pFANTAIL → g.word b = h.word b

namespace Accounts

variable {p : Nat} {h g k : Hw}

theorem refl (p : Nat) (h : Hw) : Accounts p h h := ⟨.refl h, fun _ _ _ _ => rfl⟩

theorem trans (e : Accounts p h g) (e' : Accounts p g k) : Accounts p h k :=
  ⟨e.1.trans e'.1, fun b page host fan => (e'.2 b page host fan).trans (e.2 b page host fan)⟩

end Accounts

theorem accounts_refuse (p : Nat) (h : Hw) (m : Master) (a : Nat) : Accounts p h (h.refuse m a false true) := by
  refine ⟨says_refuse h m a false true, fun b _ host fan => ?_⟩
  exact (word_raiseN_page host fan 6 rfl host 3 _ _).trans (word_wr_page rfl host h HOST.REFUSED_WR _)

/-- A write that is not permitted is refused where the page is served to a master that acts, and has no effect elsewhere. -/
theorem writeTo_refused {h : Hw} {m : Master} {a : Nat} (may : h.mayWrite m a = false) (f : Hw → Hw) :
    h.writeTo m a f = if !h.pageServed m (pageBase a) || !h.masterActs m then h else h.refuse m a false true := by
  unfold Hw.writeTo
  simp only [may, Bool.not_false, if_true]

theorem accounts_writeTo {h : Hw} {m : Master} {a : Nat} (p : Nat) (may : h.mayWrite m a = false) (f : Hw → Hw) :
    Accounts p h (h.writeTo m a f) := by
  rw [writeTo_refused may]
  split
  · exact .refl p h
  · exact accounts_refuse p h m a

/-! ### The channels of a DMA page -/

theorem ite_ne {α : Type} {c : Prop} [Decidable c] {x y z : α} (left : x ≠ z) (right : y ≠ z) : (if c then x else y) ≠ z := by
  split
  · exact left
  · exact right

theorem singleCls_ne_dma (k : Nat) : singleCls k ≠ .dma := by
  unfold singleCls
  split <;> decide

theorem stationCls_ne_dma (k : Nat) : stationCls k ≠ .dma := by
  unfold stationCls
  split <;> decide

/-- The DMA pages are the pages 0x10 to 0x13. -/
theorem clsOfNum_eq_dma {k : Nat} (dma : clsOfNum k = some .dma) : 0x10 ≤ k ∧ k < 0x14 := by
  by_contra out
  by_cases low : k < 0x10
  · simp [clsOfNum, low, singleCls_ne_dma] at dma
  · refine absurd dma ?_
    rw [clsOfNum, if_neg low, if_neg (by omega)]
    iterate 14 refine ite_ne (by simp [stationCls_ne_dma]) ?_
    simp

/-- The page of a channel whose registers hold an address of a DMA page is the address's page. -/
theorem dmaPage_of_addr {a : Nat} (dma : clsOf (pageBase a) = some .dma) (low : 0x100 ≤ pageOff a) (high : pageOff a < 0x500) :
    dmaPage (16 * unitOf (pageBase a) + (pageOff a - 0x100) / 64) = pageBase a := by
  have base : pageBase a / 4096 = a / 4096 := Nat.mul_div_cancel _ (by decide)
  unfold clsOf at dma
  rw [base] at dma
  obtain ⟨first, last⟩ := clsOfNum_eq_dma dma
  have unit : unitOf (pageBase a) = a / 4096 - 0x10 := by
    unfold unitOf pageInstance
    simp only [base, Nat.not_lt.mpr first, last, if_true, if_false]
  rw [unit]
  unfold dmaPage pDMA pageBase
  omega

/-- Counting a refusal on a DMA page leaves who owns its channels, and so who may write them. -/
theorem mayWrite_inc_refused (h : Hw) (m : Master) {a : Nat} (dma : clsOf (pageBase a) = some .dma) :
    (h.inc (pageBase a) DMA.REFUSED_CNT).mayWrite m a = h.mayWrite m a := by
  have owner : ∀ i, (h.inc (pageBase a) DMA.REFUSED_CNT).rdi (pageBase a) DMA.CH_OWNER i = h.rdi (pageBase a) DMA.CH_OWNER i := by
    refine fun i => rdi_wri_other h _ _ 0 _ _ _ i (by decide) (by decide) (by decide) (.inl ?_)
    unfold addrOf
    simp only [DMA.CH_OWNER, DMA.REFUSED_CNT]
    omega
  simp only [Hw.mayWrite, dma, owner]

theorem accounts_dmaWrite {h : Hw} {m : Master} {k a : Nat} (dma : clsOf (pageBase a) = some .dma) (page : dmaPage k = pageBase a)
    (may : h.mayWrite m a = false) (f : Hw → Hw) : Accounts (pageBase a) h (h.dmaWrite m k a f) := by
  unfold Hw.dmaWrite
  split
  · rw [page]
    refine .trans ⟨(Says.refl h).inc _ _, fun b other _ _ => ?_⟩ (accounts_writeTo _ ((mayWrite_inc_refused h m dma).trans may) f)
    exact word_wr_page (Nat.mul_mod_left _ _) other h DMA.REFUSED_CNT _
  · exact accounts_writeTo _ may f

/-- What a register write that is not permitted changes is its account. -/
theorem accounts_w0RegisterWrite {h : Hw} {m : Master} {a : BitVec 20} (n : BitVec 10) (w : Word) (may : h.mayWrite m a.toNat = false) :
    Accounts (pageBase a.toNat) h (w0RegisterWrite m a n w h) := by
  unfold w0RegisterWrite
  extract_lets o p
  cases cls : clsOf p with
  | none => exact .refl _ h
  | some c =>
    dsimp only
    split
    · exact .refl _ h
    · split
      case isTrue channel =>
        obtain ⟨rfl, low, high⟩ := channel
        exact accounts_dmaWrite cls (dmaPage_of_addr cls low high) may _
      case isFalse => exact accounts_writeTo _ may _

/-- Outside the DMA pages, an aligned write of four bytes that is not permitted on a page served to a master that acts is refused. -/
theorem w0RegisterWrite_refused {h : Hw} {m : Master} {a : BitVec 20} {n : BitVec 10} (w : Word) {c : Cls}
    (may : h.mayWrite m a.toNat = false) (served : h.pageServed m (pageBase a.toNat) = true) (acts : h.masterActs m = true)
    (cls : clsOf (pageBase a.toNat) = some c) (other : c ≠ .dma) (size : w0Takes a.toNat n.toNat = true) :
    w0RegisterWrite m a n w h = h.refuse m a.toNat false true := by
  simp only [w0RegisterWrite, cls, size, other, Bool.not_true, Bool.false_eq_true, if_false, false_and]
  rw [writeTo_refused may, if_neg (by simp [served, acts])]

/-- Settles O13: the write has no effect but a DMA page's own count and the refusal, which counts and raises. -/
theorem refusedWriteChangesNothing : Obligations.RefusedWriteChangesNothing := by
  intro s m x w may
  obtain ⟨shape, words⟩ := accounts_w0RegisterWrite x.bytes w may
  exact ⟨_, finish_eq s _, shape, words, fun c served acts cls other size => w0RegisterWrite_refused w may served acts cls other size⟩

end Sys2Proof.Machine
end

section
/-! Stepper axes, groups and rendezvous channels (R277, R279, R283–R285, R288–R290, R292): what each command answers. -/

namespace Sys2Proof.Machine

/-- A write that is taken leaves what its effect leaves, and the account of the transaction. -/
theorem writeTo_effect {h : Hw} {m : Master} {a : Nat} {f : Hw → Hw} {g : Hw} (t : h.takes m a = true) (effect : f h = g) :
    h.writeTo m a f = g.fabricUse (pageBase a) :=
  (writeTo_takes t f).trans (congrArg (Hw.fabricUse · _) effect)

/-- A command that is carried out where a condition fails answers its effect there. -/
theorem finish_if_neg {c : Prop} [Decidable c] (fails : ¬c) (s : State) (x y : Hw) : finish s (if c then x else y) = .next (s.settled y) :=
  congrArg (finish s) (if_neg fails)

/-! ### Steppers -/

/-- The stepper as a write of EN 1 finds it once the bit stands: the engine kernel's own write has re-armed the unit (log entry 34). -/
def Hw.stpArmed (h : Hw) (m : Master) (n : Nat) : Hw :=
  if isKernel m then (h.wr (pSTEP n) STEP.STEP_CTRL_EN 1).rearmUnit (stepBank n) (stepBridge n) else h.wr (pSTEP n) STEP.STEP_CTRL_EN 1

theorem stepEnWrite_stops {h : Hw} {m : Master} {n : Nat} (t : h.takes m (addrOf STEP.STEP_CTRL_EN (pSTEP n) 0) = true) :
    stepEnWrite m n false h = (h.stpOff n).fabricUse (pageBase (addrOf STEP.STEP_CTRL_EN (pSTEP n) 0)) := by
  unfold stepEnWrite
  rw [writeTo_takes t, if_neg Bool.false_ne_true]

/-- EN 1 in OFF, with MBUS up and ENABLE not held, begins PRECHARGE. -/
theorem stepEnable_starts {h : Hw} {m : Master} {n : Nat} (mbus : h.is (pSTEP n) STEP.STEP_STS_MBUS_LOW = false) (off : h.stpState n = 0)
    (free : (h.stpArmed m n).stageHeld (stepBank n) (stepBridge n) = false) :
    h.stepEnable n (isKernel m) = (h.stpArmed m n).stpEnter n 1 :=
  (if_neg (ne_true_of_eq_false mbus)).trans ((if_neg (not_not.mpr off)).trans (if_neg (ne_true_of_eq_false free)))

theorem stepEnWrite_starts {h : Hw} {m : Master} {n : Nat} (t : h.takes m (addrOf STEP.STEP_CTRL_EN (pSTEP n) 0) = true)
    (mbus : h.is (pSTEP n) STEP.STEP_STS_MBUS_LOW = false) (off : h.stpState n = 0)
    (free : (h.stpArmed m n).stageHeld (stepBank n) (stepBridge n) = false) : stepEnWrite m n true h =
      ((h.stpArmed m n).stpEnter n 1).fabricUse (pageBase (addrOf STEP.STEP_CTRL_EN (pSTEP n) 0)) := by
  unfold stepEnWrite
  rw [writeTo_takes t, if_pos rfl, stepEnable_starts mbus off free]

/-- POS_SET at rest names the present position and leaves the electrical angle where it is. -/
theorem posSet_rests {h : Hw} {m : Master} {n : Nat} (v : Word) (t : h.takes m (addrOf STEP.POS_SET (pSTEP n) 0) = true)
    (rests : h.stpState n = 2) : posSet m n v h = (((h.modStp n fun x =>
      { x with angle := x.angle + h.stpSign n x.mu - h.stpSign n v.toInt, mu := v.toInt, c := v.toInt, p := v.toInt * pPerStep }).wr
        (pSTEP n) STEP.POS v.toNat).wr (pSTEP n) STEP.STEP_STS_POS_VALID 1).fabricUse (pageBase (addrOf STEP.POS_SET (pSTEP n) 0)) := by
  unfold posSet
  rw [writeTo_takes t, if_neg (not_not.mpr rests)]

/-- A chop period of a stepper that takes goals on a running page measures, and drives the phases unless a current trips it. -/
theorem chopPeriodStart_drives {h : Hw} {n : Nat} (iA iB : Int) (vbus : Nat) {t : Stamp} (takes : (h.chopBegin n t).2.stpTakes n = true)
    (runs : (h.chopBegin n t).2.runs (pSTEP n) = true) : chopPeriodStart n iA iB vbus t h =
      let p := pSTEP n
      let r := h.chopBegin n t
      let u := (r.2.wr p STEP.I_MEAS_IA (satSigned 16 iA)).wr p STEP.I_MEAS_IB (satSigned 16 iB)
      let trip := u.use p STEP.I_TRIP
      if trip < 2 * iA.natAbs ∨ trip < 2 * iB.natAbs then u.stpFault n 3
      else
        let mu := u.stpMuAt n t
        let v := (u.modStp n fun x => { x with mu := mu }).wr p STEP.POS (unsignedOf 32 mu)
        let w := if r.1.isEmpty then v.chop n iA iB vbus mu else v
        w.chopPulses n vbus r.1 t :=
  if_neg (by simp [takes, runs])

/-- Settles O43: each command's effect where its condition holds. That the engine kernel's own write of EN re-arms the unit is the model's
choice (log entry 34). -/
theorem stepperCommandsComplete : Obligations.StepperCommandsComplete := by
  refine ⟨fun s m n t => ?stops, fun s m n t mbus off free => ?starts, fun s n charging => ?charged, fun s n charging => ?notCharged,
    fun s m n t => ?stopNow, fun s m n v t => ?target, fun s m n v t => ?speed, fun s m n v t known alone => ?mode,
    fun s m n v t rests => ?posSet, fun s n iA iB vbus t takes runs => ?chop, fun s n rests => ?held⟩
  case stops => exact congrArg (finish s) (stepEnWrite_stops t)
  case starts => exact congrArg (finish s) (stepEnWrite_starts t mbus off free)
  case charged => exact finish_if_neg (not_not.mpr charging) _ _ _
  case notCharged => exact finish_if_pos charging _ _ _
  case stopNow => exact congrArg (finish s) (writeTo_takes t _)
  case target => exact congrArg (finish s) (writeTo_takes t _)
  case speed => exact congrArg (finish s) (writeTo_takes t _)
  case mode => exact congrArg (finish s) (writeTo_effect t (if_neg (by omega)))
  case posSet => exact congrArg (finish s) (posSet_rests v t rests)
  case chop => exact congrArg (finish s) (chopPeriodStart_drives _ _ _ takes runs)
  case held => exact finish_if_pos rests _ _ _

/-! ### Groups and rendezvous channels -/

/-- What a tick of MOTION does first: BELT is sampled, and waiting shadows apply. -/
def Hw.tickBegin (h : Hw) (t : Stamp) : Hw := forN 16 (fun n u => u.unitBoundary (pSTEP n) 0) (h.beltSample t)

/-- Then groups, axes and rendezvous channels move, in this order. -/
def Hw.tickMoved (h : Hw) (t : Stamp) : Hw :=
  forN 4 (fun r u => u.rdvTick r t) (forN 16 (fun n u => if u.stpTakes n && decide (u.grpOf n = 4) then u.stpTick n t else u)
    (forN 4 (fun g u => u.grpTick g t) h))

/-- The tick is counted, and every fourth one enters the histories of the steppers. -/
def Hw.tickEnd (h : Hw) (t : Stamp) : Hw :=
  let d : Hw := { h with motion := { h.motion with ticks := h.motion.ticks + 1 } }
  if h.motion.ticks % 4 = 0 then forN 16 (fun n u => u.modStp n fun x => { x with mus := ((t, u.stpMuAt n t) :: x.mus).take 257 }) d else d

theorem motionTick_eq (h : Hw) (t : Stamp) : motionTick t h =
    if !(h.tickBegin t).runs pMOTION then h.tickBegin t else ((h.tickBegin t).tickMoved t).tickEnd t := by
  unfold motionTick Hw.tickBegin Hw.tickMoved Hw.tickEnd
  rfl

theorem motionTick_halted {h : Hw} {t : Stamp} (halted : (h.tickBegin t).runs pMOTION = false) : motionTick t h = h.tickBegin t := by
  rw [motionTick_eq, halted, Bool.not_false, if_pos rfl]

theorem motionTick_runs {h : Hw} {t : Stamp} (runs : (h.tickBegin t).runs pMOTION = true) :
    motionTick t h = ((h.tickBegin t).tickMoved t).tickEnd t := by
  rw [motionTick_eq, runs, Bool.not_true, if_neg Bool.false_ne_true]

/-- A group of at most four members that is left disabled takes its members. -/
theorem grpCfgWrite_disabled {h : Hw} {m : Master} {g : Nat} {w : Word} (t : h.takes m (addrOf MOTION.GRP_CFG_MEMBERS pMOTION g) = true)
    (few : popCount16 (bitsOf w 15 0) ≤ 4) (off : bitsOf w 31 31 = 0) (was : h.mo MOTION.GRP_CFG_EN g = 0) : grpCfgWrite m g w h =
      ((h.moWr MOTION.GRP_CFG_MEMBERS g (bitsOf w 15 0)).moWr MOTION.GRP_CFG_EN g 0).fabricUse
        (pageBase (addrOf MOTION.GRP_CFG_MEMBERS pMOTION g)) := by
  unfold grpCfgWrite
  rw [writeTo_takes t]
  simp [off, was, Nat.not_lt.mpr few]

/-- GRP_GO of a resting group whose members all rest in HOLD starts it on the line to its targets. -/
theorem grpGo_starts {h : Hw} {m : Master} {g : Nat} (t : h.takes m (addrOf MOTION.GRP_GO pMOTION g) = true)
    (en : h.mo MOTION.GRP_CFG_EN g ≠ 0) (runs : h.runs pMOTION = true) (rests : h.grpMoving g = false)
    (stay : ((below 16 fun n => bitAt (h.mo MOTION.GRP_CFG_MEMBERS g) n).any fun n => h.stpExited n) = false)
    (hold : ((below 16 fun n => bitAt (h.mo MOTION.GRP_CFG_MEMBERS g) n).any fun n => !h.stpTakes n || decide (h.stpState n = 3)) = false) :
    grpGo m g h = ((h.moWr MOTION.GRP_STS_REDIRECT g 0).grpStart g
      ((below 16 fun n => bitAt (h.mo MOTION.GRP_CFG_MEMBERS g) n).map fun n => (n, h.stpTarget n))).fabricUse
        (pageBase (addrOf MOTION.GRP_GO pMOTION g)) := by
  unfold grpGo
  rw [writeTo_takes t]
  simp only [rests, stay, en, runs, hold, Bool.not_false, Bool.and_true, Bool.not_true, Bool.false_eq_true, or_self, if_false, if_true]

/-- GRP_GO of a moving group takes targets on its line, or stops first and goes on to them. -/
theorem grpGo_redirects {h : Hw} {m : Master} {g : Nat} (t : h.takes m (addrOf MOTION.GRP_GO pMOTION g) = true)
    (en : h.mo MOTION.GRP_CFG_EN g ≠ 0) (runs : h.runs pMOTION = true) (moves : h.grpMoving g = true)
    (stay : ((below 16 fun n => bitAt (h.mo MOTION.GRP_CFG_MEMBERS g) n).any fun n => h.stpExited n) = false)
    (take : ((below 16 fun n => bitAt (h.mo MOTION.GRP_CFG_MEMBERS g) n).any fun n => !h.stpTakes n) = false) : grpGo m g h =
      (let ts := (below 16 fun n => bitAt (h.mo MOTION.GRP_CFG_MEMBERS g) n).map fun n => (n, h.stpTarget n)
      if h.onLine g ts && !(h.grp g).stopping then h.modGrp g fun x => { x with ends := ts }
      else (h.moWr MOTION.GRP_STS_REDIRECT g 1).modGrp g fun x => { x with stopping := true, next := ts }).fabricUse
        (pageBase (addrOf MOTION.GRP_GO pMOTION g)) := by
  unfold grpGo
  rw [writeTo_takes t]
  simp only [moves, stay, en, runs, take, Bool.not_true, Bool.and_false, Bool.or_false, Bool.false_eq_true, or_self, if_false]

/-- RDV_CTRL.GO in IDLE, on an axis that takes goals and nothing else drives, begins PURSUE. -/
theorem rdvGo_pursues {h : Hw} {m : Master} {r : Nat} (t : h.takes m (addrOf MOTION.RDV_CTRL_GO pMOTION r) = true) (idle : h.rdvState r = 0)
    (take : h.stpTakes (h.mo MOTION.RDV_CTRL_AXIS r) = true) (stays : h.stpExited (h.mo MOTION.RDV_CTRL_AXIS r) = false)
    (noRdv : 4 ≤ h.rdvOf (h.mo MOTION.RDV_CTRL_AXIS r)) (noGrp : 4 ≤ h.grpOf (h.mo MOTION.RDV_CTRL_AXIS r)) : rdvGo m r h =
      (let n := h.mo MOTION.RDV_CTRL_AXIS r
      (((((((h.moWr MOTION.RDV_STS_STATE r 1).moWr MOTION.RDV_STS_CORRECTED r 0).setBit pMOTION MOTION.MO_STS_RDV_ACTIVE r true).modRdv
        r fun _ => Rdv.reset).wr (pSTEP n) STEP.STEP_CTRL_MODE 2)).modStp n fun x => { x with go := true })).fabricUse
          (pageBase (addrOf MOTION.RDV_CTRL_GO pMOTION r)) := by
  unfold rdvGo
  rw [writeTo_takes t]
  simp only [idle, take, stays, Nat.not_lt.mpr noRdv, Nat.not_lt.mpr noGrp, ne_eq, not_true_eq_false, Bool.not_true, Bool.false_eq_true,
    or_self, if_false]

/-- Settles O44: each command's effect where its condition holds. -/
theorem motionCommandsComplete : Obligations.MotionCommandsComplete := by
  refine ⟨fun s t halted => ?tickHalted, fun s t runs => ?tick, fun s m g w t few off was => ?grpCfg,
    fun s m g t en runs rests stay hold => ?grpStarts, fun s m g t en runs moves stay take => ?grpRedirects,
    fun s m r t idle take stays noRdv noGrp => ?rdvGo, fun s m r t active => ?rdvAbort⟩
  case tickHalted =>
    have tick := motionTick_halted (h := s.hw) halted
    rw [Hw.tickBegin] at tick
    exact congrArg (finish s) tick
  case tick =>
    have tick := motionTick_runs (h := s.hw) runs
    rw [Hw.tickEnd, Hw.tickMoved, Hw.tickBegin] at tick
    exact congrArg (finish s) tick
  case grpCfg => exact congrArg (finish s) (grpCfgWrite_disabled t few off was)
  case grpStarts => exact congrArg (finish s) (grpGo_starts t en runs rests stay hold)
  case grpRedirects => exact congrArg (finish s) (grpGo_redirects t en runs moves stay take)
  case rdvGo => exact congrArg (finish s) (rdvGo_pursues t idle take stays noRdv noGrp)
  case rdvAbort => exact congrArg (finish s) (writeTo_effect t (if_neg active))

end Sys2Proof.Machine
end

section
/-! Governor samples, evaluations, slots and banks (R298, R302, R305, R308, R310, R313, R314): what each command answers. -/

namespace Sys2Proof.Machine

/-- A sample that no injection acts on is taken. -/
theorem govSample_takes {h : Hw} {j : Nat} (comes : h.slUse j GOV.SL_CFG_TRIG = 0 ∨ (h.gov j).due ≠ 0)
    (ecc : h.injArmed (govPage j) 2 0 = false) (input : h.injArmed (govPage j) 1 0 = false) :
    govSample j h = (h.modGov j fun x => { x with due := x.due - 1 }).govTake j := by
  have now : ¬(h.slUse j GOV.SL_CFG_TRIG ≠ 0 ∧ (h.gov j).due = 0) := by tauto
  have ecc' : (h.modGov j fun x => { x with due := x.due - 1 }).injArmed (govPage j) 2 0 = false := ecc
  have input' : (h.modGov j fun x => { x with due := x.due - 1 }).injArmed (govPage j) 1 0 = false := input
  exact (if_neg now).trans ((if_neg (ne_true_of_eq_false ecc')).trans (if_neg (ne_true_of_eq_false input')))

/-- Settles O45: each command's effect where its condition holds. That an enable is checked against the values in use and those a COMMIT
would take up is the model's choice (log entry 144). -/
theorem governorCommandsComplete : Obligations.GovernorCommandsComplete := by
  refine ⟨fun s j comes ecc input => ?sample, fun s g x rest queue late => ?evaluates, fun s g x rest queue late => ?abandons,
    fun s j x oldest late => ?deadline, fun s m j t off valid load clash => ?enables, fun s m j t en => ?disables,
    fun s m j t idle free => ?switches, fun s j busy => ?validated, fun s g => rfl, fun s m g t => ?clears⟩
  case sample => exact congrArg (finish s) (govSample_takes comes ecc input)
  case evaluates =>
    refine congrArg (finish s) ?_
    unfold govEvalDone
    rw [queue]
    exact if_neg (ne_true_of_eq_false late)
  case abandons =>
    refine congrArg (finish s) ?_
    unfold govEvalDone
    rw [queue]
    exact if_pos late
  case deadline =>
    refine congrArg (finish s) ?_
    unfold govDeadlineMiss
    rw [oldest]
    exact if_pos late
  case enables =>
    refine congrArg (finish s) ?_
    unfold govSlotEn
    rw [writeTo_takes t]
    simp only [off, valid, load, clash, Bool.false_eq_true, if_false]
  case disables =>
    refine congrArg (finish s) ?_
    unfold govSlotDisable
    rw [writeTo_takes t]
    exact congrArg (Hw.fabricUse · _) (if_neg (by rw [en, Bool.not_true]; exact Bool.false_ne_true))
  case switches =>
    refine congrArg (finish s) ?_
    unfold govBankSwitch
    rw [writeTo_takes t]
    simp only [idle, free, Bool.false_eq_true, or_self, if_false]
  case validated =>
    refine congrArg (finish s) ?_
    unfold govValidateDone
    exact if_neg (by rw [busy, Bool.not_true]; exact Bool.false_ne_true)
  case clears => exact congrArg (finish s) (writeTo_takes t _)

end Sys2Proof.Machine
end

section
/-! High-voltage channels, lamps and temperature inputs (R315–R317, R320, R321, R323, R325, R326, R328–R330, R332): what each command
answers. -/

namespace Sys2Proof.Machine

/-! ### High-voltage channels -/

/-- Settles O46: each command's effect where its condition holds. That a measurement trips a channel whose EN is 0 is the model's choice
(log entry 46). -/
theorem highVoltageCommandsComplete : Obligations.HighVoltageCommandsComplete := by
  refine ⟨fun s c => rfl, fun s c vs is answers => ?conversion, fun s c current pass answers => ?openTest, fun s m i mask t => ?clears,
    fun s m t idle => ?checks, fun s waits still => ?applies, fun s c us j pg runs slot page still => ?ramps, fun s m c v t => ?enWrite,
    fun s c => rfl⟩
  case conversion => exact congrArg (finish s) (if_neg (by rw [answers, Bool.not_true]; exact Bool.false_ne_true))
  case openTest => exact congrArg (finish s) (if_neg (by rw [answers, Bool.not_true]; exact Bool.false_ne_true))
  case clears => exact congrArg (finish s) (writeTo_takes t _)
  case checks =>
    refine congrArg (finish s) ?_
    unfold ptBankSwitch
    rw [writeTo_takes t]
    exact congrArg (Hw.fabricUse · _) (if_neg (ne_true_of_eq_false idle))
  case applies => exact finish_if_pos (by rw [waits, still]; rfl) _ _ _
  case ramps =>
    refine congrArg (finish s) ?_
    unfold hvRefRamp
    rw [slot, page]
    exact (if_neg (by rw [runs, Bool.not_true]; exact Bool.false_ne_true)).trans (if_neg (ne_true_of_eq_false still))
  case enWrite => exact congrArg (finish s) (writeTo_takes t _)

/-! ### Lamps and temperature inputs -/

/-- The first zero-cross after a gap is noted and triggers the Governor. -/
theorem zeroCross_first {h : Hw} {rising : Bool} {t : Stamp} (answers : h.blockAnswers pLAMP = true) (last : h.mains.last = none) :
    zeroCross rising t h = { h with mains := { h.mains with last := some t, rising := rising } }.later (.trigger 5 0) := by
  unfold zeroCross
  rw [last]
  exact (if_neg (by simp [answers])).trans (if_pos rfl)

/-- What every later zero-cross does first: it is noted, triggers the Governor and shows the half-cycle it ends. -/
def Hw.halfMeasured (h : Hw) (rising : Bool) (t u : Stamp) : Hw :=
  ({ h with mains := { h.mains with last := some t, rising := rising } }.later (.trigger 5 0)).wr pLAMP LAMP.MAINS_HALF
    (min 16777215 ((t - u).toNat / 1024))

/-- A zero-cross within the tolerance of the half-cycle counts, and the lamps go on by it. -/
def Hw.halfRegular (a : Hw) (rising : Bool) : Hw :=
  let b : Hw := { a with mains := { a.mains with regular := a.mains.regular + 1 } }
  let c := forN 8 (fun k g => g.lcWake k) (if 10 ≤ b.mains.regular ∧ !b.is pLAMP LAMP.LP_STS_ZC_OK then (b.wr pLAMP
    LAMP.LP_STS_ZC_OK 1).persist pLAMP 6 false else b)
  if c.is pLAMP LAMP.LP_STS_ZC_OK then forN 8 (fun k g => g.lcHalf k rising) c else c

theorem zeroCross_again {h : Hw} {rising : Bool} {t u : Stamp} (answers : h.blockAnswers pLAMP = true) (last : h.mains.last = some u) :
    zeroCross rising t h = if !mainsRegular (t - u).toNat then mainsSenseLost (h.halfMeasured rising t u)
      else (h.halfMeasured rising t u).halfRegular rising := by
  unfold zeroCross Hw.halfRegular Hw.halfMeasured
  rw [last]
  exact (if_neg (by simp [answers])).trans (if_neg (by simp))

/-- EN 1 of a lamp of a group, with both E-STOP loops closed, re-arms one that was held where the engine kernel writes it. -/
theorem lampEnable_starts {h : Hw} {k : Nat} {rearm : Bool} (grouped : h.lc k LAMP.LC_CFG_G0_EN ≠ 0) (estop1 : h.pins.estop1 = true)
    (estop2 : h.pins.estop2 = true) (free : bitAt h.pins.heldLamp k = false ∨ rearm = true) : h.lampEnable k rearm =
      ({ h with pins := { h.pins with heldLamp := putBit h.pins.heldLamp k false } }.lcWr k LAMP.LC_CFG_EN 1).lcWake k := by
  have held : ¬(!h.pins.estop1 || !h.pins.estop2 || (bitAt h.pins.heldLamp k && !rearm)) = true := by
    obtain free | free := free <;> simp [estop1, estop2, free]
  exact (if_neg fun g => grouped g.1).trans (if_neg held)

/-- Settles O47: each command's effect where its condition holds. That the engine kernel's own write of EN re-arms a lamp is the model's
choice (log entry 34). -/
theorem lampCommandsComplete : Obligations.LampCommandsComplete := by
  refine ⟨fun s rising t answers last => ?first, fun s rising t u answers last low high => ?regular,
    fun s rising t u answers last off => ?irregular, fun s rising runs zc => ?grant, fun s k peak unlocked answers high => ?short,
    fun s k peak rms answers => ?half, fun s zc => ?lost, fun s m k t grouped e1 e2 free => ?enables, fun s m k t => ?disables,
    fun s m mask t => ?unlocks, fun s m mask t => ?fusClr, fun s t en answers => ?silent⟩
  case first => exact congrArg (finish s) (zeroCross_first answers last)
  case regular =>
    have good : mainsRegular (t - u).toNat = true := decide_eq_true ⟨low, high⟩
    have cross := (zeroCross_again (rising := rising) (t := t) answers last).trans (if_neg (by rw [good]; exact Bool.false_ne_true))
    rw [Hw.halfRegular, Hw.halfMeasured] at cross
    exact congrArg (finish s) cross
  case irregular =>
    have bad : mainsRegular (t - u).toNat = false := decide_eq_false (by omega)
    have cross := (zeroCross_again (rising := rising) (t := t) answers last).trans (if_pos (by rw [bad]; rfl))
    rw [Hw.halfMeasured] at cross
    exact congrArg (finish s) cross
  case grant => exact finish_if_neg (by simp [runs, zc]) _ _ _
  case short => exact finish_if_neg (by simp [unlocked, answers, high]) _ _ _
  case half => exact finish_if_neg (by simp [answers]) _ _ _
  case lost => exact finish_if_pos zc _ _ _
  case enables =>
    refine congrArg (finish s) ?_
    unfold lampEnWrite
    rw [writeTo_takes t, if_pos rfl, lampEnable_starts grouped e1 e2 free]
  case disables => exact congrArg (finish s) (writeTo_takes t _)
  case unlocks => exact congrArg (finish s) (writeTo_takes t _)
  case fusClr => exact congrArg (finish s) (writeTo_takes t _)
  case silent => exact finish_if_pos ⟨en, answers⟩ _ _ _

end Sys2Proof.Machine
end

section
/-! Leat trunks: cycles, frames, nodes and queues (R335, R337–R340, R350): what each command answers. -/

namespace Sys2Proof.Machine

/-! ### Frames of a node -/

/-- Hearing a slot is no node's state. -/
theorem node_slotHeard (h : Hw) (t j n : Nat) : (h.slotHeard t j).node t n = h.node t n := by
  unfold Hw.node Hw.slotHeard Hw.modTrunk Hw.trunk
  rw [tget_tset_same]

/-- A frame of a known node in its own slot of a running trunk is taken. -/
theorem leatIn_taken {h : Hw} {t n j ftype seq : Nat} (effect : Hw → Hw) (runs : h.is (pLEAT t) LEAT.LT_STS_RUNNING = true)
    (known : (h.node t n).st ≠ 0) (owner : h.slotOwner t j = some n) : h.leatIn t n j ftype seq effect = effect h :=
  (if_neg (by simp [runs])).trans (if_neg (by simp [known, owner]))

/-- A frame of a node that is up is acknowledged and served. -/
theorem leatServe_up {h : Hw} {t n j ack : Nat} (effect : Hw → Hw) (up : (h.node t n).st = 2) :
    h.leatServe t n j ack effect = (effect ((h.slotHeard t j).leatAck t n ack)).showNodes t :=
  if_pos ((congrArg LeatNode.st (node_slotHeard h t j n)).trans up)

theorem leatFrom_up {h : Hw} {t n j ftype seq ack : Nat} (effect : Hw → Hw) (runs : h.is (pLEAT t) LEAT.LT_STS_RUNNING = true)
    (up : (h.node t n).st = 2) (owner : h.slotOwner t j = some n) :
    h.leatFrom t n j ftype seq ack effect = (effect ((h.slotHeard t j).leatAck t n ack)).showNodes t :=
  (leatIn_taken _ runs (by omega) owner).trans (leatServe_up effect up)

/-- A sequenced frame with the next number is served and its number kept. -/
theorem leatReliable_next {h : Hw} {t n j ftype seq ack : Nat} (effect : Hw → Hw) (runs : h.is (pLEAT t) LEAT.LT_STS_RUNNING = true)
    (up : (h.node t n).st = 2) (owner : h.slotOwner t j = some n) (plain : h.injArmed (pLEAT t) 4 n = false)
    (next : seq = (h.node t n).seqRx % 255 + 1) (new : seq ≠ (h.node t n).seqRx) : h.leatReliable t n j ftype seq ack effect =
      (effect (((h.slotHeard t j).leatAck t n ack).modNode t n fun x => { x with seqRx := seq })).showNodes t := by
  unfold Hw.leatReliable
  rw [if_neg (by simp [plain]), leatIn_taken _ runs (by omega) owner]
  have fresh : ¬(seq = (h.node t n).seqRx ∧ (h.node t n).seqRx ≠ 0) := fun again => new again.1
  refine (if_neg (by simp [next])).trans ((leatServe_up _ up).trans (congrArg (Hw.showNodes · t) (if_neg (by simp [fresh]))))

/-- Settles O48: each command's effect where its condition holds. What a trunk does at the corners of a frame and what enters the report
queue are the model's choices (log entries 63 and 147). -/
theorem leatCommandsComplete : Obligations.LeatCommandsComplete := by
  refine ⟨fun s t time runs => ?cycle, fun s t n j verMin verMax vendor model firmware runs known owner => ?hello,
    fun s t n j ack lo hi runs up owner => ?status,
    fun s t n j seq ack input level low arrival runs up owner plain next new => ?edge,
    fun s t n j ack idx fault v low runs up owner => ?value, fun s t n j seq ack lo hi runs up owner plain next new => ?reply,
    fun s t n j ack reason seq ftype runs up owner => ?violation, fun s t n reason seq ftype runs => ?bad,
    fun s t n out lapsed => ?failed, fun s t n up missed => ?silent, fun s t runs many => ?line, fun s m t k room => ?push,
    fun s m t k => ?pop, fun s m t v k => ?enWrite⟩
  case cycle => exact finish_if_pos runs _ _ _
  case hello =>
    refine congrArg (finish s) ?_
    unfold leatHello
    exact leatIn_taken _ runs known owner
  case status => exact congrArg (finish s) (leatFrom_up _ runs up owner)
  case edge => exact congrArg (finish s) (leatReliable_next _ runs up owner plain next new)
  case value => exact congrArg (finish s) (leatFrom_up _ runs up owner)
  case reply => exact congrArg (finish s) (leatReliable_next _ runs up owner plain next new)
  case violation => exact congrArg (finish s) (leatFrom_up _ runs up owner)
  case bad => exact finish_if_pos runs _ _ _
  case failed => exact finish_if_pos ⟨out, lapsed⟩ _ _ _
  case silent => exact finish_if_pos ⟨up, missed⟩ _ _ _
  case line => exact finish_if_pos ⟨runs, many⟩ _ _ _
  case push =>
    refine congrArg (finish s) ?_
    unfold cmdPush
    rw [writeTo_takes k]
    exact congrArg (Hw.fabricUse · _) (if_pos room)
  case pop => exact congrArg (finish s) (writeTo_takes k _)
  case enWrite => exact congrArg (finish s) (writeTo_takes k _)

end Sys2Proof.Machine
end

section
/-! The sheet tracker and the thermal supervision (R341, R342, R344, R347, R349, R353–R355, R357–R359, R362, R363): what each command
answers. -/

namespace Sys2Proof.Machine

/-! ### Sheet slots, checkpoints and jams -/

/-- A checkpoint of an open sheet that comes too late, by the lead or the trailing edge, declares a jam. -/
theorem checkpointMissed_declares {h : Hw} {n : Fin 64} {i : Fin 128} {trail : Bool} (late : h.reportOver n i trail = true)
    (en : h.is pSHEET SHEET.SH_CTRL_EN = true) (runs : h.runs pSHEET = true) (clear : h.jammed = false) (isOpen : h.shState n = 1)
    (onPath : (h.classCps (h.shClass n)).contains i.val = true)
    (awaited : (if trail then h.isi pSHEET SHEET.CP_SRC_TRAIL_EN i && (h.sheet n).lead.contains i.val && !(h.sheet n).trail.contains i.val
      else !(h.sheet n).lead.contains i.val) = true) :
    checkpointMissed n i trail h = h.declareJam (if trail then 3 else 1) i n := by
  unfold checkpointMissed
  exact if_pos (by rw [late, en, runs, clear, onPath, awaited, isOpen]; rfl)

/-- Settles O49: each command's effect where its condition holds. That EN checks every class and that a jam is declared by the first late
report are the model's choices (log entry 64). -/
theorem sheetCommandsComplete : Obligations.SheetCommandsComplete := by
  refine ⟨fun s m n d c purge t kernel clear free early => ?opens, fun s m t => ?disables, fun s m t good => ?enables,
    fun s n i late en runs clear isOpen onPath lead => ?leads,
    fun s n i late en runs clear isOpen onPath counts lead trail => ?trails, fun s m t => ?requests, fun s m t stopped => ?clears⟩
  case opens =>
    refine congrArg (finish s) ?_
    unfold sheetOpen
    rw [kernelOnly_takes t kernel]
    refine congrArg (Hw.fabricUse · _) (if_neg (ne_true_of_eq_false (Bool.or_eq_false_iff.mpr ⟨?_, early⟩)))
    rw [clear, free]
    rfl
  case disables => exact congrArg (finish s) (writeTo_takes t _)
  case enables =>
    refine congrArg (finish s) ?_
    unfold sheetEnWrite
    rw [writeTo_takes t, good]
    rfl
  case leads =>
    exact congrArg (finish s) (checkpointMissed_declares late en runs clear isOpen onPath (by rw [lead]; rfl))
  case trails =>
    exact congrArg (finish s) (checkpointMissed_declares late en runs clear isOpen onPath (by rw [counts, lead, trail]; rfl))
  case requests => exact congrArg (finish s) (writeTo_takes t _)
  case clears =>
    refine congrArg (finish s) ?_
    unfold jamClr
    rw [writeTo_takes t]
    exact congrArg (Hw.fabricUse · _) (if_pos stopped)

/-! ### Thermal samples, rates, steps and supervision -/

/-- Two live cold-plate sensors that read more than 6 °C apart raise the spread. -/
theorem cpSpread_raises {h : Hw} {i j : Nat} (hi : i ∈ [32, 33, 34, 35]) (hj : j ∈ [32, 33, 34, 35])
    (liveI : h.snsBroken i = false ∧ h.bit (snsPage i) THERMAL.UNCHECK (snsIdx i) = false)
    (liveJ : h.snsBroken j = false ∧ h.bit (snsPage j) THERMAL.UNCHECK (snsIdx j) = false)
    (apart : 600 < signed 16 (h.rdi (snsPage i) THERMAL.SNS_EFF (snsIdx i)) - signed 16 (h.rdi (snsPage j) THERMAL.SNS_EFF (snsIdx j))) :
    cpSpread h = h.raise pTHERMALB 6 (thCap 32 8) := by
  have live (k : Nat) (hk : k ∈ [32, 33, 34, 35])
      (l : h.snsBroken k = false ∧ h.bit (snsPage k) THERMAL.UNCHECK (snsIdx k) = false) :
      k ∈ ([32, 33, 34, 35] : List Nat).filter fun k => !h.snsBroken k && !h.bit (snsPage k) THERMAL.UNCHECK (snsIdx k) :=
    List.mem_filter.mpr ⟨hk, by rw [l.1, l.2]; rfl⟩
  refine if_pos (List.any_eq_true.mpr ⟨_, List.mem_map_of_mem (live i hi liveI), ?_⟩)
  exact List.any_eq_true.mpr ⟨_, List.mem_map_of_mem (live j hj liveJ), decide_eq_true apart⟩

/-- Settles O50: each command's effect where its condition holds. That a SEAL loop that stands closed ends LOCKOUT and how the corrections
are made are the model's choices (log entries 148 and 151). -/
theorem thermalCommandsComplete : Obligations.ThermalCommandsComplete := by
  refine ⟨fun s raw bad power vaon => ?sample, fun s i long sound => ?broken, fun s vaon => ?rates, fun s throttle => ?steps,
    fun s runs calm => ?clears, fun s i j among liveI liveJ apart => ?spread, fun s vaon off down cool => ?restarts,
    fun s vaon => ?corrects, fun s m mask t => ?rejudgeB, fun s m mask t => ?rejudgeA, fun s => rfl⟩
  case sample => exact finish_if_neg (by simp [vaon]) _ _ _
  case broken => exact finish_if_neg (by simp [long, sound]) _ _ _
  case rates => exact finish_if_neg (by simp [vaon]) _ _ _
  case steps => exact finish_if_pos throttle _ _ _
  case clears => exact finish_if_pos (by rw [runs, Bool.and_true]; exact calm) _ _ _
  case spread => exact congrArg (finish s) (cpSpread_raises among.1 among.2 liveI liveJ apart)
  case restarts =>
    refine congrArg (finish s) ?_
    unfold thermalRestart
    rw [if_neg (by simp [vaon]), if_pos ⟨off, down, cool⟩]
  case corrects => exact finish_if_neg (by simp [vaon]) _ _ _
  case rejudgeB => exact congrArg (finish s) (writeTo_takes t _)
  case rejudgeA => exact congrArg (finish s) (writeTo_takes t _)

end Sys2Proof.Machine
end

section
/-! The Sluice's operations, the stored program, the log and deferred tests (R366–R368, R371, R372, R376–R378, R392, R469): what each command
answers. -/

namespace Sys2Proof.Machine

/-! ### Operations of a sequence -/

/-- Settles O51: each command's effect where its condition holds. How MBUS is discharged by a DIS of its own, and that an EN or DIS which is
refused goes on, are the model's choices (log entries 22 and 23). -/
theorem sluiceStepsComplete : Obligations.SluiceStepsComplete := by
  refine ⟨fun s here => ?en, fun s here => ?dis, fun s mv timedOut confirmed us r rail notMbus inTime low => ?disDone, fun s here => ?wait,
    fun s here => ?waited, fun s here => ?check, fun s mv vIn vCap here holds => ?passes, fun s here => ?timeout, fun s here => ?jump,
    fun s here => ?log, fun s x here seq => ?ends, fun s due power => ?retry⟩
  case en => exact finish_if_pos here _ _ _
  case dis => exact finish_if_pos here _ _ _
  case disDone =>
    refine congrArg (finish s) ?_
    unfold sluiceDisDone
    rw [rail, inTime]
    exact (if_neg notMbus).trans ((if_pos rfl).trans (if_pos low))
  case wait => exact finish_if_pos here _ _ _
  case waited => exact finish_if_pos here _ _ _
  case check => exact finish_if_pos here _ _ _
  case passes => exact finish_if_pos (by rw [here, holds]; rfl) _ _ _
  case timeout => exact finish_if_pos here _ _ _
  case jump => exact finish_if_pos here _ _ _
  case log => exact finish_if_pos here _ _ _
  case ends =>
    refine congrArg (finish s) ?_
    unfold sluiceEnd
    rw [if_pos here, seq]
  case retry => exact finish_if_pos ⟨due, by rw [power]; rfl⟩ _ _ _

/-! ### The stored program, the log and deferred tests -/

/-- A unit of the ring that is written and read back leaves the queue and takes the next number. -/
theorem logUnitWrite_writes {h : Hw} {r : LogRec} (free : h.mram.hold = false) (vaon : h.boot.vaon = true) (next : h.nextRecord = some r)
    (plain : h.injArmed pSLUICE 6 0 = false) (kept : h.mram.dropped = 0) : logUnitWrite true h =
      (let u : Hw := { h with mram := { h.mram with queue := h.mram.queue.tail } }
      let v := (u.wr pSLUICE SLUICE.LOG_QFREE (64 - u.mram.queue.length)).wr pSLUICE SLUICE.LOG_SEQ (nextSeq (h.rd pSLUICE SLUICE.LOG_SEQ))
      v.putUnit (some ⟨h.rd pSLUICE SLUICE.LOG_SEQ, v.clk.time, r⟩)) := by
  unfold logUnitWrite
  rw [if_neg (by simp [free, vaon]), next]
  refine (if_neg (ne_true_of_eq_false plain)).trans ((if_neg Bool.false_ne_true).trans ?_)
  rw [if_neg (by omega)]

/-- Settles O53: each command's effect where its condition holds. How a torn unit and TIME enter the ring, the program's check value and the
gap of a deferred test are the model's choices (log entries 24, 42 and 74). -/
theorem logCommandsComplete : Obligations.LogCommandsComplete := by
  refine ⟨fun s m t window => ?stores, fun s m t kernel => ?pushes, fun s readBack r free vaon next plain good kept => ?writes,
    fun s free vaon next => ?expires, fun s j due => ?runs, fun s j a deferred slot => ?defers⟩
  case stores =>
    refine congrArg (finish s) ?_
    unfold progStore
    refine (writeTo_takes t _).trans (congrArg (Hw.fabricUse · _) ((gatedWrite_opened window m _ _).trans ?_))
    rfl
  case pushes => exact congrArg (finish s) (kernelOnly_takes t kernel _)
  case writes =>
    rw [good]
    exact congrArg (finish s) (logUnitWrite_writes free vaon next plain kept)
  case expires =>
    obtain ⟨r, next⟩ := Option.isSome_iff_exists.mp next
    exact finish_if_neg (by simp [free, vaon, next]) _ _ _
  case runs =>
    refine congrArg (finish s) ?_
    unfold deferredTestRun
    rw [due]
  case defers =>
    refine congrArg (finish s) ?_
    unfold deferTimeout
    rw [deferred, slot]

end Sys2Proof.Machine
end

section
/-! Mains-on, boot, self-test and READY (R382, R384–R386, R391, R392, R394): what each command answers. -/

namespace Sys2Proof.Machine

/-! ### What a start of the Sluice leaves alone -/

/-- The local time, the Millpond, the boot's own state and the pins of h are those of g. -/
def SameCore (h g : Hw) : Prop := g.clk = h.clk ∧ g.mem = h.mem ∧ g.boot = h.boot ∧ g.pins = h.pins

namespace SameCore

variable {h g k : Hw}

theorem refl (h : Hw) : SameCore h h := ⟨rfl, rfl, rfl, rfl⟩

theorem trans (e : SameCore h g) (e' : SameCore g k) : SameCore h k := by
  obtain ⟨clk, mem, boot, pins⟩ := e
  obtain ⟨clk', mem', boot', pins'⟩ := e'
  exact ⟨clk'.trans clk, mem'.trans mem, boot'.trans boot, pins'.trans pins⟩

theorem wri (e : SameCore h g) (p : Nat) (f : Field) (i v : Nat) : SameCore h (g.wri p f i v) :=
  e.trans ⟨wri_clk .., wri_mem .., wri_boot .., wri_pins ..⟩

theorem wr (e : SameCore h g) (p : Nat) (f : Field) (v : Nat) : SameCore h (g.wr p f v) := e.wri p f 0 v

theorem setBit (e : SameCore h g) (p : Nat) (f : Field) (b : Nat) (v : Bool) : SameCore h (g.setBit p f b v) := e.wr _ _ _

theorem modSq (e : SameCore h g) (f : Sluice → Sluice) : SameCore h (g.modSq f) := e.trans ⟨rfl, rfl, rfl, rfl⟩

theorem mram (e : SameCore h g) (m : Mram) : SameCore h { g with mram := m } := e.trans ⟨rfl, rfl, rfl, rfl⟩

theorem of_says (e : SameCore h g) (s : Says g k) : SameCore h k := by
  obtain ⟨r, x, d, rs, t, c, m, rfl⟩ := s
  exact e.trans ⟨rfl, rfl, rfl, rfl⟩

theorem ite {c : Prop} [Decidable c] (x : SameCore h g) (y : SameCore h k) : SameCore h (if c then g else k) := by
  split
  · exact x
  · exact y

/-- Writing a list of fields changes registers alone. -/
theorem writes {α : Type} (e : SameCore h g) (p : α → Nat) (f : α → Field) (i v : α → Nat) (l : List α) :
    SameCore h (l.foldl (fun g x => g.wri (p x) (f x) (i x) (v x)) g) := by
  induction l generalizing g with
  | nil => exact e
  | cons x l ih => exact ih (e.wri _ _ _ _)

theorem carry (e : SameCore h g) (old : Hw) (fs : List (Nat × Field × Nat)) : SameCore h (g.carry old fs) := e.writes _ _ _ _ fs

theorem log (e : SameCore h g) (r : LogRec) : SameCore h (g.log r) := by
  have queued : SameCore h (g.logQueue r) := by
    unfold Hw.logQueue
    exact ite ((e.mram _).wr _ _ _) ((e.wri _ _ _ _).mram _)
  exact ite (queued.of_says (says_raise _ _ _ _)) queued

theorem sqStart (e : SameCore h g) (entry cause : Nat) : SameCore h (g.sqStart entry cause) := by
  unfold Hw.sqStart Hw.sqLog Hw.sqGoto
  exact ((((((e.modSq _).wr _ _ _).wr _ _ _).wr _ _ _).wr _ _ _).modSq _ |>.wr _ _ _).log _

theorem showProgram (e : SameCore h g) : SameCore h g.showProgram := by
  unfold Hw.showProgram Hw.showStep
  exact ((((((e.wr _ _ _).wr _ _ _).wr _ _ _).wr _ _ _).wr _ _ _).wr _ _ _).wr _ _ _

theorem scanRing (e : SameCore h g) : SameCore h g.scanRing := by
  unfold Hw.scanRing
  exact ((e.wr _ _ _).wr _ _ _).wr _ _ _

theorem loop (e : SameCore h g) (n : Nat) (f : Nat → Hw → Hw) (step : ∀ i g, SameCore h g → SameCore h (f i g)) : SameCore h (forN n f g) :=
  forN_keeps (SameCore h) n f g e step

end SameCore

/-- The state that the rails leave as they come up, before any register shows it. -/
def Hw.powered (h : Hw) : Hw :=
  let n := h.wiped
  { n with
    mem := [], stations := [], bridges := [], banks := [], msixFns := []
    boot := { Boot.reset with vaon := true, slotA := h.boot.slotA, slotB := h.boot.slotB, resetNLow := h.boot.resetNLow
                              causeAt := h.clk.time, degraded := h.boot.degraded }
    pins := { n.pins with hven := 0, enc5v := 2 ^ 20 - 1 }
    mram := { n.mram with program := h.mram.selected, hold := false, staged := [] }
    sluice := { Sluice.reset with deadPhases := h.sluice.deadPhases } }

theorem SameCore.powerUp (h : Hw) (cause : Nat) : SameCore h.powered (h.powerUp cause) := by
  unfold Hw.powerUp
  refine SameCore.sqStart (.scanRing (.showProgram ?_)) _ _
  have kept := ((SameCore.refl h.powered).writes (·.1) (·.2.1) (·.2.2) (fun x => bitsOf (regReset (addrOf x.2.1 x.1 x.2.2)) x.2.1.hi x.2.1.lo)
    keptFields).carry h keptMembers
  exact .wr (.wr (.wr (.wr (.wr (.wr (.wr (.wr (.wr kept _ _ _) _ _ _) _ _ _) _ _ _) _ _ _) _ _ _) _ _ _) _ _ _) _ _ _

/-- Everything that mains coming back clears: the registers but for the counters kept since manufacture, the time, and what waits to be
logged. -/
def Hw.mainsBack (h : Hw) : Hw :=
  { h with
      regs := []
      clk := ⟨0, 0, 0, 0⟩
      thermal := { Thermal.reset with limit := h.thermal.limit }
      boot := { h.boot with resetNLow := h.boot.resetNLow }
      pins := { h.pins with sealAtMains := h.pins.sealClosed, buttonEnds := none, ilkClosedAt := 0 }.holdAll
        (!(h.pins.estop1 && h.pins.estop2))
      mram := { h.mram with queue := [], dropped := 0, restarts := h.mram.restarts.map fun _ => 0 } }

/-- What the module shows of mains, its phases, the SEAL loop and its restarts as it comes up. -/
def Hw.mainsShown (h : Hw) (vrms freq : Nat) : Hw :=
  let h := h.showMains vrms freq
  let h := forN 3 (fun p h => h.setBit pSUPPLY SUPPLY.PH_STS_PH_OK p (!h.sluice.deadPhases.contains p)) h
  let h := forN 3 (fun p h => h.setBit pSUPPLY SUPPLY.PH_STS_PH_ISOL p (h.sluice.deadPhases.contains p)) h
  let h := (h.wr pPRESENCE PRESENCE.PR_STS_SEAL (b2n h.pins.sealClosed)).wr pPRESENCE PRESENCE.PR_STS_OPEN (b2n h.pins.sealClosed)
  let h := h.wr pPRESENCE PRESENCE.PR_STS_SEAL_AT_MAINS (b2n h.pins.sealAtMains)
  h.wr pTHERMALB THERMAL.SD_STS_RESTARTS h.mram.restarts.length

theorem SameCore.mainsShown {h g : Hw} (e : SameCore h g) (vrms freq : Nat) : SameCore h (g.mainsShown vrms freq) := by
  unfold Hw.mainsShown Hw.showMains
  refine .wr (.wr (.wr (.wr (.loop (.loop ((e.wr _ _ _).wr _ _ _) _ _ ?_) _ _ ?_) _ _ _) _ _ _) _ _ _) _ _ _
  · exact fun _ _ e => e.setBit _ _ _ _
  · exact fun _ _ e => e.setBit _ _ _ _

/-- Holding the outputs off, or not, leaves what the SEAL loop was at mains-on. -/
theorem sealAtMains_holdAll (p : Pins) (v : Bool) : (p.holdAll v).sealAtMains = p.sealAtMains := by
  cases v <;> rfl

theorem SameCore.mainsOn {h : Hw} {vrms freq : BitVec 16} (inRange : mainsInRange vrms.toNat freq.toNat = true) :
    SameCore (h.mainsBack.carry h (keptForever ++ keptMembers)).powered (mainsOn vrms freq h) := by
  unfold Sys2Proof.Machine.mainsOn
  rw [inRange, Bool.not_true, if_neg Bool.false_ne_true]
  have shown := (SameCore.powerUp (h.mainsBack.carry h (keptForever ++ keptMembers)) 0).mainsShown vrms.toNat freq.toNat
  exact SameCore.ite (((shown.wr pTHERMALB THERMAL.SD_STS_STATE 2).modSq _).wr pSLUICE SLUICE.SQ_STS_STATE 0) shown

/-- The state as the rails come up: the Millpond is empty, VAON is up, and the clock, the flash and the SEAL loop at mains-on are the old. -/
theorem powered_core (h : Hw) : h.powered.clk = { h.clk with slew := 0 } ∧ h.powered.mem = [] ∧ h.powered.boot.vaon = true
    ∧ h.powered.boot.slotA = h.boot.slotA ∧ h.powered.boot.slotB = h.boot.slotB ∧ h.powered.pins.sealAtMains = h.pins.sealAtMains := by
  obtain ⟨r, b, ss, bs, ds, ms, x, e⟩ := Wiped.wiped h
  unfold Hw.powered
  rw [e]
  exact ⟨rfl, rfl, rfl, rfl, rfl, rfl⟩

/-! ### The boot ROM -/

@[simp] theorem showImages_boot (h : Hw) : h.showImages.boot = h.boot := by
  unfold Hw.showImages
  simp only [wr_boot]

@[simp] theorem showImages_mem (h : Hw) : h.showImages.mem = h.mem := by
  unfold Hw.showImages
  simp only [wr_mem]

/-- Showing the images leaves the other registers of IDENT. -/
theorem rd_showImages (h : Hw) {f : Field} (other : f.off ≠ 0x090) (hf : f.hi < 32) : h.showImages.rd pIDENT f = h.rd pIDENT f := by
  unfold Hw.showImages
  rw [rd_wr_other _ _ _ (.inl other) (by decide) (by decide) hf, rd_wr_other _ _ _ (.inl other) (by decide) (by decide) hf,
    rd_wr_other _ _ _ (.inl other) (by decide) (by decide) hf, rd_wr_other _ _ _ (.inl other) (by decide) (by decide) hf]

/-- The state of the boot ROM once it has verified the slots: the images are shown and the clocks are locked. -/
def Hw.romBegun (h : Hw) : Hw :=
  let h := { h with boot := { h.boot with inReset := false } }.showImages
  let h := (h.wr pCLOCK CLOCK.CLK_STS_SYSPLL_LOCK 1).wr pCLOCK CLOCK.CLK_STS_COREPLL_LOCK 1
  (h.wr pCLOCK CLOCK.CLK_STS_SERDESPLL_LOCK 7).wr pCLOCK CLOCK.CLK_STS_MON_OK 1

theorem romBegun_boot (h : Hw) : h.romBegun.boot = { h.boot with inReset := false } := by
  unfold Hw.romBegun
  simp only [wr_boot, showImages_boot]

theorem romBegun_mem (h : Hw) : h.romBegun.mem = h.mem := by
  unfold Hw.romBegun
  simp only [wr_mem, showImages_mem]

/-- The image of slot k, of the slots a and b, starts with its boot counted as failed. -/
def Hw.imageStarts (h : Hw) (a b : ImageSlot) (k : Nat) : Hw :=
  let img := if k = 0 then a else b
  let up : ImageSlot := { img with fails := img.fails + 1 }
  let h := { h with boot := { h.boot with slot := some k, slotA := if k = 0 then up else a, slotB := if k = 0 then b else up } }
  let h := (h.wr pIDENT IDENT.MOD_STS_SLOT k).wr pIDENT IDENT.FW_VER img.fwVer
  (h.wr pIDENT IDENT.MOD_STS_STATE 1).showImages

theorem bootImageSelect_starts {h : Hw} {k : Nat} (runs : h.romRuns = true)
    (pick : pickSlot h.boot.slotA.valid h.boot.slotB.valid h.boot.slotA h.boot.slotB = some k) :
    ∃ v, bootImageSelect h = (h.romBegun.wr pIDENT IDENT.IMAGE_STS_FALLBACK v).imageStarts h.boot.slotA h.boot.slotB k := by
  have boot := romBegun_boot h
  unfold Hw.romBegun at boot ⊢
  unfold bootImageSelect
  rw [if_neg (by simp [runs])]
  simp only [boot, pick]
  exact ⟨_, rfl⟩

theorem bootImageSelect_fails {h : Hw} (runs : h.romRuns = true)
    (pick : pickSlot h.boot.slotA.valid h.boot.slotB.valid h.boot.slotA h.boot.slotB = none) :
    ∃ v, bootImageSelect h = (h.romBegun.wr pIDENT IDENT.IMAGE_STS_FALLBACK v).bootFail := by
  have boot := romBegun_boot h
  unfold Hw.romBegun at boot ⊢
  unfold bootImageSelect
  rw [if_neg (by simp [runs])]
  simp only [boot, pick]
  exact ⟨_, rfl⟩

theorem imageStarts_boot (h : Hw) (a b : ImageSlot) (k : Nat) : (h.imageStarts a b k).boot.slot = some k
    ∧ (h.imageStarts a b k).boot.inReset = h.boot.inReset ∧ (h.imageStarts a b k).boot.slotA.fails = a.fails + (if k = 0 then 1 else 0)
    ∧ (h.imageStarts a b k).boot.slotB.fails = b.fails + (if k = 0 then 0 else 1) := by
  unfold Hw.imageStarts
  simp only [showImages_boot, wr_boot, true_and]
  split <;> exact ⟨rfl, rfl⟩

theorem imageStarts_shows (h : Hw) (a b : ImageSlot) {k : Nat} (slot : k < 2) :
    (h.imageStarts a b k).rd pIDENT IDENT.MOD_STS_STATE = 1 ∧ (h.imageStarts a b k).rd pIDENT IDENT.MOD_STS_SLOT = k := by
  unfold Hw.imageStarts
  rw [rd_showImages _ (by decide) (by decide), rd_showImages _ (by decide) (by decide), rd_wr_same _ _ _ _]
  refine ⟨rfl, ?_⟩
  rw [rd_wr_other _ _ _ (.inr (by decide)) (by decide) (by decide) (by decide),
    rd_wr_other _ _ _ (.inl (by decide)) (by decide) (by decide) (by decide), rd_wr_same _ _ _ _]
  exact Nat.mod_eq_of_lt slot

/-- The ROM picks slot A or slot B. -/
theorem pickSlot_lt {okA okB : Bool} {a b : ImageSlot} {k : Nat} (pick : pickSlot okA okB a b = some k) : k < 2 := by
  unfold pickSlot at pick
  split_ifs at pick <;> cases pick <;> omega

/-- A write in another page than IDENT leaves the state of the module. -/
theorem modState_wri {h : Hw} {p : Nat} {f : Field} {i v : Nat} (page : 0x1000 ≤ p) (hf : f.hi < 32 := by decide)
    (hl : f.lo ≤ f.hi := by decide) : (h.wri p f i v).modState = h.modState :=
  rdi_wri_other _ _ _ _ _ _ _ _ hf hl (by decide) (.inl (by unfold addrOf IDENT.MOD_STS_STATE pIDENT; dsimp only; omega))

/-- In BOOT_FAIL the Millpond's commons are zeroed. -/
theorem bootFail_core (h : Hw) : h.bootFail.modState = 3 ∧ h.bootFail.mem = h.mem.filter fun c => decide (commonsEnd ≤ c.1) := by
  unfold Hw.bootFail
  refine forN_keeps (fun g : Hw => g.modState = 3 ∧ g.mem = h.mem.filter fun c => decide (commonsEnd ≤ c.1)) 2 _ _ ⟨?_, ?_⟩ ?_
  · exact (modState_wri (by decide)).trans ((modState_wri (by decide)).trans ((modState_wri (by decide)).trans (rd_wr_same _ _ _ _)))
  · simp only [wri_mem, wr_mem]
    rfl
  · rintro m g ⟨state, mem⟩
    exact ⟨(modState_wri (by decide)).trans ((modState_wri (by decide)).trans ((modState_wri (by decide)).trans ((modState_wri
      (by decide)).trans state))), by simp only [wri_mem, mem]⟩

/-! ### The commands -/

/-- Settles O26: each command's effect where its condition holds. What a self-test that passes repairs and what a boot shows are the model's
choices (log entries 91 and 25). -/
theorem startUpCommandsComplete : Obligations.StartUpCommandsComplete := by
  refine ⟨fun s vrms freq inRange => ?mains, fun s k runs pick => ?boots, fun s runs pick => ?fails, fun s boot out => ?passes,
    fun s f fs boot out => ?covered, fun s u boot out => ?failed, fun s boot out tested mbus => ?ready, fun s lowNs vaon long => ?reset,
    fun s low => ?release⟩
  case mains =>
    refine ⟨_, rfl, ?_⟩
    obtain ⟨clk, mem, boot, pins⟩ := SameCore.mainsOn (h := s.hw) inRange
    obtain ⟨r, e⟩ := carry_shape s.hw.mainsBack s.hw (keptForever ++ keptMembers)
    obtain ⟨clk', mem', vaon, a, b, atMains⟩ := powered_core (s.hw.mainsBack.carry s.hw (keptForever ++ keptMembers))
    rw [clk, mem, boot, pins, clk', mem', vaon, a, b, atMains, e]
    exact ⟨rfl, rfl, rfl, sealAtMains_holdAll _ _, rfl, rfl⟩
  case boots =>
    obtain ⟨v, e⟩ := bootImageSelect_starts runs pick
    obtain ⟨slot, inReset, a, b⟩ := imageStarts_boot (s.hw.romBegun.wr pIDENT IDENT.IMAGE_STS_FALLBACK v) s.hw.boot.slotA s.hw.boot.slotB k
    refine ⟨_, congrArg (finish s) e, slot, inReset.trans ?_, a, b, imageStarts_shows _ _ _ (pickSlot_lt pick)⟩
    rw [wr_boot, romBegun_boot]
  case fails =>
    obtain ⟨v, e⟩ := bootImageSelect_fails runs pick
    obtain ⟨state, mem⟩ := bootFail_core (s.hw.romBegun.wr pIDENT IDENT.IMAGE_STS_FALLBACK v)
    exact ⟨_, congrArg (finish s) e, state, by rw [mem, wr_mem, romBegun_mem]⟩
  case passes => exact finish_if_neg (by simp [boot, out]) _ _ _
  case covered => exact finish_if_neg (by simp [boot, out]) _ _ _
  case failed => exact finish_if_neg (by simp [boot, out]) _ _ _
  case ready =>
    refine congrArg (finish s) ?_
    unfold Sys2Proof.Machine.ready
    rw [if_neg (by simp [boot, out, tested])]
    exact if_neg (Nat.not_lt.mpr mbus)
  case reset => exact congrArg (finish s) (moduleResetN_long vaon long)
  case release => exact finish_if_pos low _ _ _

end Sys2Proof.Machine
end

section
/-! Context resets, the PCIe link, DMA transfers and leases (R396, R397, R399, R401, R404–R406, R411, R468, R469): what each command
answers. -/

namespace Sys2Proof.Machine

/-! ### Contexts and the link -/

/-- A link of at least 32 GT/s and 16 lanes comes up without being reported as slow. -/
theorem pcieLinkUp_fast {h : Hw} {speed : BitVec 4} {width : BitVec 5} (flit : Bool) (vaon : h.boot.vaon = true) (fast : 6 ≤ speed.toNat)
    (wide : 16 ≤ width.toNat) : pcieLinkUp speed width flit h = ((((h.wr pHOST HOST.LINK_STS_SPEED speed.toNat).wr pHOST
      HOST.LINK_STS_WIDTH width.toNat).wr pHOST HOST.LINK_STS_FLIT (b2n flit)).wr pHOST HOST.LINK_STS_UP 1).persist pHOST 1 false := by
  have slow : decide (speed.toNat < 6 ∨ width.toNat < 16) = false := decide_eq_false (by omega)
  unfold pcieLinkUp
  rw [if_neg (by simp [vaon]), slow]
  exact if_neg Bool.false_ne_true

/-- The functions' configuration with VF Enable clear shows no new vector count. -/
theorem vfEnable_off (busMaster on : BitVec 16) (masks : List MaskWrite) (h : Hw) : vfEnable false busMaster on masks h =
    (forN 16 (fun c g => ((g.wri pHOST HOST.CTX_STS_ENABLED c (b2n (decide (c = 0)))).wri pHOST HOST.CTX_STS_BUS_MASTER c
      (b2n (busMaster.getLsbD c))).setBit pHOST HOST.CTX_SUM_ENABLED c (decide (c = 0))) h).msixConfig on masks := by
  unfold vfEnable
  simp only [Bool.or_false, Bool.false_and, Bool.false_eq_true, if_false]

/-- Settles O28: each command's effect where its condition holds. That ENABLED and BUS_MASTER stay when the link goes down, the MSI-X state of
a function and which errors count are the model's choices (log entries 27, 158 and 159). -/
theorem hostContextsComplete : Obligations.HostContextsComplete := by
  refine ⟨fun s u => rfl, fun s => rfl, fun s c => rfl, fun s => rfl, fun s speed width flit vaon fast wide => ?up,
    fun s busMaster on masks => ?functions, fun s c off w1 write => rfl, fun s c off w1 write => rfl⟩
  case up => exact congrArg (finish s) (pcieLinkUp_fast flit vaon fast wide)
  case functions => exact congrArg (finish s) (vfEnable_off busMaster on masks s.hw)

/-! ### DMA transfers and leases -/

/-- A transfer that ends without a unit that cannot be had moves what its MPA source gives. -/
theorem dmaDone_moves {h : Hw} {k : Fin 64} {t : Transfer} (busy : h.dmaOf k = some t) (front : t.back = false) (mpa : t.srcMpa = true) :
    dmaDone k none h =
      (let u := Hw.dmaMove k (fun o g => if !g.stacksGive (t.src + o) 64 then .error 8 else .ok (g.bytes (t.src + o) 64)) (t.count / 64) t h
      match u.dmaOf k with
      | some x => u.dmaFinish k x 0
      | none => u) := by
  unfold dmaDone
  rw [busy]
  dsimp only
  rw [if_neg (ne_true_of_eq_false front), if_pos mpa]
  simp only [Option.map_none, reduceCtorEq, false_or] <;> rfl

/-- Settles O54: each command's effect where its condition holds. How a poisoned completion and a time-out count and that BARRIER reads back
are the model's choices (log entries 159 and 160). -/
theorem dmaCommandsComplete : Obligations.DmaCommandsComplete := by
  refine ⟨fun s m k w t idle => ?go, fun s k t busy back => ?backError, fun s k t busy back => ?backPoison, fun s k bs t busy back => ?backData,
    fun s k t busy front host => ?poison, fun s k t busy front host => ?error, fun s k bs t busy front host => ?data,
    fun s k badUnit t busy front host all => ?done, fun s k t busy front mpa => ?doneMpa, fun s m k t takes busy => ?abort,
    fun s k t busy back => ?backLate, fun s k t busy front host short => ?late, fun s => rfl, fun s m => rfl⟩
  case go =>
    refine congrArg (finish s) ?_
    unfold dmaGo
    rw [dmaWrite_takes t, idle]
  case backError | backPoison | backData =>
    refine congrArg (finish s) ?_
    unfold dmaHostCompletion
    rw [busy]
    exact if_pos back
  case poison | error | data =>
    refine congrArg (finish s) ?_
    unfold dmaHostCompletion
    rw [busy]
    exact (if_neg (ne_true_of_eq_false front)).trans (if_neg (ne_true_of_eq_false host))
  case done =>
    refine congrArg (finish s) ?_
    unfold dmaDone
    rw [busy]
    exact (if_neg (ne_true_of_eq_false front)).trans ((if_neg (ne_true_of_eq_false host)).trans (if_pos all))
  case doneMpa => exact congrArg (finish s) (dmaDone_moves busy front mpa)
  case abort =>
    refine congrArg (finish s) ?_
    unfold dmaAbort
    rw [dmaWrite_takes takes, busy]
    rfl
  case backLate =>
    refine congrArg (finish s) ?_
    unfold dmaHostTimeout
    rw [busy]
    exact if_pos back
  case late =>
    refine congrArg (finish s) ?_
    unfold dmaHostTimeout
    rw [busy]
    exact (if_neg (ne_true_of_eq_false front)).trans (if_neg (by simp [host, short]))

end Sys2Proof.Machine
end

section
/-! The engine kernel: its mailbox services, its own events and the words of its mailboxes (R415, R417, R422, R424, R426, R428–R430, R433):
what each command answers. -/

namespace Sys2Proof.Machine

/-! ### Services -/

theorem serveCall_go {h : Hw} {n : Nat} {c : Call} (run : Call → Hw → Hw) (go : h.judge n c = .go) :
    h.serveCall n c run = run c (h.mbTake kernelMaster n) := by
  unfold Hw.serveCall
  dsimp only
  rw [go]

theorem serveCall_refused {h : Hw} {n x : Nat} {c : Call} (run : Call → Hw → Hw) (refused : h.judge n c = .refuse x) :
    h.serveCall n c run = (h.mbTake kernelMaster n).answer n c x 0 false := by
  unfold Hw.serveCall
  dsimp only
  rw [refused]

/-- A command that waits, and that every check lets pass, is taken and runs. -/
theorem serve_go {h : Hw} {n op : Nat} {c : Call} (run : Call → Hw → Hw) (waits : h.awaits n = true) (call : h.callOf n = some c)
    (served : c.op = op) (go : h.judge n c = .go) : h.serve n op run = run c (h.mbTake kernelMaster n) := by
  unfold Hw.serve
  rw [waits, call]
  exact (if_pos served).trans (serveCall_go run go)

theorem gatedCall_opened {h : Hw} (opened : h.windowOpen = true) (n : Nat) (c : Call) (kind : Nat) (run : Hw → Hw) :
    h.gatedCall n c kind run = run (h.gated (h.mb n MAILBOX.MB_BIND_SENDER) kind 0 true) := by
  unfold Hw.gatedCall
  rw [opened]
  exact if_pos rfl

/-- RUN_TEST of a known test runs it in a long enough gap, and defers it otherwise. -/
theorem runTest_known {h : Hw} {n : Fin 32} {c : Call} (gapFits : Bool) (waits : h.awaits n = true) (call : h.callOf n = some c)
    (served : c.op = 0x20) (go : h.judge n c = .go) (nonzero : c.arg % 256 ≠ 0) (known : c.arg % 256 ≤ 6) : runTest n gapFits h =
      (let u := h.mbTake kernelMaster n
      if gapFits && u.inGap (c.arg % 256) (c.arg / 256) then ((u.accept n c c.arg false).runsTest (c.arg % 256) (c.arg / 256)).finishJob
        ⟨c.op, n, c.tag, c.block, c.arg, false, false⟩ 0 0 else u.accept n c c.arg true) :=
  (serve_go _ waits call served go).trans (if_neg (by omega))

/-- Settles O55: each command's effect where its condition holds. When a test that runs at once ends, the order of the checks and the corners
of the services are the model's choices (log entries 13, 72 and 74). -/
theorem mailboxServicesComplete : Obligations.MailboxServicesComplete := by
  refine ⟨fun s n c waits call op go => ?hello, fun s n c waits call op go => ?ping, fun s n c waits call op go => ?status,
    fun s n c waits call op go => ?pressUp, fun s ok stations detail j job => ?pressUpDone, fun s n c waits call op go => ?pressStop,
    fun s j job idle => ?pressStopDone, fun s n c waits call op go => ?reset, fun s job => ?resetDelay,
    fun s n gapFits c waits call op go nonzero known => ?test, fun s n c b waits call op go opened block => ?fwLoad,
    fun s readBackOk k img j loading job => ?fwLoadDone, fun s n c b waits call op go opened block => ?bindStore,
    fun s n c waits call op go => ?mark, fun s n c waits call op go => ?deferList, fun s n c x waits call refused => ?refused,
    fun s n waits call => ?badPointer⟩
  case hello | ping | status | pressUp | pressStop | reset | mark | deferList => exact congrArg (finish s) (serve_go _ waits call op go)
  case pressUpDone =>
    refine congrArg (finish s) ?_
    unfold pressUpDone
    rw [job]
  case pressStopDone =>
    refine congrArg (finish s) ?_
    unfold pressStopDone
    rw [job]
    exact if_pos idle
  case resetDelay => exact finish_if_pos job _ _ _
  case test => exact congrArg (finish s) (runTest_known gapFits waits call op go nonzero known)
  case fwLoad =>
    refine congrArg (finish s) ?_
    unfold fwLoad
    rw [serve_go _ waits call op go, gatedCall_opened opened, block]
  case fwLoadDone =>
    refine congrArg (finish s) ?_
    unfold fwLoadDone
    rw [loading, job]
  case bindStore =>
    refine congrArg (finish s) ?_
    unfold bindStore
    rw [serve_go _ waits call op go, gatedCall_opened opened, block]
  case refused =>
    refine congrArg (finish s) ?_
    unfold badOpcodeCommand
    rw [waits, call]
    exact (if_neg (by simp)).trans ((if_neg (by simp [refused])).trans (serveCall_refused _ refused))
  case badPointer =>
    refine congrArg (finish s) ?_
    unfold badOpcodeCommand
    rw [waits, call]
    rfl

/-! ### The kernel's own events -/

/-- A working pair that disagrees while the standby pair is good hands its tasks over. -/
theorem retirePair_migrates {h : Hw} {p : Fin 4} {us10 : Nat} (works : h.bit pKERNEL KERNEL.KN_STS_WORKING p = true)
    (spare : h.is pKERNEL KERNEL.KN_STS_STANDBY_OK = true) : h.retirePair p us10 =
      (let u := ((((h.setBit pKERNEL KERNEL.KN_STS_WORKING p false).setBit pKERNEL KERNEL.KN_STS_FAILED p true).degrade .pairs).wr pKERNEL
        KERNEL.KN_STS_STANDBY_OK 0)
      (((u.setBit pKERNEL KERNEL.KN_STS_WORKING (h.rd pKERNEL KERNEL.KN_STS_STANDBY) true).inc pKERNEL KERNEL.MIGRATIONS).wr pKERNEL
        KERNEL.LAST_MIGRATE us10).raise pKERNEL 0 (pairCap p false)) := by
  unfold Hw.retirePair
  simp only [works, spare, Bool.not_true, Bool.and_true, Bool.and_false, Bool.false_eq_true, false_and, if_false, if_true]

/-- A working pair that disagrees with no standby left is taken out, and that is reported too. -/
theorem retirePair_alone {h : Hw} {p : Fin 4} {us10 : Nat} (works : h.bit pKERNEL KERNEL.KN_STS_WORKING p = true)
    (spare : h.is pKERNEL KERNEL.KN_STS_STANDBY_OK = false) : h.retirePair p us10 =
      (let u := ((((h.setBit pKERNEL KERNEL.KN_STS_WORKING p false).setBit pKERNEL KERNEL.KN_STS_FAILED p true).degrade .pairs).wr pKERNEL
        KERNEL.KN_STS_STANDBY_OK 0)
      (u.raise pKERNEL 0 (pairCap p false)).raise pKERNEL 1 (pairCap p false)) := by
  unfold Hw.retirePair
  simp only [works, spare, Bool.not_true, Bool.not_false, Bool.and_true, Bool.and_false, Bool.false_eq_true, false_and, if_false, if_true]

/-- Settles O56: each command's effect where its condition holds. The pair that the kernel's own reports name is the model's choice (log
entry 162). -/
theorem kernelCommandsComplete : Obligations.KernelCommandsComplete := by
  refine ⟨fun s p us10 runs works spare => ?migrates, fun s p us10 runs works spare => ?alone, fun s p us10 runs => ?checkpoint,
    fun s runs => ?expires, fun s p runs => ?warns, fun s m n w served acts answers may en sender empty => ?stores,
    fun s m n served acts answers en receiver full => ?reads, fun s n full en => ?lapses⟩
  case migrates => exact congrArg (finish s) ((if_pos runs).trans (retirePair_migrates works spare))
  case alone => exact congrArg (finish s) ((if_pos runs).trans (retirePair_alone works spare))
  case checkpoint => exact finish_if_neg (by simp [runs]) _ _ _
  case expires => exact finish_if_pos runs _ _ _
  case warns => exact finish_if_pos runs _ _ _
  case stores =>
    refine congrArg (finish s) ?_
    unfold mbWrite
    rw [if_neg (by simp [served, acts, answers]), if_pos may]
    exact congrArg (Hw.fabricUse · _) ((if_neg (by simp [en, sender])).trans (if_neg (by simp [empty])))
  case reads =>
    refine congrArg (finish s) ?_
    unfold mbRead
    rw [if_neg (by simp [served, acts, answers])]
    exact congrArg (Hw.fabricUse · _) ((if_neg (by simp [receiver])).trans (if_neg (by simp [en, full])))
  case lapses => exact finish_if_neg (by simp [full, en]) _ _ _

end Sys2Proof.Machine
end

section
/-! Several modules as one press: membership, heartbeats, memory frames, time, and the pages of joint slots (R439, R441–R449): what each
command answers. -/

namespace Sys2Proof.Machine

/-! ### Membership and heartbeats -/

/-- HELLO from below the neighbour only goes on: the Headstock judges its module, a Tailstock passes it up. -/
theorem peerHello_far {h : Hw} {m : Fin 16} (verMin verMax : BitVec 8) (digest : BitVec 64) (chain : h.chainOn = true)
    (up : h.linkUp (.peer 1) = true) (far : m.val ≠ h.neighbour 1) : peerHello 1 verMin verMax m digest h =
      (let v := if verMin.toNat ≤ 1 ∧ 1 ≤ verMax.toNat then 1 else 0
      if h.isHeadstock then h.judgeMember m (decide (v = 1)) digest.toNat
      else h.passUp (fromModule m 0x70 (helloParam verMin.toNat verMax.toNat m 1) (toLE 8 digest.toNat))) := by
  have far' : decide (m.val = h.neighbour 1) = false := decide_eq_false far
  unfold peerHello
  rw [if_neg (by simp [chain, up])]
  simp only [show ((1 : Fin 2) : Nat) = 1 from rfl, far', Bool.false_eq_true, if_false, show ¬(1 : Fin 2) = 0 by decide]

/-- HELLO of the neighbour below is answered with ACCEPT before it goes on. -/
theorem peerHello_below {h : Hw} {m : Fin 16} (verMin verMax : BitVec 8) (digest : BitVec 64) (chain : h.chainOn = true)
    (up : h.linkUp (.peer 1) = true) (near : m.val = h.neighbour 1) : peerHello 1 verMin verMax m digest h =
      (let u := (h.wr (pPEER 1) PEER.PR_STS_FAR_MODULE m).wr (pPEER 1) PEER.PR_VER_AGREED 0
      let v := if verMin.toNat ≤ 1 ∧ 1 ≤ verMax.toNat then 1 else 0
      let w := (u.relSend (.peer 1) (u.ctrlFrame 0x71 (v + 256 * (1 - v)) [])).peerAgree 1 m v
      if w.isHeadstock then w.judgeMember m (decide (v = 1)) digest.toNat
      else w.passUp (fromModule m 0x70 (helloParam verMin.toNat verMax.toNat m 1) (toLE 8 digest.toNat))) := by
  have near' : decide (m.val = h.neighbour 1) = true := decide_eq_true near
  unfold peerHello
  rw [if_neg (by simp [chain, up])]
  simp only [show ((1 : Fin 2) : Nat) = 1 from rfl, near', if_true, show ¬(1 : Fin 2) = 0 by decide, if_false]

/-- HELLO from up the chain starts the exchange again where it is the neighbour's. -/
theorem peerHello_above {h : Hw} (verMin verMax : BitVec 8) (m : Fin 16) (digest : BitVec 64) (chain : h.chainOn = true)
    (up : h.linkUp (.peer 0) = true) : peerHello 0 verMin verMax m digest h =
      if m.val = h.neighbour 0 then ((h.wr (pPEER 0) PEER.PR_STS_FAR_MODULE m).wr (pPEER 0) PEER.PR_VER_AGREED 0).setQuar 0 false else h := by
  unfold peerHello
  rw [if_neg (by simp [chain, up])]
  by_cases near : m.val = h.neighbour 0
  · simp only [show ((0 : Fin 2) : Nat) = 0 from rfl, near, decide_true, if_true]
  · simp only [show ((0 : Fin 2) : Nat) = 0 from rfl, near, decide_false, Bool.false_eq_true, if_false, if_true]

/-- The heartbeat of module m on a port is noted: the neighbour's ends the misses, and every one shows its module's grade. -/
def Hw.beatNoted (h : Hw) (p m grade : Nat) : Hw :=
  let u := if m = h.neighbour p then { h with chain := { h.chain with missed := tset (fun _ => 0) h.chain.missed p 0 } } else h
  { u with chain := { u.chain with grade := tset (fun _ => 0) u.chain.grade m grade, quiet := tset (fun _ => 0) u.chain.quiet m 0 } }

/-- What the chain has heard is no part of the module's place in it. -/
theorem isHeadstock_beatNoted (h : Hw) (p m grade : Nat) : (h.beatNoted p m grade).isHeadstock = h.isHeadstock := by
  unfold Hw.beatNoted
  split <;> rfl

section Heartbeats

variable {h : Hw} {p : Fin 2} {m : Fin 16} (grade : Fin 8) (exposing jammed : Bool) (digest : BitVec 64) (exchange : Option (BitVec 32))
  (members excluded refused : BitVec 16)

theorem heartbeat_headstock (hears : h.hears p = true) (head : h.isHeadstock = true) :
    heartbeat p m grade exposing jammed digest exchange members excluded refused h =
      (let v := (h.beatNoted p m grade).judgeDigest m digest.toNat
      (match exchange with
        | some o => v.judgeTime m o.toNat
        | none => v).later .gradeCheck) :=
  (if_neg (by simp [hears])).trans (if_pos ((isHeadstock_beatNoted h p m grade).trans head))

theorem heartbeat_up (hears : h.hears 1 = true) (tail : h.isHeadstock = false) :
    heartbeat 1 m grade exposing jammed digest exchange members excluded refused h =
      (h.beatNoted 1 m grade).passUp (fromModule m 0x72 (heartbeatParam m grade exposing jammed) (toLE 8 digest.toNat)) :=
  (if_neg (by simp [hears])).trans ((if_neg (ne_true_of_eq_false ((isHeadstock_beatNoted h 1 m grade).trans tail))).trans (if_pos rfl))

theorem heartbeat_down (hears : h.hears 0 = true) (tail : h.isHeadstock = false) (head : m.val = 0) :
    heartbeat 0 m grade exposing jammed digest exchange members excluded refused h =
      ((h.beatNoted 0 m grade).showMasks 0 members.toNat excluded.toNat refused.toNat).chainDown
        (fromModule m 0x72 (heartbeatParam m grade exposing jammed) (toLE 8 digest.toNat)) :=
  (if_neg (by simp [hears])).trans ((if_neg (ne_true_of_eq_false ((isHeadstock_beatNoted h 0 m grade).trans tail))).trans
    ((if_neg (by decide)).trans (if_pos head)))

end Heartbeats

/-- Settles O57: each command's effect where its condition holds. What HEARTBEAT carries beside its PARAM, the source of a MEM frame and how
HELLO and the loss of a far module reach the Headstock are the model's choices (log entries 43, 164 and 165). -/
theorem peerMembershipAndTimeComplete : Obligations.PeerMembershipAndTimeComplete := by
  refine ⟨fun s verMin verMax m digest chain up near => ?below, fun s verMin verMax m digest chain up far => ?far,
    fun s verMin verMax m digest chain up => ?above, fun s p m version hears faces low => ?accept,
    fun s p m grade exposing jammed digest exchange members excluded refused hears head => ?beatHead,
    fun s m grade exposing jammed digest exchange members excluded refused hears tail => ?beatUp,
    fun s m grade exposing jammed digest exchange members excluded refused hears tail head => ?beatDown, fun s chain => ?timer,
    fun s p m near missed => ?lost, fun s p m far chain head other quiet => ?lostFar, fun s p off bytes hears short inWin => ?memWrite,
    fun s p off len hears short inWin => ?memRead, fun s p param bytes hears => ?reply, fun s u hears => ?syncTimer,
    fun s p t1 t2 u hears faces => ?sync, fun s t4 hears => ?delayReq, fun s p t4 t1 t2 t3 hears faces sync => ?delayResp⟩
  case below => exact congrArg (finish s) (peerHello_below _ _ _ chain up near)
  case far => exact congrArg (finish s) (peerHello_far _ _ _ chain up far)
  case above => exact congrArg (finish s) (peerHello_above _ _ _ _ chain up)
  case accept => exact congrArg (finish s) ((if_neg (by simp [hears])).trans ((if_neg (by simp [faces])).trans (if_neg (by omega))))
  case beatHead => exact congrArg (finish s) (heartbeat_headstock grade exposing jammed digest exchange members excluded refused hears head)
  case beatUp => exact congrArg (finish s) (heartbeat_up grade exposing jammed digest exchange members excluded refused hears tail)
  case beatDown => exact congrArg (finish s) (heartbeat_down grade exposing jammed digest exchange members excluded refused hears tail head)
  case timer => exact finish_if_neg (by simp [chain]) _ _ _
  case lost => exact congrArg (finish s) ((if_pos near).trans (if_pos missed))
  case lostFar => exact congrArg (finish s) ((if_neg far).trans (if_pos (by simp [chain, head, other, quiet])))
  case memWrite => exact congrArg (finish s) ((if_neg (by simp [hears])).trans ((if_neg (by omega)).trans (if_neg (by simp [inWin]))))
  case memRead => exact congrArg (finish s) ((if_neg (by simp [hears])).trans (if_neg (by simp [inWin]; omega)))
  case reply => exact finish_if_neg (by simp [hears]) _ _ _
  case syncTimer => exact finish_if_pos hears _ _ _
  case sync => exact congrArg (finish s) ((if_neg (by simp [hears])).trans (if_neg (by simp [faces])))
  case delayReq => exact congrArg (finish s) ((if_neg (by simp [hears])).trans (if_neg (by decide)))
  case delayResp =>
    refine congrArg (finish s) ?_
    unfold delayResp
    rw [if_neg (by simp [hears]), if_neg (by simp [faces]), sync]

end Sys2Proof.Machine
end

section
/-! Several modules as one press: slots, pages, grades and jams (R446, R447, R449): what each command answers. -/

namespace Sys2Proof.Machine

/-- Settles O58: each command's effect where its condition holds. What a Tailstock compares in an offer, how spoils and releases travel along
the chain, and which reason and JOB_ID are kept are the model's choices (log entries 65, 76 and 168). -/
theorem peerPagesComplete : Obligations.PeerPagesComplete := by
  refine ⟨fun s due a slot chain head => ?offers, fun s p n grade pHead pOwn due g hears faces page => ?answers,
    fun s m n ok reason job hears head offered => ?ready, fun s m n ok reason job hears tail => ?passes,
    fun s p n go hears faces => ?go, fun s p m n hears => ?drop, fun s m n reason hears tail other => ?spoilDown,
    fun s m n reason hears tail own => ?spoilOwn, fun s m n reason hears tail => ?spoilUp,
    fun s p m n reason hears head new => ?spoilNew, fun s p m n reason hears head known => ?spoilKnown,
    fun s p n hears faces => ?release, fun s p g last hears faces => ?grade, fun s p m cause hears other => ?jam,
    fun s chain tail source => ?timeLost⟩
  case offers =>
    refine congrArg (finish s) ?_
    unfold slotOfferTimer
    rw [slot]
    exact if_neg (by simp [chain, head])
  case answers =>
    refine congrArg (finish s) ?_
    unfold slotOffer
    rw [if_neg (by simp [hears]), if_neg (by simp [faces])]
    dsimp only
    rw [page]
  case ready =>
    exact congrArg (finish s) ((if_neg (by simp [hears])).trans ((if_neg (by decide)).trans ((if_pos head).trans (if_pos offered))))
  case passes =>
    exact congrArg (finish s) ((if_neg (by simp [hears])).trans ((if_neg (by decide)).trans (if_neg (by simp [tail]))))
  case go => exact congrArg (finish s) ((if_neg (by simp [hears])).trans (if_neg (by simp [faces])))
  case drop => exact finish_if_neg (by simp [hears]) _ _ _
  case spoilDown =>
    exact congrArg (finish s) ((if_neg (by simp [hears])).trans ((if_pos (by simp [tail])).trans ((if_neg (by decide)).trans (if_neg other))))
  case spoilOwn =>
    exact congrArg (finish s) ((if_neg (by simp [hears])).trans ((if_pos (by simp [tail])).trans ((if_neg (by decide)).trans (if_pos own))))
  case spoilUp => exact congrArg (finish s) ((if_neg (by simp [hears])).trans ((if_pos (by simp [tail])).trans (if_pos rfl)))
  case spoilNew =>
    refine congrArg (finish s) ?_
    unfold peerPageSpoil
    rw [if_neg (by simp [hears]), if_neg (by simp [head])]
    simp only [new, Bool.false_eq_true, if_false]
  case spoilKnown =>
    refine congrArg (finish s) ?_
    unfold peerPageSpoil
    rw [if_neg (by simp [hears]), if_neg (by simp [head])]
    simp only [known, if_true]
  case release => exact congrArg (finish s) ((if_neg (by simp [hears])).trans (if_neg (by simp [faces])))
  case grade => exact congrArg (finish s) ((if_neg (by simp [hears])).trans (if_neg (by simp [faces])))
  case jam => exact finish_if_neg (by simp [hears, other]) _ _ _
  case timeLost => exact finish_if_pos (by simp [chain, tail, source]) _ _ _

end Sys2Proof.Machine
end

section
/-! The commands on every page's face (R452, R455, R458, R477, R480, R481): what each command answers. -/

namespace Sys2Proof.Machine

/-- A write of a page that stands, taken, is its effect and the account of the transaction. -/
theorem standing_writeTo {h : Hw} {m : Master} {p a : Nat} {f : Hw → Hw} (stands : (clsOf p).isNone = false) (t : h.takes m a = true) :
    (if (clsOf p).isNone then h else h.writeTo m a f) = (f h).fabricUse (pageBase a) :=
  (if_neg (ne_true_of_eq_false stands)).trans (writeTo_takes t f)

/-- Settles O59: each command's effect where its condition holds. -/
theorem faceCommandsComplete : Obligations.FaceCommandsComplete := by
  refine ⟨fun s m page t stands => ?rearm, fun s m page checker target c t cls => ?inject, fun s m page mask c t cls => ?mask,
    fun s m page v c t cls free moves => ?en, fun s m page v c t cls fixed => ?enFixed, fun s m page v t stands => ?freeze,
    fun s m page t stands => ?reset, fun s page inReset => ?resetEnd, fun s m page t out other => ?commit,
    fun s m page t out gov good => ?commitGov, fun s page u boundary => ?apply, fun s m page t stands => ?lock⟩
  case rearm | freeze | reset | lock => exact congrArg (finish s) (standing_writeTo stands t)
  case inject =>
    refine congrArg (finish s) ?_
    unfold fltInjArm
    simp only [cls]
    exact writeTo_takes t _
  case mask =>
    refine congrArg (finish s) ?_
    unfold evtMaskWrite
    simp only [cls]
    exact writeTo_takes t _
  case en =>
    refine congrArg (finish s) ?_
    unfold pageEnWrite
    simp only [cls]
    exact (writeTo_takes t _).trans (congrArg (Hw.fabricUse · _) (if_neg (by simp [free, moves])))
  case enFixed =>
    refine congrArg (finish s) ?_
    unfold pageEnWrite
    simp only [cls]
    exact (writeTo_takes t _).trans (congrArg (Hw.fabricUse · _) (if_pos (by simp [fixed])))
  case resetEnd => exact finish_if_neg (by simp [inReset]) _ _ _
  case commit =>
    refine congrArg (finish s) ?_
    unfold Sys2Proof.Machine.commit
    exact (writeTo_takes t _).trans (congrArg (Hw.fabricUse · _) ((if_neg (ne_true_of_eq_false out)).trans (if_neg other)))
  case commitGov =>
    refine congrArg (finish s) ?_
    unfold Sys2Proof.Machine.commit
    refine (writeTo_takes t _).trans (congrArg (Hw.fabricUse · _) ((if_neg (ne_true_of_eq_false out)).trans ((if_pos gov).trans ?_)))
    rw [good]
  case apply => exact finish_if_pos boundary _ _ _

end Sys2Proof.Machine
end
